-- ==== Sys2Proof/Word.lean ====
section
/-! DEFINITION. The word types of the ZHV9102 model: bytes, 32-bit register words, and the sparse
table every large array of the device is held in (a list of index and value pairs with strictly
rising indices; an index that is not listed holds the array's empty value). -/

namespace Sys2Proof

/-- One byte, as frames, Smiem packets and memories hold it. -/
abbrev Byte := BitVec 8

/-- One BAR0 register word (R7). -/
abbrev Word := BitVec 32

/-- A byte string, first byte first. -/
abbrev Bytes := List Byte

/-- A sparse array: index and value, strictly rising by index. -/
abbrev Tab (α : Type) := List (Nat × α)

end Sys2Proof
end

