-- ==== Sys2Proof/Syntax.lean ====
section
/-! DEFINITION. The commands of the block and their operands. A command's operands are what the device
cannot know by itself: words written, packets and frames received, readings of sensors and buses,
and faults that strike. -/

namespace Sys2Proof

/-- How a read of host memory ends (R429). -/
inductive ReadEnd where
  | whole | poisoned | timedOut
deriving DecidableEq, Repr

/-- What a read of host memory returns (R429): the bytes that came, and how the read ended. -/
structure HostRead where
  bytes : Bytes
  ended : ReadEnd
deriving DecidableEq, Repr

/-- A Smiem packet (R423) as its command carries it: the ring, the header fields, the parameter bytes,
and what the device reads from host memory when the command names a source there (R430). -/
structure Req where
  ring      : Fin 16
  tag       : Nat
  genCheck  : Bool
  fence     : Bool
  quiet     : Bool
  expectGen : Word
  params    : Bytes
  src       : HostRead
deriving DecidableEq, Repr

/-- Who reads or writes a BAR0 register (R489). -/
inductive Requester where
  | host | engine | core0 | core1 | smbus
deriving DecidableEq, Repr

/-- The two wicks of a lantern (R332). -/
inductive Wick where
  | a | b
deriving DecidableEq, Repr

/-- What a Chandler calibration waits for (R545): the VOUT_MODE read, the AVSBus voltage read in mV and the
READ_VOUT of slot 0 (none where a read is not answered), or the end of the 16 periods observed. -/
inductive CalEvent where
  | readings (voutMode : Nat) (avs vout : Option Nat)
  | observed
deriving DecidableEq, Repr

/-- A front port's request for a cell (R235): the frame, the port, and the frame's first bytes, which a new
frame's arrival priority is read from (R236). -/
structure CellReq where
  frame : Nat
  port  : Nat
  head  : Bytes
deriving DecidableEq, Repr

/-- How a row of memory reads (R224, R225): clean, with a single-bit error at a cell, or uncorrectable with
the location resolved to a cell. -/
inductive ReadErr where
  | clean
  | corrected (cell : Nat)
  | uncorrectable (cell : Nat)
deriving DecidableEq, Repr

/-- The instructions of the boundary-scan port (R564). -/
inductive JtagOp where
  | bypass | idcode | sample | preload | extest | highz | other
deriving DecidableEq, Repr


/-- The commands of the block: one constructor per row of the opcode table, in the order of the table. -/
inductive Instr where
  /-- ECHO, R433. -/
  | echo (q : Req)
  /-- IDENTIFY, R434. -/
  | identify (q : Req)
  /-- REG_READ, R433. -/
  | regRead (q : Req)
  /-- REG_WRITE, R433. -/
  | regWrite (q : Req)
  /-- REG_WRITE_KEYED, R433. -/
  | regWriteKeyed (q : Req)
  /-- COMMIT, R481. -/
  | commit (q : Req)
  /-- FINGERPRINT_GET, R433. -/
  | fingerprintGet (q : Req)
  /-- FINGERPRINT_REFERENCE, R498. -/
  | fingerprintReference (q : Req)
  /-- TABLE_INSERT, R220. -/
  | tableInsert (q : Req)
  /-- TABLE_DELETE, R220. -/
  | tableDelete (q : Req)
  /-- TABLE_LOOKUP, R220. -/
  | tableLookup (q : Req)
  /-- TABLE_LOCK, R207. -/
  | tableLock (q : Req)
  /-- TABLE_DMA_READ, R221. -/
  | tableDmaRead (q : Req)
  /-- TABLE_DMA_WRITE, R221. -/
  | tableDmaWrite (q : Req)
  /-- SHADOW_BIND, R436. -/
  | shadowBind (q : Req)
  /-- CSTORE_LOAD, R437. -/
  | cstoreLoad (q : Req)
  /-- DISPATCH_LOAD, R175. -/
  | dispatchLoad (q : Req)
  /-- RULESET_SWAP, R177. -/
  | rulesetSwap (q : Req)
  /-- COUNTER_READ, R438: the counters whose live word reads uncorrectable. -/
  | counterRead (q : Req) (uncorrectable : List Nat)
  /-- COUNTER_SNAPSHOT, R490. -/
  | counterSnapshot (q : Req)
  /-- COUNTER_CLEAR, R438. -/
  | counterClear (q : Req)
  /-- PORT_CONFIG, R114. -/
  | portConfig (q : Req)
  /-- PORT_STATE, R439. -/
  | portState (q : Req)
  /-- LANE_DARK, R132. -/
  | laneDark (q : Req)
  /-- LANE_LIGHT, R135. -/
  | laneLight (q : Req)
  /-- SERDES_TUNE, R563. -/
  | serdesTune (q : Req)
  /-- GATE_LIST_LOAD, R291. -/
  | gateListLoad (q : Req)
  /-- SHAPER_SET, R286. -/
  | shaperSet (q : Req)
  /-- POLICER_SET, R276. -/
  | policerSet (q : Req)
  /-- TIME_SET, R306. -/
  | timeSet (q : Req)
  /-- TIME_ADJUST, R307. -/
  | timeAdjust (q : Req)
  /-- TSQ_READ, R319. -/
  | tsqRead (q : Req)
  /-- WICK_TRIM, R343. -/
  | wickTrim (q : Req)
  /-- WICK_RELIGHT, R345. -/
  | wickRelight (q : Req)
  /-- WICK_STATUS, R442. -/
  | wickStatus (q : Req)
  /-- ENERGY_BUDGET, R443. -/
  | energyBudget (q : Req)
  /-- ENERGY_REPORT, R104. -/
  | energyReport (q : Req)
  /-- HBM_SEGMENTS, R389. -/
  | hbmSegments (q : Req)
  /-- HBM_STATUS, R443. -/
  | hbmStatus (q : Req)
  /-- EVENT_READ, R518. -/
  | eventRead (q : Req)
  /-- EVENT_RATE, R519. -/
  | eventRate (q : Req)
  /-- BANK_ASSIGN, R508. -/
  | bankAssign (q : Req)
  /-- BANK_TEST, R513. -/
  | bankTest (q : Req)
  /-- FIRMWARE_UPDATE, R543. -/
  | firmwareUpdate (q : Req)
  /-- RESET_DOMAIN, R549. -/
  | resetDomain (q : Req)
  /-- FRAME_SEND, R444. -/
  | frameSend (q : Req)
  /-- FRAME_RECV, R444: the frames a cell of which fails its CRC as it is read (R230). -/
  | frameRecv (q : Req) (failing : List Nat)
  /-- SQ_TAIL, R421: doorbell write of submission ring. -/
  | sqTail (ring : Fin 16) (value : Word)
  /-- CQ_HEAD, R421: doorbell write of completion ring. -/
  | cqHead (ring : Fin 16) (value : Word)
  /-- PACKET_FETCH, R425: what the read of the ring slots returns. -/
  | packetFetch (ring : Fin 16) (data : HostRead)
  /-- COAL_TIME_EXPIRY, R422. -/
  | coalTimeExpiry (ring : Fin 16)
  /-- SUBMISSION_RING_EN, R446: the word written to SQ_CFG. -/
  | submissionRingEn (ring : Fin 16) (value : Word)
  /-- COMPLETION_RING_EN, R450: the word written to CQ_CFG. -/
  | completionRingEn (ring : Fin 16) (value : Word)
  /-- UNLOCK, R487. -/
  | unlock (value : Word)
  /-- COMMIT_STROBE, R481. -/
  | commitStrobe (value : Word)
  /-- STAGE_DISCARD, R482. -/
  | stageDiscard (value : Word)
  /-- DISARM, R485. -/
  | disarm (value : Word)
  /-- CONFIG_GEN_LOAD, R493. -/
  | configGenLoad (value : Word)
  /-- RST_DOMAIN, R549. -/
  | rstDomain (value : Word)
  /-- FORCE, R347: the word written to WICK_CTRL. -/
  | force (lantern : Fin 32) (value : Word)
  /-- PUSH_GO, R544: the word written to PUSH_LEN. -/
  | pushGo (value : Word)
  /-- CAL_START, R545. -/
  | calStart (value : Word)
  /-- ALLOC_GO, R380: the word written to the allocation register. -/
  | allocGo (value : Word)
  /-- ALLOCATION, R380. -/
  | allocation
  /-- PERF_CLEAR, R530. -/
  | perfClear (value : Word)
  /-- PERF_FREEZE, R530. -/
  | perfFreeze (value : Word)
  /-- HDR_FIFO_PEAK_CLR, R74. -/
  | hdrFifoPeakClr (lantern : Fin 32) (value : Word)
  /-- REORDER_PEAK_CLR, R179. -/
  | reorderPeakClr (lantern : Fin 32) (value : Word)
  /-- CAP_POP, R321. -/
  | capPop (fifo : Fin 5) (value : Word)
  /-- STREAM_GATE_REOPEN, R280: the word written to the status register of the gate. -/
  | streamGateReopen (gate : Fin 1024) (value : Word)
  /-- TSQ_OVERFLOW_CLEAR, R330. -/
  | tsqOverflowClear (lantern : Fin 32) (value : Word)
  /-- TBL_SEED, R193. -/
  | tblSeed (table : Fin 8) (value : Word)
  /-- OEM_FUSE, R551. -/
  | oemFuse (high : Bool) (value : Word)
  /-- TAPER_EN_WRITE, R471. -/
  | taperEnWrite (value : Word)
  /-- HI_READ_CAPTURE, R489: a BAR0 read; of a _HI register it captures, of the _LO it takes the capture. -/
  | hiReadCapture (who : Requester) (off : Nat)
  /-- REGISTER_WRITE, R13: wide for a write of more than 32 bits. -/
  | registerWrite (who : Requester) (off : Nat) (value : Word) (wide : Bool)
  /-- PERST_N, R413. -/
  | perstN
  /-- FUNCTION_LEVEL_RESET, R413. -/
  | functionLevelReset
  /-- PERST_N_RELEASE, R414. -/
  | perstNRelease
  /-- CXL_LINK_TRAINED, R399: the CXL modes the host allows (bit n for mode n + 1), the PCIe generation if none is met, the width and rate agreed. -/
  | cxlLinkTrained (hostModes gen width rate : Nat)
  /-- CXL_MEM_REQUEST, R406: what a read of the line meets (R392). -/
  | cxlMemRequest (write : Bool) (addr : Nat) (data : Bytes) (poison : Bool) (error : ReadErr)
  /-- HDM_DECODER_COMMIT, R404. -/
  | hdmDecoderCommit (base size : Nat) (oneWay lock commit : Bool)
  /-- IDE_KEY_ESTABLISH, R410: which stream. -/
  | ideKeyEstablish (mem : Bool)
  /-- IDE_FAIL, R411. -/
  | ideFail (mem : Bool)
  /-- LINK_RECOVERY, R415: whether an uncorrectable link error led to it, whether Recovery fails. -/
  | linkRecovery (uncorrectable failed : Bool)
  /-- H2D_SNOOP, R408. -/
  | h2dSnoop (addr : Nat)
  /-- MSIX_UNMASK, R412: the table entry as the host writes it. -/
  | msixUnmask (vector : Fin 64) (addr data : Nat)
  /-- POR_N_ASSERT, R539. -/
  | porNAssert
  /-- POR_N_RELEASE, R540: the spare banks the east and west replicas need (R186), the scratchpad banks that are FAILED (R511). -/
  | porNRelease (bootSel : Fin 4) (fuseCrcOk : Bool) (spares : Nat × Nat) (failedBanks : List (Fin 64))
  /-- BOOT_IMAGE_CHECK, R543: a pushed image as read from host memory; which of area A, area B and the pushed image fail their signature, and which of the areas the flash fails to read. -/
  | bootImageCheck (push : HostRead) (unsigned unread : List (Fin 3))
  /-- FIRMWARE_START, R540. -/
  | firmwareStart
  /-- DRAM_TRAINING, R394. -/
  | dramTraining (stack : Fin 4) (up : Bool) (step repaired : Nat)
  /-- SERDES_CALIBRATION, R540. -/
  | serdesCalibration (failed : List (Fin 520))
  /-- CHANDLER_CALIBRATION, R545: the readings of R545's first items, or the end of its 16 periods. -/
  | chandlerCalibration (event : CalEvent)
  /-- FORWARDING_LOAD, R546. -/
  | forwardingLoad
  /-- FIRST_LIGHTING, R547: the words that read uncorrectable, one for each wick that meets one: lantern, wick, chain, stage, and store (0 control store, 1 and 2 the dispatch banks). -/
  | firstLighting (bad : List (Fin 32 × Wick × Fin 4 × Fin 20 × Fin 3))
  /-- TALLY_PERIOD_BOUNDARY, R78: whether the running count's residue check passes (R84). -/
  | tallyPeriodBoundary (residueOk : Bool)
  /-- PLAN_REBUILD, R90. -/
  | planRebuild
  /-- AVS_VDONE, R93. -/
  | avsVdone
  /-- AVS_SETTLE_TIMEOUT, R93. -/
  | avsSettleTimeout
  /-- READ_VOUT, R86. -/
  | readVout (sample : Fin 4) (reading : Option Nat)
  /-- READ_POUT, R86. -/
  | readPout (slot : Fin 4) (reading : Option Nat)
  /-- TJ_SAMPLE, R103. -/
  | tjSample (tj : Int)
  /-- AGING_SLICE, R205. -/
  | agingSlice
  /-- COMPARE_SLICE, R223: in a PCIe mode, the records (table, lantern, slot) whose shadow in host memory differs. -/
  | compareSlice (host : List (Nat × Nat × Nat))
  /-- SCRATCHPAD_TEST_SLICE, R514. -/
  | scratchpadTestSlice
  /-- ARCHIVE_FLUSH_SLICE, R529. -/
  | archiveFlushSlice
  /-- SCRUB_SLICE, R393: the bursts of the slice that read with a corrected and with an uncorrectable error.. -/
  | scrubSlice (corrected bad : List Nat)
  /-- SENTINEL_WINDOW_END, R72: the handshakes each ring counted.. -/
  | sentinelWindowEnd (lantern : Fin 32) (counts : List Nat)
  /-- HEADER_WINDOW_COMPLETE, R60. -/
  | headerWindowComplete (frame : Nat)
  /-- CELL_WRITE, R229. -/
  | cellWrite (frame : Nat) (data : Bytes)
  /-- FRAME_RECEPTION_END, R120. -/
  | frameReceptionEnd (frame : Nat) (rest : Bytes) (fec status : Bool)
  /-- FRAME_OVERSIZE_CUT, R122. -/
  | frameOversizeCut (frame : Nat) (tail : Bytes)
  /-- HEADER_DEAL, R58. -/
  | headerDeal (lantern : Fin 32)
  /-- STAGE_EXECUTE, R152: the causes of R335 that each wick samples, the wick whose fetch corrected a bit (R171), and whether a policer update passes its residue check.. -/
  | stageExecute (lantern : Fin 32) (chain : Fin 4) (stage : Fin 20) (faults : List (Wick × List Nat)) (fixed : Option Wick) (residueOk : Bool)
  /-- BUSHEL_READ_COMPLETE, R187: which header of a stage, oldest 0, and how the rows read. -/
  | bushelReadComplete (lantern : Fin 32) (chain : Fin 4) (stage : Fin 20) (place : Fin 24) (first second : ReadErr)
  /-- TERNARY_SEARCH_COMPLETE, R161: which header of a stage, oldest 0.. -/
  | ternarySearchComplete (lantern : Fin 32) (chain : Fin 4) (stage : Fin 20) (place : Fin 24)
  /-- HANDSHAKE_TIMEOUT, R335. -/
  | handshakeTimeout (lantern : Fin 32) (chain : Fin 4) (stage : Fin 20) (wick : Wick)
  /-- OVERLAP_WINDOW_CLOSE, R340. -/
  | overlapWindowClose (lantern : Fin 32)
  /-- RESULT_RELEASE, R168: whether both wicks presented it (R339), whether its parity failed (R366), and the counters whose increments fail their residue check (R367).. -/
  | resultRelease (lantern : Fin 32) (twice error : Bool) (cntBad : List Nat)
  /-- PUNT_POLICER_REFILL, R169. -/
  | puntPolicerRefill (lantern : Fin 32)
  /-- RECIRCULATION_ENTRY, R48. -/
  | recirculationEntry (port : Nat)
  /-- RECIRCULATION_LIMIT, R49. -/
  | recirculationLimit (frame : Nat)
  /-- TRAILING_CHARGE, R274: whether the bucket arithmetic passes its residue check (R277).. -/
  | trailingCharge (frame : Nat) (residueOk : Bool)
  /-- LEARN_REQUEST, R200. -/
  | learnRequest (frame : Nat)
  /-- LEARN_APPLY, R202: whether the queued request reads uncorrectable (R366). -/
  | learnApply (uncorrectable : Bool)
  /-- FREEZE_EXPIRY, R203: whether the tracker entry reads uncorrectable (R366). -/
  | freezeExpiry (key : Bytes) (uncorrectable : Bool)
  /-- AGING_VISIT, R205. -/
  | agingVisit
  /-- STREAM_REQUEST_APPLY, R356: whether the queued request reads uncorrectable (R366). -/
  | streamRequestApply (uncorrectable : Bool)
  /-- COMPARE_CONFIRM, R222: in a PCIe mode, whether the shadow in host memory still differs. -/
  | compareConfirm (still : Bool)
  /-- POOL_SLOT_RELEASE, R218. -/
  | poolSlotRelease (group : Nat)
  /-- RULESET_SWAP_APPLY, R177. -/
  | rulesetSwapApply
  /-- DISPATCH_COPY_COMPLETE, R176. -/
  | dispatchCopyComplete
  /-- TRIM_COMPLETE, R343. -/
  | trimComplete (lantern : Fin 32)
  /-- AUTOMATIC_TRIM, R344. -/
  | automaticTrim (lantern : Fin 32)
  /-- RELIGHT_SCRUB_COMPLETE, R345: the uncorrectable word read, if any, by chain, stage and store.. -/
  | relightScrubComplete (lantern : Fin 32) (bad : Option (Fin 4 × Fin 20 × Fin 3))
  /-- RELIGHT_BUBBLE, R345. -/
  | relightBubble (lantern : Fin 32)
  /-- RELIGHT_READY, R345. -/
  | relightReady (lantern : Fin 32)
  /-- CELL_ARBITRATION_ROUND, R235. -/
  | cellArbitrationRound (requests : List CellReq)
  /-- SPILL_WRITE_COMPLETE, R263: the bytes the cell reads as, when not those written.. -/
  | spillWriteComplete (frame : Nat) (read : Option Bytes)
  /-- HOGSHEAD_RETURN, R264: the FLC of an uncorrectable DRAM error, if one is met.. -/
  | hogsheadReturn (frame : Nat) (bad : Option Nat)
  /-- SCHEDULER_SELECT, R283: whether the descriptor reads uncorrectable (R365), and the shapers whose arithmetic fails its residue check: 0 the queue's, 1 the throttle's, 2 the port's (R287).. -/
  | schedulerSelect (port : Nat) (descBad : Bool) (residueBad : List (Fin 3))
  /-- CALENDAR_SLOT, R285. -/
  | calendarSlot
  /-- COPY_TRANSMIT, R124: whether a correction passes its residue check (R316).. -/
  | copyTransmit (port : Nat) (residueOk : Bool)
  /-- EGRESS_CELL_READ, R230: the bytes the cell reads as, when not those written, and whether its link word reads uncorrectable (R231).. -/
  | egressCellRead (port : Nat) (read : Option Bytes) (linkErr : Bool)
  /-- REFILL_TICK, R275: the policers whose update fails its residue check (R277).. -/
  | refillTick (bad : List Nat)
  /-- GATE_LIST_START, R292. -/
  | gateListStart (stream : Bool) (id : Nat)
  /-- GATE_ENTRY_CHANGE, R293. -/
  | gateEntryChange (port : Nat)
  /-- STREAM_GATE_ENTRY_CHANGE, R279. -/
  | streamGateEntryChange (gate : Fin 1024)
  /-- LINK_UP, R117. -/
  | linkUp (port : Nat)
  /-- LINK_DOWN, R117. -/
  | linkDown (port : Nat) (localFault remoteFault : Bool)
  /-- TRAIN_TIMEOUT, R118. -/
  | trainTimeout (port : Nat)
  /-- LIGHT_UP, R135. -/
  | lightUp (port : Nat)
  /-- WAKE_PATTERN, R133. -/
  | wakePattern (lane : Fin 512)
  /-- IDLE_HOLD_EXPIRY, R136. -/
  | idleHoldExpiry (port : Nat)
  /-- PAUSE_EXPIRY, R128. -/
  | pauseExpiry (port : Nat) (classes : Fin 256)
  /-- WD_TIME_EXPIRY, R130. -/
  | wdTimeExpiry (port : Nat) (cls : Fin 8)
  /-- REC_TIME_EXPIRY, R130. -/
  | recTimeExpiry (port : Nat) (cls : Fin 8)
  /-- FLOW_CONTROL_FRAME_SEND, R129. -/
  | flowControlFrameSend (port : Nat)
  /-- PAUSE_REFRESH, R129. -/
  | pauseRefresh (port : Nat)
  /-- ARMED_COMMIT_DUE, R484. -/
  | armedCommitDue
  /-- ARMED_SNAPSHOT_DUE, R490. -/
  | armedSnapshotDue
  /-- SNAPSHOT_COPY_COMPLETE, R490. -/
  | snapshotCopyComplete
  /-- REFERENCE_LOST, R303. -/
  | referenceLost
  /-- REFERENCE_RESTORED, R303. -/
  | referenceRestored
  /-- TIMED_INPUT_EDGE, R320. -/
  | timedInputEdge (input : Fin 5) (width : Nat)
  /-- PPS_IN_TIMEOUT, R322. -/
  | ppsInTimeout
  /-- PPS_OUT_RISE, R323. -/
  | ppsOutRise
  /-- PPS_OUT_FALL, R323. -/
  | ppsOutFall
  /-- DRAM_REQUEST, R383: a region of R380, 1 to 6 in its order, a region address and a length of up to one burst.. -/
  | dramRequest (client region : Fin 7) (addr len : Nat) (write : Bool)
  /-- DRAM_REQUEST_ISSUE, R384: a pseudo-channel, stack × 32 + channel × 2 + PC, and how a read meets the row (R392), at a bit of it.. -/
  | dramRequestIssue (pc : Fin 128) (error : ReadErr)
  /-- CLIENT_LATE, R383. -/
  | clientLate (pc : Fin 128)
  /-- REFRESH_DUE, R387. -/
  | refreshDue (pc : Fin 128)
  /-- STACK_TEMP_READ, R388. -/
  | stackTempRead (stack : Fin 4) (reading : Int)
  /-- SELF_REFRESH_ENTRY, R390. -/
  | selfRefreshEntry (segment : Fin 16)
  /-- SELF_REFRESH_ABANDON, R390. -/
  | selfRefreshAbandon (segment : Fin 16)
  /-- SELF_REFRESH_EXIT, R390. -/
  | selfRefreshExit (segment : Fin 16)
  /-- CHANNEL_RETRAIN, R395. -/
  | channelRetrain (stack : Fin 4) (channel : Fin 16) (failed : Bool)
  /-- BLOCK_START, R458: the start word and the data words as received, whether a word is bad, and the codewords corrected and uncorrectable (R453). -/
  | blockStart (block : Bytes) (bad : Bool) (corrected uncorrectable : Nat)
  /-- ACK, R459: the control word as received. -/
  | ack (word : Bytes)
  /-- NAK, R459: the control word as received. -/
  | nak (word : Bytes)
  /-- CREDIT_LO, R461: the control word as received. -/
  | creditLo (word : Bytes)
  /-- CREDIT_HI, R461: the control word as received. -/
  | creditHi (word : Bytes)
  /-- TRAIN, R471: the control word as received. -/
  | train (word : Bytes)
  /-- CREDIT_SEND, R461. -/
  | creditSend
  /-- REPLAY_TIMEOUT, R459. -/
  | replayTimeout
  /-- CODEWORD_LOCK_LOSS, R453. -/
  | codewordLockLoss (lane : Fin 8)
  /-- TAPER_TRAIN_STEP, R471: whether the step under way succeeds, the lanes usable, and what LANE_ID finds. -/
  | taperTrainStep (ok : Bool) (usable : Fin 256) (reversed : Bool) (polarity : Fin 256)
  /-- TAPER_TRAIN_TIMEOUT, R471. -/
  | taperTrainTimeout
  /-- TAPER_BLOCK_SEND, R463. -/
  | taperBlockSend
  /-- INJECT, R467. -/
  | inject
  /-- SEG_INJECT, R138. -/
  | segInject
  /-- TABLE_IMAGE, R470: whether an uncorrectable DRAM write error strikes. -/
  | tableImage (bad : Bool)
  /-- COUNTER_STREAM_PASS, R468. -/
  | counterStreamPass
  /-- ETH_CARRIAGE_FRAME, R474. -/
  | ethCarriageFrame (frame : Bytes)
  /-- FINGERPRINT_PASS_COMPLETE, R496: sections 4 to 6 of the stream as read, when the copy the pass read differs from the image. -/
  | fingerprintPassComplete (read : Option Bytes)
  /-- FINGERPRINT_STALE, R497. -/
  | fingerprintStale
  /-- FIRMWARE_RESTART, R505: an uncorrectable word of bank 0 or 1, or none for a core exception. -/
  | firmwareRestart (error : Option (Fin 2 × Fin 32768))
  /-- FIRMWARE_READY, R505. -/
  | firmwareReady
  /-- BANK_CLEAR_COMPLETE, R508. -/
  | bankClearComplete (bank : Fin 64)
  /-- TEST_WORD_STEP, R512: the failing bit, if any. -/
  | testWordStep (failing : Option (Fin 72))
  /-- EVENT_STORE_COPY, R518. -/
  | eventStoreCopy
  /-- SMBUS_TRANSACTION, R551. -/
  | smbusTransaction (write : Bool) (off : Nat) (value : Word) (pecOk : Bool)
  /-- JTAG_INSTRUCTION, R564: the bits shifted into the register it selects. -/
  | jtagInstruction (op : JtagOp) (scanIn : Nat)
  /-- TIME_CLK_TICK, R302. -/
  | timeClkTick (residueOk : Bool)
  /-- DOMAIN_RELEASE, R549. -/
  | domainRelease (domain : Nat)
  /-- HOST_COMPLETION_TIMEOUT, R429: the read is of the ring slots, or of a command of the ring by its tag. -/
  | hostCompletionTimeout (ring : Fin 16) (tag : Option Nat)
deriving DecidableEq, Repr

end Sys2Proof
end

