-- ==== Sys2Proof/Machine/Bits.lean ====
section
/-! DEFINITION. Bit fields, byte orders (R7), the check codes (CRC-32C of R424, the FCS of R120, CRC-16 of
R516, CRC-64 of R494) and signed readings. -/

namespace Sys2Proof.Machine
open Sys2Proof

/-- Bits [lo+w-1:lo] of v (R6). -/
def bits (v lo w : Nat) : Nat := v / 2 ^ lo % 2 ^ w

/-- Bit n of v. -/
def bit (v n : Nat) : Bool := v / 2 ^ n % 2 == 1

/-- v with bits [lo+w-1:lo] replaced by x. -/
def putBits (v lo w x : Nat) : Nat :=
  v / 2 ^ (lo + w) * 2 ^ (lo + w) + x % 2 ^ w * 2 ^ lo + v % 2 ^ lo

def b2n (b : Bool) : Nat := if b then 1 else 0

/-- Two's complement reading of the low w bits. -/
def signed (w v : Nat) : Int :=
  if 2 ^ (w - 1) ≤ v % 2 ^ w then (v % 2 ^ w : Nat) - (2 ^ w : Nat) else (v % 2 ^ w : Nat)

/-- The low w bits of an integer in two's complement. -/
def unsign (w : Nat) (i : Int) : Nat := (i % (2 ^ w : Nat)).toNat

def byte (n : Nat) : Byte := BitVec.ofNat 8 n

/-- Little-endian value of a byte string (R7, host structures and registers). -/
def leNat : Bytes → Nat
  | [] => 0
  | b :: bs => b.toNat + 256 * leNat bs

/-- Network-order value of a byte string (R7, wire fields). -/
def beNat (bs : Bytes) : Nat := bs.foldl (fun a b => a * 256 + b.toNat) 0

/-- n as w bytes, little-endian. -/
def toLE : Nat → Nat → Bytes
  | _, 0 => []
  | n, w + 1 => byte n :: toLE (n / 256) w

/-- n as w bytes, network order. -/
def toBE (n w : Nat) : Bytes := (toLE n w).reverse

/-- Byte at an offset; 0 beyond the end. -/
def byteAt (bs : Bytes) (i : Nat) : Byte := bs.getD i 0

/-- w bytes from an offset; bytes beyond the end are 0. -/
def sliceZ : Bytes → Nat → Nat → Bytes
  | bs, o, w => (bs.drop o).take w ++ List.replicate (w - ((bs.drop o).take w).length) 0

/-- Little-endian field of w bytes at offset o. -/
def leAt (bs : Bytes) (o w : Nat) : Nat := leNat (sliceZ bs o w)

/-- Network-order field of w bytes at offset o. -/
def beAt (bs : Bytes) (o w : Nat) : Nat := beNat (sliceZ bs o w)

/-- bs with the bytes of v written from offset o (never beyond the end of bs). -/
def putBytes : Bytes → Nat → Bytes → Bytes
  | [], _, _ => []
  | bs, 0, [] => bs
  | _ :: bs, 0, v :: vs => v :: putBytes bs 0 vs
  | b :: bs, o + 1, vs => b :: putBytes bs o vs

/-- bs lengthened with zero bytes to n bytes. -/
def padTo (bs : Bytes) (n : Nat) : Bytes := bs ++ List.replicate (n - bs.length) 0

/-- One bit of a reflected CRC. -/
def crcBitR (poly c : Nat) : Nat := if c % 2 = 1 then (c / 2) ^^^ poly else c / 2

/-- One byte of a reflected CRC. -/
def crcByteR (poly c : Nat) (b : Byte) : Nat :=
  let f := crcBitR poly
  f (f (f (f (f (f (f (f (c ^^^ b.toNat))))))))

/-- CRC-32C of R424 (RFC 3720). Also the cell CRC of R229 and the Taper block CRC of R455. -/
def crc32c (bs : Bytes) : Nat := bs.foldl (crcByteR 0x82F63B78) 0xFFFFFFFF ^^^ 0xFFFFFFFF

/-- CRC-32C with a seed as its initial value (R157, R190). -/
def crc32cSeed (seed : Nat) (bs : Bytes) : Nat := bs.foldl (crcByteR 0x82F63B78) (seed % 2 ^ 32) ^^^ 0xFFFFFFFF

/-- The Ethernet FCS as the 32-bit value whose little-endian bytes are sent (R120, R121). -/
def fcs32 (bs : Bytes) : Nat := bs.foldl (crcByteR 0xEDB88320) 0xFFFFFFFF ^^^ 0xFFFFFFFF

/-- One bit of a w-bit unreflected CRC. -/
def crcBitF (w poly c : Nat) : Nat :=
  if c / 2 ^ (w - 1) % 2 = 1 then (c * 2 % 2 ^ w) ^^^ poly else c * 2 % 2 ^ w

/-- One byte of a w-bit unreflected CRC. -/
def crcByteF (w poly c : Nat) (b : Byte) : Nat :=
  let f := crcBitF w poly
  f (f (f (f (f (f (f (f (c ^^^ (b.toNat * 2 ^ (w - 8))))))))))

/-- CRC-16 of R516. -/
def crc16 (bs : Bytes) : Nat := bs.foldl (crcByteF 16 0x1021) 0xFFFF

/-- CRC-64 of R494. -/
def crc64 (bs : Bytes) : Nat :=
  bs.foldl (crcByteF 64 0x42F0E1EBA9EA3693) 0xFFFFFFFFFFFFFFFF ^^^ 0xFFFFFFFFFFFFFFFF

/-- PEC of an SMBus transaction (CRC-8, polynomial 0x07): R551 names PEC; its polynomial is the bus's. -/
def pec8 (bs : Bytes) : Nat := bs.foldl (crcByteF 8 0x07) 0

def maskOf (w : Nat) : Nat := 2 ^ w - 1

/-- Saturating increment. -/
def satInc (cap n : Nat) : Nat := if n < cap then n + 1 else n

/-- Round up division. -/
def ceilDiv (a b : Nat) : Nat := (a + b - 1) / b

/-- The bits of a mask below w, lowest first. -/
def maskBits (m w : Nat) : List Nat := (List.range w).filter (bit m)

end Sys2Proof.Machine
end

