-- ==== Sys2Proof/Machine/Operands.lean ====
section
/-! DEFINITION. The operand forms of the commands: parameter fields of a Smiem packet (R423, R430), wicks. -/

namespace Sys2Proof
open Sys2Proof.Machine

/-- A packet as PACKET_FETCH holds it: what its bulk reads will return is not part of it. -/
def Req.held (q : Req) : Req := { q with src := ⟨[], .whole⟩ }

def Wick.other : Wick → Wick
  | .a => .b
  | .b => .a

def Wick.num : Wick → Nat
  | .a => 0
  | .b => 1

/-- Little-endian parameter field of w bytes at offset o; bytes beyond PARAM_LEN read 0. -/
def Req.u (q : Req) (o w : Nat) : Nat := leAt q.params o w

/-- Bit n of the parameter byte at offset o. -/
def Req.flagAt (q : Req) (o n : Nat) : Bool := bit (q.u o 1) n

/-- A signed parameter field. -/
def Req.s (q : Req) (o w : Nat) : Int := signed (8 * w) (q.u o w)

end Sys2Proof
end

