-- ==== Sys2Proof/Config.lean ====
section
/-! DEFINITION. What one part has fixed (fuses, characterised latencies) and the free values: constants
without a body, so that no proof can know a value the manual does not give. -/

namespace Sys2Proof.Config

/-- A free value (DESIGN CHOICE, log entry 1): the n-th value drawn, of any size. -/
opaque freeValue : Nat → Nat

/-- A fused register field (R74, R107, R502, R534, R551; log entry 2), by 32 × BAR0 offset + low bit. -/
opaque fused : Nat → Nat

/-- The characterised receive latency that PORT_CONFIG loads (R311), by PORT_TYPE and FEC, 16 bits. -/
opaque rxTsAdj : Nat → Nat → Nat

/-- The characterised transmit latency that PORT_CONFIG loads (R311), by PORT_TYPE and FEC, 16 bits. -/
opaque txTsAdj : Nat → Nat → Nat

/-- The ROM's version of R434, which the manual does not give. -/
opaque romVersion : Nat

/-- The firmware's version of R434 and R534, by the firmware image's serial number. -/
opaque fwVersion : Nat → Nat

end Sys2Proof.Config
end

