-- ==== Sys2Proof/Machine/RegType.lean ====
section
/-! DEFINITION. The shape of a register field and of a register map row. -/

namespace Sys2Proof.Machine
open Sys2Proof

/-- Access codes of R13. -/
inductive Acc where
  | rw | ro | w1c | wo | srw | krw
deriving DecidableEq, Repr

/-- A register field: byte offset of its register in BAR0, lowest bit, width, access, reset value. -/
structure Fld where
  off : Nat
  lo  : Nat
  w   : Nat
  acc : Acc
  rst : Nat
deriving DecidableEq, Repr

/-- How a map gives a reset value: a number, a number plus the instance, the instance modulo a number, a
list by instance, a value of instance 0 alone, or fused. -/
inductive Rst where
  | n (v : Nat)
  | plus (v : Nat)
  | mod (m : Nat)
  | list (l : List Nat)
  | first (v : Nat)
  | fused
deriving DecidableEq, Repr

/-- The reset value of instance i of the field at an offset and bit. -/
def Rst.eval : Rst → Nat → Nat → Nat → Nat
  | .n v, _, _, _ => v
  | .plus v, i, _, _ => v + i
  | .mod m, i, _, _ => i % m
  | .list l, i, _, _ => l.getD i 0
  | .first v, i, _, _ => if i = 0 then v else 0
  | .fused, _, off, lo => Config.fused (off * 32 + lo)

structure RegField where
  lo  : Nat
  w   : Nat
  acc : Acc
  rst : Rst
deriving DecidableEq, Repr

/-- A row of a register map: base offset, repetition (stride and count, outermost first) and fields. -/
structure RegRow where
  base : Nat
  dims : List (Nat × Nat)
  flds : List RegField
deriving DecidableEq, Repr

/-- The key a field's value is held under. -/
def Fld.key (f : Fld) : Nat := f.off * 32 + f.lo

/-- A field's reset value within its width. -/
def Fld.reset (f : Fld) : Nat := f.rst % 2 ^ f.w

end Sys2Proof.Machine
end

