-- ==== Sys2Proof/Machine/RegMapA.lean ====
section
/-! DEFINITION. The register fields of BAR0 as the register maps of R74, R107, R141, R179, R227 give them:
for every field its offset, lowest bit, width, access code (R13) and reset value (R15), by instance. -/

namespace Sys2Proof.Machine.F
open Sys2Proof.Machine

/-- R74 SENTINEL_CTRL_SENTINEL_EN. -/
def SENTINEL_CTRL_SENTINEL_EN (i : Nat) : Fld := ⟨(0x870000 + i * 0x80000), 0, 1, .rw, (.n 1 : Rst).eval i (0x870000 + i * 0x80000) 0⟩
/-- R74 SENTINEL_CTRL_WINDOW_SEL. -/
def SENTINEL_CTRL_WINDOW_SEL (i : Nat) : Fld := ⟨(0x870000 + i * 0x80000), 1, 2, .rw, (.n 1 : Rst).eval i (0x870000 + i * 0x80000) 1⟩
/-- R74 SENTINEL_CTRL_ALARM_EN. -/
def SENTINEL_CTRL_ALARM_EN (i : Nat) : Fld := ⟨(0x870000 + i * 0x80000), 3, 1, .rw, (.n 1 : Rst).eval i (0x870000 + i * 0x80000) 3⟩
/-- R74 SENTINEL_FLOOR. -/
def SENTINEL_FLOOR (i : Nat) : Fld := ⟨(0x870004 + i * 0x80000), 0, 16, .rw, (.n 0x546 : Rst).eval i (0x870004 + i * 0x80000) 0⟩
/-- R74 SENTINEL_MIN_MIN_RATE. -/
def SENTINEL_MIN_MIN_RATE (i : Nat) : Fld := ⟨(0x870008 + i * 0x80000), 0, 16, .ro, (.n 0 : Rst).eval i (0x870008 + i * 0x80000) 0⟩
/-- R74 SENTINEL_MIN_MIN_INDEX. -/
def SENTINEL_MIN_MIN_INDEX (i : Nat) : Fld := ⟨(0x870008 + i * 0x80000), 16, 3, .ro, (.n 0 : Rst).eval i (0x870008 + i * 0x80000) 16⟩
/-- R74 SENTINEL_MIN_SENTINEL_LOW. -/
def SENTINEL_MIN_SENTINEL_LOW (i : Nat) : Fld := ⟨(0x870008 + i * 0x80000), 30, 1, .w1c, (.n 0 : Rst).eval i (0x870008 + i * 0x80000) 30⟩
/-- R74 SENTINEL_MIN_VALID. -/
def SENTINEL_MIN_VALID (i : Nat) : Fld := ⟨(0x870008 + i * 0x80000), 31, 1, .ro, (.n 0 : Rst).eval i (0x870008 + i * 0x80000) 31⟩
/-- R74 SENTINEL_RATE_STAGE_RATE. -/
def SENTINEL_RATE_STAGE_RATE (l i : Nat) : Fld := ⟨(0x870010 + l * 0x80000 + i * 4), 0, 16, .ro, (.n 0 : Rst).eval i (0x870010 + l * 0x80000 + i * 4) 0⟩
/-- R74 SENTINEL_RATE_MIXED. -/
def SENTINEL_RATE_MIXED (l i : Nat) : Fld := ⟨(0x870010 + l * 0x80000 + i * 4), 30, 1, .ro, (.n 0 : Rst).eval i (0x870010 + l * 0x80000 + i * 4) 30⟩
/-- R74 SENTINEL_RATE_VALID. -/
def SENTINEL_RATE_VALID (l i : Nat) : Fld := ⟨(0x870010 + l * 0x80000 + i * 4), 31, 1, .ro, (.n 0 : Rst).eval i (0x870010 + l * 0x80000 + i * 4) 31⟩
/-- R74 SENTINEL_COUNT_COUNT. -/
def SENTINEL_COUNT_COUNT (l i : Nat) : Fld := ⟨(0x870040 + l * 0x80000 + i * 4), 0, 24, .ro, (.n 0 : Rst).eval i (0x870040 + l * 0x80000 + i * 4) 0⟩
/-- R74 SENTINEL_RATIO_RATIO. -/
def SENTINEL_RATIO_RATIO (l i : Nat) : Fld := ⟨(0x870060 + l * 0x80000 + i * 4), 0, 16, .ro, (.fused : Rst).eval i (0x870060 + l * 0x80000 + i * 4) 0⟩
/-- R74 HDR_FIFO_STATUS_LEVEL. -/
def HDR_FIFO_STATUS_LEVEL (i : Nat) : Fld := ⟨(0x870080 + i * 0x80000), 0, 8, .ro, (.n 0 : Rst).eval i (0x870080 + i * 0x80000) 0⟩
/-- R74 HDR_FIFO_STATUS_PEAK. -/
def HDR_FIFO_STATUS_PEAK (i : Nat) : Fld := ⟨(0x870080 + i * 0x80000), 8, 8, .ro, (.n 0 : Rst).eval i (0x870080 + i * 0x80000) 8⟩
/-- R74 HDR_FIFO_STATUS_PEAK_CLR. -/
def HDR_FIFO_STATUS_PEAK_CLR (i : Nat) : Fld := ⟨(0x870080 + i * 0x80000), 16, 1, .wo, (.n 0 : Rst).eval i (0x870080 + i * 0x80000) 16⟩
/-- R74 HDR_FIFO_STATUS_HDR_FIFO_DROP. -/
def HDR_FIFO_STATUS_HDR_FIFO_DROP (i : Nat) : Fld := ⟨(0x870080 + i * 0x80000), 17, 1, .w1c, (.n 0 : Rst).eval i (0x870080 + i * 0x80000) 17⟩
/-- R74 HDR_FIFO_STATUS_STORE_ERR. -/
def HDR_FIFO_STATUS_STORE_ERR (i : Nat) : Fld := ⟨(0x870080 + i * 0x80000), 18, 1, .w1c, (.n 0 : Rst).eval i (0x870080 + i * 0x80000) 18⟩
/-- R107 CHANDLER_CTRL_MODE. -/
def CHANDLER_CTRL_MODE : Fld := ⟨0x100000, 0, 2, .srw, (.n 0 : Rst).eval 0 0x100000 0⟩
/-- R107 CHANDLER_CTRL_DEMAND_DARK. -/
def CHANDLER_CTRL_DEMAND_DARK : Fld := ⟨0x100000, 2, 1, .srw, (.n 0 : Rst).eval 0 0x100000 2⟩
/-- R107 CHANDLER_CTRL_TJ_GUARD. -/
def CHANDLER_CTRL_TJ_GUARD : Fld := ⟨0x100000, 8, 5, .srw, (.n 0xa : Rst).eval 0 0x100000 8⟩
/-- R107 CHANDLER_CTRL_DROOP_ALLOW. -/
def CHANDLER_CTRL_DROOP_ALLOW : Fld := ⟨0x100000, 16, 4, .srw, (.n 5 : Rst).eval 0 0x100000 16⟩
/-- R107 ENERGY_BUDGET_BUDGET. -/
def ENERGY_BUDGET_BUDGET : Fld := ⟨0x100004, 0, 16, .srw, (.n 0 : Rst).eval 0 0x100004 0⟩
/-- R107 VSET_LIMITS_VSET_MIN. -/
def VSET_LIMITS_VSET_MIN : Fld := ⟨0x100008, 0, 10, .srw, (.n 0x258 : Rst).eval 0 0x100008 0⟩
/-- R107 VSET_LIMITS_VSET_MAX. -/
def VSET_LIMITS_VSET_MAX : Fld := ⟨0x100008, 16, 10, .srw, (.n 0x320 : Rst).eval 0 0x100008 16⟩
/-- R107 VSET_FIXED. -/
def VSET_FIXED : Fld := ⟨0x10000c, 0, 10, .srw, (.n 0x2d0 : Rst).eval 0 0x10000c 0⟩
/-- R107 DEFER_CTRL_DEFER_CLASS. -/
def DEFER_CTRL_DEFER_CLASS : Fld := ⟨0x100010, 0, 8, .srw, (.n 0 : Rst).eval 0 0x100010 0⟩
/-- R107 DEFER_CTRL_THROTTLE_MIN. -/
def DEFER_CTRL_THROTTLE_MIN : Fld := ⟨0x100010, 8, 8, .srw, (.n 0x40 : Rst).eval 0 0x100010 8⟩
/-- R107 FLOOR_OVERRIDE_OVERRIDE_EN. -/
def FLOOR_OVERRIDE_OVERRIDE_EN : Fld := ⟨0x100014, 0, 1, .krw, (.n 0 : Rst).eval 0 0x100014 0⟩
/-- R107 AVS_CTRL_AVS_RAIL. -/
def AVS_CTRL_AVS_RAIL : Fld := ⟨0x100018, 0, 4, .rw, (.n 0 : Rst).eval 0 0x100018 0⟩
/-- R107 AVS_CTRL_AVS_SETTLE_TIMEOUT. -/
def AVS_CTRL_AVS_SETTLE_TIMEOUT : Fld := ⟨0x100018, 8, 8, .rw, (.n 0x14 : Rst).eval 0 0x100018 8⟩
/-- R107 CHANDLER_STATUS_SETPOINT. -/
def CHANDLER_STATUS_SETPOINT : Fld := ⟨0x100020, 0, 10, .ro, (.n 0 : Rst).eval 0 0x100020 0⟩
/-- R107 CHANDLER_STATUS_MODE_APPLIED. -/
def CHANDLER_STATUS_MODE_APPLIED : Fld := ⟨0x100020, 10, 2, .ro, (.n 0 : Rst).eval 0 0x100020 10⟩
/-- R107 CHANDLER_STATUS_MOVING. -/
def CHANDLER_STATUS_MOVING : Fld := ⟨0x100020, 12, 1, .ro, (.n 0 : Rst).eval 0 0x100020 12⟩
/-- R107 CHANDLER_STATUS_CALIBRATED. -/
def CHANDLER_STATUS_CALIBRATED : Fld := ⟨0x100020, 13, 1, .ro, (.n 0 : Rst).eval 0 0x100020 13⟩
/-- R107 CHANDLER_FLAGS_FLAGS. -/
def CHANDLER_FLAGS_FLAGS : Fld := ⟨0x100024, 0, 12, .w1c, (.n 0 : Rst).eval 0 0x100024 0⟩
/-- R107 CH_PERIOD_LO. -/
def CH_PERIOD_LO : Fld := ⟨0x100030, 0, 32, .ro, (.n 0 : Rst).eval 0 0x100030 0⟩
/-- R107 CH_PERIOD_HI. -/
def CH_PERIOD_HI : Fld := ⟨0x100034, 0, 32, .ro, (.n 0 : Rst).eval 0 0x100034 0⟩
/-- R107 CH_ENERGY_LAST. -/
def CH_ENERGY_LAST : Fld := ⟨0x100038, 0, 32, .ro, (.n 0 : Rst).eval 0 0x100038 0⟩
/-- R107 CH_FLOOR_LAST. -/
def CH_FLOOR_LAST : Fld := ⟨0x10003c, 0, 16, .ro, (.n 0 : Rst).eval 0 0x10003c 0⟩
/-- R107 CH_EFFECTIVE_BUDGET. -/
def CH_EFFECTIVE_BUDGET : Fld := ⟨0x10003c, 16, 16, .ro, (.n 0 : Rst).eval 0 0x10003c 16⟩
/-- R107 CH_ENERGY_TOTAL_LO. -/
def CH_ENERGY_TOTAL_LO : Fld := ⟨0x100040, 0, 32, .ro, (.n 0 : Rst).eval 0 0x100040 0⟩
/-- R107 CH_ENERGY_TOTAL_HI. -/
def CH_ENERGY_TOTAL_HI : Fld := ⟨0x100044, 0, 32, .ro, (.n 0 : Rst).eval 0 0x100044 0⟩
/-- R107 CH_GAIN. -/
def CH_GAIN : Fld := ⟨0x100048, 0, 16, .ro, (.n 0x8000 : Rst).eval 0 0x100048 0⟩
/-- R107 CH_THROTTLE_LEVEL. -/
def CH_THROTTLE_LEVEL : Fld := ⟨0x100048, 16, 8, .ro, (.n 0 : Rst).eval 0 0x100048 16⟩
/-- R107 PMBUS_SLOT_ADDR. -/
def PMBUS_SLOT_ADDR (i : Nat) : Fld := ⟨(0x100050 + i * 4), 0, 7, .rw, (.n 0 : Rst).eval i (0x100050 + i * 4) 0⟩
/-- R107 PMBUS_SLOT_PAGE. -/
def PMBUS_SLOT_PAGE (i : Nat) : Fld := ⟨(0x100050 + i * 4), 8, 8, .rw, (.n 0xff : Rst).eval i (0x100050 + i * 4) 8⟩
/-- R107 PMBUS_SLOT_COVER. -/
def PMBUS_SLOT_COVER (i : Nat) : Fld := ⟨(0x100050 + i * 4), 16, 4, .rw, (.n 0 : Rst).eval i (0x100050 + i * 4) 16⟩
/-- R107 PMBUS_SLOT_EN. -/
def PMBUS_SLOT_EN (i : Nat) : Fld := ⟨(0x100050 + i * 4), 31, 1, .rw, (.n 0 : Rst).eval i (0x100050 + i * 4) 31⟩
/-- R107 COEF_VALUE. -/
def COEF_VALUE (i : Nat) : Fld := ⟨(0x100080 + i * 4), 0, 24, .ro, (.fused : Rst).eval i (0x100080 + i * 4) 0⟩
/-- R107 COEF_KIND. -/
def COEF_KIND (i : Nat) : Fld := ⟨(0x100080 + i * 4), 24, 1, .ro, (.fused : Rst).eval i (0x100080 + i * 4) 24⟩
/-- R107 COEF_SCALED. -/
def COEF_SCALED (i : Nat) : Fld := ⟨(0x100080 + i * 4), 25, 1, .ro, (.fused : Rst).eval i (0x100080 + i * 4) 25⟩
/-- R107 LEAK. -/
def LEAK (i : Nat) : Fld := ⟨(0x1000d0 + i * 4), 0, 20, .ro, (.fused : Rst).eval i (0x1000d0 + i * 4) 0⟩
/-- R107 PLAN_SETPOINT. -/
def PLAN_SETPOINT (i : Nat) : Fld := ⟨(0x100110 + i * 4), 0, 10, .ro, (.n 0 : Rst).eval i (0x100110 + i * 4) 0⟩
/-- R107 PLAN_WORK. -/
def PLAN_WORK (i : Nat) : Fld := ⟨(0x100110 + i * 4), 10, 5, .ro, (.n 0 : Rst).eval i (0x100110 + i * 4) 10⟩
/-- R107 PLAN_FORCED. -/
def PLAN_FORCED (i : Nat) : Fld := ⟨(0x100110 + i * 4), 15, 1, .ro, (.n 0 : Rst).eval i (0x100110 + i * 4) 15⟩
/-- R107 PLAN_THROTTLE. -/
def PLAN_THROTTLE (i : Nat) : Fld := ⟨(0x100110 + i * 4), 16, 8, .ro, (.n 0 : Rst).eval i (0x100110 + i * 4) 16⟩
/-- R107 PLAN_SR_SEGMENTS. -/
def PLAN_SR_SEGMENTS (i : Nat) : Fld := ⟨(0x100110 + i * 4), 24, 8, .ro, (.n 0 : Rst).eval i (0x100110 + i * 4) 24⟩
/-- R107 WORK_DEFER_MAX_DEFER. -/
def WORK_DEFER_MAX_DEFER (i : Nat) : Fld := ⟨(0x100150 + i * 4), 0, 16, .srw, (.list [64, 8, 1000, 100, 10000] : Rst).eval i (0x100150 + i * 4) 0⟩
/-- R107 WORK_DEFER_FORCED_LAST. -/
def WORK_DEFER_FORCED_LAST (i : Nat) : Fld := ⟨(0x100150 + i * 4), 31, 1, .ro, (.n 0 : Rst).eval i (0x100150 + i * 4) 31⟩
/-- R141 PORT_CFG_PORT_TYPE. -/
def PORT_CFG_PORT_TYPE (p : Nat) : Fld := ⟨(0x800000 + p / 16 * 0x80000 + p % 16 * 0x1000), 0, 4, .ro, (.n 0 : Rst).eval p (0x800000 + p / 16 * 0x80000 + p % 16 * 0x1000) 0⟩
/-- R141 PORT_CFG_LANES. -/
def PORT_CFG_LANES (p : Nat) : Fld := ⟨(0x800000 + p / 16 * 0x80000 + p % 16 * 0x1000), 4, 2, .ro, (.n 0 : Rst).eval p (0x800000 + p / 16 * 0x80000 + p % 16 * 0x1000) 4⟩
/-- R141 PORT_CFG_FEC. -/
def PORT_CFG_FEC (p : Nat) : Fld := ⟨(0x800000 + p / 16 * 0x80000 + p % 16 * 0x1000), 6, 3, .ro, (.n 0 : Rst).eval p (0x800000 + p / 16 * 0x80000 + p % 16 * 0x1000) 6⟩
/-- R141 PORT_CFG_TRAIN_EN. -/
def PORT_CFG_TRAIN_EN (p : Nat) : Fld := ⟨(0x800000 + p / 16 * 0x80000 + p % 16 * 0x1000), 9, 1, .ro, (.n 0 : Rst).eval p (0x800000 + p / 16 * 0x80000 + p % 16 * 0x1000) 9⟩
/-- R141 MAX_FRAME. -/
def MAX_FRAME (p : Nat) : Fld := ⟨(0x800004 + p / 16 * 0x80000 + p % 16 * 0x1000), 0, 14, .srw, (.n 0x2580 : Rst).eval p (0x800004 + p / 16 * 0x80000 + p % 16 * 0x1000) 0⟩
/-- R141 FC_CFG_FC_MODE. -/
def FC_CFG_FC_MODE (p : Nat) : Fld := ⟨(0x800008 + p / 16 * 0x80000 + p % 16 * 0x1000), 0, 2, .srw, (.n 0 : Rst).eval p (0x800008 + p / 16 * 0x80000 + p % 16 * 0x1000) 0⟩
/-- R141 FC_CFG_PFC_EN. -/
def FC_CFG_PFC_EN (p : Nat) : Fld := ⟨(0x800008 + p / 16 * 0x80000 + p % 16 * 0x1000), 8, 8, .srw, (.n 0 : Rst).eval p (0x800008 + p / 16 * 0x80000 + p % 16 * 0x1000) 8⟩
/-- R141 FC_CFG_PFC_TX_EN. -/
def FC_CFG_PFC_TX_EN (p : Nat) : Fld := ⟨(0x800008 + p / 16 * 0x80000 + p % 16 * 0x1000), 16, 8, .srw, (.n 0 : Rst).eval p (0x800008 + p / 16 * 0x80000 + p % 16 * 0x1000) 16⟩
/-- R141 FC_CFG_TRAP_CLASS. -/
def FC_CFG_TRAP_CLASS (p : Nat) : Fld := ⟨(0x800008 + p / 16 * 0x80000 + p % 16 * 0x1000), 24, 3, .srw, (.n 6 : Rst).eval p (0x800008 + p / 16 * 0x80000 + p % 16 * 0x1000) 24⟩
/-- R141 PAUSE_TX_PAUSE_QUANTA. -/
def PAUSE_TX_PAUSE_QUANTA (p : Nat) : Fld := ⟨(0x80000c + p / 16 * 0x80000 + p % 16 * 0x1000), 0, 16, .srw, (.n 0xffff : Rst).eval p (0x80000c + p / 16 * 0x80000 + p % 16 * 0x1000) 0⟩
/-- R141 PAUSE_TX_REFRESH. -/
def PAUSE_TX_REFRESH (p : Nat) : Fld := ⟨(0x80000c + p / 16 * 0x80000 + p % 16 * 0x1000), 16, 16, .srw, (.n 0x7fff : Rst).eval p (0x80000c + p / 16 * 0x80000 + p % 16 * 0x1000) 16⟩
/-- R141 WD_CFG_WD_EN. -/
def WD_CFG_WD_EN (p : Nat) : Fld := ⟨(0x800010 + p / 16 * 0x80000 + p % 16 * 0x1000), 0, 1, .srw, (.n 1 : Rst).eval p (0x800010 + p / 16 * 0x80000 + p % 16 * 0x1000) 0⟩
/-- R141 WD_CFG_WD_TIME. -/
def WD_CFG_WD_TIME (p : Nat) : Fld := ⟨(0x800010 + p / 16 * 0x80000 + p % 16 * 0x1000), 1, 10, .srw, (.n 0x64 : Rst).eval p (0x800010 + p / 16 * 0x80000 + p % 16 * 0x1000) 1⟩
/-- R141 WD_CFG_REC_TIME. -/
def WD_CFG_REC_TIME (p : Nat) : Fld := ⟨(0x800010 + p / 16 * 0x80000 + p % 16 * 0x1000), 11, 10, .srw, (.n 0x64 : Rst).eval p (0x800010 + p / 16 * 0x80000 + p % 16 * 0x1000) 11⟩
/-- R141 LINK_CFG_LINK_UP_HOLD. -/
def LINK_CFG_LINK_UP_HOLD (p : Nat) : Fld := ⟨(0x800014 + p / 16 * 0x80000 + p % 16 * 0x1000), 0, 8, .rw, (.n 0xa : Rst).eval p (0x800014 + p / 16 * 0x80000 + p % 16 * 0x1000) 0⟩
/-- R141 LINK_CFG_TRAIN_TIMEOUT. -/
def LINK_CFG_TRAIN_TIMEOUT (p : Nat) : Fld := ⟨(0x800014 + p / 16 * 0x80000 + p % 16 * 0x1000), 8, 12, .rw, (.n 0x1f4 : Rst).eval p (0x800014 + p / 16 * 0x80000 + p % 16 * 0x1000) 8⟩
/-- R141 LINK_CFG_IDLE_EN. -/
def LINK_CFG_IDLE_EN (p : Nat) : Fld := ⟨(0x800014 + p / 16 * 0x80000 + p % 16 * 0x1000), 20, 1, .srw, (.n 0 : Rst).eval p (0x800014 + p / 16 * 0x80000 + p % 16 * 0x1000) 20⟩
/-- R141 LINK_CFG_IDLE_HOLD. -/
def LINK_CFG_IDLE_HOLD (p : Nat) : Fld := ⟨(0x800014 + p / 16 * 0x80000 + p % 16 * 0x1000), 21, 10, .srw, (.n 0x64 : Rst).eval p (0x800014 + p / 16 * 0x80000 + p % 16 * 0x1000) 21⟩
/-- R141 LINK_CFG_WAKE_EN. -/
def LINK_CFG_WAKE_EN (p : Nat) : Fld := ⟨(0x800014 + p / 16 * 0x80000 + p % 16 * 0x1000), 31, 1, .rw, (.n 0 : Rst).eval p (0x800014 + p / 16 * 0x80000 + p % 16 * 0x1000) 31⟩
/-- R141 PORT_STATUS_STATE. -/
def PORT_STATUS_STATE (p : Nat) : Fld := ⟨(0x800020 + p / 16 * 0x80000 + p % 16 * 0x1000), 0, 3, .ro, (.n 0 : Rst).eval p (0x800020 + p / 16 * 0x80000 + p % 16 * 0x1000) 0⟩
/-- R141 PORT_STATUS_LOCAL_FAULT. -/
def PORT_STATUS_LOCAL_FAULT (p : Nat) : Fld := ⟨(0x800020 + p / 16 * 0x80000 + p % 16 * 0x1000), 3, 1, .ro, (.n 0 : Rst).eval p (0x800020 + p / 16 * 0x80000 + p % 16 * 0x1000) 3⟩
/-- R141 PORT_STATUS_REMOTE_FAULT. -/
def PORT_STATUS_REMOTE_FAULT (p : Nat) : Fld := ⟨(0x800020 + p / 16 * 0x80000 + p % 16 * 0x1000), 4, 1, .ro, (.n 0 : Rst).eval p (0x800020 + p / 16 * 0x80000 + p % 16 * 0x1000) 4⟩
/-- R141 PORT_STATUS_HELD. -/
def PORT_STATUS_HELD (p : Nat) : Fld := ⟨(0x800020 + p / 16 * 0x80000 + p % 16 * 0x1000), 5, 8, .ro, (.n 0 : Rst).eval p (0x800020 + p / 16 * 0x80000 + p % 16 * 0x1000) 5⟩
/-- R141 PORT_STATUS_WD_RECOVERY. -/
def PORT_STATUS_WD_RECOVERY (p : Nat) : Fld := ⟨(0x800020 + p / 16 * 0x80000 + p % 16 * 0x1000), 13, 8, .ro, (.n 0 : Rst).eval p (0x800020 + p / 16 * 0x80000 + p % 16 * 0x1000) 13⟩
/-- R141 MAC_STICKY_RUNT_SEEN. -/
def MAC_STICKY_RUNT_SEEN (p : Nat) : Fld := ⟨(0x800024 + p / 16 * 0x80000 + p % 16 * 0x1000), 0, 1, .w1c, (.n 0 : Rst).eval p (0x800024 + p / 16 * 0x80000 + p % 16 * 0x1000) 0⟩
/-- R141 MAC_STICKY_OVERSIZE_SEEN. -/
def MAC_STICKY_OVERSIZE_SEEN (p : Nat) : Fld := ⟨(0x800024 + p / 16 * 0x80000 + p % 16 * 0x1000), 1, 1, .w1c, (.n 0 : Rst).eval p (0x800024 + p / 16 * 0x80000 + p % 16 * 0x1000) 1⟩
/-- R141 MAC_STICKY_JABBER_SEEN. -/
def MAC_STICKY_JABBER_SEEN (p : Nat) : Fld := ⟨(0x800024 + p / 16 * 0x80000 + p % 16 * 0x1000), 2, 1, .w1c, (.n 0 : Rst).eval p (0x800024 + p / 16 * 0x80000 + p % 16 * 0x1000) 2⟩
/-- R141 MAC_STICKY_FCS_ERR_SEEN. -/
def MAC_STICKY_FCS_ERR_SEEN (p : Nat) : Fld := ⟨(0x800024 + p / 16 * 0x80000 + p % 16 * 0x1000), 3, 1, .w1c, (.n 0 : Rst).eval p (0x800024 + p / 16 * 0x80000 + p % 16 * 0x1000) 3⟩
/-- R141 MAC_STICKY_STOMP_SENT. -/
def MAC_STICKY_STOMP_SENT (p : Nat) : Fld := ⟨(0x800024 + p / 16 * 0x80000 + p % 16 * 0x1000), 4, 1, .w1c, (.n 0 : Rst).eval p (0x800024 + p / 16 * 0x80000 + p % 16 * 0x1000) 4⟩
/-- R141 MAC_STICKY_EGRESS_OVERSIZE. -/
def MAC_STICKY_EGRESS_OVERSIZE (p : Nat) : Fld := ⟨(0x800024 + p / 16 * 0x80000 + p % 16 * 0x1000), 5, 1, .w1c, (.n 0 : Rst).eval p (0x800024 + p / 16 * 0x80000 + p % 16 * 0x1000) 5⟩
/-- R141 MAC_STICKY_LINK_DOWN_SEEN. -/
def MAC_STICKY_LINK_DOWN_SEEN (p : Nat) : Fld := ⟨(0x800024 + p / 16 * 0x80000 + p % 16 * 0x1000), 6, 1, .w1c, (.n 0 : Rst).eval p (0x800024 + p / 16 * 0x80000 + p % 16 * 0x1000) 6⟩
/-- R141 MAC_STICKY_PAUSE_WD_FIRED. -/
def MAC_STICKY_PAUSE_WD_FIRED (p : Nat) : Fld := ⟨(0x800024 + p / 16 * 0x80000 + p % 16 * 0x1000), 7, 1, .w1c, (.n 0 : Rst).eval p (0x800024 + p / 16 * 0x80000 + p % 16 * 0x1000) 7⟩
/-- R141 MAC_STICKY_CTRL_UNKNOWN. -/
def MAC_STICKY_CTRL_UNKNOWN (p : Nat) : Fld := ⟨(0x800024 + p / 16 * 0x80000 + p % 16 * 0x1000), 8, 1, .w1c, (.n 0 : Rst).eval p (0x800024 + p / 16 * 0x80000 + p % 16 * 0x1000) 8⟩
/-- R141 MAC_STICKY_LSO_ERR. -/
def MAC_STICKY_LSO_ERR (p : Nat) : Fld := ⟨(0x800024 + p / 16 * 0x80000 + p % 16 * 0x1000), 9, 1, .w1c, (.n 0 : Rst).eval p (0x800024 + p / 16 * 0x80000 + p % 16 * 0x1000) 9⟩
/-- R141 MAC_STICKY_WAKE_SEEN. -/
def MAC_STICKY_WAKE_SEEN (p : Nat) : Fld := ⟨(0x800024 + p / 16 * 0x80000 + p % 16 * 0x1000), 10, 1, .w1c, (.n 0 : Rst).eval p (0x800024 + p / 16 * 0x80000 + p % 16 * 0x1000) 10⟩
/-- R141 MAC_STICKY_TRAIN_FAIL. -/
def MAC_STICKY_TRAIN_FAIL (p : Nat) : Fld := ⟨(0x800024 + p / 16 * 0x80000 + p % 16 * 0x1000), 11, 1, .w1c, (.n 0 : Rst).eval p (0x800024 + p / 16 * 0x80000 + p % 16 * 0x1000) 11⟩
/-- R141 STA_ADDR_LO_ADDR_LO. -/
def STA_ADDR_LO_ADDR_LO (p j : Nat) : Fld := ⟨(0x800040 + p / 16 * 0x80000 + p % 16 * 0x1000 + j * 8), 0, 32, .srw, (.n 0 : Rst).eval j (0x800040 + p / 16 * 0x80000 + p % 16 * 0x1000 + j * 8) 0⟩
/-- R141 STA_ADDR_HI_ADDR_HI. -/
def STA_ADDR_HI_ADDR_HI (p j : Nat) : Fld := ⟨(0x800044 + p / 16 * 0x80000 + p % 16 * 0x1000 + j * 8), 0, 16, .srw, (.n 0 : Rst).eval j (0x800044 + p / 16 * 0x80000 + p % 16 * 0x1000 + j * 8) 0⟩
/-- R141 STA_ADDR_HI_EN. -/
def STA_ADDR_HI_EN (p j : Nat) : Fld := ⟨(0x800044 + p / 16 * 0x80000 + p % 16 * 0x1000 + j * 8), 16, 1, .srw, (.n 0 : Rst).eval j (0x800044 + p / 16 * 0x80000 + p % 16 * 0x1000 + j * 8) 16⟩
/-- R141 STA_ADDR_HI_MODE. -/
def STA_ADDR_HI_MODE (p j : Nat) : Fld := ⟨(0x800044 + p / 16 * 0x80000 + p % 16 * 0x1000 + j * 8), 17, 1, .srw, (.n 0 : Rst).eval j (0x800044 + p / 16 * 0x80000 + p % 16 * 0x1000 + j * 8) 17⟩
/-- R179 HASH_SEED. -/
def HASH_SEED (i : Nat) : Fld := ⟨(0x860000 + i * 0x80000), 0, 32, .srw, (.n 0xffffffff : Rst).eval i (0x860000 + i * 0x80000) 0⟩
/-- R179 PUNT_CFG_PUNT_CLASS. -/
def PUNT_CFG_PUNT_CLASS (i : Nat) : Fld := ⟨(0x860004 + i * 0x80000), 0, 3, .srw, (.n 6 : Rst).eval i (0x860004 + i * 0x80000) 0⟩
/-- R179 ENTRY_OP. -/
def ENTRY_OP (p : Nat) : Fld := ⟨(0x860010 + p / 16 * 0x80000 + p % 16 * 4), 0, 8, .srw, (.n 1 : Rst).eval p (0x860010 + p / 16 * 0x80000 + p % 16 * 4) 0⟩
/-- R179 PUNT_RATE_RATE_0. -/
def PUNT_RATE_RATE_0 (i : Nat) : Fld := ⟨(0x860050 + i * 0x80000), 0, 16, .srw, (.n 0x64 : Rst).eval i (0x860050 + i * 0x80000) 0⟩
/-- R179 PUNT_RATE_RATE_1. -/
def PUNT_RATE_RATE_1 (i : Nat) : Fld := ⟨(0x860050 + i * 0x80000), 16, 16, .srw, (.n 0x64 : Rst).eval i (0x860050 + i * 0x80000) 16⟩
/-- R179 PUNT_BURST_BURST_0. -/
def PUNT_BURST_BURST_0 (i : Nat) : Fld := ⟨(0x860054 + i * 0x80000), 0, 13, .srw, (.n 0x100 : Rst).eval i (0x860054 + i * 0x80000) 0⟩
/-- R179 PUNT_BURST_BURST_1. -/
def PUNT_BURST_BURST_1 (i : Nat) : Fld := ⟨(0x860054 + i * 0x80000), 16, 13, .srw, (.n 0x100 : Rst).eval i (0x860054 + i * 0x80000) 16⟩
/-- R179 RULESET_STATUS_GEN_APPLIED. -/
def RULESET_STATUS_GEN_APPLIED (i : Nat) : Fld := ⟨(0x860060 + i * 0x80000), 0, 16, .ro, (.n 0 : Rst).eval i (0x860060 + i * 0x80000) 0⟩
/-- R179 RULESET_STATUS_OLD_RESIDENT. -/
def RULESET_STATUS_OLD_RESIDENT (i : Nat) : Fld := ⟨(0x860060 + i * 0x80000), 16, 1, .ro, (.n 0 : Rst).eval i (0x860060 + i * 0x80000) 16⟩
/-- R179 RULESET_STATUS_SWAP_HELD. -/
def RULESET_STATUS_SWAP_HELD (i : Nat) : Fld := ⟨(0x860060 + i * 0x80000), 17, 1, .ro, (.n 0 : Rst).eval i (0x860060 + i * 0x80000) 17⟩
/-- R179 RULESET_STATUS_COPY_BUSY. -/
def RULESET_STATUS_COPY_BUSY (i : Nat) : Fld := ⟨(0x860060 + i * 0x80000), 18, 1, .ro, (.n 0 : Rst).eval i (0x860060 + i * 0x80000) 18⟩
/-- R179 REORDER_STATUS_LEVEL. -/
def REORDER_STATUS_LEVEL (i : Nat) : Fld := ⟨(0x860064 + i * 0x80000), 0, 12, .ro, (.n 0 : Rst).eval i (0x860064 + i * 0x80000) 0⟩
/-- R179 REORDER_STATUS_PEAK. -/
def REORDER_STATUS_PEAK (i : Nat) : Fld := ⟨(0x860064 + i * 0x80000), 16, 12, .ro, (.n 0 : Rst).eval i (0x860064 + i * 0x80000) 16⟩
/-- R179 REORDER_STATUS_PEAK_CLR. -/
def REORDER_STATUS_PEAK_CLR (i : Nat) : Fld := ⟨(0x860064 + i * 0x80000), 31, 1, .wo, (.n 0 : Rst).eval i (0x860064 + i * 0x80000) 31⟩
/-- R179 CHAIN_STICKY_PARSE_FAIL_SEEN. -/
def CHAIN_STICKY_PARSE_FAIL_SEEN (i : Nat) : Fld := ⟨(0x860068 + i * 0x80000), 0, 1, .w1c, (.n 0 : Rst).eval i (0x860068 + i * 0x80000) 0⟩
/-- R179 CHAIN_STICKY_BAD_OPCODE_SEEN. -/
def CHAIN_STICKY_BAD_OPCODE_SEEN (i : Nat) : Fld := ⟨(0x860068 + i * 0x80000), 1, 1, .w1c, (.n 0 : Rst).eval i (0x860068 + i * 0x80000) 1⟩
/-- R179 CHAIN_STICKY_NO_DECISION_SEEN. -/
def CHAIN_STICKY_NO_DECISION_SEEN (i : Nat) : Fld := ⟨(0x860068 + i * 0x80000), 2, 1, .w1c, (.n 0 : Rst).eval i (0x860068 + i * 0x80000) 2⟩
/-- R179 CHAIN_STICKY_EDIT_LIMIT_SEEN. -/
def CHAIN_STICKY_EDIT_LIMIT_SEEN (i : Nat) : Fld := ⟨(0x860068 + i * 0x80000), 3, 1, .w1c, (.n 0 : Rst).eval i (0x860068 + i * 0x80000) 3⟩
/-- R179 CHAIN_STICKY_PUNT_POLICED. -/
def CHAIN_STICKY_PUNT_POLICED (i : Nat) : Fld := ⟨(0x860068 + i * 0x80000), 4, 1, .w1c, (.n 0 : Rst).eval i (0x860068 + i * 0x80000) 4⟩
/-- R179 CHAIN_STICKY_COPY_POLICED. -/
def CHAIN_STICKY_COPY_POLICED (i : Nat) : Fld := ⟨(0x860068 + i * 0x80000), 5, 1, .w1c, (.n 0 : Rst).eval i (0x860068 + i * 0x80000) 5⟩
/-- R179 CHAIN_STICKY_ACT_UNDEF. -/
def CHAIN_STICKY_ACT_UNDEF (i : Nat) : Fld := ⟨(0x860068 + i * 0x80000), 6, 1, .w1c, (.n 0 : Rst).eval i (0x860068 + i * 0x80000) 6⟩
/-- R179 CHAIN_STICKY_ACT_REFUSED. -/
def CHAIN_STICKY_ACT_REFUSED (i : Nat) : Fld := ⟨(0x860068 + i * 0x80000), 7, 1, .w1c, (.n 0 : Rst).eval i (0x860068 + i * 0x80000) 7⟩
/-- R179 CHAIN_STICKY_TTL_EXPIRED_SEEN. -/
def CHAIN_STICKY_TTL_EXPIRED_SEEN (i : Nat) : Fld := ⟨(0x860068 + i * 0x80000), 8, 1, .w1c, (.n 0 : Rst).eval i (0x860068 + i * 0x80000) 8⟩
/-- R179 CHAIN_STICKY_CSTORE_CORRECTED. -/
def CHAIN_STICKY_CSTORE_CORRECTED (i : Nat) : Fld := ⟨(0x860068 + i * 0x80000), 9, 1, .w1c, (.n 0 : Rst).eval i (0x860068 + i * 0x80000) 9⟩
/-- R179 PUNT_LAST_STAGE. -/
def PUNT_LAST_STAGE (i : Nat) : Fld := ⟨(0x86006c + i * 0x80000), 0, 5, .ro, (.n 0 : Rst).eval i (0x86006c + i * 0x80000) 0⟩
/-- R179 PUNT_LAST_CHAIN. -/
def PUNT_LAST_CHAIN (i : Nat) : Fld := ⟨(0x86006c + i * 0x80000), 5, 2, .ro, (.n 0 : Rst).eval i (0x86006c + i * 0x80000) 5⟩
/-- R179 PUNT_LAST_REASON. -/
def PUNT_LAST_REASON (i : Nat) : Fld := ⟨(0x86006c + i * 0x80000), 8, 8, .ro, (.n 0 : Rst).eval i (0x86006c + i * 0x80000) 8⟩
/-- R179 PUNT_LAST_WORD_ID. -/
def PUNT_LAST_WORD_ID (i : Nat) : Fld := ⟨(0x86006c + i * 0x80000), 16, 16, .ro, (.n 0 : Rst).eval i (0x86006c + i * 0x80000) 16⟩
/-- R179 PUNT_LAST_OP_OPCODE. -/
def PUNT_LAST_OP_OPCODE (i : Nat) : Fld := ⟨(0x860070 + i * 0x80000), 0, 8, .ro, (.n 0 : Rst).eval i (0x860070 + i * 0x80000) 0⟩
/-- R179 PUNT_LAST_OP_INGRESS_PORT. -/
def PUNT_LAST_OP_INGRESS_PORT (i : Nat) : Fld := ⟨(0x860070 + i * 0x80000), 8, 10, .ro, (.n 0 : Rst).eval i (0x860070 + i * 0x80000) 8⟩
/-- R179 PUNT_LAST_OP_PASS. -/
def PUNT_LAST_OP_PASS (i : Nat) : Fld := ⟨(0x860070 + i * 0x80000), 18, 3, .ro, (.n 0 : Rst).eval i (0x860070 + i * 0x80000) 18⟩
/-- R227 BUSHEL_CTRL_LEARN_EN. -/
def BUSHEL_CTRL_LEARN_EN : Fld := ⟨0x1800000, 0, 1, .srw, (.n 1 : Rst).eval 0 0x1800000 0⟩
/-- R227 BUSHEL_CTRL_MOVE_EN. -/
def BUSHEL_CTRL_MOVE_EN : Fld := ⟨0x1800000, 1, 1, .srw, (.n 1 : Rst).eval 0 0x1800000 1⟩
/-- R227 BUSHEL_CTRL_HIT_ON. -/
def BUSHEL_CTRL_HIT_ON : Fld := ⟨0x1800000, 2, 1, .srw, (.n 1 : Rst).eval 0 0x1800000 2⟩
/-- R227 BUSHEL_CTRL_AGE_EN. -/
def BUSHEL_CTRL_AGE_EN : Fld := ⟨0x1800000, 3, 1, .srw, (.n 1 : Rst).eval 0 0x1800000 3⟩
/-- R227 BUSHEL_CTRL_COMPARE_EN. -/
def BUSHEL_CTRL_COMPARE_EN : Fld := ⟨0x1800000, 4, 1, .srw, (.n 1 : Rst).eval 0 0x1800000 4⟩
/-- R227 AGE_CFG_AGE_SWEEP. -/
def AGE_CFG_AGE_SWEEP : Fld := ⟨0x1800004, 0, 16, .srw, (.n 0x64 : Rst).eval 0 0x1800004 0⟩
/-- R227 FLAP_CFG_FLAP_LIMIT. -/
def FLAP_CFG_FLAP_LIMIT : Fld := ⟨0x1800008, 0, 8, .srw, (.n 0xa : Rst).eval 0 0x1800008 0⟩
/-- R227 FLAP_CFG_FLAP_HOLD. -/
def FLAP_CFG_FLAP_HOLD : Fld := ⟨0x1800008, 8, 16, .srw, (.n 0x3c : Rst).eval 0 0x1800008 8⟩
/-- R227 SPAN_DEPTH_DEPTH_V4. -/
def SPAN_DEPTH_DEPTH_V4 : Fld := ⟨0x180000c, 0, 4, .srw, (.n 8 : Rst).eval 0 0x180000c 0⟩
/-- R227 SPAN_DEPTH_DEPTH_V6. -/
def SPAN_DEPTH_DEPTH_V6 : Fld := ⟨0x180000c, 4, 4, .srw, (.n 8 : Rst).eval 0 0x180000c 4⟩
/-- R227 COMPARE_CFG_CONFIRM. -/
def COMPARE_CFG_CONFIRM : Fld := ⟨0x1800010, 0, 16, .srw, (.n 0x64 : Rst).eval 0 0x1800010 0⟩
/-- R227 COMPARE_CFG_COMPARE_INTERVAL. -/
def COMPARE_CFG_COMPARE_INTERVAL : Fld := ⟨0x1800010, 16, 4, .srw, (.n 6 : Rst).eval 0 0x1800010 16⟩
/-- R227 TBL_SEED. -/
def TBL_SEED (i : Nat) : Fld := ⟨(0x1800020 + i * 4), 0, 32, .rw, (.plus 0x5A5A0000 : Rst).eval i (0x1800020 + i * 4) 0⟩
/-- R227 TBL_OPLIST_LO. -/
def TBL_OPLIST_LO (i : Nat) : Fld := ⟨(0x1800040 + i * 8), 0, 32, .srw, (.n 0 : Rst).eval i (0x1800040 + i * 8) 0⟩
/-- R227 TBL_OPLIST_HI. -/
def TBL_OPLIST_HI (i : Nat) : Fld := ⟨(0x1800044 + i * 8), 0, 32, .srw, (.n 0 : Rst).eval i (0x1800044 + i * 8) 0⟩
/-- R227 BSH_STA_COUNT. -/
def BSH_STA_COUNT : Fld := ⟨0x1800080, 0, 22, .ro, (.n 0 : Rst).eval 0 0x1800080 0⟩
/-- R227 BSH_ROUTE4_COUNT. -/
def BSH_ROUTE4_COUNT : Fld := ⟨0x1800084, 0, 21, .ro, (.n 0 : Rst).eval 0 0x1800084 0⟩
/-- R227 BSH_ROUTE6_COUNT. -/
def BSH_ROUTE6_COUNT : Fld := ⟨0x1800088, 0, 20, .ro, (.n 0 : Rst).eval 0 0x1800088 0⟩
/-- R227 BSH_EM_COUNT. -/
def BSH_EM_COUNT : Fld := ⟨0x180008c, 0, 19, .ro, (.n 0 : Rst).eval 0 0x180008c 0⟩
/-- R227 BSH_POOL_FREE. -/
def BSH_POOL_FREE : Fld := ⟨0x1800090, 0, 19, .ro, (.n 0x40000 : Rst).eval 0 0x1800090 0⟩
/-- R227 BSH_STASH_STA. -/
def BSH_STASH_STA : Fld := ⟨0x1800094, 0, 9, .ro, (.n 0 : Rst).eval 0 0x1800094 0⟩
/-- R227 BSH_STASH_V4. -/
def BSH_STASH_V4 : Fld := ⟨0x1800094, 9, 7, .ro, (.n 0 : Rst).eval 0 0x1800094 9⟩
/-- R227 BSH_STASH_V6. -/
def BSH_STASH_V6 : Fld := ⟨0x1800094, 16, 7, .ro, (.n 0 : Rst).eval 0 0x1800094 16⟩
/-- R227 BSH_STASH_EM. -/
def BSH_STASH_EM : Fld := ⟨0x1800094, 23, 7, .ro, (.n 0 : Rst).eval 0 0x1800094 23⟩
/-- R227 LEARN_STATUS_LEVEL_EAST. -/
def LEARN_STATUS_LEVEL_EAST : Fld := ⟨0x1800098, 0, 13, .ro, (.n 0 : Rst).eval 0 0x1800098 0⟩
/-- R227 LEARN_STATUS_LEVEL_WEST. -/
def LEARN_STATUS_LEVEL_WEST : Fld := ⟨0x1800098, 16, 13, .ro, (.n 0 : Rst).eval 0 0x1800098 16⟩
/-- R227 BUSHEL_STICKY_LEARN_FULL. -/
def BUSHEL_STICKY_LEARN_FULL : Fld := ⟨0x18000a0, 0, 1, .w1c, (.n 0 : Rst).eval 0 0x18000a0 0⟩
/-- R227 BUSHEL_STICKY_LEARN_NO_PLACE. -/
def BUSHEL_STICKY_LEARN_NO_PLACE : Fld := ⟨0x18000a0, 1, 1, .w1c, (.n 0 : Rst).eval 0 0x18000a0 1⟩
/-- R227 BUSHEL_STICKY_LEARN_OVERFLOW. -/
def BUSHEL_STICKY_LEARN_OVERFLOW : Fld := ⟨0x18000a0, 2, 1, .w1c, (.n 0 : Rst).eval 0 0x18000a0 2⟩
/-- R227 BUSHEL_STICKY_TRACK_FULL. -/
def BUSHEL_STICKY_TRACK_FULL : Fld := ⟨0x18000a0, 3, 1, .w1c, (.n 0 : Rst).eval 0 0x18000a0 3⟩
/-- R227 BUSHEL_STICKY_SEED_REFUSED. -/
def BUSHEL_STICKY_SEED_REFUSED : Fld := ⟨0x18000a0, 4, 1, .w1c, (.n 0 : Rst).eval 0 0x18000a0 4⟩
/-- R227 BUSHEL_STICKY_SPAN_OVER. -/
def BUSHEL_STICKY_SPAN_OVER : Fld := ⟨0x18000a0, 5, 1, .w1c, (.n 0 : Rst).eval 0 0x18000a0 5⟩
/-- R227 BUSHEL_STICKY_UNCORR_SEEN. -/
def BUSHEL_STICKY_UNCORR_SEEN : Fld := ⟨0x18000a0, 6, 1, .w1c, (.n 0 : Rst).eval 0 0x18000a0 6⟩
/-- R227 BUSHEL_STICKY_COMPARE_DIFF. -/
def BUSHEL_STICKY_COMPARE_DIFF : Fld := ⟨0x18000a0, 7, 1, .w1c, (.n 0 : Rst).eval 0 0x18000a0 7⟩
/-- R227 BUSHEL_STICKY_TABLE_FULL_SEEN. -/
def BUSHEL_STICKY_TABLE_FULL_SEEN : Fld := ⟨0x18000a0, 8, 1, .w1c, (.n 0 : Rst).eval 0 0x18000a0 8⟩
/-- R227 BUSHEL_STICKY_QUEUE_UNCORR_SEEN. -/
def BUSHEL_STICKY_QUEUE_UNCORR_SEEN : Fld := ⟨0x18000a0, 9, 1, .w1c, (.n 0 : Rst).eval 0 0x18000a0 9⟩
/-- R227 BSH_LAST_ERR_FLC_LO. -/
def BSH_LAST_ERR_FLC_LO : Fld := ⟨0x18000a8, 0, 32, .ro, (.n 0xffffffff : Rst).eval 0 0x18000a8 0⟩
/-- R227 BSH_LAST_ERR_FLC_HI. -/
def BSH_LAST_ERR_FLC_HI : Fld := ⟨0x18000ac, 0, 32, .ro, (.n 0xffffffff : Rst).eval 0 0x18000ac 0⟩
/-- R227 ROUTER_MAC_LO. -/
def ROUTER_MAC_LO (i : Nat) : Fld := ⟨(0x1801000 + i * 8), 0, 32, .srw, (.n 0 : Rst).eval i (0x1801000 + i * 8) 0⟩
/-- R227 ROUTER_MAC_HI. -/
def ROUTER_MAC_HI (i : Nat) : Fld := ⟨(0x1801004 + i * 8), 0, 16, .srw, (.n 0 : Rst).eval i (0x1801004 + i * 8) 0⟩

/-- The registers of chapter 02, part 0. -/
def rows02_0 : List RegRow := [
  ⟨0x870000, [(0x80000, 32)], [⟨0, 1, .rw, .n 1⟩, ⟨1, 2, .rw, .n 1⟩, ⟨3, 1, .rw, .n 1⟩]⟩,
  ⟨0x870004, [(0x80000, 32)], [⟨0, 16, .rw, .n 0x546⟩]⟩,
  ⟨0x870008, [(0x80000, 32)], [⟨0, 16, .ro, .n 0⟩, ⟨16, 3, .ro, .n 0⟩, ⟨30, 1, .w1c, .n 0⟩, ⟨31, 1, .ro, .n 0⟩]⟩,
  ⟨0x870010, [(0x80000, 32), (4, 8)], [⟨0, 16, .ro, .n 0⟩, ⟨30, 1, .ro, .n 0⟩, ⟨31, 1, .ro, .n 0⟩]⟩,
  ⟨0x870040, [(0x80000, 32), (4, 8)], [⟨0, 24, .ro, .n 0⟩]⟩,
  ⟨0x870060, [(0x80000, 32), (4, 8)], [⟨0, 16, .ro, .fused⟩]⟩,
  ⟨0x870080, [(0x80000, 32)], [⟨0, 8, .ro, .n 0⟩, ⟨8, 8, .ro, .n 0⟩, ⟨16, 1, .wo, .n 0⟩, ⟨17, 1, .w1c, .n 0⟩, ⟨18, 1, .w1c, .n 0⟩]⟩]

def rows02 : List RegRow := rows02_0

/-- The registers of chapter 03, part 0. -/
def rows03_0 : List RegRow := [
  ⟨0x100000, [], [⟨0, 2, .srw, .n 0⟩, ⟨2, 1, .srw, .n 0⟩, ⟨8, 5, .srw, .n 0xa⟩, ⟨16, 4, .srw, .n 5⟩]⟩,
  ⟨0x100004, [], [⟨0, 16, .srw, .n 0⟩]⟩,
  ⟨0x100008, [], [⟨0, 10, .srw, .n 0x258⟩, ⟨16, 10, .srw, .n 0x320⟩]⟩,
  ⟨0x10000c, [], [⟨0, 10, .srw, .n 0x2d0⟩]⟩,
  ⟨0x100010, [], [⟨0, 8, .srw, .n 0⟩, ⟨8, 8, .srw, .n 0x40⟩]⟩,
  ⟨0x100014, [], [⟨0, 1, .krw, .n 0⟩]⟩,
  ⟨0x100018, [], [⟨0, 4, .rw, .n 0⟩, ⟨8, 8, .rw, .n 0x14⟩]⟩,
  ⟨0x100020, [], [⟨0, 10, .ro, .n 0⟩, ⟨10, 2, .ro, .n 0⟩, ⟨12, 1, .ro, .n 0⟩, ⟨13, 1, .ro, .n 0⟩]⟩,
  ⟨0x100024, [], [⟨0, 12, .w1c, .n 0⟩]⟩,
  ⟨0x100030, [], [⟨0, 32, .ro, .n 0⟩]⟩,
  ⟨0x100034, [], [⟨0, 32, .ro, .n 0⟩]⟩,
  ⟨0x100038, [], [⟨0, 32, .ro, .n 0⟩]⟩,
  ⟨0x10003c, [], [⟨0, 16, .ro, .n 0⟩, ⟨16, 16, .ro, .n 0⟩]⟩,
  ⟨0x100040, [], [⟨0, 32, .ro, .n 0⟩]⟩,
  ⟨0x100044, [], [⟨0, 32, .ro, .n 0⟩]⟩,
  ⟨0x100048, [], [⟨0, 16, .ro, .n 0x8000⟩, ⟨16, 8, .ro, .n 0⟩]⟩,
  ⟨0x100050, [(4, 4)], [⟨0, 7, .rw, .n 0⟩, ⟨8, 8, .rw, .n 0xff⟩, ⟨16, 4, .rw, .n 0⟩, ⟨31, 1, .rw, .n 0⟩]⟩,
  ⟨0x100080, [(4, 20)], [⟨0, 24, .ro, .fused⟩, ⟨24, 1, .ro, .fused⟩, ⟨25, 1, .ro, .fused⟩]⟩,
  ⟨0x1000d0, [(4, 16)], [⟨0, 20, .ro, .fused⟩]⟩,
  ⟨0x100110, [(4, 16)], [⟨0, 10, .ro, .n 0⟩, ⟨10, 5, .ro, .n 0⟩, ⟨15, 1, .ro, .n 0⟩, ⟨16, 8, .ro, .n 0⟩, ⟨24, 8, .ro, .n 0⟩]⟩,
  ⟨0x100150, [(4, 5)], [⟨0, 16, .srw, .list [64, 8, 1000, 100, 10000]⟩, ⟨31, 1, .ro, .n 0⟩]⟩]

def rows03 : List RegRow := rows03_0

/-- The registers of chapter 04, part 0. -/
def rows04_0 : List RegRow := [
  ⟨0x800000, [(0x80000, 32), (0x1000, 16)], [⟨0, 4, .ro, .n 0⟩, ⟨4, 2, .ro, .n 0⟩, ⟨6, 3, .ro, .n 0⟩, ⟨9, 1, .ro, .n 0⟩]⟩,
  ⟨0x800004, [(0x80000, 32), (0x1000, 16)], [⟨0, 14, .srw, .n 0x2580⟩]⟩,
  ⟨0x800008, [(0x80000, 32), (0x1000, 16)], [⟨0, 2, .srw, .n 0⟩, ⟨8, 8, .srw, .n 0⟩, ⟨16, 8, .srw, .n 0⟩, ⟨24, 3, .srw, .n 6⟩]⟩,
  ⟨0x80000c, [(0x80000, 32), (0x1000, 16)], [⟨0, 16, .srw, .n 0xffff⟩, ⟨16, 16, .srw, .n 0x7fff⟩]⟩,
  ⟨0x800010, [(0x80000, 32), (0x1000, 16)], [⟨0, 1, .srw, .n 1⟩, ⟨1, 10, .srw, .n 0x64⟩, ⟨11, 10, .srw, .n 0x64⟩]⟩,
  ⟨0x800014, [(0x80000, 32), (0x1000, 16)], [⟨0, 8, .rw, .n 0xa⟩, ⟨8, 12, .rw, .n 0x1f4⟩, ⟨20, 1, .srw, .n 0⟩, ⟨21, 10, .srw, .n 0x64⟩, ⟨31, 1, .rw, .n 0⟩]⟩,
  ⟨0x800020, [(0x80000, 32), (0x1000, 16)], [⟨0, 3, .ro, .n 0⟩, ⟨3, 1, .ro, .n 0⟩, ⟨4, 1, .ro, .n 0⟩, ⟨5, 8, .ro, .n 0⟩, ⟨13, 8, .ro, .n 0⟩]⟩,
  ⟨0x800024, [(0x80000, 32), (0x1000, 16)], [⟨0, 1, .w1c, .n 0⟩, ⟨1, 1, .w1c, .n 0⟩, ⟨2, 1, .w1c, .n 0⟩, ⟨3, 1, .w1c, .n 0⟩, ⟨4, 1, .w1c, .n 0⟩, ⟨5, 1, .w1c, .n 0⟩, ⟨6, 1, .w1c, .n 0⟩, ⟨7, 1, .w1c, .n 0⟩, ⟨8, 1, .w1c, .n 0⟩, ⟨9, 1, .w1c, .n 0⟩, ⟨10, 1, .w1c, .n 0⟩, ⟨11, 1, .w1c, .n 0⟩]⟩,
  ⟨0x800040, [(0x80000, 32), (0x1000, 16), (8, 8)], [⟨0, 32, .srw, .n 0⟩]⟩,
  ⟨0x800044, [(0x80000, 32), (0x1000, 16), (8, 8)], [⟨0, 16, .srw, .n 0⟩, ⟨16, 1, .srw, .n 0⟩, ⟨17, 1, .srw, .n 0⟩]⟩]

def rows04 : List RegRow := rows04_0

/-- The registers of chapter 05, part 0. -/
def rows05_0 : List RegRow := [
  ⟨0x860000, [(0x80000, 32)], [⟨0, 32, .srw, .n 0xffffffff⟩]⟩,
  ⟨0x860004, [(0x80000, 32)], [⟨0, 3, .srw, .n 6⟩]⟩,
  ⟨0x860010, [(0x80000, 32), (4, 16)], [⟨0, 8, .srw, .n 1⟩]⟩,
  ⟨0x860050, [(0x80000, 32)], [⟨0, 16, .srw, .n 0x64⟩, ⟨16, 16, .srw, .n 0x64⟩]⟩,
  ⟨0x860054, [(0x80000, 32)], [⟨0, 13, .srw, .n 0x100⟩, ⟨16, 13, .srw, .n 0x100⟩]⟩,
  ⟨0x860060, [(0x80000, 32)], [⟨0, 16, .ro, .n 0⟩, ⟨16, 1, .ro, .n 0⟩, ⟨17, 1, .ro, .n 0⟩, ⟨18, 1, .ro, .n 0⟩]⟩,
  ⟨0x860064, [(0x80000, 32)], [⟨0, 12, .ro, .n 0⟩, ⟨16, 12, .ro, .n 0⟩, ⟨31, 1, .wo, .n 0⟩]⟩,
  ⟨0x860068, [(0x80000, 32)], [⟨0, 1, .w1c, .n 0⟩, ⟨1, 1, .w1c, .n 0⟩, ⟨2, 1, .w1c, .n 0⟩, ⟨3, 1, .w1c, .n 0⟩, ⟨4, 1, .w1c, .n 0⟩, ⟨5, 1, .w1c, .n 0⟩, ⟨6, 1, .w1c, .n 0⟩, ⟨7, 1, .w1c, .n 0⟩, ⟨8, 1, .w1c, .n 0⟩, ⟨9, 1, .w1c, .n 0⟩]⟩,
  ⟨0x86006c, [(0x80000, 32)], [⟨0, 5, .ro, .n 0⟩, ⟨5, 2, .ro, .n 0⟩, ⟨8, 8, .ro, .n 0⟩, ⟨16, 16, .ro, .n 0⟩]⟩,
  ⟨0x860070, [(0x80000, 32)], [⟨0, 8, .ro, .n 0⟩, ⟨8, 10, .ro, .n 0⟩, ⟨18, 3, .ro, .n 0⟩]⟩]

def rows05 : List RegRow := rows05_0

/-- The registers of chapter 06, part 0. -/
def rows06_0 : List RegRow := [
  ⟨0x1800000, [], [⟨0, 1, .srw, .n 1⟩, ⟨1, 1, .srw, .n 1⟩, ⟨2, 1, .srw, .n 1⟩, ⟨3, 1, .srw, .n 1⟩, ⟨4, 1, .srw, .n 1⟩]⟩,
  ⟨0x1800004, [], [⟨0, 16, .srw, .n 0x64⟩]⟩,
  ⟨0x1800008, [], [⟨0, 8, .srw, .n 0xa⟩, ⟨8, 16, .srw, .n 0x3c⟩]⟩,
  ⟨0x180000c, [], [⟨0, 4, .srw, .n 8⟩, ⟨4, 4, .srw, .n 8⟩]⟩,
  ⟨0x1800010, [], [⟨0, 16, .srw, .n 0x64⟩, ⟨16, 4, .srw, .n 6⟩]⟩,
  ⟨0x1800020, [(4, 8)], [⟨0, 32, .rw, .plus 0x5A5A0000⟩]⟩,
  ⟨0x1800040, [(8, 8)], [⟨0, 32, .srw, .n 0⟩]⟩,
  ⟨0x1800044, [(8, 8)], [⟨0, 32, .srw, .n 0⟩]⟩,
  ⟨0x1800080, [], [⟨0, 22, .ro, .n 0⟩]⟩,
  ⟨0x1800084, [], [⟨0, 21, .ro, .n 0⟩]⟩,
  ⟨0x1800088, [], [⟨0, 20, .ro, .n 0⟩]⟩,
  ⟨0x180008c, [], [⟨0, 19, .ro, .n 0⟩]⟩,
  ⟨0x1800090, [], [⟨0, 19, .ro, .n 0x40000⟩]⟩,
  ⟨0x1800094, [], [⟨0, 9, .ro, .n 0⟩, ⟨9, 7, .ro, .n 0⟩, ⟨16, 7, .ro, .n 0⟩, ⟨23, 7, .ro, .n 0⟩]⟩,
  ⟨0x1800098, [], [⟨0, 13, .ro, .n 0⟩, ⟨16, 13, .ro, .n 0⟩]⟩,
  ⟨0x18000a0, [], [⟨0, 1, .w1c, .n 0⟩, ⟨1, 1, .w1c, .n 0⟩, ⟨2, 1, .w1c, .n 0⟩, ⟨3, 1, .w1c, .n 0⟩, ⟨4, 1, .w1c, .n 0⟩, ⟨5, 1, .w1c, .n 0⟩, ⟨6, 1, .w1c, .n 0⟩, ⟨7, 1, .w1c, .n 0⟩, ⟨8, 1, .w1c, .n 0⟩, ⟨9, 1, .w1c, .n 0⟩]⟩,
  ⟨0x18000a8, [], [⟨0, 32, .ro, .n 0xffffffff⟩]⟩,
  ⟨0x18000ac, [], [⟨0, 32, .ro, .n 0xffffffff⟩]⟩,
  ⟨0x1801000, [(8, 256)], [⟨0, 32, .srw, .n 0⟩]⟩,
  ⟨0x1801004, [(8, 256)], [⟨0, 16, .srw, .n 0⟩]⟩]

def rows06 : List RegRow := rows06_0

end Sys2Proof.Machine.F
end

