-- ==== Sys2Proof/Machine/RegMapB.lean ====
section
/-! DEFINITION. The register fields of BAR0 as the register maps of R267, R301, R330 and R331, R360 give them:
for every field its offset, lowest bit, width, access code (R13) and reset value (R15), by instance. -/

namespace Sys2Proof.Machine.F
open Sys2Proof.Machine

/-- R267 BM_HELD_CLASS. -/
def BM_HELD_CLASS : Fld := ⟨0x1c00000, 0, 8, .srw, (.n 0 : Rst).eval 0 0x1c00000 0⟩
/-- R267 BM_MIRROR_PROTO. -/
def BM_MIRROR_PROTO : Fld := ⟨0x1c00000, 16, 16, .srw, (.n 0x88b5 : Rst).eval 0 0x1c00000 16⟩
/-- R267 BM_WRED_SEED. -/
def BM_WRED_SEED : Fld := ⟨0x1c00004, 0, 16, .srw, (.n 0xace1 : Rst).eval 0 0x1c00004 0⟩
/-- R267 BM_STICKY. -/
def BM_STICKY : Fld := ⟨0x1c00008, 0, 9, .w1c, (.n 0 : Rst).eval 0 0x1c00008 0⟩
/-- R267 BM_FREE_CELLS. -/
def BM_FREE_CELLS : Fld := ⟨0x1c00010, 0, 21, .ro, (.n 0x100000 : Rst).eval 0 0x1c00010 0⟩
/-- R267 BM_DESC_FREE. -/
def BM_DESC_FREE : Fld := ⟨0x1c00014, 0, 21, .ro, (.n 0x140000 : Rst).eval 0 0x1c00014 0⟩
/-- R267 BM_HOG_FREE. -/
def BM_HOG_FREE : Fld := ⟨0x1c00018, 0, 26, .ro, (.n 0 : Rst).eval 0 0x1c00018 0⟩
/-- R267 BM_RETURN_DEPTH. -/
def BM_RETURN_DEPTH : Fld := ⟨0x1c0001c, 0, 4, .srw, (.n 4 : Rst).eval 0 0x1c0001c 0⟩
/-- R267 BM_QUARANTINED. -/
def BM_QUARANTINED : Fld := ⟨0x1c00020, 0, 21, .ro, (.n 0 : Rst).eval 0 0x1c00020 0⟩
/-- R267 POOL_SIZE. -/
def POOL_SIZE (i : Nat) : Fld := ⟨(0x1c00100 + i * 0x20), 0, 21, .srw, (.first 1048576 : Rst).eval i (0x1c00100 + i * 0x20) 0⟩
/-- R267 POOL_RESERVE. -/
def POOL_RESERVE (i : Nat) : Fld := ⟨(0x1c00104 + i * 0x20), 0, 21, .srw, (.n 0 : Rst).eval i (0x1c00104 + i * 0x20) 0⟩
/-- R267 POOL_T1. -/
def POOL_T1 (i : Nat) : Fld := ⟨(0x1c00108 + i * 0x20), 0, 21, .srw, (.first 720896 : Rst).eval i (0x1c00108 + i * 0x20) 0⟩
/-- R267 POOL_T2. -/
def POOL_T2 (i : Nat) : Fld := ⟨(0x1c0010c + i * 0x20), 0, 21, .srw, (.first 786432 : Rst).eval i (0x1c0010c + i * 0x20) 0⟩
/-- R267 POOL_T3. -/
def POOL_T3 (i : Nat) : Fld := ⟨(0x1c00110 + i * 0x20), 0, 21, .srw, (.first 917504 : Rst).eval i (0x1c00110 + i * 0x20) 0⟩
/-- R267 POOL_ING_FILL. -/
def POOL_ING_FILL (i : Nat) : Fld := ⟨(0x1c00114 + i * 0x20), 0, 21, .ro, (.n 0 : Rst).eval i (0x1c00114 + i * 0x20) 0⟩
/-- R267 POOL_EG_FILL. -/
def POOL_EG_FILL (i : Nat) : Fld := ⟨(0x1c00118 + i * 0x20), 0, 21, .ro, (.n 0 : Rst).eval i (0x1c00118 + i * 0x20) 0⟩
/-- R267 POOL_STATUS. -/
def POOL_STATUS (i : Nat) : Fld := ⟨(0x1c0011c + i * 0x20), 0, 4, .ro, (.n 0 : Rst).eval i (0x1c0011c + i * 0x20) 0⟩
/-- R267 QPROF_Q_RESERVE. -/
def QPROF_Q_RESERVE (i : Nat) : Fld := ⟨(0x1c00400 + i * 0x10), 0, 16, .srw, (.n 0x10 : Rst).eval i (0x1c00400 + i * 0x10) 0⟩
/-- R267 QPROF_Q_MAX. -/
def QPROF_Q_MAX (i : Nat) : Fld := ⟨(0x1c00404 + i * 0x10), 0, 21, .srw, (.n 0x10000 : Rst).eval i (0x1c00404 + i * 0x10) 0⟩
/-- R267 QPROF_SPILL_AT. -/
def QPROF_SPILL_AT (i : Nat) : Fld := ⟨(0x1c00408 + i * 0x10), 0, 21, .srw, (.n 0x8000 : Rst).eval i (0x1c00408 + i * 0x10) 0⟩
/-- R267 QPROF_SPILL_EN. -/
def QPROF_SPILL_EN (i : Nat) : Fld := ⟨(0x1c00408 + i * 0x10), 31, 1, .srw, (.n 0 : Rst).eval i (0x1c00408 + i * 0x10) 31⟩
/-- R267 QPROF_WRED_G. -/
def QPROF_WRED_G (i : Nat) : Fld := ⟨(0x1c0040c + i * 0x10), 0, 4, .srw, (.n 0 : Rst).eval i (0x1c0040c + i * 0x10) 0⟩
/-- R267 QPROF_WRED_Y. -/
def QPROF_WRED_Y (i : Nat) : Fld := ⟨(0x1c0040c + i * 0x10), 4, 4, .srw, (.n 0 : Rst).eval i (0x1c0040c + i * 0x10) 4⟩
/-- R267 QPROF_WRED_R. -/
def QPROF_WRED_R (i : Nat) : Fld := ⟨(0x1c0040c + i * 0x10), 8, 4, .srw, (.n 0 : Rst).eval i (0x1c0040c + i * 0x10) 8⟩
/-- R267 QPROF_ECN_EN. -/
def QPROF_ECN_EN (i : Nat) : Fld := ⟨(0x1c0040c + i * 0x10), 12, 1, .srw, (.n 0 : Rst).eval i (0x1c0040c + i * 0x10) 12⟩
/-- R267 QPROF_ECN_LAYER. -/
def QPROF_ECN_LAYER (i : Nat) : Fld := ⟨(0x1c0040c + i * 0x10), 13, 3, .srw, (.n 1 : Rst).eval i (0x1c0040c + i * 0x10) 13⟩
/-- R267 QPROF_SPILL_MAX. -/
def QPROF_SPILL_MAX (i : Nat) : Fld := ⟨(0x1c0040c + i * 0x10), 16, 16, .srw, (.n 0xffff : Rst).eval i (0x1c0040c + i * 0x10) 16⟩
/-- R267 WREDP_MIN. -/
def WREDP_MIN (i : Nat) : Fld := ⟨(0x1c00600 + i * 0x10), 0, 21, .srw, (.n 0 : Rst).eval i (0x1c00600 + i * 0x10) 0⟩
/-- R267 WREDP_MAX. -/
def WREDP_MAX (i : Nat) : Fld := ⟨(0x1c00604 + i * 0x10), 0, 21, .srw, (.n 0 : Rst).eval i (0x1c00604 + i * 0x10) 0⟩
/-- R267 WREDP_MAX_P. -/
def WREDP_MAX_P (i : Nat) : Fld := ⟨(0x1c00608 + i * 0x10), 0, 8, .srw, (.n 0 : Rst).eval i (0x1c00608 + i * 0x10) 0⟩
/-- R267 WREDP_WEIGHT. -/
def WREDP_WEIGHT (i : Nat) : Fld := ⟨(0x1c00608 + i * 0x10), 8, 4, .srw, (.n 9 : Rst).eval i (0x1c00608 + i * 0x10) 8⟩
/-- R267 BMP_ING_POOL_MAP. -/
def BMP_ING_POOL_MAP (i : Nat) : Fld := ⟨(0x1c01000 + i * 8), 0, 32, .srw, (.n 0 : Rst).eval i (0x1c01000 + i * 8) 0⟩
/-- R267 BMP_DEFAULT_PRI. -/
def BMP_DEFAULT_PRI (i : Nat) : Fld := ⟨(0x1c01004 + i * 8), 0, 3, .srw, (.n 0 : Rst).eval i (0x1c01004 + i * 8) 0⟩
/-- R267 BMP_CT_IN_EN. -/
def BMP_CT_IN_EN (i : Nat) : Fld := ⟨(0x1c01004 + i * 8), 3, 1, .srw, (.n 0 : Rst).eval i (0x1c01004 + i * 8) 3⟩
/-- R267 BMP_CT_EN. -/
def BMP_CT_EN (i : Nat) : Fld := ⟨(0x1c03000 + i * 4), 0, 8, .srw, (.n 0 : Rst).eval i (0x1c03000 + i * 4) 0⟩
/-- R267 BMP_PUSH_EN. -/
def BMP_PUSH_EN (i : Nat) : Fld := ⟨(0x1c03000 + i * 4), 8, 1, .srw, (.n 0 : Rst).eval i (0x1c03000 + i * 4) 8⟩
/-- R267 BMP_PUSH_MIN_CLASS. -/
def BMP_PUSH_MIN_CLASS (i : Nat) : Fld := ⟨(0x1c03000 + i * 4), 9, 3, .srw, (.n 6 : Rst).eval i (0x1c03000 + i * 4) 9⟩
/-- R267 BMQ_PROFILE. -/
def BMQ_PROFILE (i : Nat) : Fld := ⟨(0x1c08000 + i * 4), 0, 5, .srw, (.n 0 : Rst).eval i (0x1c08000 + i * 4) 0⟩
/-- R267 BMQ_POOL. -/
def BMQ_POOL (i : Nat) : Fld := ⟨(0x1c08000 + i * 4), 5, 4, .srw, (.n 0 : Rst).eval i (0x1c08000 + i * 4) 5⟩
/-- R267 BMQ_FILL. -/
def BMQ_FILL (i : Nat) : Fld := ⟨(0x1c10000 + i * 4), 0, 21, .ro, (.n 0 : Rst).eval i (0x1c10000 + i * 4) 0⟩
/-- R267 BMQ_QUEUE_SPILL. -/
def BMQ_QUEUE_SPILL (i : Nat) : Fld := ⟨(0x1c18000 + i * 4), 0, 26, .ro, (.n 0 : Rst).eval i (0x1c18000 + i * 4) 0⟩
/-- R267 MIR_MODE. -/
def MIR_MODE (i : Nat) : Fld := ⟨(0x1c04000 + i * 0x40), 0, 2, .srw, (.n 0 : Rst).eval i (0x1c04000 + i * 0x40) 0⟩
/-- R267 MIR_DEST. -/
def MIR_DEST (i : Nat) : Fld := ⟨(0x1c04000 + i * 0x40), 2, 10, .srw, (.n 0x3ff : Rst).eval i (0x1c04000 + i * 0x40) 2⟩
/-- R267 MIR_CLASS. -/
def MIR_CLASS (i : Nat) : Fld := ⟨(0x1c04000 + i * 0x40), 12, 3, .srw, (.n 0 : Rst).eval i (0x1c04000 + i * 0x40) 12⟩
/-- R267 MIR_SAMPLE. -/
def MIR_SAMPLE (i : Nat) : Fld := ⟨(0x1c04000 + i * 0x40), 15, 4, .srw, (.n 0 : Rst).eval i (0x1c04000 + i * 0x40) 15⟩
/-- R267 MIR_TRUNC. -/
def MIR_TRUNC (i : Nat) : Fld := ⟨(0x1c04000 + i * 0x40), 19, 8, .srw, (.n 0 : Rst).eval i (0x1c04000 + i * 0x40) 19⟩
/-- R267 MIR_ENC_DA_LO. -/
def MIR_ENC_DA_LO (i : Nat) : Fld := ⟨(0x1c04004 + i * 0x40), 0, 32, .srw, (.n 0 : Rst).eval i (0x1c04004 + i * 0x40) 0⟩
/-- R267 MIR_ENC_DA_HI. -/
def MIR_ENC_DA_HI (i : Nat) : Fld := ⟨(0x1c04008 + i * 0x40), 0, 16, .srw, (.n 0 : Rst).eval i (0x1c04008 + i * 0x40) 0⟩
/-- R267 MIR_ENC_VID. -/
def MIR_ENC_VID (i : Nat) : Fld := ⟨(0x1c04008 + i * 0x40), 16, 12, .srw, (.n 0 : Rst).eval i (0x1c04008 + i * 0x40) 16⟩
/-- R267 MIR_ENC_SA_LO. -/
def MIR_ENC_SA_LO (i : Nat) : Fld := ⟨(0x1c0400c + i * 0x40), 0, 32, .srw, (.n 0 : Rst).eval i (0x1c0400c + i * 0x40) 0⟩
/-- R267 MIR_ENC_SA_HI. -/
def MIR_ENC_SA_HI (i : Nat) : Fld := ⟨(0x1c04010 + i * 0x40), 0, 16, .srw, (.n 0 : Rst).eval i (0x1c04010 + i * 0x40) 0⟩
/-- R267 MIR_ENC_DSCP. -/
def MIR_ENC_DSCP (i : Nat) : Fld := ⟨(0x1c04010 + i * 0x40), 16, 6, .srw, (.n 0 : Rst).eval i (0x1c04010 + i * 0x40) 16⟩
/-- R267 MIR_ENC_TTL. -/
def MIR_ENC_TTL (i : Nat) : Fld := ⟨(0x1c04010 + i * 0x40), 24, 8, .srw, (.n 0x40 : Rst).eval i (0x1c04010 + i * 0x40) 24⟩
/-- R267 MIR_ENC_SRC_IP. -/
def MIR_ENC_SRC_IP (i : Nat) : Fld := ⟨(0x1c04014 + i * 0x40), 0, 32, .srw, (.n 0 : Rst).eval i (0x1c04014 + i * 0x40) 0⟩
/-- R267 MIR_ENC_DST_IP. -/
def MIR_ENC_DST_IP (i : Nat) : Fld := ⟨(0x1c04018 + i * 0x40), 0, 32, .srw, (.n 0 : Rst).eval i (0x1c04018 + i * 0x40) 0⟩
/-- R267 MIR_SEQ. -/
def MIR_SEQ (i : Nat) : Fld := ⟨(0x1c0401c + i * 0x40), 0, 32, .ro, (.n 0 : Rst).eval i (0x1c0401c + i * 0x40) 0⟩
/-- R301 EG_SCHED_STICKY. -/
def EG_SCHED_STICKY : Fld := ⟨0x2000000, 0, 6, .w1c, (.n 0 : Rst).eval 0 0x2000000 0⟩
/-- R301 EG_REFILL_NUM_LO. -/
def EG_REFILL_NUM_LO : Fld := ⟨0x2000008, 0, 32, .ro, (.n 0 : Rst).eval 0 0x2000008 0⟩
/-- R301 EG_REFILL_NUM_HI. -/
def EG_REFILL_NUM_HI : Fld := ⟨0x200000c, 0, 32, .ro, (.n 0 : Rst).eval 0 0x200000c 0⟩
/-- R301 EG_PROFILE_PENDING. -/
def EG_PROFILE_PENDING : Fld := ⟨0x2000010, 0, 14, .ro, (.n 0 : Rst).eval 0 0x2000010 0⟩
/-- R301 EGQ_LEVEL. -/
def EGQ_LEVEL (i : Nat) : Fld := ⟨(0x2100000 + i * 0x10), 0, 3, .srw, (.mod 8 : Rst).eval i (0x2100000 + i * 0x10) 0⟩
/-- R301 EGQ_QUANTUM. -/
def EGQ_QUANTUM (i : Nat) : Fld := ⟨(0x2100000 + i * 0x10), 4, 12, .srw, (.n 0xa0 : Rst).eval i (0x2100000 + i * 0x10) 4⟩
/-- R301 EGQ_SHAPE_EN. -/
def EGQ_SHAPE_EN (i : Nat) : Fld := ⟨(0x2100000 + i * 0x10), 16, 1, .ro, (.n 0 : Rst).eval i (0x2100000 + i * 0x10) 16⟩
/-- R301 EGQ_OVERHEAD. -/
def EGQ_OVERHEAD (i : Nat) : Fld := ⟨(0x2100000 + i * 0x10), 17, 7, .ro, (.n 20 : Rst).eval i (0x2100000 + i * 0x10) 17⟩
/-- R301 EGQ_INC. -/
def EGQ_INC (i : Nat) : Fld := ⟨(0x2100004 + i * 0x10), 0, 32, .ro, (.n 0 : Rst).eval i (0x2100004 + i * 0x10) 0⟩
/-- R301 EGQ_BURST. -/
def EGQ_BURST (i : Nat) : Fld := ⟨(0x2100008 + i * 0x10), 0, 24, .ro, (.n 0x4000 : Rst).eval i (0x2100008 + i * 0x10) 0⟩
/-- R301 EGQ_ELIGIBLE. -/
def EGQ_ELIGIBLE (i : Nat) : Fld := ⟨(0x210000c + i * 0x10), 0, 1, .ro, (.n 0 : Rst).eval i (0x210000c + i * 0x10) 0⟩
/-- R301 EGQ_SHAPER_DUE. -/
def EGQ_SHAPER_DUE (i : Nat) : Fld := ⟨(0x210000c + i * 0x10), 1, 1, .ro, (.n 1 : Rst).eval i (0x210000c + i * 0x10) 1⟩
/-- R301 EGQ_GATE_OK. -/
def EGQ_GATE_OK (i : Nat) : Fld := ⟨(0x210000c + i * 0x10), 2, 1, .ro, (.n 1 : Rst).eval i (0x210000c + i * 0x10) 2⟩
/-- R301 EGQ_IN_TURN. -/
def EGQ_IN_TURN (i : Nat) : Fld := ⟨(0x210000c + i * 0x10), 3, 1, .ro, (.n 0 : Rst).eval i (0x210000c + i * 0x10) 3⟩
/-- R301 EGQ_DEFICIT. -/
def EGQ_DEFICIT (i : Nat) : Fld := ⟨(0x210000c + i * 0x10), 8, 24, .ro, (.n 0 : Rst).eval i (0x210000c + i * 0x10) 8⟩
/-- R301 EGP_SHAPE_EN. -/
def EGP_SHAPE_EN (i : Nat) : Fld := ⟨(0x2200000 + i * 0x80), 0, 1, .ro, (.n 0 : Rst).eval i (0x2200000 + i * 0x80) 0⟩
/-- R301 EGP_OVERHEAD. -/
def EGP_OVERHEAD (i : Nat) : Fld := ⟨(0x2200000 + i * 0x80), 1, 7, .ro, (.n 20 : Rst).eval i (0x2200000 + i * 0x80) 1⟩
/-- R301 EGP_LENGTH_AWARE. -/
def EGP_LENGTH_AWARE (i : Nat) : Fld := ⟨(0x2200000 + i * 0x80), 8, 1, .srw, (.n 1 : Rst).eval i (0x2200000 + i * 0x80) 8⟩
/-- R301 EGP_GATE_EN. -/
def EGP_GATE_EN (i : Nat) : Fld := ⟨(0x2200000 + i * 0x80), 9, 1, .srw, (.n 0 : Rst).eval i (0x2200000 + i * 0x80) 9⟩
/-- R301 EGP_ADMIN_GATE_STATES. -/
def EGP_ADMIN_GATE_STATES (i : Nat) : Fld := ⟨(0x2200000 + i * 0x80), 10, 8, .srw, (.n 0xff : Rst).eval i (0x2200000 + i * 0x80) 10⟩
/-- R301 EGP_TX_ADVANCE. -/
def EGP_TX_ADVANCE (i : Nat) : Fld := ⟨(0x2200000 + i * 0x80), 18, 10, .srw, (.n 0 : Rst).eval i (0x2200000 + i * 0x80) 18⟩
/-- R301 EGP_INC. -/
def EGP_INC (i : Nat) : Fld := ⟨(0x2200004 + i * 0x80), 0, 32, .ro, (.n 0 : Rst).eval i (0x2200004 + i * 0x80) 0⟩
/-- R301 EGP_BURST. -/
def EGP_BURST (i : Nat) : Fld := ⟨(0x2200008 + i * 0x80), 0, 24, .ro, (.n 0x4000 : Rst).eval i (0x2200008 + i * 0x80) 0⟩
/-- R301 EGP_GATE_BASE_LO. -/
def EGP_GATE_BASE_LO (i : Nat) : Fld := ⟨(0x2200010 + i * 0x80), 0, 30, .ro, (.n 0 : Rst).eval i (0x2200010 + i * 0x80) 0⟩
/-- R301 EGP_GATE_BASE_HI. -/
def EGP_GATE_BASE_HI (i : Nat) : Fld := ⟨(0x2200014 + i * 0x80), 0, 32, .ro, (.n 0 : Rst).eval i (0x2200014 + i * 0x80) 0⟩
/-- R301 EGP_GATE_CYCLE. -/
def EGP_GATE_CYCLE (i : Nat) : Fld := ⟨(0x2200018 + i * 0x80), 0, 30, .ro, (.n 0 : Rst).eval i (0x2200018 + i * 0x80) 0⟩
/-- R301 EGP_GATE_CYCLE_EXT. -/
def EGP_GATE_CYCLE_EXT (i : Nat) : Fld := ⟨(0x220001c + i * 0x80), 0, 30, .ro, (.n 0 : Rst).eval i (0x220001c + i * 0x80) 0⟩
/-- R301 EGP_GATE_CHANGE_LO. -/
def EGP_GATE_CHANGE_LO (i : Nat) : Fld := ⟨(0x2200020 + i * 0x80), 0, 30, .ro, (.n 0 : Rst).eval i (0x2200020 + i * 0x80) 0⟩
/-- R301 EGP_GATE_CHANGE_HI. -/
def EGP_GATE_CHANGE_HI (i : Nat) : Fld := ⟨(0x2200024 + i * 0x80), 0, 32, .ro, (.n 0 : Rst).eval i (0x2200024 + i * 0x80) 0⟩
/-- R301 EGP_OPER_GATE_STATES. -/
def EGP_OPER_GATE_STATES (i : Nat) : Fld := ⟨(0x2200028 + i * 0x80), 0, 8, .ro, (.n 0xff : Rst).eval i (0x2200028 + i * 0x80) 0⟩
/-- R301 EGP_ENTRY. -/
def EGP_ENTRY (i : Nat) : Fld := ⟨(0x2200028 + i * 0x80), 8, 10, .ro, (.n 0 : Rst).eval i (0x2200028 + i * 0x80) 8⟩
/-- R301 EGP_PENDING. -/
def EGP_PENDING (i : Nat) : Fld := ⟨(0x2200028 + i * 0x80), 18, 1, .ro, (.n 0 : Rst).eval i (0x2200028 + i * 0x80) 18⟩
/-- R301 EGP_OPER_VALID. -/
def EGP_OPER_VALID (i : Nat) : Fld := ⟨(0x2200028 + i * 0x80), 19, 1, .ro, (.n 0 : Rst).eval i (0x2200028 + i * 0x80) 19⟩
/-- R301 EGP_OPER_LEN. -/
def EGP_OPER_LEN (i : Nat) : Fld := ⟨(0x220002c + i * 0x80), 0, 11, .ro, (.n 0 : Rst).eval i (0x220002c + i * 0x80) 0⟩
/-- R301 EGP_PENDING_LEN. -/
def EGP_PENDING_LEN (i : Nat) : Fld := ⟨(0x220002c + i * 0x80), 16, 11, .ro, (.n 0 : Rst).eval i (0x220002c + i * 0x80) 16⟩
/-- R301 SG_EN. -/
def SG_EN (i : Nat) : Fld := ⟨(0x2300000 + i * 0x40), 0, 1, .srw, (.n 0 : Rst).eval i (0x2300000 + i * 0x40) 0⟩
/-- R301 SG_ADMIN_OPEN. -/
def SG_ADMIN_OPEN (i : Nat) : Fld := ⟨(0x2300000 + i * 0x40), 1, 1, .srw, (.n 1 : Rst).eval i (0x2300000 + i * 0x40) 1⟩
/-- R301 SG_CLOSE_ON_INVALID. -/
def SG_CLOSE_ON_INVALID (i : Nat) : Fld := ⟨(0x2300000 + i * 0x40), 2, 1, .srw, (.n 0 : Rst).eval i (0x2300000 + i * 0x40) 2⟩
/-- R301 SG_CLOSE_ON_OCTETS. -/
def SG_CLOSE_ON_OCTETS (i : Nat) : Fld := ⟨(0x2300000 + i * 0x40), 3, 1, .srw, (.n 0 : Rst).eval i (0x2300000 + i * 0x40) 3⟩
/-- R301 SG_ADMIN_IPV_VALID. -/
def SG_ADMIN_IPV_VALID (i : Nat) : Fld := ⟨(0x2300000 + i * 0x40), 4, 1, .srw, (.n 0 : Rst).eval i (0x2300000 + i * 0x40) 4⟩
/-- R301 SG_ADMIN_IPV. -/
def SG_ADMIN_IPV (i : Nat) : Fld := ⟨(0x2300000 + i * 0x40), 5, 3, .srw, (.n 0 : Rst).eval i (0x2300000 + i * 0x40) 5⟩
/-- R301 SG_OPEN. -/
def SG_OPEN (i : Nat) : Fld := ⟨(0x2300004 + i * 0x40), 0, 1, .ro, (.n 1 : Rst).eval i (0x2300004 + i * 0x40) 0⟩
/-- R301 SG_IPV_VALID. -/
def SG_IPV_VALID (i : Nat) : Fld := ⟨(0x2300004 + i * 0x40), 1, 1, .ro, (.n 0 : Rst).eval i (0x2300004 + i * 0x40) 1⟩
/-- R301 SG_IPV. -/
def SG_IPV (i : Nat) : Fld := ⟨(0x2300004 + i * 0x40), 2, 3, .ro, (.n 0 : Rst).eval i (0x2300004 + i * 0x40) 2⟩
/-- R301 SG_CLOSED_INVALID. -/
def SG_CLOSED_INVALID (i : Nat) : Fld := ⟨(0x2300004 + i * 0x40), 5, 1, .w1c, (.n 0 : Rst).eval i (0x2300004 + i * 0x40) 5⟩
/-- R301 SG_CLOSED_OCTETS. -/
def SG_CLOSED_OCTETS (i : Nat) : Fld := ⟨(0x2300004 + i * 0x40), 6, 1, .w1c, (.n 0 : Rst).eval i (0x2300004 + i * 0x40) 6⟩
/-- R301 SG_PENDING. -/
def SG_PENDING (i : Nat) : Fld := ⟨(0x2300004 + i * 0x40), 7, 1, .ro, (.n 0 : Rst).eval i (0x2300004 + i * 0x40) 7⟩
/-- R301 SG_ENTRY. -/
def SG_ENTRY (i : Nat) : Fld := ⟨(0x2300004 + i * 0x40), 8, 6, .ro, (.n 0 : Rst).eval i (0x2300004 + i * 0x40) 8⟩
/-- R301 SG_SGATE_CHANGE_LO. -/
def SG_SGATE_CHANGE_LO (i : Nat) : Fld := ⟨(0x2300008 + i * 0x40), 0, 30, .ro, (.n 0 : Rst).eval i (0x2300008 + i * 0x40) 0⟩
/-- R301 SG_SGATE_CHANGE_HI. -/
def SG_SGATE_CHANGE_HI (i : Nat) : Fld := ⟨(0x230000c + i * 0x40), 0, 32, .ro, (.n 0 : Rst).eval i (0x230000c + i * 0x40) 0⟩
/-- R301 SG_SGATE_CYCLE. -/
def SG_SGATE_CYCLE (i : Nat) : Fld := ⟨(0x2300010 + i * 0x40), 0, 30, .ro, (.n 0 : Rst).eval i (0x2300010 + i * 0x40) 0⟩
/-- R301 SG_SGATE_BASE_LO. -/
def SG_SGATE_BASE_LO (i : Nat) : Fld := ⟨(0x2300018 + i * 0x40), 0, 30, .ro, (.n 0 : Rst).eval i (0x2300018 + i * 0x40) 0⟩
/-- R301 SG_SGATE_BASE_HI. -/
def SG_SGATE_BASE_HI (i : Nat) : Fld := ⟨(0x230001c + i * 0x40), 0, 32, .ro, (.n 0 : Rst).eval i (0x230001c + i * 0x40) 0⟩
/-- R330 TU_PPS_IN_EN. -/
def TU_PPS_IN_EN : Fld := ⟨0x200000, 0, 1, .rw, (.n 0 : Rst).eval 0 0x200000 0⟩
/-- R330 TU_PPS_IN_POL. -/
def TU_PPS_IN_POL : Fld := ⟨0x200000, 1, 1, .rw, (.n 0 : Rst).eval 0 0x200000 1⟩
/-- R330 TU_EVT_EN. -/
def TU_EVT_EN : Fld := ⟨0x200000, 2, 4, .rw, (.n 0 : Rst).eval 0 0x200000 2⟩
/-- R330 TU_EVT_POL. -/
def TU_EVT_POL : Fld := ⟨0x200000, 6, 4, .rw, (.n 0 : Rst).eval 0 0x200000 6⟩
/-- R330 TU_PPS_OUT_EN. -/
def TU_PPS_OUT_EN : Fld := ⟨0x200000, 10, 1, .rw, (.n 0 : Rst).eval 0 0x200000 10⟩
/-- R330 TU_TIME_VALID. -/
def TU_TIME_VALID : Fld := ⟨0x200004, 0, 1, .ro, (.n 0 : Rst).eval 0 0x200004 0⟩
/-- R330 TU_REF_LOCKED. -/
def TU_REF_LOCKED : Fld := ⟨0x200004, 1, 1, .ro, (.n 0 : Rst).eval 0 0x200004 1⟩
/-- R330 TU_HOLDOVER. -/
def TU_HOLDOVER : Fld := ⟨0x200004, 2, 1, .ro, (.n 0 : Rst).eval 0 0x200004 2⟩
/-- R330 TU_PPS_PRESENT. -/
def TU_PPS_PRESENT : Fld := ⟨0x200004, 3, 1, .ro, (.n 0 : Rst).eval 0 0x200004 3⟩
/-- R330 TU_TIME_STICKY. -/
def TU_TIME_STICKY : Fld := ⟨0x200008, 0, 7, .w1c, (.n 0 : Rst).eval 0 0x200008 0⟩
/-- R330 TU_TIME_NOW_LO. -/
def TU_TIME_NOW_LO : Fld := ⟨0x200010, 0, 30, .ro, (.n 0 : Rst).eval 0 0x200010 0⟩
/-- R330 TU_TIME_NOW_HI. -/
def TU_TIME_NOW_HI : Fld := ⟨0x200014, 0, 32, .ro, (.n 0 : Rst).eval 0 0x200014 0⟩
/-- R330 TU_TIME_SEC_TOP. -/
def TU_TIME_SEC_TOP : Fld := ⟨0x200018, 0, 16, .ro, (.n 0 : Rst).eval 0 0x200018 0⟩
/-- R330 TU_TIME_INC_NS. -/
def TU_TIME_INC_NS : Fld := ⟨0x200020, 0, 32, .ro, (.n 1 : Rst).eval 0 0x200020 0⟩
/-- R330 TU_TIME_INC_FRAC. -/
def TU_TIME_INC_FRAC : Fld := ⟨0x200024, 0, 32, .ro, (.n 0x47ae147b : Rst).eval 0 0x200024 0⟩
/-- R330 TU_TICK_COUNT_LO. -/
def TU_TICK_COUNT_LO : Fld := ⟨0x200028, 0, 32, .ro, (.n 0 : Rst).eval 0 0x200028 0⟩
/-- R330 TU_TICK_COUNT_HI. -/
def TU_TICK_COUNT_HI : Fld := ⟨0x20002c, 0, 32, .ro, (.n 0 : Rst).eval 0 0x20002c 0⟩
/-- R330 TU_STEP_COUNT. -/
def TU_STEP_COUNT : Fld := ⟨0x200030, 0, 16, .ro, (.n 0 : Rst).eval 0 0x200030 0⟩
/-- R330 TU_PPS_OUT_PERIOD. -/
def TU_PPS_OUT_PERIOD : Fld := ⟨0x200040, 0, 30, .rw, (.n 0x3b9aca00 : Rst).eval 0 0x200040 0⟩
/-- R330 TU_PPS_OUT_WIDTH. -/
def TU_PPS_OUT_WIDTH : Fld := ⟨0x200044, 0, 30, .rw, (.n 0xf4240 : Rst).eval 0 0x200044 0⟩
/-- R330 TU_PPS_OUT_PHASE. -/
def TU_PPS_OUT_PHASE : Fld := ⟨0x200048, 0, 30, .rw, (.n 0 : Rst).eval 0 0x200048 0⟩
/-- R330 TU_CAP_LO. -/
def TU_CAP_LO (i : Nat) : Fld := ⟨(0x200080 + i * 0x10), 0, 30, .ro, (.n 0 : Rst).eval i (0x200080 + i * 0x10) 0⟩
/-- R330 TU_CAP_HI. -/
def TU_CAP_HI (i : Nat) : Fld := ⟨(0x200084 + i * 0x10), 0, 32, .ro, (.n 0 : Rst).eval i (0x200084 + i * 0x10) 0⟩
/-- R330 TU_LEVEL. -/
def TU_LEVEL (i : Nat) : Fld := ⟨(0x200088 + i * 0x10), 0, 5, .ro, (.n 0 : Rst).eval i (0x200088 + i * 0x10) 0⟩
/-- R330 TU_OVERRUN. -/
def TU_OVERRUN (i : Nat) : Fld := ⟨(0x200088 + i * 0x10), 5, 1, .w1c, (.n 0 : Rst).eval i (0x200088 + i * 0x10) 5⟩
/-- R330 TU_OVERFLOW. -/
def TU_OVERFLOW (i : Nat) : Fld := ⟨(0x200088 + i * 0x10), 6, 1, .w1c, (.n 0 : Rst).eval i (0x200088 + i * 0x10) 6⟩
/-- R330 TU_CAP_POP. -/
def TU_CAP_POP (i : Nat) : Fld := ⟨(0x20008c + i * 0x10), 0, 1, .wo, (.n 0 : Rst).eval i (0x20008c + i * 0x10) 0⟩
/-- R330 TU_TSQ_SUMMARY. -/
def TU_TSQ_SUMMARY : Fld := ⟨0x200100, 0, 32, .ro, (.n 0 : Rst).eval 0 0x200100 0⟩
/-- R330 TU_TSQ_LEVEL. -/
def TU_TSQ_LEVEL (i : Nat) : Fld := ⟨(0x200200 + i * 4), 0, 7, .ro, (.n 0 : Rst).eval i (0x200200 + i * 4) 0⟩
/-- R330 TU_TSQ_OVERFLOW. -/
def TU_TSQ_OVERFLOW (i : Nat) : Fld := ⟨(0x200200 + i * 4), 7, 1, .w1c, (.n 0 : Rst).eval i (0x200200 + i * 4) 7⟩
/-- R330 TU_TSQ_DROPPED. -/
def TU_TSQ_DROPPED (i : Nat) : Fld := ⟨(0x200200 + i * 4), 16, 16, .ro, (.n 0 : Rst).eval i (0x200200 + i * 4) 16⟩
/-- R331 PTP_TC_MODE. -/
def PTP_TC_MODE (p : Nat) : Fld := ⟨(0x800100 + p / 16 * 0x80000 + p % 16 * 0x1000), 0, 2, .srw, (.n 0 : Rst).eval p (0x800100 + p / 16 * 0x80000 + p % 16 * 0x1000) 0⟩
/-- R331 PTP_RX_TS_ADJ. -/
def PTP_RX_TS_ADJ (p : Nat) : Fld := ⟨(0x800104 + p / 16 * 0x80000 + p % 16 * 0x1000), 0, 16, .srw, (.n 0 : Rst).eval p (0x800104 + p / 16 * 0x80000 + p % 16 * 0x1000) 0⟩
/-- R331 PTP_TX_TS_ADJ. -/
def PTP_TX_TS_ADJ (p : Nat) : Fld := ⟨(0x800108 + p / 16 * 0x80000 + p % 16 * 0x1000), 0, 16, .srw, (.n 0 : Rst).eval p (0x800108 + p / 16 * 0x80000 + p % 16 * 0x1000) 0⟩
/-- R331 PTP_PEER_DELAY. -/
def PTP_PEER_DELAY (p : Nat) : Fld := ⟨(0x80010c + p / 16 * 0x80000 + p % 16 * 0x1000), 0, 32, .srw, (.n 0 : Rst).eval p (0x80010c + p / 16 * 0x80000 + p % 16 * 0x1000) 0⟩
/-- R360 WICK_CTRL_FORCE. -/
def WICK_CTRL_FORCE (i : Nat) : Fld := ⟨(0x850000 + i * 0x80000), 0, 2, .krw, (.n 0 : Rst).eval i (0x850000 + i * 0x80000) 0⟩
/-- R360 WICK_CTRL_TRIM_PERIOD. -/
def WICK_CTRL_TRIM_PERIOD (i : Nat) : Fld := ⟨(0x850000 + i * 0x80000), 8, 8, .rw, (.n 0 : Rst).eval i (0x850000 + i * 0x80000) 8⟩
/-- R360 WICK_CTRL_TRIM_OFFSET. -/
def WICK_CTRL_TRIM_OFFSET (i : Nat) : Fld := ⟨(0x850000 + i * 0x80000), 16, 12, .rw, (.n 0 : Rst).eval i (0x850000 + i * 0x80000) 16⟩
/-- R360 WICK_ROLE_STATE_A. -/
def WICK_ROLE_STATE_A (i : Nat) : Fld := ⟨(0x850004 + i * 0x80000), 0, 3, .ro, (.n 0 : Rst).eval i (0x850004 + i * 0x80000) 0⟩
/-- R360 WICK_ROLE_STATE_B. -/
def WICK_ROLE_STATE_B (i : Nat) : Fld := ⟨(0x850004 + i * 0x80000), 3, 3, .ro, (.n 0 : Rst).eval i (0x850004 + i * 0x80000) 3⟩
/-- R360 WICK_ROLE_ACTIVE_WICK. -/
def WICK_ROLE_ACTIVE_WICK (i : Nat) : Fld := ⟨(0x850004 + i * 0x80000), 6, 1, .ro, (.n 0 : Rst).eval i (0x850004 + i * 0x80000) 6⟩
/-- R360 WICK_ROLE_HALTED. -/
def WICK_ROLE_HALTED (i : Nat) : Fld := ⟨(0x850004 + i * 0x80000), 7, 1, .ro, (.n 1 : Rst).eval i (0x850004 + i * 0x80000) 7⟩
/-- R360 WICK_ROLE_OVERLAP. -/
def WICK_ROLE_OVERLAP (i : Nat) : Fld := ⟨(0x850004 + i * 0x80000), 8, 1, .ro, (.n 0 : Rst).eval i (0x850004 + i * 0x80000) 8⟩
/-- R360 WICK_ROLE_BUSY. -/
def WICK_ROLE_BUSY (i : Nat) : Fld := ⟨(0x850004 + i * 0x80000), 9, 1, .ro, (.n 0 : Rst).eval i (0x850004 + i * 0x80000) 9⟩
/-- R360 WICK_STICKY_TAKEOVER_SEEN. -/
def WICK_STICKY_TAKEOVER_SEEN (i : Nat) : Fld := ⟨(0x850008 + i * 0x80000), 0, 1, .w1c, (.n 0 : Rst).eval i (0x850008 + i * 0x80000) 0⟩
/-- R360 WICK_STICKY_STANDBY_SNUFF_SEEN. -/
def WICK_STICKY_STANDBY_SNUFF_SEEN (i : Nat) : Fld := ⟨(0x850008 + i * 0x80000), 1, 1, .w1c, (.n 0 : Rst).eval i (0x850008 + i * 0x80000) 1⟩
/-- R360 WICK_STICKY_HALT_SEEN. -/
def WICK_STICKY_HALT_SEEN (i : Nat) : Fld := ⟨(0x850008 + i * 0x80000), 2, 1, .w1c, (.n 0 : Rst).eval i (0x850008 + i * 0x80000) 2⟩
/-- R360 WICK_STICKY_RELIGHT_FAIL. -/
def WICK_STICKY_RELIGHT_FAIL (i : Nat) : Fld := ⟨(0x850008 + i * 0x80000), 3, 1, .w1c, (.n 0 : Rst).eval i (0x850008 + i * 0x80000) 3⟩
/-- R360 WICK_STICKY_TRIM_DONE. -/
def WICK_STICKY_TRIM_DONE (i : Nat) : Fld := ⟨(0x850008 + i * 0x80000), 4, 1, .w1c, (.n 0 : Rst).eval i (0x850008 + i * 0x80000) 4⟩
/-- R360 WICK_STICKY_BEACON_INVALID_SEEN. -/
def WICK_STICKY_BEACON_INVALID_SEEN (i : Nat) : Fld := ⟨(0x850008 + i * 0x80000), 5, 1, .w1c, (.n 0 : Rst).eval i (0x850008 + i * 0x80000) 5⟩
/-- R360 WICK_STICKY_BEACON_QUEUE_FULL. -/
def WICK_STICKY_BEACON_QUEUE_FULL (i : Nat) : Fld := ⟨(0x850008 + i * 0x80000), 6, 1, .w1c, (.n 0 : Rst).eval i (0x850008 + i * 0x80000) 6⟩
/-- R360 SNUFF_INFO_CAUSE. -/
def SNUFF_INFO_CAUSE (i : Nat) : Fld := ⟨(0x850010 + i * 0x80000), 0, 4, .ro, (.n 0 : Rst).eval i (0x850010 + i * 0x80000) 0⟩
/-- R360 SNUFF_INFO_WICK. -/
def SNUFF_INFO_WICK (i : Nat) : Fld := ⟨(0x850010 + i * 0x80000), 4, 1, .ro, (.n 0 : Rst).eval i (0x850010 + i * 0x80000) 4⟩
/-- R360 SNUFF_INFO_DUP_COUNT. -/
def SNUFF_INFO_DUP_COUNT (i : Nat) : Fld := ⟨(0x850010 + i * 0x80000), 5, 3, .ro, (.n 0 : Rst).eval i (0x850010 + i * 0x80000) 5⟩
/-- R360 SNUFF_INFO_OPCODE. -/
def SNUFF_INFO_OPCODE (i : Nat) : Fld := ⟨(0x850010 + i * 0x80000), 8, 8, .ro, (.n 0 : Rst).eval i (0x850010 + i * 0x80000) 8⟩
/-- R360 SNUFF_INFO_WORD_ID. -/
def SNUFF_INFO_WORD_ID (i : Nat) : Fld := ⟨(0x850010 + i * 0x80000), 16, 16, .ro, (.n 0 : Rst).eval i (0x850010 + i * 0x80000) 16⟩
/-- R360 WK_SNUFF_FLC_LO. -/
def WK_SNUFF_FLC_LO (i : Nat) : Fld := ⟨(0x850014 + i * 0x80000), 0, 32, .ro, (.n 0xffffffff : Rst).eval i (0x850014 + i * 0x80000) 0⟩
/-- R360 WK_SNUFF_FLC_HI. -/
def WK_SNUFF_FLC_HI (i : Nat) : Fld := ⟨(0x850018 + i * 0x80000), 0, 32, .ro, (.n 0xffffffff : Rst).eval i (0x850018 + i * 0x80000) 0⟩
/-- R360 WK_SNUFF_TIME_LO. -/
def WK_SNUFF_TIME_LO (i : Nat) : Fld := ⟨(0x85001c + i * 0x80000), 0, 30, .ro, (.n 0 : Rst).eval i (0x85001c + i * 0x80000) 0⟩
/-- R360 WK_SNUFF_TIME_HI. -/
def WK_SNUFF_TIME_HI (i : Nat) : Fld := ⟨(0x850020 + i * 0x80000), 0, 32, .ro, (.n 0 : Rst).eval i (0x850020 + i * 0x80000) 0⟩
/-- R360 WK_SNUFF_COUNT_A. -/
def WK_SNUFF_COUNT_A (i : Nat) : Fld := ⟨(0x850024 + i * 0x80000), 0, 16, .ro, (.n 0 : Rst).eval i (0x850024 + i * 0x80000) 0⟩
/-- R360 WK_SNUFF_COUNT_B. -/
def WK_SNUFF_COUNT_B (i : Nat) : Fld := ⟨(0x850024 + i * 0x80000), 16, 16, .ro, (.n 0 : Rst).eval i (0x850024 + i * 0x80000) 16⟩
/-- R360 WK_DUP_TOTAL. -/
def WK_DUP_TOTAL (i : Nat) : Fld := ⟨(0x850028 + i * 0x80000), 0, 32, .ro, (.n 0 : Rst).eval i (0x850028 + i * 0x80000) 0⟩
/-- R360 WK_TRIM_COUNT. -/
def WK_TRIM_COUNT (i : Nat) : Fld := ⟨(0x85002c + i * 0x80000), 0, 32, .ro, (.n 0 : Rst).eval i (0x85002c + i * 0x80000) 0⟩
/-- R360 RECOVERY_STATUS_LEVEL_EAST. -/
def RECOVERY_STATUS_LEVEL_EAST : Fld := ⟨0x1802000, 0, 9, .ro, (.n 0 : Rst).eval 0 0x1802000 0⟩
/-- R360 RECOVERY_STATUS_LEVEL_WEST. -/
def RECOVERY_STATUS_LEVEL_WEST : Fld := ⟨0x1802000, 16, 9, .ro, (.n 0 : Rst).eval 0 0x1802000 16⟩

/-- The registers of chapter 07, part 0. -/
def rows07_0 : List RegRow := [
  ⟨0x1c00000, [], [⟨0, 8, .srw, .n 0⟩, ⟨16, 16, .srw, .n 0x88b5⟩]⟩,
  ⟨0x1c00004, [], [⟨0, 16, .srw, .n 0xace1⟩]⟩,
  ⟨0x1c00008, [], [⟨0, 9, .w1c, .n 0⟩]⟩,
  ⟨0x1c00010, [], [⟨0, 21, .ro, .n 0x100000⟩]⟩,
  ⟨0x1c00014, [], [⟨0, 21, .ro, .n 0x140000⟩]⟩,
  ⟨0x1c00018, [], [⟨0, 26, .ro, .n 0⟩]⟩,
  ⟨0x1c0001c, [], [⟨0, 4, .srw, .n 4⟩]⟩,
  ⟨0x1c00020, [], [⟨0, 21, .ro, .n 0⟩]⟩,
  ⟨0x1c00100, [(0x20, 16)], [⟨0, 21, .srw, .first 1048576⟩]⟩,
  ⟨0x1c00104, [(0x20, 16)], [⟨0, 21, .srw, .n 0⟩]⟩,
  ⟨0x1c00108, [(0x20, 16)], [⟨0, 21, .srw, .first 720896⟩]⟩,
  ⟨0x1c0010c, [(0x20, 16)], [⟨0, 21, .srw, .first 786432⟩]⟩,
  ⟨0x1c00110, [(0x20, 16)], [⟨0, 21, .srw, .first 917504⟩]⟩,
  ⟨0x1c00114, [(0x20, 16)], [⟨0, 21, .ro, .n 0⟩]⟩,
  ⟨0x1c00118, [(0x20, 16)], [⟨0, 21, .ro, .n 0⟩]⟩,
  ⟨0x1c0011c, [(0x20, 16)], [⟨0, 4, .ro, .n 0⟩]⟩,
  ⟨0x1c00400, [(0x10, 32)], [⟨0, 16, .srw, .n 0x10⟩]⟩,
  ⟨0x1c00404, [(0x10, 32)], [⟨0, 21, .srw, .n 0x10000⟩]⟩,
  ⟨0x1c00408, [(0x10, 32)], [⟨0, 21, .srw, .n 0x8000⟩, ⟨31, 1, .srw, .n 0⟩]⟩,
  ⟨0x1c0040c, [(0x10, 32)], [⟨0, 4, .srw, .n 0⟩, ⟨4, 4, .srw, .n 0⟩, ⟨8, 4, .srw, .n 0⟩, ⟨12, 1, .srw, .n 0⟩, ⟨13, 3, .srw, .n 1⟩, ⟨16, 16, .srw, .n 0xffff⟩]⟩,
  ⟨0x1c00600, [(0x10, 16)], [⟨0, 21, .srw, .n 0⟩]⟩,
  ⟨0x1c00604, [(0x10, 16)], [⟨0, 21, .srw, .n 0⟩]⟩,
  ⟨0x1c00608, [(0x10, 16)], [⟨0, 8, .srw, .n 0⟩, ⟨8, 4, .srw, .n 9⟩]⟩,
  ⟨0x1c01000, [(8, 518)], [⟨0, 32, .srw, .n 0⟩]⟩]

/-- The registers of chapter 07, part 1. -/
def rows07_1 : List RegRow := [
  ⟨0x1c01004, [(8, 518)], [⟨0, 3, .srw, .n 0⟩, ⟨3, 1, .srw, .n 0⟩]⟩,
  ⟨0x1c03000, [(4, 518)], [⟨0, 8, .srw, .n 0⟩, ⟨8, 1, .srw, .n 0⟩, ⟨9, 3, .srw, .n 6⟩]⟩,
  ⟨0x1c04000, [(0x40, 16)], [⟨0, 2, .srw, .n 0⟩, ⟨2, 10, .srw, .n 0x3ff⟩, ⟨12, 3, .srw, .n 0⟩, ⟨15, 4, .srw, .n 0⟩, ⟨19, 8, .srw, .n 0⟩]⟩,
  ⟨0x1c04004, [(0x40, 16)], [⟨0, 32, .srw, .n 0⟩]⟩,
  ⟨0x1c04008, [(0x40, 16)], [⟨0, 16, .srw, .n 0⟩, ⟨16, 12, .srw, .n 0⟩]⟩,
  ⟨0x1c0400c, [(0x40, 16)], [⟨0, 32, .srw, .n 0⟩]⟩,
  ⟨0x1c04010, [(0x40, 16)], [⟨0, 16, .srw, .n 0⟩, ⟨16, 6, .srw, .n 0⟩, ⟨24, 8, .srw, .n 0x40⟩]⟩,
  ⟨0x1c04014, [(0x40, 16)], [⟨0, 32, .srw, .n 0⟩]⟩,
  ⟨0x1c04018, [(0x40, 16)], [⟨0, 32, .srw, .n 0⟩]⟩,
  ⟨0x1c0401c, [(0x40, 16)], [⟨0, 32, .ro, .n 0⟩]⟩,
  ⟨0x1c08000, [(4, 8192)], [⟨0, 5, .srw, .n 0⟩, ⟨5, 4, .srw, .n 0⟩]⟩,
  ⟨0x1c10000, [(4, 8192)], [⟨0, 21, .ro, .n 0⟩]⟩,
  ⟨0x1c18000, [(4, 8192)], [⟨0, 26, .ro, .n 0⟩]⟩]

def rows07 : List RegRow := rows07_0 ++ rows07_1

/-- The registers of chapter 08, part 0. -/
def rows08_0 : List RegRow := [
  ⟨0x2000000, [], [⟨0, 6, .w1c, .n 0⟩]⟩,
  ⟨0x2000008, [], [⟨0, 32, .ro, .n 0⟩]⟩,
  ⟨0x200000c, [], [⟨0, 32, .ro, .n 0⟩]⟩,
  ⟨0x2000010, [], [⟨0, 14, .ro, .n 0⟩]⟩,
  ⟨0x2100000, [(0x10, 8192)], [⟨0, 3, .srw, .mod 8⟩, ⟨4, 12, .srw, .n 0xa0⟩, ⟨16, 1, .ro, .n 0⟩, ⟨17, 7, .ro, .n 20⟩]⟩,
  ⟨0x2100004, [(0x10, 8192)], [⟨0, 32, .ro, .n 0⟩]⟩,
  ⟨0x2100008, [(0x10, 8192)], [⟨0, 24, .ro, .n 0x4000⟩]⟩,
  ⟨0x210000c, [(0x10, 8192)], [⟨0, 1, .ro, .n 0⟩, ⟨1, 1, .ro, .n 1⟩, ⟨2, 1, .ro, .n 1⟩, ⟨3, 1, .ro, .n 0⟩, ⟨8, 24, .ro, .n 0⟩]⟩,
  ⟨0x2200000, [(0x80, 518)], [⟨0, 1, .ro, .n 0⟩, ⟨1, 7, .ro, .n 20⟩, ⟨8, 1, .srw, .n 1⟩, ⟨9, 1, .srw, .n 0⟩, ⟨10, 8, .srw, .n 0xff⟩, ⟨18, 10, .srw, .n 0⟩]⟩,
  ⟨0x2200004, [(0x80, 518)], [⟨0, 32, .ro, .n 0⟩]⟩,
  ⟨0x2200008, [(0x80, 518)], [⟨0, 24, .ro, .n 0x4000⟩]⟩,
  ⟨0x2200010, [(0x80, 518)], [⟨0, 30, .ro, .n 0⟩]⟩,
  ⟨0x2200014, [(0x80, 518)], [⟨0, 32, .ro, .n 0⟩]⟩,
  ⟨0x2200018, [(0x80, 518)], [⟨0, 30, .ro, .n 0⟩]⟩,
  ⟨0x220001c, [(0x80, 518)], [⟨0, 30, .ro, .n 0⟩]⟩,
  ⟨0x2200020, [(0x80, 518)], [⟨0, 30, .ro, .n 0⟩]⟩,
  ⟨0x2200024, [(0x80, 518)], [⟨0, 32, .ro, .n 0⟩]⟩,
  ⟨0x2200028, [(0x80, 518)], [⟨0, 8, .ro, .n 0xff⟩, ⟨8, 10, .ro, .n 0⟩, ⟨18, 1, .ro, .n 0⟩, ⟨19, 1, .ro, .n 0⟩]⟩,
  ⟨0x220002c, [(0x80, 518)], [⟨0, 11, .ro, .n 0⟩, ⟨16, 11, .ro, .n 0⟩]⟩,
  ⟨0x2300000, [(0x40, 1024)], [⟨0, 1, .srw, .n 0⟩, ⟨1, 1, .srw, .n 1⟩, ⟨2, 1, .srw, .n 0⟩, ⟨3, 1, .srw, .n 0⟩, ⟨4, 1, .srw, .n 0⟩, ⟨5, 3, .srw, .n 0⟩]⟩,
  ⟨0x2300004, [(0x40, 1024)], [⟨0, 1, .ro, .n 1⟩, ⟨1, 1, .ro, .n 0⟩, ⟨2, 3, .ro, .n 0⟩, ⟨5, 1, .w1c, .n 0⟩, ⟨6, 1, .w1c, .n 0⟩, ⟨7, 1, .ro, .n 0⟩, ⟨8, 6, .ro, .n 0⟩]⟩,
  ⟨0x2300008, [(0x40, 1024)], [⟨0, 30, .ro, .n 0⟩]⟩,
  ⟨0x230000c, [(0x40, 1024)], [⟨0, 32, .ro, .n 0⟩]⟩,
  ⟨0x2300010, [(0x40, 1024)], [⟨0, 30, .ro, .n 0⟩]⟩]

/-- The registers of chapter 08, part 1. -/
def rows08_1 : List RegRow := [
  ⟨0x2300018, [(0x40, 1024)], [⟨0, 30, .ro, .n 0⟩]⟩,
  ⟨0x230001c, [(0x40, 1024)], [⟨0, 32, .ro, .n 0⟩]⟩]

def rows08 : List RegRow := rows08_0 ++ rows08_1

/-- The registers of chapter 09, part 0. -/
def rows09_0 : List RegRow := [
  ⟨0x200000, [], [⟨0, 1, .rw, .n 0⟩, ⟨1, 1, .rw, .n 0⟩, ⟨2, 4, .rw, .n 0⟩, ⟨6, 4, .rw, .n 0⟩, ⟨10, 1, .rw, .n 0⟩]⟩,
  ⟨0x200004, [], [⟨0, 1, .ro, .n 0⟩, ⟨1, 1, .ro, .n 0⟩, ⟨2, 1, .ro, .n 0⟩, ⟨3, 1, .ro, .n 0⟩]⟩,
  ⟨0x200008, [], [⟨0, 7, .w1c, .n 0⟩]⟩,
  ⟨0x200010, [], [⟨0, 30, .ro, .n 0⟩]⟩,
  ⟨0x200014, [], [⟨0, 32, .ro, .n 0⟩]⟩,
  ⟨0x200018, [], [⟨0, 16, .ro, .n 0⟩]⟩,
  ⟨0x200020, [], [⟨0, 32, .ro, .n 1⟩]⟩,
  ⟨0x200024, [], [⟨0, 32, .ro, .n 0x47ae147b⟩]⟩,
  ⟨0x200028, [], [⟨0, 32, .ro, .n 0⟩]⟩,
  ⟨0x20002c, [], [⟨0, 32, .ro, .n 0⟩]⟩,
  ⟨0x200030, [], [⟨0, 16, .ro, .n 0⟩]⟩,
  ⟨0x200040, [], [⟨0, 30, .rw, .n 0x3b9aca00⟩]⟩,
  ⟨0x200044, [], [⟨0, 30, .rw, .n 0xf4240⟩]⟩,
  ⟨0x200048, [], [⟨0, 30, .rw, .n 0⟩]⟩,
  ⟨0x200080, [(0x10, 5)], [⟨0, 30, .ro, .n 0⟩]⟩,
  ⟨0x200084, [(0x10, 5)], [⟨0, 32, .ro, .n 0⟩]⟩,
  ⟨0x200088, [(0x10, 5)], [⟨0, 5, .ro, .n 0⟩, ⟨5, 1, .w1c, .n 0⟩, ⟨6, 1, .w1c, .n 0⟩]⟩,
  ⟨0x20008c, [(0x10, 5)], [⟨0, 1, .wo, .n 0⟩]⟩,
  ⟨0x200100, [], [⟨0, 32, .ro, .n 0⟩]⟩,
  ⟨0x200200, [(4, 32)], [⟨0, 7, .ro, .n 0⟩, ⟨7, 1, .w1c, .n 0⟩, ⟨16, 16, .ro, .n 0⟩]⟩,
  ⟨0x800100, [(0x80000, 32), (0x1000, 16)], [⟨0, 2, .srw, .n 0⟩]⟩,
  ⟨0x800104, [(0x80000, 32), (0x1000, 16)], [⟨0, 16, .srw, .n 0⟩]⟩,
  ⟨0x800108, [(0x80000, 32), (0x1000, 16)], [⟨0, 16, .srw, .n 0⟩]⟩,
  ⟨0x80010c, [(0x80000, 32), (0x1000, 16)], [⟨0, 32, .srw, .n 0⟩]⟩]

def rows09 : List RegRow := rows09_0

/-- The registers of chapter 10, part 0. -/
def rows10_0 : List RegRow := [
  ⟨0x850000, [(0x80000, 32)], [⟨0, 2, .krw, .n 0⟩, ⟨8, 8, .rw, .n 0⟩, ⟨16, 12, .rw, .n 0⟩]⟩,
  ⟨0x850004, [(0x80000, 32)], [⟨0, 3, .ro, .n 0⟩, ⟨3, 3, .ro, .n 0⟩, ⟨6, 1, .ro, .n 0⟩, ⟨7, 1, .ro, .n 1⟩, ⟨8, 1, .ro, .n 0⟩, ⟨9, 1, .ro, .n 0⟩]⟩,
  ⟨0x850008, [(0x80000, 32)], [⟨0, 1, .w1c, .n 0⟩, ⟨1, 1, .w1c, .n 0⟩, ⟨2, 1, .w1c, .n 0⟩, ⟨3, 1, .w1c, .n 0⟩, ⟨4, 1, .w1c, .n 0⟩, ⟨5, 1, .w1c, .n 0⟩, ⟨6, 1, .w1c, .n 0⟩]⟩,
  ⟨0x850010, [(0x80000, 32)], [⟨0, 4, .ro, .n 0⟩, ⟨4, 1, .ro, .n 0⟩, ⟨5, 3, .ro, .n 0⟩, ⟨8, 8, .ro, .n 0⟩, ⟨16, 16, .ro, .n 0⟩]⟩,
  ⟨0x850014, [(0x80000, 32)], [⟨0, 32, .ro, .n 0xffffffff⟩]⟩,
  ⟨0x850018, [(0x80000, 32)], [⟨0, 32, .ro, .n 0xffffffff⟩]⟩,
  ⟨0x85001c, [(0x80000, 32)], [⟨0, 30, .ro, .n 0⟩]⟩,
  ⟨0x850020, [(0x80000, 32)], [⟨0, 32, .ro, .n 0⟩]⟩,
  ⟨0x850024, [(0x80000, 32)], [⟨0, 16, .ro, .n 0⟩, ⟨16, 16, .ro, .n 0⟩]⟩,
  ⟨0x850028, [(0x80000, 32)], [⟨0, 32, .ro, .n 0⟩]⟩,
  ⟨0x85002c, [(0x80000, 32)], [⟨0, 32, .ro, .n 0⟩]⟩,
  ⟨0x1802000, [], [⟨0, 9, .ro, .n 0⟩, ⟨16, 9, .ro, .n 0⟩]⟩]

def rows10 : List RegRow := rows10_0

end Sys2Proof.Machine.F
end

