-- ==== Sys2Proof/Machine/RegMapC.lean ====
section
/-! DEFINITION. The register fields of BAR0 as the register maps of R397, R417, R450, R478, R502, R534 to R536, R551 give them:
for every field its offset, lowest bit, width, access code (R13) and reset value (R15), by instance. -/

namespace Sys2Proof.Machine.F
open Sys2Proof.Machine

/-- R397 HBM_SCRUB_EN. -/
def HBM_SCRUB_EN : Fld := ⟨0x2800000, 0, 1, .srw, (.n 1 : Rst).eval 0 0x2800000 0⟩
/-- R397 HBM_WINDOW_GIB. -/
def HBM_WINDOW_GIB : Fld := ⟨0x2800004, 0, 5, .rw, (.n 0 : Rst).eval 0 0x2800004 0⟩
/-- R397 HBM_HOG_GIB. -/
def HBM_HOG_GIB : Fld := ⟨0x2800004, 8, 7, .rw, (.n 0 : Rst).eval 0 0x2800004 8⟩
/-- R397 HBM_ALLOC_GO. -/
def HBM_ALLOC_GO : Fld := ⟨0x2800004, 31, 1, .wo, (.n 0 : Rst).eval 0 0x2800004 31⟩
/-- R397 HBM_STACK_UP. -/
def HBM_STACK_UP : Fld := ⟨0x2800008, 0, 4, .ro, (.n 0 : Rst).eval 0 0x2800008 0⟩
/-- R397 HBM_STACK_DOWN. -/
def HBM_STACK_DOWN : Fld := ⟨0x2800008, 4, 4, .ro, (.n 0 : Rst).eval 0 0x2800008 4⟩
/-- R397 HBM_ALLOC_DONE. -/
def HBM_ALLOC_DONE : Fld := ⟨0x2800008, 8, 1, .ro, (.n 0 : Rst).eval 0 0x2800008 8⟩
/-- R397 HBM_ALLOC_PENDING. -/
def HBM_ALLOC_PENDING : Fld := ⟨0x2800008, 9, 1, .ro, (.n 0 : Rst).eval 0 0x2800008 9⟩
/-- R397 HBM_SEG_ELIGIBLE. -/
def HBM_SEG_ELIGIBLE : Fld := ⟨0x2800010, 0, 16, .ro, (.n 0 : Rst).eval 0 0x2800010 0⟩
/-- R397 HBM_SEG_LOSE. -/
def HBM_SEG_LOSE : Fld := ⟨0x2800010, 16, 16, .ro, (.n 0 : Rst).eval 0 0x2800010 16⟩
/-- R397 HBM_SEG_RESTING. -/
def HBM_SEG_RESTING : Fld := ⟨0x2800014, 0, 16, .ro, (.n 0 : Rst).eval 0 0x2800014 0⟩
/-- R397 HBM_SEG_UNINIT. -/
def HBM_SEG_UNINIT : Fld := ⟨0x2800014, 16, 16, .ro, (.n 0 : Rst).eval 0 0x2800014 16⟩
/-- R397 HBM_TARGET. -/
def HBM_TARGET (i : Nat) : Fld := ⟨(0x2800020 + i * 4), 0, 16, .srw, (.list [200, 100, 5000, 40, 10000, 2000, 2000] : Rst).eval i (0x2800020 + i * 4) 0⟩
/-- R397 HBM_TEMP. -/
def HBM_TEMP (i : Nat) : Fld := ⟨(0x2800040 + i * 4), 0, 8, .ro, (.n 0 : Rst).eval i (0x2800040 + i * 4) 0⟩
/-- R397 HBM_DOUBLED. -/
def HBM_DOUBLED (i : Nat) : Fld := ⟨(0x2800040 + i * 4), 8, 1, .ro, (.n 0 : Rst).eval i (0x2800040 + i * 4) 8⟩
/-- R397 HBM_STACK_HOT. -/
def HBM_STACK_HOT (i : Nat) : Fld := ⟨(0x2800040 + i * 4), 9, 1, .ro, (.n 0 : Rst).eval i (0x2800040 + i * 4) 9⟩
/-- R397 HBM_DEBT_MAX. -/
def HBM_DEBT_MAX (i : Nat) : Fld := ⟨(0x2800040 + i * 4), 12, 4, .ro, (.n 0 : Rst).eval i (0x2800040 + i * 4) 12⟩
/-- R397 HBM_SCRUB_INTERVAL. -/
def HBM_SCRUB_INTERVAL : Fld := ⟨0x2800050, 0, 16, .srw, (.n 0xa : Rst).eval 0 0x2800050 0⟩
/-- R397 HBM_SCRUB_NEXT. -/
def HBM_SCRUB_NEXT : Fld := ⟨0x2800054, 0, 11, .ro, (.n 0 : Rst).eval 0 0x2800054 0⟩
/-- R397 HBM_STICKY. -/
def HBM_STICKY : Fld := ⟨0x2800060, 0, 10, .w1c, (.n 0 : Rst).eval 0 0x2800060 0⟩
/-- R397 HBM_LAST_ERR_FLC_LO. -/
def HBM_LAST_ERR_FLC_LO : Fld := ⟨0x2800068, 0, 32, .ro, (.n 0xffffffff : Rst).eval 0 0x2800068 0⟩
/-- R397 HBM_LAST_ERR_FLC_HI. -/
def HBM_LAST_ERR_FLC_HI : Fld := ⟨0x280006c, 0, 32, .ro, (.n 0xffffffff : Rst).eval 0 0x280006c 0⟩
/-- R397 HBM_STEP. -/
def HBM_STEP (i : Nat) : Fld := ⟨(0x2800080 + i * 4), 0, 3, .ro, (.n 0 : Rst).eval i (0x2800080 + i * 4) 0⟩
/-- R397 HBM_FAILED. -/
def HBM_FAILED (i : Nat) : Fld := ⟨(0x2800080 + i * 4), 3, 1, .ro, (.n 0 : Rst).eval i (0x2800080 + i * 4) 3⟩
/-- R397 HBM_LANES_REPAIRED. -/
def HBM_LANES_REPAIRED (i : Nat) : Fld := ⟨(0x2800080 + i * 4), 4, 6, .ro, (.n 0 : Rst).eval i (0x2800080 + i * 4) 4⟩
/-- R417 CXL_MODE. -/
def CXL_MODE : Fld := ⟨0x3000000, 0, 3, .ro, (.n 0 : Rst).eval 0 0x3000000 0⟩
/-- R417 CXL_PCIE_GEN. -/
def CXL_PCIE_GEN : Fld := ⟨0x3000000, 3, 3, .ro, (.n 0 : Rst).eval 0 0x3000000 3⟩
/-- R417 CXL_WIDTH. -/
def CXL_WIDTH : Fld := ⟨0x3000000, 6, 5, .ro, (.n 0 : Rst).eval 0 0x3000000 6⟩
/-- R417 CXL_RATE. -/
def CXL_RATE : Fld := ⟨0x3000000, 11, 4, .ro, (.n 0 : Rst).eval 0 0x3000000 11⟩
/-- R417 CXL_IDE_IO_SECURE. -/
def CXL_IDE_IO_SECURE : Fld := ⟨0x3000000, 15, 1, .ro, (.n 0 : Rst).eval 0 0x3000000 15⟩
/-- R417 CXL_IDE_MEM_SECURE. -/
def CXL_IDE_MEM_SECURE : Fld := ⟨0x3000000, 16, 1, .ro, (.n 0 : Rst).eval 0 0x3000000 16⟩
/-- R417 CXL_HDM_COMMITTED. -/
def CXL_HDM_COMMITTED : Fld := ⟨0x3000000, 17, 1, .ro, (.n 0 : Rst).eval 0 0x3000000 17⟩
/-- R417 CXL_STICKY. -/
def CXL_STICKY : Fld := ⟨0x3000004, 0, 7, .w1c, (.n 0 : Rst).eval 0 0x3000004 0⟩
/-- R417 CXL_MODE_MASK. -/
def CXL_MODE_MASK : Fld := ⟨0x3000008, 0, 4, .krw, (.n 0 : Rst).eval 0 0x3000008 0⟩
/-- R417 CXL_IDE_REQUIRED. -/
def CXL_IDE_REQUIRED : Fld := ⟨0x3000008, 4, 1, .krw, (.n 0 : Rst).eval 0 0x3000008 4⟩
/-- R417 CXL_LINK_RECOVERIES. -/
def CXL_LINK_RECOVERIES : Fld := ⟨0x3000010, 0, 16, .ro, (.n 0 : Rst).eval 0 0x3000010 0⟩
/-- R417 CXL_IDE_REFUSED. -/
def CXL_IDE_REFUSED : Fld := ⟨0x3000014, 0, 16, .ro, (.n 0 : Rst).eval 0 0x3000014 0⟩
/-- R450 SQ_BASE_LO. -/
def SQ_BASE_LO (i : Nat) : Fld := ⟨(0x408000 + i * 0x20), 12, 20, .rw, (.n 0 : Rst).eval i (0x408000 + i * 0x20) 12⟩
/-- R450 SQ_BASE_HI. -/
def SQ_BASE_HI (i : Nat) : Fld := ⟨(0x408004 + i * 0x20), 0, 32, .rw, (.n 0 : Rst).eval i (0x408004 + i * 0x20) 0⟩
/-- R450 SQ_EN. -/
def SQ_EN (i : Nat) : Fld := ⟨(0x408008 + i * 0x20), 0, 1, .rw, (.n 0 : Rst).eval i (0x408008 + i * 0x20) 0⟩
/-- R450 SQ_SIZE_LOG2. -/
def SQ_SIZE_LOG2 (i : Nat) : Fld := ⟨(0x408008 + i * 0x20), 1, 5, .rw, (.n 6 : Rst).eval i (0x408008 + i * 0x20) 1⟩
/-- R450 SQ_CQ. -/
def SQ_CQ (i : Nat) : Fld := ⟨(0x408008 + i * 0x20), 8, 4, .rw, (.plus 0 : Rst).eval i (0x408008 + i * 0x20) 8⟩
/-- R450 SQ_HEAD. -/
def SQ_HEAD (i : Nat) : Fld := ⟨(0x40800c + i * 0x20), 0, 16, .rw, (.n 0 : Rst).eval i (0x40800c + i * 0x20) 0⟩
/-- R450 SQ_TAIL. -/
def SQ_TAIL (i : Nat) : Fld := ⟨(0x408010 + i * 0x20), 0, 16, .ro, (.n 0 : Rst).eval i (0x408010 + i * 0x20) 0⟩
/-- R450 SQ_STOPPED. -/
def SQ_STOPPED (i : Nat) : Fld := ⟨(0x408010 + i * 0x20), 16, 1, .ro, (.n 0 : Rst).eval i (0x408010 + i * 0x20) 16⟩
/-- R450 SQ_ERR. -/
def SQ_ERR (i : Nat) : Fld := ⟨(0x408010 + i * 0x20), 17, 2, .ro, (.n 0 : Rst).eval i (0x408010 + i * 0x20) 17⟩
/-- R450 SQ_DB_ERR. -/
def SQ_DB_ERR (i : Nat) : Fld := ⟨(0x408010 + i * 0x20), 19, 1, .w1c, (.n 0 : Rst).eval i (0x408010 + i * 0x20) 19⟩
/-- R450 SQ_INFLIGHT. -/
def SQ_INFLIGHT (i : Nat) : Fld := ⟨(0x408014 + i * 0x20), 0, 8, .ro, (.n 0 : Rst).eval i (0x408014 + i * 0x20) 0⟩
/-- R450 CQ_BASE_LO. -/
def CQ_BASE_LO (i : Nat) : Fld := ⟨(0x408400 + i * 0x20), 12, 20, .rw, (.n 0 : Rst).eval i (0x408400 + i * 0x20) 12⟩
/-- R450 CQ_BASE_HI. -/
def CQ_BASE_HI (i : Nat) : Fld := ⟨(0x408404 + i * 0x20), 0, 32, .rw, (.n 0 : Rst).eval i (0x408404 + i * 0x20) 0⟩
/-- R450 CQ_EN. -/
def CQ_EN (i : Nat) : Fld := ⟨(0x408408 + i * 0x20), 0, 1, .rw, (.n 0 : Rst).eval i (0x408408 + i * 0x20) 0⟩
/-- R450 CQ_SIZE_LOG2. -/
def CQ_SIZE_LOG2 (i : Nat) : Fld := ⟨(0x408408 + i * 0x20), 1, 5, .rw, (.n 6 : Rst).eval i (0x408408 + i * 0x20) 1⟩
/-- R450 CQ_VECTOR. -/
def CQ_VECTOR (i : Nat) : Fld := ⟨(0x408408 + i * 0x20), 8, 6, .rw, (.plus 0 : Rst).eval i (0x408408 + i * 0x20) 8⟩
/-- R450 CQ_COAL_COUNT. -/
def CQ_COAL_COUNT (i : Nat) : Fld := ⟨(0x408408 + i * 0x20), 16, 8, .rw, (.n 0 : Rst).eval i (0x408408 + i * 0x20) 16⟩
/-- R450 CQ_COAL_TIME. -/
def CQ_COAL_TIME (i : Nat) : Fld := ⟨(0x408408 + i * 0x20), 24, 8, .rw, (.n 0 : Rst).eval i (0x408408 + i * 0x20) 24⟩
/-- R450 CQ_TAIL. -/
def CQ_TAIL (i : Nat) : Fld := ⟨(0x40840c + i * 0x20), 0, 16, .ro, (.n 0 : Rst).eval i (0x40840c + i * 0x20) 0⟩
/-- R450 CQ_PHASE. -/
def CQ_PHASE (i : Nat) : Fld := ⟨(0x40840c + i * 0x20), 16, 1, .ro, (.n 1 : Rst).eval i (0x40840c + i * 0x20) 16⟩
/-- R450 CQ_HEAD_SEEN. -/
def CQ_HEAD_SEEN (i : Nat) : Fld := ⟨(0x408410 + i * 0x20), 0, 16, .ro, (.n 0 : Rst).eval i (0x408410 + i * 0x20) 0⟩
/-- R450 CQ_DB_ERR. -/
def CQ_DB_ERR (i : Nat) : Fld := ⟨(0x408410 + i * 0x20), 16, 1, .w1c, (.n 0 : Rst).eval i (0x408410 + i * 0x20) 16⟩
/-- R450 SM_FW_READY. -/
def SM_FW_READY : Fld := ⟨0x408800, 0, 1, .ro, (.n 0 : Rst).eval 0 0x408800 0⟩
/-- R450 SM_INFLIGHT_HW. -/
def SM_INFLIGHT_HW : Fld := ⟨0x408800, 8, 8, .ro, (.n 0 : Rst).eval 0 0x408800 8⟩
/-- R450 SM_INFLIGHT_FW. -/
def SM_INFLIGHT_FW : Fld := ⟨0x408800, 16, 8, .ro, (.n 0 : Rst).eval 0 0x408800 16⟩
/-- R478 TAP_EN. -/
def TAP_EN : Fld := ⟨0x2c00000, 0, 1, .rw, (.n 0 : Rst).eval 0 0x2c00000 0⟩
/-- R478 TAP_ETH_MODE. -/
def TAP_ETH_MODE : Fld := ⟨0x2c00000, 1, 1, .rw, (.n 0 : Rst).eval 0 0x2c00000 1⟩
/-- R478 TAP_MIN_WIDTH. -/
def TAP_MIN_WIDTH : Fld := ⟨0x2c00000, 2, 2, .rw, (.n 0 : Rst).eval 0 0x2c00000 2⟩
/-- R478 TAP_TRAIN_TIMEOUT. -/
def TAP_TRAIN_TIMEOUT : Fld := ⟨0x2c00000, 8, 8, .rw, (.n 0xc8 : Rst).eval 0 0x2c00000 8⟩
/-- R478 TAP_STATE. -/
def TAP_STATE : Fld := ⟨0x2c00004, 0, 3, .ro, (.n 0 : Rst).eval 0 0x2c00004 0⟩
/-- R478 TAP_WIDTH. -/
def TAP_WIDTH : Fld := ⟨0x2c00004, 3, 4, .ro, (.n 0 : Rst).eval 0 0x2c00004 3⟩
/-- R478 TAP_REVERSED. -/
def TAP_REVERSED : Fld := ⟨0x2c00004, 7, 1, .ro, (.n 0 : Rst).eval 0 0x2c00004 7⟩
/-- R478 TAP_POL_INV. -/
def TAP_POL_INV : Fld := ⟨0x2c00004, 8, 8, .ro, (.n 0 : Rst).eval 0 0x2c00004 8⟩
/-- R478 TAP_RETRAINING. -/
def TAP_RETRAINING : Fld := ⟨0x2c00004, 16, 1, .ro, (.n 0 : Rst).eval 0 0x2c00004 16⟩
/-- R478 TAP_STICKY. -/
def TAP_STICKY : Fld := ⟨0x2c00008, 0, 8, .w1c, (.n 0 : Rst).eval 0 0x2c00008 0⟩
/-- R478 TAP_REPLAY_TIMEOUT. -/
def TAP_REPLAY_TIMEOUT : Fld := ⟨0x2c00010, 0, 16, .rw, (.n 0xfa0 : Rst).eval 0 0x2c00010 0⟩
/-- R478 TAP_REPLAY_NUM. -/
def TAP_REPLAY_NUM : Fld := ⟨0x2c00010, 16, 4, .rw, (.n 4 : Rst).eval 0 0x2c00010 16⟩
/-- R478 TAP_RETRAINS. -/
def TAP_RETRAINS : Fld := ⟨0x2c00014, 0, 16, .ro, (.n 0 : Rst).eval 0 0x2c00014 0⟩
/-- R478 TAP_UNACKED. -/
def TAP_UNACKED : Fld := ⟨0x2c00018, 0, 12, .ro, (.n 0 : Rst).eval 0 0x2c00018 0⟩
/-- R478 TAP_CREDIT_INIT. -/
def TAP_CREDIT_INIT (i : Nat) : Fld := ⟨(0x2c00040 + i * 4), 0, 14, .rw, (.n 0x200 : Rst).eval i (0x2c00040 + i * 4) 0⟩
/-- R478 TAP_CREDIT_AVAIL. -/
def TAP_CREDIT_AVAIL (i : Nat) : Fld := ⟨(0x2c00080 + i * 4), 0, 16, .ro, (.n 0 : Rst).eval i (0x2c00080 + i * 4) 0⟩
/-- R478 TAP_ETH_LOCAL_MAC_LO. -/
def TAP_ETH_LOCAL_MAC_LO : Fld := ⟨0x2c000c0, 0, 32, .rw, (.n 0 : Rst).eval 0 0x2c000c0 0⟩
/-- R478 TAP_ETH_LOCAL_MAC_HI. -/
def TAP_ETH_LOCAL_MAC_HI : Fld := ⟨0x2c000c4, 0, 16, .rw, (.n 0 : Rst).eval 0 0x2c000c4 0⟩
/-- R478 TAP_ETH_PEER_MAC_LO. -/
def TAP_ETH_PEER_MAC_LO : Fld := ⟨0x2c000c8, 0, 32, .rw, (.n 0 : Rst).eval 0 0x2c000c8 0⟩
/-- R478 TAP_ETH_PEER_MAC_HI. -/
def TAP_ETH_PEER_MAC_HI : Fld := ⟨0x2c000cc, 0, 16, .rw, (.n 0 : Rst).eval 0 0x2c000cc 0⟩
/-- R478 TAP_ETH_MTU. -/
def TAP_ETH_MTU : Fld := ⟨0x2c000d0, 0, 14, .rw, (.n 0x2328 : Rst).eval 0 0x2c000d0 0⟩
/-- R478 TAP_CSTREAM_FIRST. -/
def TAP_CSTREAM_FIRST : Fld := ⟨0x2c00100, 0, 21, .srw, (.n 0 : Rst).eval 0 0x2c00100 0⟩
/-- R478 TAP_CSTREAM_COUNT. -/
def TAP_CSTREAM_COUNT : Fld := ⟨0x2c00104, 0, 22, .srw, (.n 0 : Rst).eval 0 0x2c00104 0⟩
/-- R478 TAP_CSTREAM_INTERVAL. -/
def TAP_CSTREAM_INTERVAL : Fld := ⟨0x2c00108, 0, 16, .srw, (.n 0 : Rst).eval 0 0x2c00108 0⟩
/-- R478 TAP_ESTREAM_EN. -/
def TAP_ESTREAM_EN : Fld := ⟨0x2c0010c, 0, 1, .srw, (.n 0 : Rst).eval 0 0x2c0010c 0⟩
/-- R502 GL_VENDOR_ID. -/
def GL_VENDOR_ID : Fld := ⟨0, 0, 16, .ro, (.n 0x1f3a : Rst).eval 0 0 0⟩
/-- R502 GL_DEVICE_ID. -/
def GL_DEVICE_ID : Fld := ⟨0, 16, 16, .ro, (.n 0x9102 : Rst).eval 0 0 16⟩
/-- R502 GL_STEPPING. -/
def GL_STEPPING : Fld := ⟨4, 0, 8, .ro, (.n 1 : Rst).eval 0 4 0⟩
/-- R502 GL_DIE_ID_LO. -/
def GL_DIE_ID_LO : Fld := ⟨8, 0, 32, .ro, (.fused : Rst).eval 0 8 0⟩
/-- R502 GL_DIE_ID_HI. -/
def GL_DIE_ID_HI : Fld := ⟨0xc, 0, 32, .ro, (.fused : Rst).eval 0 0xc 0⟩
/-- R502 GL_UNLOCK. -/
def GL_UNLOCK : Fld := ⟨0x20, 0, 32, .wo, (.n 0 : Rst).eval 0 0x20 0⟩
/-- R502 GL_LOCKED. -/
def GL_LOCKED : Fld := ⟨0x24, 0, 1, .ro, (.n 1 : Rst).eval 0 0x24 0⟩
/-- R502 GL_KEY_FAILS. -/
def GL_KEY_FAILS : Fld := ⟨0x24, 8, 8, .ro, (.n 0 : Rst).eval 0 0x24 8⟩
/-- R502 GL_COMMIT_STROBE. -/
def GL_COMMIT_STROBE : Fld := ⟨0x40, 0, 16, .wo, (.n 0 : Rst).eval 0 0x40 0⟩
/-- R502 GL_STAGED_PENDING. -/
def GL_STAGED_PENDING : Fld := ⟨0x44, 0, 16, .ro, (.n 0 : Rst).eval 0 0x44 0⟩
/-- R502 GL_STAGE_DISCARD. -/
def GL_STAGE_DISCARD : Fld := ⟨0x48, 0, 16, .wo, (.n 0 : Rst).eval 0 0x48 0⟩
/-- R502 GL_ARMED_GROUPS. -/
def GL_ARMED_GROUPS : Fld := ⟨0x4c, 0, 16, .ro, (.n 0 : Rst).eval 0 0x4c 0⟩
/-- R502 GL_DISARM. -/
def GL_DISARM : Fld := ⟨0x50, 0, 16, .wo, (.n 0 : Rst).eval 0 0x50 0⟩
/-- R502 GL_STAGE_MAP_LO. -/
def GL_STAGE_MAP_LO : Fld := ⟨0x54, 0, 32, .rw, (.n 0x76543210 : Rst).eval 0 0x54 0⟩
/-- R502 GL_STAGE_MAP_HI. -/
def GL_STAGE_MAP_HI : Fld := ⟨0x58, 0, 4, .rw, (.n 8 : Rst).eval 0 0x58 0⟩
/-- R502 GL_LAST_COMMIT_LO. -/
def GL_LAST_COMMIT_LO : Fld := ⟨0x60, 0, 30, .ro, (.n 0 : Rst).eval 0 0x60 0⟩
/-- R502 GL_LAST_COMMIT_HI. -/
def GL_LAST_COMMIT_HI : Fld := ⟨0x64, 0, 32, .ro, (.n 0 : Rst).eval 0 0x64 0⟩
/-- R502 GL_LAST_COMMIT_GROUPS. -/
def GL_LAST_COMMIT_GROUPS : Fld := ⟨0x68, 0, 16, .ro, (.n 0 : Rst).eval 0 0x68 0⟩
/-- R502 GL_LAST_LATE. -/
def GL_LAST_LATE : Fld := ⟨0x68, 16, 1, .ro, (.n 0 : Rst).eval 0 0x68 16⟩
/-- R502 GL_CONFIG_GEN. -/
def GL_CONFIG_GEN : Fld := ⟨0x80, 0, 32, .ro, (.n 0 : Rst).eval 0 0x80 0⟩
/-- R502 GL_CONFIG_GEN_LOAD. -/
def GL_CONFIG_GEN_LOAD : Fld := ⟨0x84, 0, 32, .krw, (.n 0 : Rst).eval 0 0x84 0⟩
/-- R502 GL_FP_EN. -/
def GL_FP_EN : Fld := ⟨0xa0, 0, 1, .srw, (.n 1 : Rst).eval 0 0xa0 0⟩
/-- R502 GL_FP_RUNNING_LO. -/
def GL_FP_RUNNING_LO : Fld := ⟨0xa8, 0, 32, .ro, (.n 0 : Rst).eval 0 0xa8 0⟩
/-- R502 GL_FP_RUNNING_HI. -/
def GL_FP_RUNNING_HI : Fld := ⟨0xac, 0, 32, .ro, (.n 0 : Rst).eval 0 0xac 0⟩
/-- R502 GL_FP_REFERENCE_LO. -/
def GL_FP_REFERENCE_LO : Fld := ⟨0xb0, 0, 32, .ro, (.n 0 : Rst).eval 0 0xb0 0⟩
/-- R502 GL_FP_REFERENCE_HI. -/
def GL_FP_REFERENCE_HI : Fld := ⟨0xb4, 0, 32, .ro, (.n 0 : Rst).eval 0 0xb4 0⟩
/-- R502 GL_FP_REF_GEN. -/
def GL_FP_REF_GEN : Fld := ⟨0xb8, 0, 32, .ro, (.n 0 : Rst).eval 0 0xb8 0⟩
/-- R502 GL_REF_VALID. -/
def GL_REF_VALID : Fld := ⟨0xbc, 0, 1, .ro, (.n 0 : Rst).eval 0 0xbc 0⟩
/-- R502 GL_MATCH. -/
def GL_MATCH : Fld := ⟨0xbc, 1, 1, .ro, (.n 0 : Rst).eval 0 0xbc 1⟩
/-- R502 GL_GEN_AHEAD. -/
def GL_GEN_AHEAD : Fld := ⟨0xbc, 2, 1, .ro, (.n 0 : Rst).eval 0 0xbc 2⟩
/-- R502 GL_STALE. -/
def GL_STALE : Fld := ⟨0xbc, 3, 1, .ro, (.n 0 : Rst).eval 0 0xbc 3⟩
/-- R502 GL_FP_COPY. -/
def GL_FP_COPY : Fld := ⟨0xbc, 8, 8, .ro, (.n 0 : Rst).eval 0 0xbc 8⟩
/-- R502 GL_FP_PASSES. -/
def GL_FP_PASSES : Fld := ⟨0xc0, 0, 32, .ro, (.n 0 : Rst).eval 0 0xc0 0⟩
/-- R502 GL_FP_ABANDONED. -/
def GL_FP_ABANDONED : Fld := ⟨0xc4, 0, 32, .ro, (.n 0 : Rst).eval 0 0xc4 0⟩
/-- R502 GL_GLOBAL_STICKY. -/
def GL_GLOBAL_STICKY : Fld := ⟨0xd0, 0, 5, .w1c, (.n 0 : Rst).eval 0 0xd0 0⟩
/-- R502 GL_SNAP_HELD. -/
def GL_SNAP_HELD : Fld := ⟨0xe0, 0, 1, .ro, (.n 0 : Rst).eval 0 0xe0 0⟩
/-- R502 GL_SNAP_COPYING. -/
def GL_SNAP_COPYING : Fld := ⟨0xe0, 1, 1, .ro, (.n 0 : Rst).eval 0 0xe0 1⟩
/-- R502 GL_SNAP_ARMED. -/
def GL_SNAP_ARMED : Fld := ⟨0xe0, 2, 1, .ro, (.n 0 : Rst).eval 0 0xe0 2⟩
/-- R502 GL_SNAP_TIME_LO. -/
def GL_SNAP_TIME_LO : Fld := ⟨0xe4, 0, 30, .ro, (.n 0 : Rst).eval 0 0xe4 0⟩
/-- R502 GL_SNAP_TIME_HI. -/
def GL_SNAP_TIME_HI : Fld := ⟨0xe8, 0, 32, .ro, (.n 0 : Rst).eval 0 0xe8 0⟩
/-- R534 SC_CORE0_RUN. -/
def SC_CORE0_RUN : Fld := ⟨0x400000, 0, 1, .ro, (.n 0 : Rst).eval 0 0x400000 0⟩
/-- R534 SC_CORE1_RUN. -/
def SC_CORE1_RUN : Fld := ⟨0x400000, 1, 1, .ro, (.n 0 : Rst).eval 0 0x400000 1⟩
/-- R534 SC_FW_RESTARTS. -/
def SC_FW_RESTARTS : Fld := ⟨0x400000, 8, 8, .ro, (.n 0 : Rst).eval 0 0x400000 8⟩
/-- R534 SC_SCONCE_STICKY. -/
def SC_SCONCE_STICKY : Fld := ⟨0x400004, 0, 5, .w1c, (.n 0 : Rst).eval 0 0x400004 0⟩
/-- R534 SC_FW_VERSION. -/
def SC_FW_VERSION : Fld := ⟨0x400008, 0, 32, .ro, (.n 0 : Rst).eval 0 0x400008 0⟩
/-- R534 SC_TEST_INTERVAL. -/
def SC_TEST_INTERVAL : Fld := ⟨0x40000c, 0, 16, .rw, (.n 0x3e8 : Rst).eval 0 0x40000c 0⟩
/-- R534 SC_OWNER. -/
def SC_OWNER (i : Nat) : Fld := ⟨(0x400100 + i * 4), 0, 3, .ro, (.list ([1, 1, 3, 3] ++ List.replicate 60 2) : Rst).eval i (0x400100 + i * 4) 0⟩
/-- R534 SC_LENT_FROM. -/
def SC_LENT_FROM (i : Nat) : Fld := ⟨(0x400100 + i * 4), 3, 3, .ro, (.n 0 : Rst).eval i (0x400100 + i * 4) 3⟩
/-- R534 SC_POWERED. -/
def SC_POWERED (i : Nat) : Fld := ⟨(0x400100 + i * 4), 6, 1, .ro, (.n 1 : Rst).eval i (0x400100 + i * 4) 6⟩
/-- R534 SC_FAILED. -/
def SC_FAILED (i : Nat) : Fld := ⟨(0x400100 + i * 4), 7, 1, .ro, (.fused : Rst).eval i (0x400100 + i * 4) 7⟩
/-- R534 SC_REPAIRED_COLS. -/
def SC_REPAIRED_COLS (i : Nat) : Fld := ⟨(0x400100 + i * 4), 8, 8, .ro, (.fused : Rst).eval i (0x400100 + i * 4) 8⟩
/-- R535 LB_EVT_MODE. -/
def LB_EVT_MODE : Fld := ⟨0x300000, 0, 1, .rw, (.n 0 : Rst).eval 0 0x300000 0⟩
/-- R535 LB_NEXT_SEQ_LO. -/
def LB_NEXT_SEQ_LO : Fld := ⟨0x300008, 0, 32, .ro, (.n 0 : Rst).eval 0 0x300008 0⟩
/-- R535 LB_NEXT_SEQ_HI. -/
def LB_NEXT_SEQ_HI : Fld := ⟨0x30000c, 0, 16, .ro, (.n 0 : Rst).eval 0 0x30000c 0⟩
/-- R535 LB_OLDEST_SEQ_LO. -/
def LB_OLDEST_SEQ_LO : Fld := ⟨0x300010, 0, 32, .ro, (.n 0 : Rst).eval 0 0x300010 0⟩
/-- R535 LB_OLDEST_SEQ_HI. -/
def LB_OLDEST_SEQ_HI : Fld := ⟨0x300014, 0, 16, .ro, (.n 0 : Rst).eval 0 0x300014 0⟩
/-- R535 LB_STORE_WRAPPED. -/
def LB_STORE_WRAPPED : Fld := ⟨0x300018, 0, 1, .w1c, (.n 0 : Rst).eval 0 0x300018 0⟩
/-- R535 LB_EVT_PENDING. -/
def LB_EVT_PENDING (i : Nat) : Fld := ⟨(0x300100 + i * 4), 0, 32, .w1c, (.n 0 : Rst).eval i (0x300100 + i * 4) 0⟩
/-- R535 LB_EVT_ENABLE. -/
def LB_EVT_ENABLE (i : Nat) : Fld := ⟨(0x300200 + i * 4), 0, 32, .rw, (.n 0 : Rst).eval i (0x300200 + i * 4) 0⟩
/-- R535 LB_EVT_VEC. -/
def LB_EVT_VEC (i : Nat) : Fld := ⟨(0x300300 + i * 4), 0, 6, .rw, (.plus 16 : Rst).eval i (0x300300 + i * 4) 0⟩
/-- R535 LB_RATE. -/
def LB_RATE (i : Nat) : Fld := ⟨(0x300400 + i * 8), 0, 20, .ro, (.n 0xa : Rst).eval i (0x300400 + i * 8) 0⟩
/-- R535 LB_BURST. -/
def LB_BURST (i : Nat) : Fld := ⟨(0x300404 + i * 8), 0, 16, .ro, (.n 0x20 : Rst).eval i (0x300404 + i * 8) 0⟩
/-- R536 PC_PERF_FREEZE. -/
def PC_PERF_FREEZE : Fld := ⟨0x3400000, 0, 1, .rw, (.n 0 : Rst).eval 0 0x3400000 0⟩
/-- R536 PC_PERF_CLEAR. -/
def PC_PERF_CLEAR : Fld := ⟨0x3400000, 1, 1, .wo, (.n 0 : Rst).eval 0 0x3400000 1⟩
/-- R536 PC_CNT_RESIDUE. -/
def PC_CNT_RESIDUE : Fld := ⟨0x3400004, 0, 1, .w1c, (.n 0 : Rst).eval 0 0x3400004 0⟩
/-- R536 PC_CNT_UNCORR_SEEN. -/
def PC_CNT_UNCORR_SEEN : Fld := ⟨0x3400004, 1, 1, .w1c, (.n 0 : Rst).eval 0 0x3400004 1⟩
/-- R536 PC_CENSUS_PARTIAL. -/
def PC_CENSUS_PARTIAL : Fld := ⟨0x3400004, 2, 1, .w1c, (.n 0 : Rst).eval 0 0x3400004 2⟩
/-- R536 PC_LAST_BAD_INDEX. -/
def PC_LAST_BAD_INDEX : Fld := ⟨0x3400008, 0, 21, .ro, (.n 0 : Rst).eval 0 0x3400008 0⟩
/-- R536 PC_ARCHIVE_EN. -/
def PC_ARCHIVE_EN : Fld := ⟨0x3400010, 0, 1, .rw, (.n 0 : Rst).eval 0 0x3400010 0⟩
/-- R536 PC_ARCHIVE_INTERVAL. -/
def PC_ARCHIVE_INTERVAL : Fld := ⟨0x3400010, 16, 16, .rw, (.n 0x64 : Rst).eval 0 0x3400010 16⟩
/-- R536 PC_ARCHIVE_GEN_LO. -/
def PC_ARCHIVE_GEN_LO : Fld := ⟨0x3400018, 0, 32, .ro, (.n 0 : Rst).eval 0 0x3400018 0⟩
/-- R536 PC_ARCHIVE_GEN_HI. -/
def PC_ARCHIVE_GEN_HI : Fld := ⟨0x340001c, 0, 32, .ro, (.n 0 : Rst).eval 0 0x340001c 0⟩
/-- R536 PC_BLOCK. -/
def PC_BLOCK (i : Nat) : Fld := ⟨(0x3400100 + i * 4), 0, 6, .rw, (.n 0 : Rst).eval i (0x3400100 + i * 4) 0⟩
/-- R536 PC_SIGNAL. -/
def PC_SIGNAL (i : Nat) : Fld := ⟨(0x3400100 + i * 4), 8, 4, .rw, (.n 0 : Rst).eval i (0x3400100 + i * 4) 8⟩
/-- R536 PC_MODE. -/
def PC_MODE (i : Nat) : Fld := ⟨(0x3400100 + i * 4), 12, 1, .rw, (.n 0 : Rst).eval i (0x3400100 + i * 4) 12⟩
/-- R536 PC_EN. -/
def PC_EN (i : Nat) : Fld := ⟨(0x3400100 + i * 4), 31, 1, .rw, (.n 0 : Rst).eval i (0x3400100 + i * 4) 31⟩
/-- R536 PC_PERF_COUNT_LO. -/
def PC_PERF_COUNT_LO (i : Nat) : Fld := ⟨(0x3400200 + i * 8), 0, 32, .ro, (.n 0 : Rst).eval i (0x3400200 + i * 8) 0⟩
/-- R536 PC_PERF_COUNT_HI. -/
def PC_PERF_COUNT_HI (i : Nat) : Fld := ⟨(0x3400204 + i * 8), 0, 16, .ro, (.n 0 : Rst).eval i (0x3400204 + i * 8) 0⟩
/-- R536 PC_WORK_LO. -/
def PC_WORK_LO (i : Nat) : Fld := ⟨(0x3401000 + i * 0x40), 0, 32, .ro, (.n 0 : Rst).eval i (0x3401000 + i * 0x40) 0⟩
/-- R536 PC_WORK_HI. -/
def PC_WORK_HI (i : Nat) : Fld := ⟨(0x3401004 + i * 0x40), 0, 32, .ro, (.n 0 : Rst).eval i (0x3401004 + i * 0x40) 0⟩
/-- R536 PC_VOID_LO. -/
def PC_VOID_LO (i : Nat) : Fld := ⟨(0x3401008 + i * 0x40), 0, 32, .ro, (.n 0 : Rst).eval i (0x3401008 + i * 0x40) 0⟩
/-- R536 PC_VOID_HI. -/
def PC_VOID_HI (i : Nat) : Fld := ⟨(0x340100c + i * 0x40), 0, 32, .ro, (.n 0 : Rst).eval i (0x340100c + i * 0x40) 0⟩
/-- R536 PC_LOOKUP_LO. -/
def PC_LOOKUP_LO (i : Nat) : Fld := ⟨(0x3401010 + i * 0x40), 0, 32, .ro, (.n 0 : Rst).eval i (0x3401010 + i * 0x40) 0⟩
/-- R536 PC_LOOKUP_HI. -/
def PC_LOOKUP_HI (i : Nat) : Fld := ⟨(0x3401014 + i * 0x40), 0, 32, .ro, (.n 0 : Rst).eval i (0x3401014 + i * 0x40) 0⟩
/-- R536 PC_BLOCKED_LO. -/
def PC_BLOCKED_LO (i : Nat) : Fld := ⟨(0x3401018 + i * 0x40), 0, 32, .ro, (.n 0 : Rst).eval i (0x3401018 + i * 0x40) 0⟩
/-- R536 PC_BLOCKED_HI. -/
def PC_BLOCKED_HI (i : Nat) : Fld := ⟨(0x340101c + i * 0x40), 0, 32, .ro, (.n 0 : Rst).eval i (0x340101c + i * 0x40) 0⟩
/-- R536 PC_EMPTY_LO. -/
def PC_EMPTY_LO (i : Nat) : Fld := ⟨(0x3401020 + i * 0x40), 0, 32, .ro, (.n 0 : Rst).eval i (0x3401020 + i * 0x40) 0⟩
/-- R536 PC_EMPTY_HI. -/
def PC_EMPTY_HI (i : Nat) : Fld := ⟨(0x3401024 + i * 0x40), 0, 32, .ro, (.n 0 : Rst).eval i (0x3401024 + i * 0x40) 0⟩
/-- R551 BT_STEP. -/
def BT_STEP : Fld := ⟨0x1000, 0, 4, .ro, (.n 0 : Rst).eval 0 0x1000 0⟩
/-- R551 BT_FAILED. -/
def BT_FAILED : Fld := ⟨0x1000, 4, 1, .ro, (.n 0 : Rst).eval 0 0x1000 4⟩
/-- R551 BT_DEGRADED. -/
def BT_DEGRADED : Fld := ⟨0x1000, 5, 1, .ro, (.n 0 : Rst).eval 0 0x1000 5⟩
/-- R551 BT_PUSH_FAIL. -/
def BT_PUSH_FAIL : Fld := ⟨0x1000, 6, 1, .ro, (.n 0 : Rst).eval 0 0x1000 6⟩
/-- R551 BT_FAIL_CODE. -/
def BT_FAIL_CODE : Fld := ⟨0x1000, 8, 8, .ro, (.n 0 : Rst).eval 0 0x1000 8⟩
/-- R551 BT_BOOT_SEL. -/
def BT_BOOT_SEL : Fld := ⟨0x1000, 16, 2, .ro, (.n 0 : Rst).eval 0 0x1000 16⟩
/-- R551 BT_SOURCE. -/
def BT_SOURCE : Fld := ⟨0x1000, 18, 2, .ro, (.n 0 : Rst).eval 0 0x1000 18⟩
/-- R551 BT_CAL_CODE. -/
def BT_CAL_CODE : Fld := ⟨0x1000, 20, 4, .ro, (.n 0 : Rst).eval 0 0x1000 20⟩
/-- R551 BT_BOOT_PUSH_LO. -/
def BT_BOOT_PUSH_LO : Fld := ⟨0x1004, 6, 26, .rw, (.n 0 : Rst).eval 0 0x1004 6⟩
/-- R551 BT_BOOT_PUSH_HI. -/
def BT_BOOT_PUSH_HI : Fld := ⟨0x1008, 0, 32, .rw, (.n 0 : Rst).eval 0 0x1008 0⟩
/-- R551 BT_PUSH_LEN. -/
def BT_PUSH_LEN : Fld := ⟨0x100c, 0, 24, .rw, (.n 0 : Rst).eval 0 0x100c 0⟩
/-- R551 BT_PUSH_GO. -/
def BT_PUSH_GO : Fld := ⟨0x100c, 31, 1, .wo, (.n 0 : Rst).eval 0 0x100c 31⟩
/-- R551 BT_SPARES_EAST. -/
def BT_SPARES_EAST : Fld := ⟨0x1010, 0, 5, .ro, (.fused : Rst).eval 0 0x1010 0⟩
/-- R551 BT_SPARES_WEST. -/
def BT_SPARES_WEST : Fld := ⟨0x1010, 8, 5, .ro, (.fused : Rst).eval 0 0x1010 8⟩
/-- R551 BT_START_VSET. -/
def BT_START_VSET : Fld := ⟨0x1014, 0, 10, .rw, (.n 0x307 : Rst).eval 0 0x1014 0⟩
/-- R551 BT_CAL_START. -/
def BT_CAL_START : Fld := ⟨0x1018, 0, 1, .wo, (.n 0 : Rst).eval 0 0x1018 0⟩
/-- R551 BT_RST_DOMAIN. -/
def BT_RST_DOMAIN : Fld := ⟨0x1020, 0, 6, .krw, (.n 0 : Rst).eval 0 0x1020 0⟩
/-- R551 BT_TEST_MODE. -/
def BT_TEST_MODE : Fld := ⟨0x1024, 0, 4, .krw, (.n 0 : Rst).eval 0 0x1024 0⟩
/-- R551 BT_OEM_FUSE_LO. -/
def BT_OEM_FUSE_LO : Fld := ⟨0x1028, 0, 32, .krw, (.fused : Rst).eval 0 0x1028 0⟩
/-- R551 BT_OEM_FUSE_HI. -/
def BT_OEM_FUSE_HI : Fld := ⟨0x102c, 0, 32, .krw, (.fused : Rst).eval 0 0x102c 0⟩
/-- R551 BT_LANE_FAILED. -/
def BT_LANE_FAILED (i : Nat) : Fld := ⟨(0x1040 + i * 4), 0, 32, .ro, (.n 0 : Rst).eval i (0x1040 + i * 4) 0⟩

/-- The registers of chapter 12, part 0. -/
def rows12_0 : List RegRow := [
  ⟨0x2800000, [], [⟨0, 1, .srw, .n 1⟩]⟩,
  ⟨0x2800004, [], [⟨0, 5, .rw, .n 0⟩, ⟨8, 7, .rw, .n 0⟩, ⟨31, 1, .wo, .n 0⟩]⟩,
  ⟨0x2800008, [], [⟨0, 4, .ro, .n 0⟩, ⟨4, 4, .ro, .n 0⟩, ⟨8, 1, .ro, .n 0⟩, ⟨9, 1, .ro, .n 0⟩]⟩,
  ⟨0x2800010, [], [⟨0, 16, .ro, .n 0⟩, ⟨16, 16, .ro, .n 0⟩]⟩,
  ⟨0x2800014, [], [⟨0, 16, .ro, .n 0⟩, ⟨16, 16, .ro, .n 0⟩]⟩,
  ⟨0x2800020, [(4, 7)], [⟨0, 16, .srw, .list [200, 100, 5000, 40, 10000, 2000, 2000]⟩]⟩,
  ⟨0x2800040, [(4, 4)], [⟨0, 8, .ro, .n 0⟩, ⟨8, 1, .ro, .n 0⟩, ⟨9, 1, .ro, .n 0⟩, ⟨12, 4, .ro, .n 0⟩]⟩,
  ⟨0x2800050, [], [⟨0, 16, .srw, .n 0xa⟩]⟩,
  ⟨0x2800054, [], [⟨0, 11, .ro, .n 0⟩]⟩,
  ⟨0x2800060, [], [⟨0, 10, .w1c, .n 0⟩]⟩,
  ⟨0x2800068, [], [⟨0, 32, .ro, .n 0xffffffff⟩]⟩,
  ⟨0x280006c, [], [⟨0, 32, .ro, .n 0xffffffff⟩]⟩,
  ⟨0x2800080, [(4, 4)], [⟨0, 3, .ro, .n 0⟩, ⟨3, 1, .ro, .n 0⟩, ⟨4, 6, .ro, .n 0⟩]⟩]

def rows12 : List RegRow := rows12_0

/-- The registers of chapter 13, part 0. -/
def rows13_0 : List RegRow := [
  ⟨0x3000000, [], [⟨0, 3, .ro, .n 0⟩, ⟨3, 3, .ro, .n 0⟩, ⟨6, 5, .ro, .n 0⟩, ⟨11, 4, .ro, .n 0⟩, ⟨15, 1, .ro, .n 0⟩, ⟨16, 1, .ro, .n 0⟩, ⟨17, 1, .ro, .n 0⟩]⟩,
  ⟨0x3000004, [], [⟨0, 7, .w1c, .n 0⟩]⟩,
  ⟨0x3000008, [], [⟨0, 4, .krw, .n 0⟩, ⟨4, 1, .krw, .n 0⟩]⟩,
  ⟨0x3000010, [], [⟨0, 16, .ro, .n 0⟩]⟩,
  ⟨0x3000014, [], [⟨0, 16, .ro, .n 0⟩]⟩]

def rows13 : List RegRow := rows13_0

/-- The registers of chapter 14, part 0. -/
def rows14_0 : List RegRow := [
  ⟨0x408000, [(0x20, 16)], [⟨12, 20, .rw, .n 0⟩]⟩,
  ⟨0x408004, [(0x20, 16)], [⟨0, 32, .rw, .n 0⟩]⟩,
  ⟨0x408008, [(0x20, 16)], [⟨0, 1, .rw, .n 0⟩, ⟨1, 5, .rw, .n 6⟩, ⟨8, 4, .rw, .plus 0⟩]⟩,
  ⟨0x40800c, [(0x20, 16)], [⟨0, 16, .rw, .n 0⟩]⟩,
  ⟨0x408010, [(0x20, 16)], [⟨0, 16, .ro, .n 0⟩, ⟨16, 1, .ro, .n 0⟩, ⟨17, 2, .ro, .n 0⟩, ⟨19, 1, .w1c, .n 0⟩]⟩,
  ⟨0x408014, [(0x20, 16)], [⟨0, 8, .ro, .n 0⟩]⟩,
  ⟨0x408400, [(0x20, 16)], [⟨12, 20, .rw, .n 0⟩]⟩,
  ⟨0x408404, [(0x20, 16)], [⟨0, 32, .rw, .n 0⟩]⟩,
  ⟨0x408408, [(0x20, 16)], [⟨0, 1, .rw, .n 0⟩, ⟨1, 5, .rw, .n 6⟩, ⟨8, 6, .rw, .plus 0⟩, ⟨16, 8, .rw, .n 0⟩, ⟨24, 8, .rw, .n 0⟩]⟩,
  ⟨0x40840c, [(0x20, 16)], [⟨0, 16, .ro, .n 0⟩, ⟨16, 1, .ro, .n 1⟩]⟩,
  ⟨0x408410, [(0x20, 16)], [⟨0, 16, .ro, .n 0⟩, ⟨16, 1, .w1c, .n 0⟩]⟩,
  ⟨0x408800, [], [⟨0, 1, .ro, .n 0⟩, ⟨8, 8, .ro, .n 0⟩, ⟨16, 8, .ro, .n 0⟩]⟩]

def rows14 : List RegRow := rows14_0

/-- The registers of chapter 15, part 0. -/
def rows15_0 : List RegRow := [
  ⟨0x2c00000, [], [⟨0, 1, .rw, .n 0⟩, ⟨1, 1, .rw, .n 0⟩, ⟨2, 2, .rw, .n 0⟩, ⟨8, 8, .rw, .n 0xc8⟩]⟩,
  ⟨0x2c00004, [], [⟨0, 3, .ro, .n 0⟩, ⟨3, 4, .ro, .n 0⟩, ⟨7, 1, .ro, .n 0⟩, ⟨8, 8, .ro, .n 0⟩, ⟨16, 1, .ro, .n 0⟩]⟩,
  ⟨0x2c00008, [], [⟨0, 8, .w1c, .n 0⟩]⟩,
  ⟨0x2c00010, [], [⟨0, 16, .rw, .n 0xfa0⟩, ⟨16, 4, .rw, .n 4⟩]⟩,
  ⟨0x2c00014, [], [⟨0, 16, .ro, .n 0⟩]⟩,
  ⟨0x2c00018, [], [⟨0, 12, .ro, .n 0⟩]⟩,
  ⟨0x2c00040, [(4, 16)], [⟨0, 14, .rw, .n 0x200⟩]⟩,
  ⟨0x2c00080, [(4, 16)], [⟨0, 16, .ro, .n 0⟩]⟩,
  ⟨0x2c000c0, [], [⟨0, 32, .rw, .n 0⟩]⟩,
  ⟨0x2c000c4, [], [⟨0, 16, .rw, .n 0⟩]⟩,
  ⟨0x2c000c8, [], [⟨0, 32, .rw, .n 0⟩]⟩,
  ⟨0x2c000cc, [], [⟨0, 16, .rw, .n 0⟩]⟩,
  ⟨0x2c000d0, [], [⟨0, 14, .rw, .n 0x2328⟩]⟩,
  ⟨0x2c00100, [], [⟨0, 21, .srw, .n 0⟩]⟩,
  ⟨0x2c00104, [], [⟨0, 22, .srw, .n 0⟩]⟩,
  ⟨0x2c00108, [], [⟨0, 16, .srw, .n 0⟩]⟩,
  ⟨0x2c0010c, [], [⟨0, 1, .srw, .n 0⟩]⟩]

def rows15 : List RegRow := rows15_0

/-- The registers of chapter 16, part 0. -/
def rows16_0 : List RegRow := [
  ⟨0, [], [⟨0, 16, .ro, .n 0x1f3a⟩, ⟨16, 16, .ro, .n 0x9102⟩]⟩,
  ⟨4, [], [⟨0, 8, .ro, .n 1⟩]⟩,
  ⟨8, [], [⟨0, 32, .ro, .fused⟩]⟩,
  ⟨0xc, [], [⟨0, 32, .ro, .fused⟩]⟩,
  ⟨0x20, [], [⟨0, 32, .wo, .n 0⟩]⟩,
  ⟨0x24, [], [⟨0, 1, .ro, .n 1⟩, ⟨8, 8, .ro, .n 0⟩]⟩,
  ⟨0x40, [], [⟨0, 16, .wo, .n 0⟩]⟩,
  ⟨0x44, [], [⟨0, 16, .ro, .n 0⟩]⟩,
  ⟨0x48, [], [⟨0, 16, .wo, .n 0⟩]⟩,
  ⟨0x4c, [], [⟨0, 16, .ro, .n 0⟩]⟩,
  ⟨0x50, [], [⟨0, 16, .wo, .n 0⟩]⟩,
  ⟨0x54, [], [⟨0, 32, .rw, .n 0x76543210⟩]⟩,
  ⟨0x58, [], [⟨0, 4, .rw, .n 8⟩]⟩,
  ⟨0x60, [], [⟨0, 30, .ro, .n 0⟩]⟩,
  ⟨0x64, [], [⟨0, 32, .ro, .n 0⟩]⟩,
  ⟨0x68, [], [⟨0, 16, .ro, .n 0⟩, ⟨16, 1, .ro, .n 0⟩]⟩,
  ⟨0x80, [], [⟨0, 32, .ro, .n 0⟩]⟩,
  ⟨0x84, [], [⟨0, 32, .krw, .n 0⟩]⟩,
  ⟨0xa0, [], [⟨0, 1, .srw, .n 1⟩]⟩,
  ⟨0xa8, [], [⟨0, 32, .ro, .n 0⟩]⟩,
  ⟨0xac, [], [⟨0, 32, .ro, .n 0⟩]⟩,
  ⟨0xb0, [], [⟨0, 32, .ro, .n 0⟩]⟩,
  ⟨0xb4, [], [⟨0, 32, .ro, .n 0⟩]⟩,
  ⟨0xb8, [], [⟨0, 32, .ro, .n 0⟩]⟩]

/-- The registers of chapter 16, part 1. -/
def rows16_1 : List RegRow := [
  ⟨0xbc, [], [⟨0, 1, .ro, .n 0⟩, ⟨1, 1, .ro, .n 0⟩, ⟨2, 1, .ro, .n 0⟩, ⟨3, 1, .ro, .n 0⟩, ⟨8, 8, .ro, .n 0⟩]⟩,
  ⟨0xc0, [], [⟨0, 32, .ro, .n 0⟩]⟩,
  ⟨0xc4, [], [⟨0, 32, .ro, .n 0⟩]⟩,
  ⟨0xd0, [], [⟨0, 5, .w1c, .n 0⟩]⟩,
  ⟨0xe0, [], [⟨0, 1, .ro, .n 0⟩, ⟨1, 1, .ro, .n 0⟩, ⟨2, 1, .ro, .n 0⟩]⟩,
  ⟨0xe4, [], [⟨0, 30, .ro, .n 0⟩]⟩,
  ⟨0xe8, [], [⟨0, 32, .ro, .n 0⟩]⟩]

def rows16 : List RegRow := rows16_0 ++ rows16_1

/-- The registers of chapter 17, part 0. -/
def rows17_0 : List RegRow := [
  ⟨0x300000, [], [⟨0, 1, .rw, .n 0⟩]⟩,
  ⟨0x300008, [], [⟨0, 32, .ro, .n 0⟩]⟩,
  ⟨0x30000c, [], [⟨0, 16, .ro, .n 0⟩]⟩,
  ⟨0x300010, [], [⟨0, 32, .ro, .n 0⟩]⟩,
  ⟨0x300014, [], [⟨0, 16, .ro, .n 0⟩]⟩,
  ⟨0x300018, [], [⟨0, 1, .w1c, .n 0⟩]⟩,
  ⟨0x300100, [(4, 32)], [⟨0, 32, .w1c, .n 0⟩]⟩,
  ⟨0x300200, [(4, 32)], [⟨0, 32, .rw, .n 0⟩]⟩,
  ⟨0x300300, [(4, 44)], [⟨0, 6, .rw, .plus 16⟩]⟩,
  ⟨0x300400, [(8, 1024)], [⟨0, 20, .ro, .n 0xa⟩]⟩,
  ⟨0x300404, [(8, 1024)], [⟨0, 16, .ro, .n 0x20⟩]⟩,
  ⟨0x400000, [], [⟨0, 1, .ro, .n 0⟩, ⟨1, 1, .ro, .n 0⟩, ⟨8, 8, .ro, .n 0⟩]⟩,
  ⟨0x400004, [], [⟨0, 5, .w1c, .n 0⟩]⟩,
  ⟨0x400008, [], [⟨0, 32, .ro, .n 0⟩]⟩,
  ⟨0x40000c, [], [⟨0, 16, .rw, .n 0x3e8⟩]⟩,
  ⟨0x400100, [(4, 64)], [⟨0, 3, .ro, .list ([1, 1, 3, 3] ++ List.replicate 60 2)⟩, ⟨3, 3, .ro, .n 0⟩, ⟨6, 1, .ro, .n 1⟩, ⟨7, 1, .ro, .fused⟩, ⟨8, 8, .ro, .fused⟩]⟩,
  ⟨0x3400000, [], [⟨0, 1, .rw, .n 0⟩, ⟨1, 1, .wo, .n 0⟩]⟩,
  ⟨0x3400004, [], [⟨0, 1, .w1c, .n 0⟩, ⟨1, 1, .w1c, .n 0⟩, ⟨2, 1, .w1c, .n 0⟩]⟩,
  ⟨0x3400008, [], [⟨0, 21, .ro, .n 0⟩]⟩,
  ⟨0x3400010, [], [⟨0, 1, .rw, .n 0⟩, ⟨16, 16, .rw, .n 0x64⟩]⟩,
  ⟨0x3400018, [], [⟨0, 32, .ro, .n 0⟩]⟩,
  ⟨0x340001c, [], [⟨0, 32, .ro, .n 0⟩]⟩,
  ⟨0x3400100, [(4, 64)], [⟨0, 6, .rw, .n 0⟩, ⟨8, 4, .rw, .n 0⟩, ⟨12, 1, .rw, .n 0⟩, ⟨31, 1, .rw, .n 0⟩]⟩,
  ⟨0x3400200, [(8, 64)], [⟨0, 32, .ro, .n 0⟩]⟩]

/-- The registers of chapter 17, part 1. -/
def rows17_1 : List RegRow := [
  ⟨0x3400204, [(8, 64)], [⟨0, 16, .ro, .n 0⟩]⟩,
  ⟨0x3401000, [(0x40, 32)], [⟨0, 32, .ro, .n 0⟩]⟩,
  ⟨0x3401004, [(0x40, 32)], [⟨0, 32, .ro, .n 0⟩]⟩,
  ⟨0x3401008, [(0x40, 32)], [⟨0, 32, .ro, .n 0⟩]⟩,
  ⟨0x340100c, [(0x40, 32)], [⟨0, 32, .ro, .n 0⟩]⟩,
  ⟨0x3401010, [(0x40, 32)], [⟨0, 32, .ro, .n 0⟩]⟩,
  ⟨0x3401014, [(0x40, 32)], [⟨0, 32, .ro, .n 0⟩]⟩,
  ⟨0x3401018, [(0x40, 32)], [⟨0, 32, .ro, .n 0⟩]⟩,
  ⟨0x340101c, [(0x40, 32)], [⟨0, 32, .ro, .n 0⟩]⟩,
  ⟨0x3401020, [(0x40, 32)], [⟨0, 32, .ro, .n 0⟩]⟩,
  ⟨0x3401024, [(0x40, 32)], [⟨0, 32, .ro, .n 0⟩]⟩]

def rows17 : List RegRow := rows17_0 ++ rows17_1

/-- The registers of chapter 18, part 0. -/
def rows18_0 : List RegRow := [
  ⟨0x1000, [], [⟨0, 4, .ro, .n 0⟩, ⟨4, 1, .ro, .n 0⟩, ⟨5, 1, .ro, .n 0⟩, ⟨6, 1, .ro, .n 0⟩, ⟨8, 8, .ro, .n 0⟩, ⟨16, 2, .ro, .n 0⟩, ⟨18, 2, .ro, .n 0⟩, ⟨20, 4, .ro, .n 0⟩]⟩,
  ⟨0x1004, [], [⟨6, 26, .rw, .n 0⟩]⟩,
  ⟨0x1008, [], [⟨0, 32, .rw, .n 0⟩]⟩,
  ⟨0x100c, [], [⟨0, 24, .rw, .n 0⟩, ⟨31, 1, .wo, .n 0⟩]⟩,
  ⟨0x1010, [], [⟨0, 5, .ro, .fused⟩, ⟨8, 5, .ro, .fused⟩]⟩,
  ⟨0x1014, [], [⟨0, 10, .rw, .n 0x307⟩]⟩,
  ⟨0x1018, [], [⟨0, 1, .wo, .n 0⟩]⟩,
  ⟨0x1020, [], [⟨0, 6, .krw, .n 0⟩]⟩,
  ⟨0x1024, [], [⟨0, 4, .krw, .n 0⟩]⟩,
  ⟨0x1028, [], [⟨0, 32, .krw, .fused⟩]⟩,
  ⟨0x102c, [], [⟨0, 32, .krw, .fused⟩]⟩,
  ⟨0x1040, [(4, 17)], [⟨0, 32, .ro, .n 0⟩]⟩]

def rows18 : List RegRow := rows18_0

end Sys2Proof.Machine.F
end

