-- ==== Sys2Proof/Machine/State.lean ====
section
/-! DEFINITION. The state of the ZHV9102 as plain data, and State.reset. -/

namespace Sys2Proof.Machine
open Sys2Proof

/-- Memory as a sparse list of bytes; an unlisted address reads as 0 (log entry 4). -/
abbrev Memory := List Host.Cell

/-- The time unit's counters: seconds, nanoseconds with 32 fractional bits, the increment in the same
form (R302), TICK_COUNT (R305) and shaping time in nanoseconds with 32 fractional bits (R270). -/
structure Clock where
  sec   : Nat
  sub   : Nat
  inc   : Nat
  tick  : Nat
  shape : Nat
deriving DecidableEq, Repr

/-- A Lampblack record of R515 without its CRC, which R516 computes from it. -/
structure LampRec where
  seq     : Nat
  source  : Nat
  form    : Nat
  flcData : Nat
  timeNs  : Nat
  timeS   : Nat
  dataB   : Nat
  count   : Nat
deriving DecidableEq, Repr

/-- Rate-limit state of one event source (R519): credit in 1/781,250,000 of a record, the tick it was
last brought up to, and the assertions suppressed since the last record. -/
structure EvtSrc where
  credit     : Nat
  at_        : Nat
  suppressed : Nat
deriving DecidableEq, Repr

/-- Lampblack (R515 to R520). -/
structure Lamp where
  recording : Bool
  ring      : Tab LampRec
  srcs      : Tab EvtSrc
  copied    : Nat
  storeFrom : Option Nat
deriving DecidableEq, Repr

/-- A frame counter (R525). -/
structure Ctr where
  bytes   : Nat
  packets : Nat
  invalid : Bool
deriving DecidableEq, Repr

/-- An archive generation (R529): number, the times of its first and last reading, COMPLETE, the slices
copied, and the records that differ from an empty counter. -/
structure ArchGen where
  number   : Nat
  first    : Nat × Nat
  last     : Nat × Nat
  complete : Bool
  slices   : Nat
  recs     : Tab Ctr
deriving DecidableEq, Repr

/-- A captured pair half (R489): requester, offset of the _HI register, the low half, the tick. -/
structure Capture where
  who  : Requester
  off  : Nat
  low  : Nat
  tick : Nat
deriving DecidableEq, Repr

/-- Status, DETAIL and RESULT of a reply (R427, R428). -/
structure Rep where
  status : Nat
  detail : Nat
  result : Nat
deriving DecidableEq, Repr

/-- A reply as it is written to a completion ring (R427). Its bytes are Reply.bytes. -/
structure Reply where
  tag    : Nat
  rep    : Rep
  phase  : Nat
  hw     : Bool
  opcode : Nat
  sq     : Nat
  tsNs   : Nat
  sqHead : Nat
deriving DecidableEq, Repr

/-- A packet the device holds and has not begun (R420): opcode, packet, completion ring, whether a
firmware restart keeps it for execution after the restart (R505), whether its reply is dropped (R447). -/
structure Fetched where
  op      : Nat
  req     : Req
  cq      : Fin 16
  kept    : Bool
  noReply : Bool
deriving DecidableEq, Repr

/-- What a command that has begun waits for before its reply. -/
inductive WaitKind where
  | commit (mask sec sub : Nat)
  | snapshot (sec sub : Nat)
  | strobe (mask : Nat)
  | swap (group gen : Nat)
  | portUp (ports : List Nat)
  | portDark (ports : List Nat)
  | portConfig (port : Nat)
  | policer (tick : Nat)
  | trim (lantern : Nat)
  | relight (lantern : Nat) (wick : Wick)
  | segments
  | bankClear (bank : Nat)
  | bankTest (bank : Nat)
  | domain (n : Nat)
  | frameSend (frame : Nat)
  | time
deriving DecidableEq, Repr

/-- A command in flight that has begun (R420, R445): opcode, packet, completion ring, whether R447 drops its
reply, whether a firmware restart has answered it while its effect goes on (R505). -/
structure Wait where
  op      : Nat
  req     : Req
  cq      : Fin 16
  noReply : Bool
  answered : Bool
  kind    : WaitKind
deriving DecidableEq, Repr

/-- Replies since the last message, and whether COAL_TIME runs (R422). -/
structure Coal where
  count : Nat
  timer : Bool
deriving DecidableEq, Repr

/-- An unmasked MSI-X vector: message address and data (R412). -/
structure MsixEntry where
  addr : Nat
  data : Nat
deriving DecidableEq, Repr

/-- Smiem (R419 to R450), less the ring registers, which are register fields. -/
structure Smi where
  fetched : List Fetched
  waits   : List Wait
  written : Tab Nat
  coal    : Tab Coal
  rotate  : Nat
deriving DecidableEq, Repr

/-- Global configuration (R479 to R498), less its registers. -/
structure Cfg where
  captures : List Capture
  strobe   : Nat
  fpFirst  : Bool
deriving DecidableEq, Repr

/-- A transmit timestamp queue entry (R318). -/
structure TsqEntry where
  id        : Nat
  port      : Nat
  discarded : Bool
  ns        : Nat
  sec       : Nat
deriving DecidableEq, Repr

/-- The time unit beside its counters (R318 to R323). -/
structure TimeU where
  fifos    : Tab (List (Nat × Nat))
  lastEdge : Tab Nat
  tsq      : Tab (List TsqEntry)
  pps      : Bool
  lastRise : Option Nat
deriving DecidableEq, Repr

/-- A background test pass over a scratchpad bank (R512, R513): the bank, the next word, the faulty words
found, and whether a BANK_TEST command started it. -/
structure TestPass where
  bank   : Nat
  word   : Nat
  faulty : Nat
  byCmd  : Bool
deriving DecidableEq, Repr

/-- The Sconce and its scratchpad (R504 to R514), less its registers. -/
structure Sconce where
  scratch  : Tab Nat
  test     : Option TestPass
  nextBank : Nat
  waiting  : Bool
  restarting : Bool
deriving DecidableEq, Repr

/-- A boot image accepted by R543: source (1 area A, 2 area B, 3 push), whether the first area tried had
failed, serial number, the board block's writes and the forwarding section. -/
structure Image where
  source   : Nat
  fallback : Bool
  serial   : Nat
  board    : List (Nat × Nat)
  fwd      : Bytes
deriving DecidableEq, Repr

/-- The boundary-scan port (R564): the instruction in force and the boundary register's update stage. -/
structure Jtag where
  inst  : JtagOp
  cells : Nat
deriving DecidableEq, Repr

/-- Power-up and reset (R537 to R549), less its registers: the levels of POR_N, PERST_N and FAULT_N, the last step of R540
completed, whether the calibration of the SerDes has ended, whether step 4 waits for a push and whether PUSH_GO has been written, the image accepted, reset domains held and
those that wait to be reset, the SPI flash, and whether the inactive area has passed OP 1 of FIRMWARE_UPDATE. -/
structure Boot where
  porN     : Bool
  perstN   : Bool
  faultN   : Bool
  step     : Nat
  serdes   : Bool
  pushWait : Bool
  pushGo   : Bool
  image    : Option Image
  held     : List Nat
  rstWait  : List Nat
  flash    : Memory
  verified : Bool
  jtag     : Jtag
deriving DecidableEq, Repr

/-! Frames, cells and queues (04, 05, 07, 10). -/

/-- An edit of R164, addressed by received offset. -/
inductive Edit where
  /-- SET_FIELD, and the address edits of APPLY_NH. -/
  | set (off : Nat) (data : Bytes)
  /-- PUSH. -/
  | push (off : Nat) (data : Bytes)
  /-- POP. -/
  | pop (off len : Nat)
  /-- DEC_TTL at a layer's offset: TTL and checksum of IPv4, hop limit of IPv6. -/
  | ttl (off : Nat) (v6 : Bool)
  /-- APPLY_NH: the VID bits of the TCI at an offset. -/
  | vid (off vid : Nat)
deriving DecidableEq, Repr

/-- What a punted, trapped or copied frame carries beside its bytes (R170). -/
structure HostMeta where
  reason : Nat
  stage  : Nat
  chain  : Nat
  wordId : Nat
  opcode : Nat
deriving DecidableEq, Repr

/-- Timestamp requests of a host inject (R317). -/
structure TsReq where
  tsId    : Option Nat
  oneStep : Bool
deriving DecidableEq, Repr

/-- How a copy to the host is classed (R465). -/
inductive HostKind where
  | punt | trap | copy
deriving DecidableEq, Repr

/-- What a copy is. -/
inductive CopyKind where
  /-- A forwarded copy; for a recirculation port, the opcode of its next pass. -/
  | forward (recircOp : Option Nat)
  /-- A copy to the host: its class, and what R170 gives. -/
  | host (kind : HostKind) (info : HostMeta)
  /-- A mirror copy: session, its MODE and its sequence number (R259, R260). -/
  | mirror (session mode seq : Nat)
  /-- A host inject (R317, R467). -/
  | inject (req : TsReq)
  /-- A segmented send: HDR_LEN, MSS and the segments sent (R138). -/
  | segmented (hdrLen mss sent : Nat) (req : TsReq)
deriving DecidableEq, Repr

/-- What egress does with the redundancy tag (R355, R356). -/
inductive RTag where
  | keep
  | put (seq : Nat)
  | remove
deriving DecidableEq, Repr

/-- A descriptor (R243): the frame, class, colour, edits, the offsets of layers 0 to 4 that are valid, flow
hash, pass count, the pool charged, flags, the layer whose ECN field is to be marked, the Hogshead chunks it holds,
the cells its spill has written while it lasts, and whether it has been spilled (R263). -/
structure Copy where
  fid      : Nat
  cls      : Nat
  colour   : Nat
  edits    : List Edit
  layers   : List (Option Nat)
  hash     : Nat
  pass     : Nat
  pool     : Nat
  kind     : CopyKind
  ct       : Bool
  beacon   : Bool
  waitEof  : Bool
  ecn      : Option Nat
  rtag     : RTag
  chunks   : List Nat
  spilling : Option Nat
  spilled  : Bool
deriving DecidableEq, Repr

/-- How a frame's reception ended (R120, R235). -/
inductive RxEnd where
  | good | runt | fcs | oversize | jabber | refused
deriving DecidableEq, Repr

/-- A charge that trails a policer's first one (R274): the policer, which buckets it debits, and the stream gate
with the replica whose octet count it joins. -/
structure Charge where
  policer : Nat
  c    : Bool
  e    : Bool
  gate : Option Nat
  west : Bool
deriving DecidableEq, Repr

/-- A frame: where it first entered, the logical port that wrote it, its arrival priority and pool, the
MAX_FRAME in force at its first byte, the bytes written, its cells in order, the count that later cells
take (R250), whether its reception ended, how and at what length, whether it was cut under R122 or refused under R235, its
receive time, pass, generation and the start of its first pass, what STA_ADDR matched, the sequence and ports
a stream request gave it (R355), whether its decision has been released, the discard counters that take
its length once reception ends, and whether its request for cells was refused and is repeated (R235). -/
structure Frame where
  ingress   : Nat
  via       : Nat
  prio      : Nat
  pool      : Nat
  maxFrame  : Nat
  bytes     : Bytes
  cells     : List Nat
  later     : Nat
  ended     : Option RxEnd
  rxLen     : Nat
  cut       : Bool
  refused   : Bool
  headed    : Bool
  rxTs      : Nat
  pass      : Nat
  gen       : Nat
  passStart : Nat
  staMatch  : Nat
  entryOp   : Nat
  flowHash  : Nat
  drawn     : Option (Nat × List Nat)
  decided   : Bool
  owes      : List Nat
  charges   : List Charge
  parked    : Bool
deriving DecidableEq, Repr

/-- A cell in use (R229): its bytes, their CRC-32C as the writer computed it, its reference count, the pool
whose ingress account it is charged to, and whether it is quarantined (R231). -/
structure CellRec where
  data  : Bytes
  crc   : Nat
  refs  : Nat
  pool  : Nat
  quarantined : Bool
deriving DecidableEq, Repr

/-- A failure recorded for a header (R155, R167, R170): reason and the word that punted. -/
structure Failure where
  reason : Nat
  stage  : Nat
  wordId : Nat
  opcode : Nat
deriving DecidableEq, Repr

/-- How far a stage has brought a header: not begun, waiting for the Bushel or the ternary array, or ready
to be completed. -/
inductive Phase where
  | fresh
  | waiting (bushel ternary : Bool)
deriving DecidableEq, Repr

/-- A header in the chains (R156): dealing position, frame, the 320-byte vector, the received window, the
opcode that selects its word, the opcode its last word was selected by, its edits, what R170 reports of the word that punted, the key of its word, the hash seed and punt class its marker
gives (R172), whether its frame had ended when it was dealt, which wicks hold it, and the loaded words it has completed (R532). -/
structure Header where
  pos     : Nat
  fid     : Nat
  chain   : Nat
  hv      : Bytes
  window  : Bytes
  op      : Nat
  disp    : Nat
  edits   : List Edit
  punt    : Option Failure
  phase   : Phase
  key     : Bytes
  cursor  : Nat
  seed    : Nat
  puntCls : Nat
  full    : Bool
  inA     : Bool
  inB     : Bool
  words   : Nat
deriving DecidableEq, Repr

/-- What a lantern's wicks are being put through beside their states. -/
inductive WickTask where
  | none
  /-- A trim: dealing position of the marker, once attached, and whether FORCE asked for it (R343, R347). -/
  | trim (marker : Option Nat) (force : Option Wick)
  /-- A relight: wick, step of R345, dealing position of its bubble. -/
  | relight (w : Wick) (step : Nat) (bubble : Nat)
deriving DecidableEq, Repr

/-- A lantern's ingress, dealer, chains and reorder unit (R58, R143, R145, R169, R338, R343, R345): the FIFO, the
recirculated frames that wait, the dealer's turn, next chain and next position, headers by chain × 20 + stage, the
results, the punt policer's credit in thousandths of a frame, learn requests held, the wicks' task, the wick whose
overlap window is open with the positions it had presented, the frames R340 holds, a FORCE that waits for a relight, the second of a trim retried and of the instant last served (R344), and the parts of a slot left over of
LOOKUP, BLOCKED and EMPTY, in 1/100,000 (R532). -/
structure Lantern where
  fifo     : List Nat
  recirc   : List Nat
  turn     : Bool
  chain    : Nat
  nextPos  : Nat
  stages   : Tab (List Header)
  reorder  : List Header
  credit0  : Nat
  credit1  : Nat
  learns   : List (Nat × Bytes)
  task     : WickTask
  overlap  : Option Wick
  presented : List Nat
  extra    : List Nat
  force    : Option Nat
  retry    : Option Nat
  served   : Option Nat
  slots    : Nat × Nat × Nat
deriving DecidableEq, Repr

/-! The Bushel (06, 10). -/

/-- An entry of a hashed table (R197, R211, R219): stored key, data (station port of 2 bytes, next hop of 3,
exact-match data of 14), flags, OPSEL and the hit bits of the east and west replicas. -/
structure Ent where
  key    : Bytes
  data   : Bytes
  static : Bool
  lock   : Bool
  aged   : Bool
  frozen : Bool
  opsel  : Nat
  hitE   : Bool
  hitW   : Bool
deriving DecidableEq, Repr

/-- A span filter entry of one family (R209): lengths with their route counts, longest first, and the
default route's next hop and OPSEL. -/
structure Span where
  lens : List (Nat × Nat)
  dflt : Option (Nat × Nat)
deriving DecidableEq, Repr

/-- A row poisoned in one replica (R225): the replica, bank × 4,096 + row, and the positions of an indexed
row not yet written again. -/
structure Poison where
  west : Bool
  row  : Nat
  left : List Nat
deriving DecidableEq, Repr

/-- A learn request (R200). -/
structure LearnReq where
  key     : Bytes
  port    : Nat
  lantern : Nat
deriving DecidableEq, Repr

/-- An entry of the move tracker (R203), in nanoseconds of network time: key, window start, count of moves,
last move, freeze expiry. -/
structure Track where
  key    : Bytes
  start  : Nat
  count  : Nat
  last   : Nat
  frozen : Option Nat
deriving DecidableEq, Repr

/-- A stream request (R352): the releasing lantern, the stream, the forwarded copy as its ports will have it,
the frame's other copies with their queues, the references the overlap window holds, and how many releases
of the frame it answers (R355). -/
structure StreamReq where
  lantern : Nat
  stream  : Nat
  fid     : Nat
  fwd     : Copy
  others  : List (Nat × Copy)
  extra   : Nat
  times   : Nat
deriving DecidableEq, Repr

/-- A bound shadow (SHADOW_BIND): table, lantern of table 0x14, LOC and ADDR. -/
structure Shadow where
  table   : Nat
  lantern : Nat
  loc     : Nat
  addr    : Nat
deriving DecidableEq, Repr

/-- A difference that awaits its second reading (R222): table, lantern, slot or index. -/
structure Diff where
  table   : Nat
  lantern : Nat
  slot    : Nat
deriving DecidableEq, Repr

/-- The Bushel beside its registers: hashed tables by identifier (slot to entry), span entries by VRF (IPv6 from
4,096), poisoned rows, learn and recovery queues of the replicas, the serialiser's last turn and recovery
turn, the move tracker, the sweeper's next slot and the visits owed, pool ranges released, shadows, the
compare sweeps' positions and the differences found. -/
structure Tables where
  hash     : Tab (Tab Ent)
  span     : Tab Span
  poison   : List Poison
  learnE   : List LearnReq
  learnW   : List LearnReq
  recE     : List StreamReq
  recW     : List StreamReq
  turn     : Nat
  recTurn  : Bool
  track    : List Track
  sweep    : Nat
  owed     : Nat
  released : List (Nat × Nat × Nat)
  shadows  : List Shadow
  ternAt   : Nat
  otherAt  : Nat
  diffs    : List Diff
deriving DecidableEq, Repr

/-- A frame in transmission: its queue, its descriptor, how many cell reads it has made, the bytes read so far, whether
it must end with a stomped FCS (R121, R230), whether it ends early and has given its other cells up. -/
structure Tx where
  q     : Nat
  copy  : Copy
  read  : Nat
  bytes : Bytes
  stomp : Bool
  over_  : Bool
deriving DecidableEq, Repr

/-- A port's MAC and link beside its registers: the frame in reception, the flow control last signalled to
the partner (bit 8 pause, bits 7:0 priorities), whether LIGHTING was entered from REST, whether its lanes
transmit, whether its light-up waits for the regulator (R44), whether the idle policy has held (R136), and
the copy in transmission. -/
structure Port where
  rx       : Option Nat
  signal   : Nat
  fromRest : Bool
  lit      : Bool
  waitVolt : Bool
  tx       : Option Tx
deriving DecidableEq, Repr

/-- A lane: is it lit (R132), and its transmit taps PRE2, PRE1, MAIN, POST1 in force (R563). -/
structure Lane where
  lit  : Bool
  taps : List Int
deriving DecidableEq, Repr

/-- What a frame that waits for cells is for (R235): a further pass, an offer to a queue, or a return from the
Hogshead to a queue. -/
inductive CellUse where
  | recirc (lantern : Nat)
  | offer (q : Nat) (c : Copy)
  | back (q : Nat)
deriving DecidableEq, Repr

/-- The buffer manager beside its registers: cells in use, the bank the next request is served from, the
order's rotation among lanterns, frames waiting for cells, queues, WRED averages and generator, mirror sample
counters, Hogshead chunks in use. -/
structure Bm where
  cells   : Tab CellRec
  bank    : Nat
  round   : Nat
  waiting : List (Nat × CellUse)
  queues  : Tab (List Copy)
  avg     : Tab Int
  lfsr    : Nat
  mirror  : Tab Nat
  chunks  : List Nat
deriving DecidableEq, Repr

/-- An energy report record (R104). -/
structure EnergyRec where
  (period startNs startS energy eDyn eLeak eLanes eDram eOther eTele : Nat)
  (gain setpoint budget floor : Nat)
  tjMax : Int
  (mode workRun workForced throttle sr flags : Nat)
deriving DecidableEq, Repr

/-- An AVSBus write that awaits VDone (R93): its value, the value before it, and whether it was resent. -/
structure AvsWrite where
  mv     : Nat
  old    : Nat
  resent : Bool
deriving DecidableEq, Repr

/-- How far a calibration of R545 has come. -/
inductive CalPhase where
  | awaitReadings
  | awaitVDone
  | observing (periods failed : Nat)
deriving DecidableEq, Repr

/-- The Chandler beside its registers (R78 to R108): the period in progress and its start, the time each state
class has been held, telemetry and temperature readings, the last 16 periods' counts, the last 256 reports, runs
of telemetry failures, the mode and budget the period began with and those the plan was made for, the AVSBus
write in flight, the value VDD_CORE is taken to have, the setpoint R93 holds, the temperature column in use, the
calibration, slices due and owed (work, due period), slices run, the energy of each work's last slice, lanes to
darken at the next boundary, forwarded bytes, segments accessed in the period and in the last, those planned to rest, lanterns whose sentinel window saw VDD move. -/
structure Chan where
  inPeriod   : Bool
  begun      : Nat
  start      : Nat × Nat
  startShape : Nat
  lastTick   : Option Nat
  stateAt    : Nat
  stateAcc   : Tab Nat
  vout       : List Nat
  pout       : Tab Int
  poutFail   : Nat
  tjs        : List Int
  tjMax      : Option Int
  hist       : List (Tab Nat)
  records    : List EnergyRec
  missing    : Nat
  outside    : Nat
  mode       : Nat
  budget     : Nat
  planMode   : Nat
  planBudget : Nat
  rebuild    : Bool
  avs        : Option AvsWrite
  taken      : Nat
  hold       : Nat
  column     : Nat
  cal        : Option CalPhase
  voutMode   : Nat
  nextDue    : Tab Nat
  owed       : List (Nat × Nat)
  ran        : Nat
  ranForced  : Nat
  planned    : List (Nat × Bool)
  cost       : Tab Nat
  darken     : List Nat
  bytes      : Nat
  deferBytes : Nat
  share      : Nat × Nat
  segUse     : Nat
  segLast    : Nat
  srMask     : Nat
  effBudget  : Nat
  floor      : Nat
  nextEff    : Nat
  nextFloor  : Nat
  flags      : Nat
  moved      : Nat
deriving DecidableEq, Repr

/-- A held RULESET_SWAP (R177): its group, its copy flag, and whether its group has been committed since. -/
structure SwapHeld where
  group     : Nat
  copy      : Bool
  committed : Bool
deriving DecidableEq, Repr

/-- The rule-set generation in force, a held swap, and whether the copy of R176 is to run or runs. -/
structure Rules where
  gen     : Nat
  held    : Option SwapHeld
  copying : Bool
deriving DecidableEq, Repr

/-- A gate list (R278, R290): its entries of 8 bytes, base time, cycle and extension in ns, CONFIG_CHANGE_TIME and
the network time of its acceptance in ns. -/
structure GList where
  entries : List Bytes
  base    : Nat × Nat
  cycle   : Nat
  ext     : Nat
  change  : Nat
  acc     : Nat
deriving DecidableEq, Repr

/-- A port gate or stream gate: the entries written, the accepted list that has not started, the running list, and
of a stream gate the octet counts of the replicas with the start of the entry they count (R279, R281, R291). -/
structure Gate where
  store : Tab Bytes
  pend  : Option GList
  run   : Option GList
  at_   : Nat
  octE  : Nat
  octW  : Nat
deriving DecidableEq, Repr

/-- Egress scheduling beside its registers (R283 to R293): gates by port and by number; T_NEXT in 2⁻¹⁶ ns and the
wheel slot of a shaper that is not due, by shaper (queue shapers, throttles from 8,192, ports from 16,384); each
port's rotation of its classes. -/
structure Egr where
  gates  : Tab Gate
  sgates : Tab Gate
  next   : Tab Nat
  filed  : Tab Nat
  rot    : Tab (List Nat)
deriving DecidableEq, Repr

/-! Taper (R451 to R478). -/

/-- A block sent and held for retry (R456, R459). -/
structure TapBlock where
  seq   : Nat
  type  : Nat
  vc    : Nat
  first : Bool
  last  : Bool
  body  : Bytes
deriving DecidableEq, Repr

/-- A message that waits to be sent or is being sent (R457): its TYPE, the bytes not yet sent, and whether its first block
has gone. -/
structure TapMsg where
  type  : Nat
  bytes : Bytes
  begun : Bool
deriving DecidableEq, Repr

/-- A message being received on a VC, or received whole: TYPE, bytes, the credits its blocks hold in the receive buffer,
and whether its remaining blocks are discarded (R457, R462). -/
structure TapOpen where
  type    : Nat
  vc      : Nat
  bytes   : Bytes
  credits : Nat
  skip    : Bool
deriving DecidableEq, Repr

/-- A counter stream pass in progress: the next counter and the end (R468). -/
structure CPass where
  next : Nat
  stop : Nat
deriving DecidableEq, Repr

/-- The Taper link beside its registers. Sender: next SEQ, unacknowledged blocks oldest first, the SEQs to send again, the
last SEQ acknowledged, consecutive replays without progress and their block, granted and consumed counts by VC, messages
by VC, the VC served last. Receiver: the SEQ expected, the tick of the last NAK of an error episode, counts granted by VC,
open messages by VC, whole messages not yet acted on, injects that wait for cells with the credits they withhold (frame,
VC, credits). Link: whether Ethernet carriage is in force, whether FIRST_UP is to be sent, lanes usable, first lane in use,
WIDTH_OK and NEXT_EXPECTED of the peer's TRAIN words. Streams: the pass in progress, the number of the next pass, the tally
period it is due in, the next event record to send. -/
structure Taper where
  seq      : Nat
  unacked  : List TapBlock
  again    : List Nat
  lastAck  : Option Nat
  replays  : Nat
  replayOf : Option Nat
  granted  : Tab Nat
  consumed : Tab Nat
  msgs     : Tab (List TapMsg)
  turn     : Nat
  expected : Nat
  nakAt    : Option Nat
  grants   : Tab Nat
  open_    : Tab TapOpen
  whole    : List TapOpen
  parked   : List (Nat × Nat × Nat)
  eth      : Bool
  firstUp  : Bool
  usable   : Nat
  lane0    : Nat
  peerWidth : Option Nat
  peerNext : Option Nat
  pass     : Option CPass
  passNo   : Nat
  passDue  : Nat
  events   : Nat
deriving DecidableEq, Repr

/-- A request held by the scheduler of a pseudo-channel (R383 to R386): its client, bank, row and burst within the row,
whether it writes and whether only part of the burst, the tick it was accepted at, and whether it has been counted late. -/
structure DramReq where
  client  : Nat
  bank    : Nat
  row     : Nat
  burst   : Nat
  write   : Bool
  partial_ : Bool
  at_     : Nat
  late    : Bool
deriving DecidableEq, Repr

/-- The HBM controller beside its registers (R378 to R396), by pseudo-channel stack × 32 + channel × 2 + PC: requests in
the order accepted, refresh debts; open rows by pseudo-channel × 64 + bank; extents by region; the extent the next
Hogshead chunk is taken from; the segments whose entry into self-refresh has begun and those that entered with their contents lost; and by segment the scrub slices that SEG_UNINIT awaits. -/
structure Hbm where
  reqs     : Tab (List DramReq)
  debt     : Tab Nat
  open_    : Tab Nat
  regions  : Tab (List Nat)
  hogTurn  : Nat
  entering : Nat
  lost     : Nat
  uninit   : Tab (List Nat)
deriving DecidableEq, Repr

/-- The CXL controller beside its registers (R404, R406): base and size HDM decoder 0 (in CXL 1.1 mode, DVSEC range 1)
was last given, its lock-on-commit bit, Error Not Committed, and the window's lines of 64 bytes stored with poison. -/
structure Cxl where
  base   : Nat
  size   : Nat
  lock   : Bool
  refused : Bool
  poison : List Nat
deriving DecidableEq, Repr

/-- What the device has emitted, as the outside sees it. -/
inductive Out where
  /-- A 32-byte reply written to host memory at an address (R422). -/
  | reply (addr : Nat) (r : Reply)
  /-- Bytes written to host memory (R429). -/
  | hostWrite (addr : Nat) (data : Bytes)
  /-- An MSI-X message (R412). -/
  | msix (addr data : Nat)
  /-- The answer to a BAR0 read (R13). -/
  | regRead (who : Requester) (off : Nat) (value : Nat)
  /-- PPS_OUT's new level (R323). -/
  | pps (level : Bool)
  /-- An AVSBus voltage write-and-commit (R93): rail and mV. -/
  | avs (rail mv : Nat)
  /-- A frame on a front port's wire, its FCS included (R121, R124, R129). -/
  | frame (port : Nat) (bytes : Bytes)
  /-- A Taper control word or block, or in Ethernet carriage mode a frame of them (R455, R456, R474). -/
  | taper (bytes : Bytes)
  /-- The answer to a CXL.mem read: host physical address, the line, whether it is poisoned (R406). -/
  | memRead (addr : Nat) (data : Bytes) (poison : Bool)
  /-- RspIHitI, the answer to an H2D snoop (R408). -/
  | snoopRsp (addr : Nat)
  /-- What the boundary-scan port shifts out of the register an instruction selects (R564). -/
  | scan (value : Nat)
deriving DecidableEq, Repr

/-- Everything in the device but time, DRAM and the command queue. -/
structure Dev where
  fld    : Tab Nat
  staged : Tab Nat
  lamp   : Lamp
  ctrs   : Tab Ctr
  energy : Tab Nat
  snap   : Option (Tab Ctr)
  arch   : List ArchGen
  smi    : Smi
  msix   : Tab MsixEntry
  msixPend : List Nat
  cfg    : Cfg
  timeU  : TimeU
  sconce : Sconce
  boot   : Boot
  bm     : Bm
  frames : Tab Frame
  ports  : Tab Port
  lanes  : Tab Lane
  index  : Tab Bytes
  tbl    : Tables
  lanterns : Tab Lantern
  rules  : Rules
  egr    : Egr
  taper  : Taper
  hbm    : Hbm
  cxl    : Cxl
  chan   : Chan
  free   : Nat
  out    : List Out
deriving DecidableEq, Repr

/-- The device: time, everything else on the die, and the in-package DRAM. -/
structure Mach where
  clk  : Clock
  dev  : Dev
  dram : Memory
deriving DecidableEq, Repr

/-- The block: the device and the commands waiting for it, first in, first out. -/
structure State where
  m       : Mach
  pending : List Instr
deriving DecidableEq, Repr

/-- Why the machine stops. -/
inductive Fault where
  /-- Raised by the commands that carry a reading of VDD_CORE or Tj that lies outside the range of R12, where
  no behaviour of the device is specified. Safe: the model stops where the device goes on. -/
  | outsideOperatingRange
deriving DecidableEq, Repr

/-- Why a command has no meaning. -/
inductive Refusal where
  /-- Raised by an arm of exec whose command is not modelled. Safe. -/
  | notModelled (mnemonic : String)
deriving DecidableEq, Repr

/-- Time at reset (R302, R305, R270). -/
def Clock.reset : Clock := ⟨0, 0, 0x147AE147B, 0, 0⟩

/-- The Chandler at reset. The readings start empty; the temperature column is the highest. -/
def Chan.reset : Chan where
  inPeriod := false
  begun := 0
  start := (0, 0)
  startShape := 0
  lastTick := none
  stateAt := 0
  stateAcc := []
  vout := []
  pout := []
  poutFail := 0
  tjs := []
  tjMax := none
  hist := []
  records := []
  missing := 0
  outside := 0
  mode := 0
  budget := 0
  planMode := 0
  planBudget := 0
  rebuild := false
  avs := none
  taken := 0
  hold := 0
  column := 105
  cal := none
  voutMode := 0
  nextDue := []
  owed := []
  ran := 0
  ranForced := 0
  planned := []
  cost := []
  darken := []
  bytes := 0
  deferBytes := 0
  share := (0, 0)
  segUse := 0
  segLast := 0
  srMask := 0
  effBudget := 0
  floor := 0
  nextEff := 0
  nextFloor := 0
  flags := 0
  moved := 0

def Lantern.idle : Lantern where
  fifo := []
  recirc := []
  turn := false
  chain := 0
  nextPos := 0
  stages := []
  reorder := []
  credit0 := 256000
  credit1 := 256000
  learns := []
  task := .none
  overlap := none
  presented := []
  extra := []
  force := none
  retry := none
  served := none
  slots := (0, 0, 0)

def Taper.idle : Taper where
  seq := 0
  unacked := []
  again := []
  lastAck := none
  replays := 0
  replayOf := none
  granted := []
  consumed := []
  msgs := []
  turn := 0
  expected := 0
  nakAt := none
  grants := []
  open_ := []
  whole := []
  parked := []
  eth := false
  firstUp := false
  usable := 0xFF
  lane0 := 0
  peerWidth := none
  peerNext := none
  pass := none
  passNo := 0
  passDue := 0
  events := 0

def Tables.reset : Tables where
  hash := []
  span := []
  poison := []
  learnE := []
  learnW := []
  recE := []
  recW := []
  turn := 3
  recTurn := false
  track := []
  sweep := 0
  owed := 0
  released := []
  shadows := []
  ternAt := 0
  otherAt := 0
  diffs := []

def Dev.reset : Dev where
  fld := []
  staged := []
  lamp := ⟨false, [], [], 0, none⟩
  ctrs := []
  energy := []
  snap := none
  arch := []
  smi := ⟨[], [], [], [], 0⟩
  msix := []
  msixPend := []
  cfg := ⟨[], 0, false⟩
  timeU := ⟨[], [], [], false, none⟩
  sconce := ⟨[], none, 0, false, false⟩
  boot := ⟨false, false, true, 0, false, false, false, none, [], [], [], false, ⟨.idcode, 0⟩⟩
  bm := ⟨[], 0, 0, [], [], [], 0xACE1, [], []⟩
  frames := []
  ports := []
  lanes := []
  index := []
  tbl := Tables.reset
  lanterns := []
  rules := ⟨0, none, false⟩
  egr := ⟨[], [], [], [], []⟩
  taper := Taper.idle
  hbm := ⟨[], [], [], [], 0, 0, 0, []⟩
  cxl := ⟨0, 0, false, false, []⟩
  chan := Chan.reset
  free := 0
  out := []

/-- The block with POR_N asserted (R539): every register at its reset value, every memory empty. -/
def State.reset : State := ⟨⟨Clock.reset, Dev.reset, []⟩, []⟩

end Sys2Proof.Machine
end

