-- ==== Sys2Proof/Machine/Ops.lean ====
section
/-! DEFINITION. The named operations over sparse tables, memories, register fields and
time that every meaning is written with. -/

namespace Sys2Proof.Machine
open Sys2Proof

/-! Sparse tables. -/

/-- The entry at an index. -/
def tget? {α : Type} : Tab α → Nat → Option α
  | [], _ => none
  | (j, x) :: t, k => if j = k then some x else tget? t k

/-- The entry at an index, or the array's empty value. -/
def tgetD {α : Type} (t : Tab α) (k : Nat) (d : α) : α := (tget? t k).getD d

/-- The table with an entry written. -/
def tset {α : Type} : Tab α → Nat → α → Tab α
  | [], k, x => [(k, x)]
  | (j, y) :: t, k, x =>
    if k < j then (k, x) :: (j, y) :: t
    else if k = j then (k, x) :: t
    else (j, y) :: tset t k x

/-- The table with an entry removed. -/
def tdel {α : Type} (t : Tab α) (k : Nat) : Tab α := t.filter (fun e => e.1 != k)

/-- The table with an entry changed. -/
def tmod {α : Type} (t : Tab α) (k : Nat) (d : α) (f : α → α) : Tab α := tset t k (f (tgetD t k d))

/-- Write an entry, or remove it when it is the empty value, so that equal arrays are equal data. -/
def tput {α : Type} [DecidableEq α] (t : Tab α) (k : Nat) (d x : α) : Tab α :=
  if x = d then tdel t k else tset t k x

/-- The entries whose index lies in [lo, hi). -/
def trange {α : Type} (t : Tab α) (lo hi : Nat) : Tab α := t.filter (fun e => lo ≤ e.1 && e.1 < hi)

/-- The table without the entries whose index lies in [lo, hi). -/
def tclear {α : Type} (t : Tab α) (lo hi : Nat) : Tab α := t.filter (fun e => !(lo ≤ e.1 && e.1 < hi))

/-! Memory. -/

/-- One byte of a memory. -/
def mget (m : Memory) (a : Nat) : Byte := tgetD m a 0

/-- A memory with one byte written. -/
def mset (m : Memory) (a : Nat) (b : Byte) : Memory := tput m a 0 b

/-- n bytes from an address upward. -/
def mread (m : Memory) : Nat → Nat → Bytes
  | _, 0 => []
  | a, n + 1 => mget m a :: mread m (a + 1) n

/-- A memory with a byte string written from an address upward. -/
def mwrite (m : Memory) : Nat → Bytes → Memory
  | _, [] => m
  | a, b :: bs => mwrite (mset m a b) (a + 1) bs

/-- The canonical form: addresses strictly rising, no listed byte 0. -/
def Memory.wf : Memory → Bool
  | [] => true
  | [(_, b)] => b != 0
  | (a, b) :: (a', b') :: t => b != 0 && a < a' && Memory.wf ((a', b') :: t)

/-! Register fields (R13): the applied value, held when it differs from the reset value. -/

/-- The applied value of a field. -/
def Dev.get (d : Dev) (f : Fld) : Nat := tgetD d.fld f.key f.reset % 2 ^ f.w

/-- The device with a field's applied value set. -/
def Dev.set (d : Dev) (f : Fld) (v : Nat) : Dev :=
  { d with fld := tput d.fld f.key f.reset (v % 2 ^ f.w) }

/-- Set one field per pair. -/
def Dev.setAll (d : Dev) (l : List (Fld × Nat)) : Dev := l.foldl (fun d p => d.set p.1 p.2) d

/-- A 64-bit pair of registers (R7). -/
def Dev.get64 (d : Dev) (lo hi : Fld) : Nat := d.get lo + 2 ^ 32 * d.get hi

def Dev.set64 (d : Dev) (lo hi : Fld) (v : Nat) : Dev := (d.set lo v).set hi (v / 2 ^ 32)

/-- Return every field of the registers at BAR0 offsets [lo, hi) to its reset value (R15). -/
def Dev.resetFields (d : Dev) (lo hi : Nat) : Dev :=
  { d with fld := tclear d.fld (lo * 32) (hi * 32) }

/-- Draw a free value below 2^w (log entry 1). -/
def Dev.draw (d : Dev) (w : Nat) : Nat × Dev :=
  (Config.freeValue d.free % 2 ^ w, { d with free := d.free + 1 })

/-- Record what the device emits, in order. -/
def Dev.emit (d : Dev) (o : Out) : Dev := { d with out := d.out ++ [o] }

/-! Time (R302 to R313). -/

/-- Whole nanoseconds of network time. -/
def Clock.ns (k : Clock) : Nat := k.sub / 2 ^ 32

/-- Network time in nanoseconds since 0. -/
def Clock.abs (k : Clock) : Nat := k.sec * 1000000000 + k.ns

/-- The 32-bit form of R313. -/
def Clock.ts32 (k : Clock) : Nat := k.abs % 2 ^ 32

/-- Is network time at or after (sec, ns). -/
def Clock.reached (k : Clock) (sec ns : Nat) : Bool := sec < k.sec || (sec == k.sec && ns ≤ k.ns)

/-- Ticks of TIME_CLK in a second (R303). -/
def ticksPerSecond : Nat := 781250000

/-- The 10-byte time value of R430. -/
def timeBytes (sec ns : Nat) : Bytes := toLE sec 6 ++ toLE ns 4

/-! Fault location codes (R28, R29). -/

/-- An FLC of the switch die from its block, unit and engine; the lower fields are all ones. -/
def flc (block unit engine : Nat) : Nat :=
  block % 256 * 2 ^ 53 + unit % 256 * 2 ^ 45 + engine % 256 * 2 ^ 37 + (2 ^ 37 - 1)

/-- A full FLC from its seven fields. -/
def flcFull (package block unit engine bank macro_ cell : Nat) : Nat :=
  package % 8 * 2 ^ 61 + block % 256 * 2 ^ 53 + unit % 256 * 2 ^ 45 + engine % 256 * 2 ^ 37 +
    bank % 256 * 2 ^ 29 + macro_ % 256 * 2 ^ 21 + cell % 2 ^ 21

/-- The code that says that no location is known (R29). -/
def flcNone : Nat := 2 ^ 64 - 1

/-! Lifting to the machine. -/

def Mach.onDev (m : Mach) (f : Clock → Dev → Dev) : Mach := { m with dev := f m.clk m.dev }

/-- A command whose effect lies on the device alone: network time, DRAM and the queue do not change. While
POR_N is asserted the device is held in reset and nothing but its release acts (R539). -/
def onDev (f : Clock → Dev → Dev) (s : State) : Host.Outcome State Fault Refusal :=
  .next (if s.m.dev.boot.porN then { s with m := s.m.onDev f } else s)

/-- A command that may change time or DRAM as well. -/
def onMach (f : Mach → Mach) (s : State) : Host.Outcome State Fault Refusal :=
  .next (if s.m.dev.boot.porN then { s with m := f s.m } else s)

/-- Count n events of an energy class (R80). -/
def Dev.spend (d : Dev) (c n : Nat) : Dev := { d with energy := tput d.energy c 0 (tgetD d.energy c 0 + n) }

end Sys2Proof.Machine
end

