-- ==== Sys2Proof/Machine/Flags.lean ====
section
/-! DEFINITION. The computations of flags and counts: one-bit and sticky fields, saturating counts, frame and performance
counters, MSI-X pending bits, and the events a flag asserts, which Lampblack records. -/

namespace Sys2Proof.Machine
open Sys2Proof

/-! Flags. -/

/-- A one-bit field read as a truth value. -/
def Dev.flag (d : Dev) (f : Fld) : Bool := d.get f == 1

/-- Set or clear a one-bit field. -/
def Dev.setB (d : Dev) (f : Fld) (b : Bool) : Dev := d.set f (b2n b)

/-- Count a field up by one, wrapping. -/
def Dev.inc (d : Dev) (f : Fld) : Dev := d.set f (d.get f + 1)

/-- Count a field up by one, saturating. -/
def Dev.satInc (d : Dev) (f : Fld) : Dev := d.set f (Sys2Proof.Machine.satInc (maskOf f.w) (d.get f))

/-- Set bit n of a field. -/
def Dev.setBit (d : Dev) (f : Fld) (n : Nat) : Dev := d.set f (d.get f ||| 2 ^ n)

/-- Clear bit n of a field. -/
def Dev.clrBit (d : Dev) (f : Fld) (n : Nat) : Dev :=
  if bit (d.get f) n then d.set f (d.get f - 2 ^ n) else d

/-! Counters (R525 to R528). -/

def Ctr.zero : Ctr := ⟨0, 0, false⟩

/-- Count one frame of a length at a counter index, wrapping (R525). -/
def Dev.count (d : Dev) (i len : Nat) : Dev :=
  let c := tgetD d.ctrs i Ctr.zero
  { d with ctrs := tput d.ctrs i Ctr.zero ⟨(c.bytes + len) % 2 ^ 64, (c.packets + 1) % 2 ^ 48, c.invalid⟩ }

/-- First counter of the port block, queue block, stream block, lantern regions and global block (R526). -/
def cPort (p i : Nat) : Nat := 1572864 + 64 * p + i
def cQueue (q i : Nat) : Nat := 1638400 + 16 * q + i
def cStream (s i : Nat) : Nat := 1769472 + 16 * s + i
def cPunt (l r : Nat) : Nat := 2031616 + 512 * l + r
def cDrop (l r : Nat) : Nat := 2031616 + 512 * l + 256 + r
def cGate (g : Nat) : Nat := 2048000 + g
def cGlobal (n : Nat) : Nat := 2049024 + n

/-! Performance counters (R530, R531). -/

/-- Add to performance counter j unless PERF_FREEZE holds the counters (R530). -/
def Dev.perfAdd (d : Dev) (j : Nat) : Dev :=
  d.set64 (F.PC_PERF_COUNT_LO j) (F.PC_PERF_COUNT_HI j)
    ((d.get64 (F.PC_PERF_COUNT_LO j) (F.PC_PERF_COUNT_HI j) + 1) % 2 ^ 48)

/-- Does performance counter j select a signal in a mode (0 edge, 1 level) and count. -/
def Dev.perfSel (d : Dev) (blk sig mode j : Nat) : Bool :=
  d.flag (F.PC_EN j) && d.get (F.PC_MODE j) == mode && d.get (F.PC_BLOCK j) == blk && d.get (F.PC_SIGNAL j) == sig

/-- An occurrence of an event signal, or an assertion of a state signal (R530). -/
def Dev.perf (d : Dev) (blk sig : Nat) : Dev :=
  if d.flag F.PC_PERF_FREEZE then d
  else ((List.range 64).filter (d.perfSel blk sig 0)).foldl Dev.perfAdd d

/-! MSI-X (R412). -/

/-- Signal an MSI-X vector: masked, its pending bit is set; with message address 0 nothing is sent and
MSIX_UNPROGRAMMED is set; otherwise the message is sent. -/
def Dev.sendMsix (d : Dev) (v : Nat) : Dev :=
  match tget? d.msix v with
  | none => if d.msixPend.contains v then d else { d with msixPend := d.msixPend ++ [v] }
  | some e => if e.addr = 0 then d.setBit F.CXL_STICKY 5 else d.emit (.msix e.addr e.data)

/-! Lampblack (R515 to R522). -/

/-- A record's 30 bytes that the CRC covers (R515). -/
def LampRec.body (r : LampRec) : Bytes :=
  toLE r.seq 6 ++ toLE (r.source % 1024 + r.form % 2 * 1024) 2 ++ toLE r.flcData 8 ++ toLE r.timeNs 4 ++
    toLE r.timeS 4 ++ toLE r.dataB 4 ++ toLE r.count 2

/-- The 32 bytes of a record (R515, R516). -/
def LampRec.bytes (r : LampRec) : Bytes := r.body ++ toLE (crc16 r.body) 2

/-- Sequence numbers of Lampblack (R535). -/
def Dev.nextSeq (d : Dev) : Nat := d.get64 F.LB_NEXT_SEQ_LO F.LB_NEXT_SEQ_HI
def Dev.oldestSeq (d : Dev) : Nat := d.get64 F.LB_OLDEST_SEQ_LO F.LB_OLDEST_SEQ_HI

/-- A source's rate-limit state as at a tick (R519): full credit until it is first used. -/
def Dev.evtSrc (d : Dev) (k : Clock) (s : Nat) : EvtSrc :=
  let cap := d.get (F.LB_BURST s) * ticksPerSecond
  match tget? d.lamp.srcs s with
  | none => ⟨cap, k.tick, 0⟩
  | some e => ⟨min cap (e.credit + d.get (F.LB_RATE s) * (k.tick - e.at_)), k.tick, e.suppressed⟩

/-- Set the pending bit of a source and send its group's vector (R522). -/
def Dev.pend (d : Dev) (s : Nat) : Dev :=
  let f := F.LB_EVT_PENDING (s / 32)
  if bit (d.get f) (s % 32) then d
  else
    let d' := d.setBit f (s % 32)
    if bit (d.get (F.LB_EVT_ENABLE (s / 32))) (s % 32) then d'.sendMsix (d.get (F.LB_EVT_VEC (s / 16))) else d'

/-- The oldest sequence number still held once `next` is the next to be written (R518). -/
def lampOldest (storeFrom : Option Nat) (next : Nat) : Nat :=
  match storeFrom with
  | none => next - 2048
  | some o => max o (next - 33554432)

/-- Write a record at the next sequence number (R518) and set its source pending (R522). -/
def Dev.lampWrite (d : Dev) (r : LampRec) : Dev :=
  let n := d.nextSeq
  let ring := tset (tclear d.lamp.ring 0 (n + 1 - 2048)) n { r with seq := n }
  let d1 := ({ d with lamp := { d.lamp with ring := ring } }).set64 F.LB_NEXT_SEQ_LO F.LB_NEXT_SEQ_HI (n + 1)
  let o := lampOldest d.lamp.storeFrom (n + 1)
  let d2 := d1.set64 F.LB_OLDEST_SEQ_LO F.LB_OLDEST_SEQ_HI o
  let d3 := if d.lamp.storeFrom.isSome && 33554432 ≤ n then d2.setB F.LB_STORE_WRAPPED true else d2
  d3.pend r.source

/-- An event assertion (R519, R520): source, FORM, FLC or DATA_A, DATA_B. In native mode it writes a record
when its source's RATE is not 0 and holds a credit of 1; in ZHV7025 mode a repeat of the last record
updates it in place. -/
def Dev.eventData (d : Dev) (k : Clock) (s form flcData dataB : Nat) : Dev :=
  if !d.lamp.recording then d
  else
    let r : LampRec := ⟨0, s, form, flcData, k.ns, k.sec % 2 ^ 32, dataB, 0⟩
    if d.get F.LB_EVT_MODE = 0 then
      let e := d.evtSrc k s
      if d.get (F.LB_RATE s) = 0 then d
      else if e.credit < ticksPerSecond then
        { d with lamp := { d.lamp with srcs := tset d.lamp.srcs s { e with suppressed := e.suppressed + 1 } } }
      else
        let e' : EvtSrc := ⟨e.credit - ticksPerSecond, k.tick, 0⟩
        ({ d with lamp := { d.lamp with srcs := tset d.lamp.srcs s e' } }).lampWrite
          { r with count := min e.suppressed 65535 }
    else
      match tget? d.lamp.ring (d.nextSeq - 1) with
      | some l =>
        if d.nextSeq ≠ 0 ∧ l.source = s ∧ l.form = form ∧ l.flcData = flcData ∧ l.dataB = dataB ∧ l.count < 65535 then
          let l' := { l with count := l.count + 1, timeNs := k.ns, timeS := k.sec % 2 ^ 32 }
          ({ d with lamp := { d.lamp with ring := tset d.lamp.ring l.seq l',
                                          copied := min d.lamp.copied l.seq } }).pend s
        else d.lampWrite r
      | none => d.lampWrite r

/-- An event assertion whose record holds an FLC and no detail (R517). -/
def Dev.event (d : Dev) (k : Clock) (s code : Nat) : Dev := d.eventData k s 0 code 0

/-- An event of block n at index i within its group, unit u: `blk * 16 + i` (R26). -/
def Dev.eventOf (d : Dev) (k : Clock) (blk i u : Nat) : Dev := d.event k (16 * blk + i) (flc blk u 0)

end Sys2Proof.Machine
end

