-- ==== Sys2Proof/Machine/Registers.lean ====
section
/-! DEFINITION. BAR0 by offset: which fields a register holds, which of them exist (R569), the staging domain
(R480) and reset domain (R549) of an offset, and the value a read returns (R13, R14). -/

namespace Sys2Proof.Machine
open Sys2Proof

/-- The register maps of every chapter. -/
def allRows : List RegRow :=
  F.rows16 ++ F.rows18 ++ F.rows03 ++ F.rows09 ++ F.rows17 ++ F.rows14 ++ F.rows04 ++ F.rows10 ++ F.rows05 ++
    F.rows02 ++ F.rows06 ++ F.rows07 ++ F.rows08 ++ F.rows12 ++ F.rows15 ++ F.rows13

/-- The last index of a repeated register at a distance from its base. -/
def dimsIndex : List (Nat × Nat) → Nat → Option Nat
  | [], r => if r = 0 then some 0 else none
  | [(s, c)], r => if r % s = 0 ∧ r / s < c then some (r / s) else none
  | (s, c) :: ds, r => if r / s < c then dimsIndex ds (r % s) else none

/-- The fields a row gives the register at an offset. -/
def RegRow.fieldsAt (row : RegRow) (off : Nat) : Option (List Fld) :=
  if off < row.base then none
  else
    match dimsIndex row.dims (off - row.base) with
    | none => none
    | some i => some (row.flds.map (fun f => ⟨off, f.lo, f.w, f.acc, f.rst.eval i off f.lo⟩))

/-- The fields of the register at an offset; none for a reserved offset. -/
def fieldsAt (off : Nat) : List Fld := (allRows.filterMap (fun r => r.fieldsAt off)).flatten

/-- Does a logical port exist (R22, R23). -/
def Dev.portExists (d : Dev) (p : Nat) : Bool :=
  if p < 512 then d.get (F.PORT_CFG_PORT_TYPE p) != 0 else p < 518

/-- Does a queue identifier name a queue (R24). -/
def Dev.queueExists (d : Dev) (q : Nat) : Bool := d.portExists (q / 8)

/-- The logical port or queue a register belongs to, when it is repeated by one (R569). -/
inductive Owner where
  | none
  | port (p : Nat)
  | queue (q : Nat)
deriving DecidableEq, Repr

def ownerOf (off : Nat) : Owner :=
  if 0x800000 ≤ off ∧ off < 0x1800000 then
    let r := (off - 0x800000) % 0x80000
    let l := (off - 0x800000) / 0x80000
    if r < 0x10000 then .port (l * 16 + r / 0x1000)
    else .none
  else if 0x1C01000 ≤ off ∧ off < 0x1C01000 + 8 * 518 then .port ((off - 0x1C01000) / 8)
  else if 0x1C03000 ≤ off ∧ off < 0x1C03000 + 4 * 518 then .port ((off - 0x1C03000) / 4)
  else if 0x1C08000 ≤ off ∧ off < 0x1C08000 + 4 * 8192 then .queue ((off - 0x1C08000) / 4)
  else if 0x1C10000 ≤ off ∧ off < 0x1C10000 + 4 * 8192 then .queue ((off - 0x1C10000) / 4)
  else if 0x1C18000 ≤ off ∧ off < 0x1C18000 + 4 * 8192 then .queue ((off - 0x1C18000) / 4)
  else if 0x2100000 ≤ off ∧ off < 0x2100000 + 16 * 8192 then .queue ((off - 0x2100000) / 16)
  else if 0x2200000 ≤ off ∧ off < 0x2200000 + 128 * 518 then .port ((off - 0x2200000) / 128)
  else .none

/-- Does the register at an offset exist (R569). -/
def Dev.exists_ (d : Dev) (off : Nat) : Bool :=
  match ownerOf off with
  | .none => true
  | .port p => d.portExists p
  | .queue q => d.queueExists q

/-- The staging domain of an offset (R480). -/
def stagingDomain (off : Nat) : Nat :=
  if off < 0x1000 then 0
  else if off < 0x200000 then 1
  else if off < 0x1800000 then (if (off - 0x800000) % 0x80000 < 0x10000 then 2 else 3)
  else if off < 0x1C00000 then 4
  else if off < 0x2000000 then 5
  else if off < 0x2800000 then 6
  else if off < 0x2C00000 then 7
  else 8

/-- The commit group STAGE_MAP gives a staging domain (R480). -/
def Dev.groupOf (d : Dev) (dom : Nat) : Nat :=
  if dom < 8 then bits (d.get F.GL_STAGE_MAP_LO) (4 * dom) 4 else d.get F.GL_STAGE_MAP_HI

/-- The commit group of a staged field's key. -/
def Dev.groupOfKey (d : Dev) (key : Nat) : Nat := d.groupOf (stagingDomain (key / 32))

/-- STAGED_PENDING: bit g is 1 while group g holds a staged value (R482). -/
def Dev.stagedPending (d : Dev) : Nat := d.staged.foldl (fun m e => m ||| 2 ^ d.groupOfKey e.1) 0

/-- The reset domain (block of R30) whose registers hold an offset. The map of R551 lies in the block 42
window and holds registers of blocks 42 and 43 (DEDUCED, log entry 6). -/
def blockOf (off : Nat) : Nat :=
  if off < 0x1000 then 42
  else if off < 0x2000 then (if 0x1020 ≤ off ∧ off < 0x1030 ∨ off = 0x1010 then 42 else 43)
  else if off < 0x200000 then 37
  else if off < 0x300000 then 38
  else if off < 0x800000 then 36
  else if off < 0x1800000 then (off - 0x800000) / 0x80000
  else if off < 0x1C00000 then 32
  else if off < 0x2000000 then 33
  else if off < 0x2800000 then 34
  else if off < 0x2C00000 then 35
  else if off < 0x3000000 then 40
  else if off < 0x3400000 then 39
  else 41

/-- BAR0 offsets below this are within the 64 MiB space (R403, R433). -/
def bar0End : Nat := 0x4000000

/-- The fields a write of a register carries a value for, with the word's bits for each. -/
def Fld.take (f : Fld) (word : Nat) : Nat := bits word f.lo f.w

/-- A register word from its fields' values. -/
def wordOf (vals : List (Fld × Nat)) : Nat := vals.foldl (fun w p => w + p.2 % 2 ^ p.1.w * 2 ^ p.1.lo) 0

end Sys2Proof.Machine
end

