-- ==== Sys2Proof/Machine/Smiem.lean ====
section
/-! DEFINITION. The Smiem engine (R419 to R449): replies, completion rings, the order in which commands start,
the checks of R425 and the reading of parameters. -/

namespace Sys2Proof.Machine
open Sys2Proof

/-! Status values of R428. -/
def stOk : Nat := 0x00
def stBadOpcode : Nat := 0x01
def stBadParam : Nat := 0x02
def stBusy : Nat := 0x03
def stLocked : Nat := 0x04
def stNoSpace : Nat := 0x05
def stNotFound : Nat := 0x06
def stStale : Nat := 0x07
def stKeyRequired : Nat := 0x08
def stTimeout : Nat := 0x09
def stIntegrity : Nat := 0x0A
def stPartial : Nat := 0x0B
def stLate : Nat := 0x0C

def Rep.ok : Rep := ⟨stOk, 0, 0⟩

/-- The first 28 bytes of a reply (R427). -/
def Reply.body (r : Reply) : Bytes :=
  toLE r.tag 2 ++ toLE r.rep.status 1 ++ toLE (r.phase % 2 + 2 * b2n r.hw) 1 ++ toLE r.opcode 2 ++ toLE r.sq 1 ++
    toLE 0 1 ++ toLE r.rep.detail 4 ++ toLE r.tsNs 4 ++ toLE r.rep.result 8 ++ toLE r.sqHead 2 ++ toLE 0 2

/-- The 32 bytes of a reply (R427, R424). -/
def Reply.bytes (r : Reply) : Bytes := r.body ++ toLE (crc32c r.body) 4

/-! Rings. -/

/-- Ring size from a SIZE_LOG2 value: below 6 acts as 6, above 16 as 16 (R450). -/
def ringSize (log2 : Nat) : Nat := 2 ^ min 16 (max 6 log2)

def Dev.sqSize (d : Dev) (r : Nat) : Nat := ringSize (d.get (F.SQ_SIZE_LOG2 r))
/-- The completion ring a submission ring is bound to. -/
def Dev.sqRing (d : Dev) (r : Nat) : Fin 16 := Fin.ofNat 16 (d.get (F.SQ_CQ r))

def Dev.cqSize (d : Dev) (c : Nat) : Nat := ringSize (d.get (F.CQ_SIZE_LOG2 c))

/-- Host address of a completion ring's entry i (R419, R450). -/
def Dev.cqAddr (d : Dev) (c i : Nat) : Nat :=
  d.get (F.CQ_BASE_LO c) * 2 ^ 12 + d.get (F.CQ_BASE_HI c) * 2 ^ 32 + 32 * i

/-- Commands in flight: fetched and not yet replied to (R420). -/
def Smi.inFlight (s : Smi) : Nat := s.fetched.length + (s.waits.filter (fun w => !w.answered)).length

/-- Which path executes a command (R431): the hardware engine takes REG_READ, REG_WRITE, COUNTER_READ, and
TABLE_INSERT, TABLE_DELETE and TABLE_LOOKUP on tables 0x01, 0x03 and 0x05. -/
def isHw (op : Nat) (params : Bytes) : Bool :=
  op == 0x0010 || op == 0x0011 || op == 0x0040 ||
    ((op == 0x0020 || op == 0x0021 || op == 0x0022) &&
      (leAt params 0 2 == 0x01 || leAt params 0 2 == 0x03 || leAt params 0 2 == 0x05))

def Fetched.hw (e : Fetched) : Bool := isHw e.op e.req.params
def Wait.hw (w : Wait) : Bool := isHw w.op w.req.params

/-- Entries of a completion ring reserved by commands in flight (R420). -/
def Smi.reserved (s : Smi) (c : Fin 16) : Nat :=
  (s.fetched.filter (fun e => e.cq == c && !e.noReply)).length +
    (s.waits.filter (fun e => e.cq == c && !e.noReply && !e.answered)).length

/-- Entries of a completion ring written and not yet consumed. -/
def Dev.unconsumed (d : Dev) (c : Nat) : Nat := tgetD d.smi.written c 0

/-- Send a completion ring's vector and begin coalescing afresh (R422). -/
def Dev.cqMessage (d : Dev) (c : Nat) : Dev :=
  ({ d with smi := { d.smi with coal := tput d.smi.coal c ⟨0, false⟩ ⟨0, false⟩ } }).sendMsix (d.get (F.CQ_VECTOR c))

/-- After a reply is written: send the vector, or count the reply and let COAL_TIME run (R422). -/
def Dev.coalesce (d : Dev) (c : Nat) (quiet : Bool) : Dev :=
  let co := tgetD d.smi.coal c ⟨0, false⟩
  let n := d.get (F.CQ_COAL_COUNT c)
  if n ≤ co.count + 1 then d.cqMessage c
  else { d with smi := { d.smi with coal := tput d.smi.coal c ⟨0, false⟩ ⟨co.count + 1, co.timer || !quiet⟩ } }

/-- Write a reply at the tail of its completion ring (R422, R427). -/
def Dev.reply (d : Dev) (k : Clock) (op : Nat) (q : Req) (c : Fin 16) (hw : Bool) (rep : Rep) : Dev :=
  let tail := d.get (F.CQ_TAIL c)
  let r : Reply := ⟨q.tag, rep, d.get (F.CQ_PHASE c), hw, op, q.ring, k.ts32, d.get (F.SQ_HEAD q.ring)⟩
  let wrap := d.cqSize c ≤ tail + 1
  let d1 := d.emit (.reply (d.cqAddr c tail) r)
  let d2 := d1.set (F.CQ_TAIL c) (if wrap then 0 else tail + 1)
  let d3 := if wrap then d2.set (F.CQ_PHASE c) (d.get (F.CQ_PHASE c) + 1) else d2
  let d4 := { d3 with smi := { d3.smi with written := tput d3.smi.written c 0 (d3.unconsumed c + 1) } }
  (d4.coalesce c q.quiet).perf 36 (if hw then 1 else 2)

/-- Complete a command in flight: its reply, unless R447 dropped it. -/
def Dev.complete (d : Dev) (k : Clock) (op : Nat) (q : Req) (c : Fin 16) (noReply : Bool) (rep : Rep) : Dev :=
  if noReply then d.perf 36 (if isHw op q.params then 1 else 2)
  else d.reply k op q c (isHw op q.params) rep

/-- Complete a waiting command and take it out of flight. -/
def Dev.finish (d : Dev) (k : Clock) (w : Wait) (rep : Rep) : Dev :=
  let d1 := { d with smi := { d.smi with waits := d.smi.waits.erase w } }
  if w.answered then d1 else d1.complete k w.op w.req w.cq w.noReply rep

/-- Complete every waiting command whose kind satisfies a test, oldest first. -/
def Dev.finishAll (d : Dev) (k : Clock) (p : WaitKind → Bool) (rep : Rep) : Dev :=
  (d.smi.waits.filter (fun w => p w.kind)).foldl (fun d w => d.finish k w rep) d

/-! Order of starting (R432). -/

/-- Packets fetched on a ring before a given one. -/
def earlierOf (op : Nat) (q : Req) (fs : List Fetched) : List Fetched :=
  (fs.takeWhile (fun e => !(e.op == op && e.req == q.held))).filter (fun e => e.req.ring == q.ring)

/-- May a command start: commands of one ring and path start in ring order, one with FENCE waits for every
earlier command of its ring, and none starts before an earlier one with FENCE completes. -/
def Smi.mayStart (s : Smi) (op : Nat) (q : Req) : Bool :=
  let before := earlierOf op q s.fetched
  let begun := s.waits.filter (fun w => w.req.ring == q.ring && !w.answered)
  before.all (fun e => !e.req.fence && e.hw != isHw op q.params) && begun.all (fun w => !w.req.fence) &&
    (!q.fence || (before.isEmpty && begun.isEmpty))

/-- What carrying out a command comes to: a reply now, or a wait. -/
inductive Res where
  | done (m : Mach) (rep : Rep)
  | later (m : Mach) (kind : WaitKind)

def Mach.setDev (m : Mach) (d : Dev) : Mach := { m with dev := d }

/-- The held packet a command executes, or, when none was fetched, one as if fetched at that instant
(DESIGN CHOICE, log entry 7). -/
def Dev.takeFetched (d : Dev) (op : Nat) (q : Req) : Fetched × Dev :=
  match d.smi.fetched.find? (fun e => e.op == op && e.req == q.held) with
  | some e => (e, { d with smi := { d.smi with fetched := d.smi.fetched.erase e } })
  | none => (⟨op, q.held, d.sqRing q.ring, false, false⟩, d)

/-- The first failing parameter offset of R425 order 6: a packet longer than its layout, a reserved byte
that is not 0, or a field given as bad. -/
def badParam (len : Nat) (used : List (Nat × Nat)) (bad : List (Nat × Bool)) (p : Bytes) : Option Nat :=
  if len < p.length then some 0xFFFF
  else
    ((List.range len).filter (fun o =>
      (!used.any (fun u => u.1 ≤ o && o < u.1 + u.2) && byteAt p o != 0) || bad.any (fun b => b.1 == o && b.2))).head?

/-- Carry out a Smiem command: start order (R432), readiness (R431, R550), parameters and generation (R425,
R426), then its body. `genLater` leaves the generation check to the instant of application (R486); `onBad` is what
a refusal for its parameters does beside the reply. -/
def smiemOr (onBad : Mach → Mach) (op : Nat) (check : Req → Mach → Option Nat) (genLater : Req → Bool)
    (body : Req → Mach → Res) (q : Req) (m : Mach) : Mach :=
  let d := m.dev
  if !d.boot.porN || d.flag F.BT_FAILED then m
  else if !d.smi.mayStart op q then
    if d.smi.fetched.any (fun e => e.op == op && e.req == q.held) then m
    else m.setDev { d with smi := { d.smi with
      fetched := d.smi.fetched ++ [⟨op, q.held, d.sqRing q.ring, false, false⟩] } }
  else
    let (e, d0) := d.takeFetched op q
    let hw := isHw op q.params
    let answer := fun (m' : Mach) (rep : Rep) => m'.setDev (m'.dev.complete m'.clk op q e.cq e.noReply rep)
    let m0 := m.setDev d0
    if !hw && !d.flag F.SM_FW_READY then (if e.kept then m else answer m0 ⟨stBusy, 1, 0⟩)
    else if hw && d.boot.step < 3 then answer m0 ⟨stBusy, 2, 0⟩
    else
      match check q m0 with
      | some o => answer (onBad m0) ⟨stBadParam, o, 0⟩
      | none =>
        if q.genCheck && !genLater q && q.expectGen.toNat != d.get F.GL_CONFIG_GEN then
          answer m0 ⟨stStale, d.get F.GL_CONFIG_GEN, 0⟩
        else
          match body q m0 with
          | .done m' rep => answer m' rep
          | .later m' kind =>
            m'.setDev { m'.dev with smi := { m'.dev.smi with
              waits := m'.dev.smi.waits ++ [⟨op, q, e.cq, e.noReply, false, kind⟩] } }

/-- A command whose refusal does nothing beside its reply. -/
def smiem (op : Nat) (check : Req → Mach → Option Nat) (genLater : Req → Bool) (body : Req → Mach → Res)
    (q : Req) (m : Mach) : Mach := smiemOr id op check genLater body q m

/-- A command whose body works on the device alone and replies at once. -/
def smiemDev (op : Nat) (check : Req → Dev → Option Nat) (body : Req → Clock → Dev → Dev × Rep)
    (q : Req) (m : Mach) : Mach :=
  smiem op (fun q m => check q m.dev) (fun _ => false)
    (fun q m => let (d, r) := body q m.clk m.dev; .done (m.setDev d) r) q m

/-- Write whole records to a result buffer, up to its length (R429): how many were written. -/
def Dev.bufWrite (d : Dev) (addr len size : Nat) (recs : List Bytes) : Nat × Dev :=
  let n := min recs.length (len / size)
  (n, if n = 0 then d else d.emit (.hostWrite addr (recs.take n).flatten))

/-- Regions of R380 within the model's DRAM: region r's address a is byte r × 2^40 + a. -/
def regionBase (r : Nat) : Nat := r * 2 ^ 40

/-- The regions, numbered in the order of R380. -/
def regEvents : Nat := 1
def regStaging : Nat := 2
def regArchive : Nat := 3
def regRecords : Nat := 4
def regWindow : Nat := 5
def regHog : Nat := 6

/-! Ring stops (R446). -/

/-- Stop a submission ring: STOPPED and ERR are set and event 588 asserts. -/
def Dev.ringStop (d : Dev) (k : Clock) (r err : Nat) : Dev :=
  ((d.setB (F.SQ_STOPPED r) true).set (F.SQ_ERR r) err).event k 588 (flc 36 3 0)

/-- May a submission ring fetch a packet that goes to firmware or hardware (R420). -/
def Dev.mayFetch (d : Dev) (r : Nat) : Bool :=
  let c := d.sqRing r
  d.boot.porN && !d.flag F.BT_FAILED && d.flag (F.SQ_EN r) && !d.flag (F.SQ_STOPPED r) &&
    d.get (F.SQ_HEAD r) != d.get (F.SQ_TAIL r) && d.flag (F.CQ_EN c) &&
    d.unconsumed c + d.smi.reserved c < d.cqSize c && d.smi.inFlight < 128

/-- Commands in flight that go to firmware. -/
def Smi.fwInFlight (s : Smi) : Nat :=
  (s.fetched.filter (fun e => !e.hw)).length + (s.waits.filter (fun w => !w.hw && !w.answered)).length

def Smi.hwInFlight (s : Smi) : Nat :=
  (s.fetched.filter (fun e => e.hw)).length + (s.waits.filter (fun w => w.hw && !w.answered)).length

/-- The opcodes of R433 to R444. -/
def opcodes : List Nat :=
  [0x0001, 0x0002, 0x0010, 0x0011, 0x0012, 0x0013, 0x0014, 0x0015, 0x0020, 0x0021, 0x0022, 0x0023, 0x0024, 0x0025,
   0x0026, 0x0030, 0x0031, 0x0032, 0x0040, 0x0041, 0x0042, 0x0050, 0x0051, 0x0052, 0x0053, 0x0054, 0x0060, 0x0061,
   0x0062, 0x0070, 0x0071, 0x0072, 0x0080, 0x0081, 0x0082, 0x0090, 0x0091, 0x00A0, 0x00A1, 0x00B0, 0x00B1, 0x00C0,
   0x00C1, 0x00F0, 0x00F1, 0x00D0, 0x00D1]

/-- PARAM_LEN of a packet's header (R423). -/
def packetLen (p : Bytes) : Nat := leAt p 6 2

/-- The packet a byte string spells, as its command holds it. -/
def packetReq (r : Fin 16) (p : Bytes) : Req :=
  let fl := leAt p 2 1
  ⟨r, leAt p 4 2, bit fl 0, bit fl 1, bit fl 2, BitVec.ofNat 32 (leAt p 8 4), sliceZ p 32 (packetLen p), ⟨[], .whole⟩⟩

/-- CRC-32C of a packet over header bytes 0 to 27 and the parameters (R424). -/
def packetCrc (p : Bytes) : Nat := crc32c (sliceZ p 0 28 ++ sliceZ p 32 (packetLen p))

/-- Is a ring the one whose turn it is: rings that may fetch are served in rotation (R420). -/
def Dev.fetchTurn (d : Dev) (r : Nat) : Bool :=
  ((List.range 16).map (fun i => (d.smi.rotate + i) % 16)).find? d.mayFetch == some r

/-- PACKET_FETCH: the checks 1 to 5 of R425 on the bytes read from a ring that may fetch (R420). Checks 6
and 7 fall to the command. -/
def fetchPacket (r : Fin 16) (data : HostRead) (k : Clock) (d : Dev) : Dev :=
  let p := data.bytes
  let q := packetReq r p
  let op := leAt p 0 2
  let c := d.sqRing r
  let hw := isHw op q.params
  if !d.fetchTurn r then d
  else if data.ended != .whole then d.ringStop k r 2
  else if 4064 < packetLen p || packetCrc p != leAt p 28 4 then
    (d.ringStop k r 1).reply k 0 q c false ⟨stIntegrity, 0, 0⟩
  else if !hw && 64 ≤ d.smi.fwInFlight then d
  else
    let d0 := { d with smi := { d.smi with rotate := (r.val + 1) % 16 } }
    let d1 := (d0.set (F.SQ_HEAD r) ((d.get (F.SQ_HEAD r) + ceilDiv (32 + packetLen p) 64) % d.sqSize r)).perf 36 0
    if leAt p 3 1 != r.val then d1.reply k op q c false ⟨stBadParam, 0x010000, 0⟩
    else if bits (leAt p 2 1) 3 5 != 0 || beNat (sliceZ p 12 16) != 0 then d1.reply k op q c false ⟨stBadParam, 0x020000, 0⟩
    else if !opcodes.contains op then d1.reply k op q c false ⟨stBadOpcode, 0, 0⟩
    else { d1 with smi := { d1.smi with fetched := d1.smi.fetched ++ [⟨op, q, c, false, false⟩] } }

end Sys2Proof.Machine
end

