-- ==== Sys2Proof/Machine/Time.lean ====
section
/-! DEFINITION. The time unit (R302 to R331): the accumulator, timed inputs, PPS_OUT, the transmit timestamp
queues. The commands that step time stand where the users of time are known (TimeStep). -/

namespace Sys2Proof.Machine
open Sys2Proof

/-- Is a reset domain held in reset (R549). -/
def Dev.isHeld (d : Dev) (n : Nat) : Bool := d.boot.held.contains n

/-- Is a reset domain held that stops every dealer (R549). -/
def Dev.dealersHeld (d : Dev) : Bool := [32, 33, 34, 35, 38, 41].any d.isHeld

/-- Nanoseconds at which the seconds count up, with 32 fractional bits. -/
def nsWrap : Nat := 1000000000 * 2 ^ 32

/-- One addition of the increment, with carry into the 48-bit seconds (R302). -/
def Clock.advance (k : Clock) : Clock :=
  let s := k.sub + k.inc
  if nsWrap ≤ s then { k with sub := s - nsWrap, sec := (k.sec + 1) % 2 ^ 48 } else { k with sub := s }

/-- One tick: the addition, shaping time beside it (R270), and TICK_COUNT (R305). -/
def Clock.onTick (k : Clock) : Clock :=
  { k.advance with shape := k.shape + k.inc, tick := (k.tick + 1) % 2 ^ 64 }

/-- A tick whose addition failed its residue check (R309): the addition is discarded. -/
def Clock.lostTick (k : Clock) : Clock := { k with tick := (k.tick + 1) % 2 ^ 64 }

/-- FLC of the accumulator (R328). -/
def flcAccumulator : Nat := flc 38 0 0

/-- Network time set to a value (R306). -/
def Clock.setTime (k : Clock) (sec ns : Nat) : Clock := { k with sec := sec % 2 ^ 48, sub := ns % 1000000000 * 2 ^ 32 }

/-- Network time moved by a signed number of nanoseconds (R307), modulo the 48-bit seconds. -/
def Clock.stepBy (k : Clock) (off : Int) : Clock :=
  let t : Int := k.abs + off
  let span : Int := 2 ^ 48 * 1000000000
  let u := (t % span).toNat
  { k with sec := u / 1000000000, sub := u % 1000000000 * 2 ^ 32 + k.sub % 2 ^ 32 }

/-- What every step of network time records (R307). -/
def Dev.stepSeen (d : Dev) (k : Clock) : Dev :=
  ((d.inc F.TU_STEP_COUNT).setBit F.TU_TIME_STICKY 6).eventOf k 38 8 0

/-! Transmit timestamp queues (R318, R319). -/

def Dev.tsqOf (d : Dev) (l : Nat) : List TsqEntry := tgetD d.timeU.tsq l []

/-- A queue entry's 16 bytes (R318). -/
def TsqEntry.bytes (e : TsqEntry) : Bytes :=
  toLE e.id 2 ++ toLE (e.port % 1024 + 32768 * b2n e.discarded) 2 ++ toLE e.ns 4 ++ toLE e.sec 6 ++ toLE 0 2

/-- Write an entry into a lantern's queue: dropped when 64 are held, event 608 when it was empty (R319). -/
def Dev.tsqPut (d : Dev) (k : Clock) (l : Nat) (e : TsqEntry) : Dev :=
  let q := d.tsqOf l
  if 64 ≤ q.length then
    ((d.setB (F.TU_TSQ_OVERFLOW l) true).satInc (F.TU_TSQ_DROPPED l)).eventOf k 38 1 0
  else
    let d1 := { d with timeU := { d.timeU with tsq := tput d.timeU.tsq l [] (q ++ [e]) } }
    if q.isEmpty then d1.eventOf k 38 0 0 else d1

/-- The DISCARDED entry of R319. -/
def Dev.tsqDiscard (d : Dev) (k : Clock) (port id : Nat) : Dev :=
  d.tsqPut k (port / 16) ⟨id, port, true, 0, 0⟩

/-- TSQ_READ: entries in the order written, removed as they are written to the buffer (R441). -/
def tsqRead (q : Req) (_ : Clock) (d : Dev) : Dev × Rep :=
  let l := q.u 0 1
  let es := (d.tsqOf l).take (q.u 1 1)
  let (n, d1) := d.bufWrite (q.u 8 8) (q.u 16 4) 16 (es.map TsqEntry.bytes)
  ({ d1 with timeU := { d1.timeU with tsq := tput d1.timeU.tsq l [] ((d.tsqOf l).drop n) } },
    ⟨if n < es.length then stPartial else stOk, n, 0⟩)

def tsqReadCheck (q : Req) (_ : Dev) : Option Nat :=
  badParam 20 [(0, 1), (1, 1), (8, 12)] [(0, 31 < q.u 0 1), (1, q.u 1 1 = 0 || 64 < q.u 1 1)] q.params

def execTsqRead (q : Req) (s : State) : Host.Outcome State Fault Refusal :=
  onMach (smiemDev 0x0072 tsqReadCheck tsqRead q) s

/-- TSQ_OVERFLOW_CLEAR: a write of a lantern's queue register; clearing TSQ_OVERFLOW clears TSQ_DROPPED (R330). -/
def Dev.tsqClear (d : Dev) (l w : Nat) : Dev :=
  if bit w 7 then (d.setB (F.TU_TSQ_OVERFLOW l) false).set (F.TU_TSQ_DROPPED l) 0 else d

/-! Timed inputs (R320 to R322). -/

def Dev.fifoOf (d : Dev) (i : Nat) : List (Nat × Nat) := tgetD d.timeU.fifos i []

/-- Is timed input i enabled: 0 is PPS_IN, 1 to 4 are EVT_IN0 to EVT_IN3 (R321). -/
def Dev.inputOn (d : Dev) (i : Nat) : Bool :=
  if i = 0 then d.flag F.TU_PPS_IN_EN else bit (d.get F.TU_EVT_EN) (i - 1)

/-- Nanoseconds between two readings of TICK_COUNT, at 1.28 ns a tick. -/
def tickNs (from_ to_ : Nat) : Nat := (to_ - from_) * 128 / 100

/-- Capture a detected edge (R321): at 16 entries it is dropped and OVERFLOW is set. -/
def Dev.capture (d : Dev) (k : Clock) (i : Nat) : Dev :=
  let q := d.fifoOf i
  if 16 ≤ q.length then (d.setB (F.TU_OVERFLOW i) true).event k (16 * 38 + 6) (flc 38 2 i)
  else
    let d1 := { d with timeU := { d.timeU with fifos := tput d.timeU.fifos i [] (q ++ [(k.sec, k.ns)]) } }
    if q.isEmpty then d1.event k (16 * 38 + 7) (flc 38 2 i) else d1

/-- An active edge at timed input i whose pulse lasts `width` ns (R320): detected when its pulse lasts 8 ns
and it follows the last detected edge by 40 ns; otherwise merged, setting OVERRUN. -/
def timedEdge (i : Fin 5) (width : Nat) (k : Clock) (d : Dev) : Dev :=
  if !d.inputOn i then d
  else
    let far := match tget? d.timeU.lastEdge i with
      | none => true
      | some t => 40 ≤ tickNs t k.tick
    if width < 8 || !far then (d.setB (F.TU_OVERRUN i) true).event k (16 * 38 + 5) (flc 38 2 i)
    else
      let d1 := { d with timeU := { d.timeU with lastEdge := tset d.timeU.lastEdge i k.tick } }
      let d2 := if i.val = 0 then d1.setB F.TU_PPS_PRESENT true else d1
      d2.capture k i

def execTimedInputEdge (input : Fin 5) (width : Nat) (s : State) : Host.Outcome State Fault Refusal :=
  onDev (fun k d => if d.isHeld 38 then d else timedEdge input width k d) s

/-- PPS_IN_TIMEOUT: 1.5 s without a detected edge while PPS_IN_EN is 1 (R322). -/
def ppsTimeout (k : Clock) (d : Dev) : Dev :=
  if d.flag F.TU_PPS_IN_EN then
    ((d.setB F.TU_PPS_PRESENT false).setBit F.TU_TIME_STICKY 1).event k (16 * 38 + 4) (flc 38 2 0)
  else d

def execPpsInTimeout (s : State) : Host.Outcome State Fault Refusal := onDev ppsTimeout s

/-- CAP_POP: writing 1 removes the oldest entry of a capture FIFO (R321). -/
def Dev.capPop (d : Dev) (i w : Nat) : Dev :=
  if bit w 0 then { d with timeU := { d.timeU with fifos := tput d.timeU.fifos i [] ((d.fifoOf i).drop 1) } } else d

/-! PPS_OUT (R323). -/

/-- PPS_OUT_PERIOD as it acts: from 1,000 to 1,000,000,000 ns (R330). -/
def Dev.ppsPeriod (d : Dev) : Nat := min 1000000000 (max 1000 (d.get F.TU_PPS_OUT_PERIOD))

/-- PPS_OUT_PHASE as it acts: 1,000,000,000 or more acts as 0 (R330). -/
def Dev.ppsPhase (d : Dev) : Nat :=
  if 1000000000 ≤ d.get F.TU_PPS_OUT_PHASE then 0 else d.get F.TU_PPS_OUT_PHASE

/-- Has network time reached a grid point PHASE + n × PERIOD within the present tick (R323). -/
def Dev.ppsDue (d : Dev) (k : Clock) : Bool :=
  d.ppsPhase ≤ k.ns && (k.sub - d.ppsPhase * 2 ^ 32) % (d.ppsPeriod * 2 ^ 32) < k.inc

/-- PPS_OUT_RISE: the edge, unless it would follow the last by less than half of PPS_OUT_PERIOD (R323). -/
def ppsRise (k : Clock) (d : Dev) : Dev :=
  if d.isHeld 38 || !d.flag F.TU_PPS_OUT_EN || !d.flag F.TU_TIME_VALID || !d.ppsDue k then d
  else
    let soon := match d.timeU.lastRise with
      | none => false
      | some t => 2 * tickNs t k.tick < d.ppsPeriod
    if soon then (d.setBit F.TU_TIME_STICKY 5).event k (16 * 38 + 11) (flc 38 3 0)
    else ({ d with timeU := { d.timeU with pps := true, lastRise := some k.tick } }).emit (.pps true)

def execPpsOutRise (s : State) : Host.Outcome State Fault Refusal := onDev ppsRise s

/-- PPS_OUT_FALL: PPS_OUT_WIDTH after a rise, PPS_OUT falls (R323). -/
def ppsFall (_ : Clock) (d : Dev) : Dev :=
  if d.timeU.pps then ({ d with timeU := { d.timeU with pps := false } }).emit (.pps false) else d

def execPpsOutFall (s : State) : Host.Outcome State Fault Refusal := onDev ppsFall s

/-! The reference (R303). -/

def refLost (k : Clock) (d : Dev) : Dev :=
  (((d.setB F.TU_HOLDOVER true).setB F.TU_REF_LOCKED false).setBit F.TU_TIME_STICKY 0).eventOf k 38 2 1

def refRestored (k : Clock) (d : Dev) : Dev :=
  ((d.setB F.TU_REF_LOCKED true).setB F.TU_HOLDOVER false).eventOf k 38 3 1

def execReferenceLost (s : State) : Host.Outcome State Fault Refusal := onDev refLost s

def execReferenceRestored (s : State) : Host.Outcome State Fault Refusal := onDev refRestored s

end Sys2Proof.Machine
end

