-- ==== Sys2Proof/Machine/Sconce.lean ====
section
/-! DEFINITION. The Sconce, scratchpad banks, Lampblack's reader commands, counters, snapshots, the archive
and the performance counters (R504 to R536, R438, R443). -/

namespace Sys2Proof.Machine
open Sys2Proof

/-! Lampblack (R518, R519, R443). -/

/-- Bytes of the record at a sequence number: the event store once copied, the ring before (R518). -/
def Mach.lampRead (m : Mach) (s : Nat) : Bytes :=
  if s < m.dev.lamp.copied then mread m.dram (regionBase regEvents + s % 33554432 * 32) 32
  else match tget? m.dev.lamp.ring s with
    | some r => r.bytes
    | none => List.replicate 32 0

/-- EVENT_READ: records from FROM_SEQ, or from the oldest held with PARTIAL (R443, R518). -/
def eventRead (q : Req) (m : Mach) : Res :=
  let d := m.dev
  let from_ := max (q.u 0 8) d.oldestSeq
  let n := min (q.u 8 4) (d.nextSeq - from_)
  let fit := min n (q.u 24 4 / 32)
  let recs := (List.range fit).map (fun i => m.lampRead (from_ + i))
  let (c, d1) := d.bufWrite (q.u 16 8) (q.u 24 4) 32 recs
  .done (m.setDev d1) ⟨if q.u 0 8 < d.oldestSeq || c < n then stPartial else stOk, c, from_ + c⟩

def eventReadCheck (q : Req) (_ : Mach) : Option Nat :=
  badParam 28 [(0, 12), (16, 12)] [(0, 2 ^ 48 ≤ q.u 0 8)] q.params

def execEventRead (q : Req) (s : State) : Host.Outcome State Fault Refusal :=
  onMach (smiem 0x00B0 eventReadCheck (fun _ => false) eventRead q) s

/-- EVENT_RATE: a source's RATE and BURST are set and its credit becomes BURST (R519). -/
def eventRate (q : Req) (k : Clock) (d : Dev) : Dev × Rep :=
  let s := q.u 0 2
  let e := d.evtSrc k s
  let d1 := (d.set (F.LB_RATE s) (q.u 4 4)).set (F.LB_BURST s) (q.u 8 4)
  ({ d1 with lamp := { d1.lamp with
      srcs := tset d1.lamp.srcs s ⟨q.u 8 4 * ticksPerSecond, k.tick, e.suppressed⟩ } }, Rep.ok)

def eventRateCheck (q : Req) (_ : Dev) : Option Nat :=
  badParam 12 [(0, 2), (4, 8)]
    [(0, 1023 < q.u 0 2), (4, 1000000 < q.u 4 4), (8, q.u 8 4 = 0 || 65535 < q.u 8 4)] q.params

def execEventRate (q : Req) (s : State) : Host.Outcome State Fault Refusal :=
  onMach (smiemDev 0x00B1 eventRateCheck eventRate q) s

/-- EVENT_STORE_COPY: the oldest record not yet copied goes to the event store (R518). -/
def eventStoreCopy (m : Mach) : Mach :=
  let d := m.dev
  if !d.flag F.HBM_ALLOC_DONE || d.nextSeq ≤ d.lamp.copied then m
  else
    let s := d.lamp.copied
    let m1 := { m with dev := { d with lamp := { d.lamp with copied := s + 1 } } }
    match tget? d.lamp.ring s with
    | some r => { m1 with dram := mwrite m.dram (regionBase regEvents + s % 33554432 * 32) r.bytes }
    | none => m1

def execEventStoreCopy (s : State) : Host.Outcome State Fault Refusal := onMach eventStoreCopy s

/-! Counters (R438, R525). -/

/-- A counter record of 16 bytes (R438). -/
def Ctr.bytes16 (c : Ctr) : Bytes := toLE c.bytes 8 ++ toLE c.packets 6 ++ toLE (b2n c.invalid) 1 ++ toLE 0 1

def counterCount : Nat := 2097152

/-- An uncorrectable read of a counter's word (R525). -/
def Dev.ctrUncorr (d : Dev) (k : Clock) (i : Nat) : Dev :=
  let c := tgetD d.ctrs i Ctr.zero
  let d1 := { d with ctrs := tput d.ctrs i Ctr.zero { c with invalid := true } }
  (((d1.count (cGlobal 82) 0).setB F.PC_CNT_UNCORR_SEEN true).set F.PC_LAST_BAD_INDEX i).event k 657
    (flc 41 1 (i / 32768))

/-- The 64 bytes of an archive index entry (R529). -/
def ArchGen.entry (g : ArchGen) : Bytes :=
  toLE g.number 8 ++ timeBytes g.first.1 g.first.2 ++ timeBytes g.last.1 g.last.2 ++
    toLE (b2n g.complete + 2 * b2n (g.recs.any (fun e => e.2.invalid))) 1 ++ List.replicate 35 0

/-- The generation an archive area or index entry holds. -/
def Dev.archAt (d : Dev) (i : Nat) : Option ArchGen := d.arch.find? (fun g => g.number % 126 == i)

def counterReadCheck (q : Req) (_ : Mach) : Option Nat :=
  let fl := q.u 8 1
  let index := bit fl 2
  badParam 28 [(0, 9), (12, 4), (16, 12)]
    [(0, if index then 125 < q.u 0 4 else counterCount ≤ q.u 0 4),
     (4, q.u 4 4 = 0 || 65536 < q.u 4 4 || (if index then 126 else counterCount) < q.u 0 4 + q.u 4 4),
     (8, 8 ≤ fl || (fl != 0 && fl != 1 && fl != 2 && fl != 4))] q.params

/-- COUNTER_READ: live, snapshot or archived records, or archive index entries (R438, R529). `bad` names the
counters whose live word reads uncorrectable (R525). -/
def counterRead (bad : List Nat) (q : Req) (m : Mach) : Res :=
  let first := q.u 0 4
  let n := q.u 4 4
  let finish := fun (d : Dev) (size : Nat) (recs : List (Bytes × Bool)) =>
    let (c, d1) := d.bufWrite (q.u 16 8) (q.u 24 4) size (recs.map (·.1))
    Res.done (m.setDev d1) ⟨if c < n || (recs.take c).any (·.2) then stPartial else stOk, c, 0⟩
  let records := fun (d : Dev) (t : Tab Ctr) =>
    finish d 16 ((List.range (min n (q.u 24 4 / 16))).map (fun i =>
      let c := tgetD t (first + i) Ctr.zero
      (c.bytes16, c.invalid)))
  if q.flagAt 8 2 then
    finish m.dev 64 ((List.range (min n (q.u 24 4 / 64))).map (fun i =>
      (((m.dev.archAt (first + i)).map ArchGen.entry).getD (List.replicate 64 0), false)))
  else if q.flagAt 8 1 then
    match m.dev.arch.find? (fun g => g.complete && g.number % 2 ^ 32 == q.u 12 4) with
    | none => .done m ⟨stNotFound, 0, 0⟩
    | some g => records m.dev g.recs
  else if q.flagAt 8 0 then
    match m.dev.snap with
    | none => .done m ⟨stNotFound, 0, 0⟩
    | some t => records m.dev t
  else
    let d1 := (bad.filter (fun i => first ≤ i && i < first + n)).foldl (fun d i => d.ctrUncorr m.clk i) m.dev
    records d1 d1.ctrs

def execCounterRead (q : Req) (uncorrectable : List Nat) (s : State) : Host.Outcome State Fault Refusal :=
  onMach (smiem 0x0040 counterReadCheck (fun _ => false) (counterRead uncorrectable) q) s

/-- COUNTER_CLEAR: each counter of a range is cleared (R438, R525). -/
def counterClear (q : Req) (_ : Clock) (d : Dev) : Dev × Rep :=
  ({ d with ctrs := tclear d.ctrs (q.u 0 4) (q.u 0 4 + q.u 4 4) }, Rep.ok)

def counterClearCheck (q : Req) (_ : Dev) : Option Nat :=
  badParam 8 [(0, 8)]
    [(0, counterCount ≤ q.u 0 4),
     (4, q.u 4 4 = 0 || counterCount < q.u 4 4 || counterCount < q.u 0 4 + q.u 4 4)] q.params

def execCounterClear (q : Req) (s : State) : Host.Outcome State Fault Refusal :=
  onMach (smiemDev 0x0042 counterClearCheck counterClear q) s

/-! Snapshots (R490, R491). -/

/-- Seconds [31:0] and nanoseconds as RESULT carries them. -/
def timeResult (k : Clock) : Nat := k.ns + k.sec % 2 ^ 32 * 2 ^ 32

/-- Take every counter at the present tick (R490). -/
def Dev.takeSnapshot (d : Dev) (k : Clock) : Dev :=
  ({ d with snap := some d.ctrs }).setAll
    [(F.GL_SNAP_HELD, 1), (F.GL_SNAP_COPYING, 1), (F.GL_SNAP_TIME_LO, k.ns), (F.GL_SNAP_TIME_HI, k.sec)]

def counterSnapshotCheck (q : Req) (_ : Mach) : Option Nat :=
  badParam 14 [(0, 1), (4, 10)] [(0, 2 ≤ q.u 0 1), (10, q.flagAt 0 0 && 1000000000 ≤ q.u 10 4)] q.params

/-- COUNTER_SNAPSHOT: at once, or armed for a time; refused with BUSY under R491. -/
def counterSnapshot (q : Req) (m : Mach) : Res :=
  let d := m.dev
  let armed := q.flagAt 0 0
  if d.flag F.GL_SNAP_COPYING || (armed && d.flag F.GL_SNAP_ARMED) then .done m ⟨stBusy, 0, 0⟩
  else if armed && !m.clk.reached (q.u 4 6) (q.u 10 4) then
    .later (m.setDev (d.setB F.GL_SNAP_ARMED true)) (.snapshot (q.u 4 6) (q.u 10 4))
  else .done (m.setDev (d.takeSnapshot m.clk)) ⟨if armed then stLate else stOk, 0, timeResult m.clk⟩

def execCounterSnapshot (q : Req) (s : State) : Host.Outcome State Fault Refusal :=
  onMach (smiem 0x0041 counterSnapshotCheck (fun _ => false) counterSnapshot q) s

/-- The armed snapshot whose time network time has reached (R325). -/
def Dev.snapDue (d : Dev) (k : Clock) : Option Wait :=
  d.smi.waits.find? (fun w => match w.kind with
    | .snapshot s n => k.reached s n
    | _ => false)

/-- Apply the armed snapshot that has fallen due; bit [0] of the detail word marks a step (R325). -/
def Dev.armedSnapshot (d : Dev) (k : Clock) (detail : Nat) : Dev :=
  match d.snapDue k with
  | none => d
  | some w => ((d.takeSnapshot k).setB F.GL_SNAP_ARMED false).finish k w ⟨stOk, detail, timeResult k⟩

def execSnapshotCopyComplete (s : State) : Host.Outcome State Fault Refusal :=
  onDev (fun _ d => d.setB F.GL_SNAP_COPYING false) s

/-! The archive (R529). -/

/-- Number of the generation in progress, and its record (empty before its first slice). -/
def Dev.archGen (d : Dev) : Nat := d.get64 F.PC_ARCHIVE_GEN_LO F.PC_ARCHIVE_GEN_HI

def Dev.archNow (d : Dev) (k : Clock) : ArchGen :=
  (d.arch.find? (fun g => g.number == d.archGen && !g.complete)).getD ⟨d.archGen, (k.sec, k.ns), (0, 0), false, 0, []⟩

/-- ARCHIVE_FLUSH_SLICE: slice j of the generation in progress copies counters 131,072 j to 131,072 j +
131,071; after slice 15 the generation is complete and the next begins. A generation's area is overwritten
when the one 126 later begins. -/
def archiveSlice (k : Clock) (d : Dev) : Dev :=
  if !d.flag F.PC_ARCHIVE_EN || !d.flag F.HBM_ALLOC_DONE then d
  else
    let g := d.archNow k
    let part := trange d.ctrs (131072 * g.slices) (131072 * (g.slices + 1))
    let g1 : ArchGen := { g with recs := g.recs ++ part, slices := g.slices + 1 }
    let rest := d.arch.filter (fun h => h.number != g.number && h.number % 126 != g.number % 126)
    if g1.slices = 16 then
      ({ d with arch := rest ++ [{ g1 with complete := true, last := (k.sec, k.ns) }] }).set64
        F.PC_ARCHIVE_GEN_LO F.PC_ARCHIVE_GEN_HI (g.number + 1)
    else { d with arch := rest ++ [g1] }

/-! Performance counters (R530). -/

/-- Set all 64 performance counters to 0. -/
def Dev.perfZero (d : Dev) : Dev :=
  (List.range 64).foldl (fun d j => d.set64 (F.PC_PERF_COUNT_LO j) (F.PC_PERF_COUNT_HI j) 0) d

/-- A write of the register that holds PERF_FREEZE and PERF_CLEAR. -/
def Dev.perfWrite (d : Dev) (w : Nat) : Dev :=
  let d1 := d.setB F.PC_PERF_FREEZE (bit w 0)
  if bit w 1 then d1.perfZero else d1

/-! Scratchpad banks (R506 to R514). -/

def ownerNone : Nat := 0
def ownerDma : Nat := 2
def ownerTest : Nat := 4

/-- The owner a bank has, or had before it was lent to the test. -/
def Dev.trueOwner (d : Dev) (b : Nat) : Nat :=
  if d.get (F.SC_OWNER b) = ownerTest then d.get (F.SC_LENT_FROM b) else d.get (F.SC_OWNER b)

def Dev.bankFailed (d : Dev) (b : Nat) : Bool := d.flag (F.SC_FAILED b)

/-- May a bank be tested: powered and not FAILED (R513). -/
def Dev.bankTestable (d : Dev) (b : Nat) : Bool := d.get (F.SC_OWNER b) != ownerNone && !d.bankFailed b

def bankAssignCheck (q : Req) (m : Mach) : Option Nat :=
  let d := m.dev
  let b := q.u 0 1
  let lastDma := q.u 1 1 != ownerDma && d.trueOwner b == ownerDma &&
    (List.range 64).all (fun j => j == b || d.trueOwner j != ownerDma)
  match badParam 2 [(0, 2)]
      [(0, b < 4 || 63 < b || d.bankFailed b), (1, q.u 1 1 != ownerNone && q.u 1 1 != ownerDma)] q.params with
  | some o => some o
  | none => if lastDma then some 0xFFFF else none

def Dev.bankContents (d : Dev) (b : Nat) : Dev :=
  { d with sconce := { d.sconce with scratch := tclear d.sconce.scratch (b * 32768) ((b + 1) * 32768) } }

/-- BANK_ASSIGN (R507, R508): to NONE the bank is powered off and loses its contents; from NONE it is cleared
before the new owner gains access. -/
def bankAssign (q : Req) (m : Mach) : Res :=
  let d := m.dev
  let b := q.u 0 1
  let o := q.u 1 1
  let clearing := d.smi.waits.any (fun w => w.kind == .bankClear b)
  if d.get (F.SC_OWNER b) = ownerTest || clearing then .done m ⟨stBusy, 0, 0⟩
  else if o = ownerNone then
    .done (m.setDev (((d.set (F.SC_OWNER b) ownerNone).setB (F.SC_POWERED b) false).bankContents b)) Rep.ok
  else if d.get (F.SC_OWNER b) = ownerNone then .later (m.setDev (d.setB (F.SC_POWERED b) true)) (.bankClear b)
  else .done (m.setDev (d.set (F.SC_OWNER b) o)) Rep.ok

def execBankAssign (q : Req) (s : State) : Host.Outcome State Fault Refusal :=
  onMach (smiem 0x00C0 bankAssignCheck (fun _ => false) bankAssign q) s

/-- BANK_CLEAR_COMPLETE: every word is 0 and the new owner gains access (R508). -/
def bankCleared (b : Nat) (k : Clock) (d : Dev) : Dev :=
  if d.smi.waits.any (fun w => w.kind == .bankClear b) then
    ((d.bankContents b).set (F.SC_OWNER b) ownerDma).finishAll k (· == .bankClear b) Rep.ok
  else d

def execBankClearComplete (bank : Fin 64) (s : State) : Host.Outcome State Fault Refusal :=
  onDev (bankCleared bank) s

/-- Lend a bank to the test and begin a pass (R513). -/
def Dev.testBegin (d : Dev) (b : Nat) (byCmd : Bool) : Dev :=
  let d1 := (d.set (F.SC_LENT_FROM b) (d.get (F.SC_OWNER b))).set (F.SC_OWNER b) ownerTest
  { d1 with sconce := { d1.sconce with test := some ⟨b, 0, 0, byCmd⟩ } }

/-- The next powered bank in turn from a bank, for the test (R513). -/
def Dev.nextTestBank (d : Dev) : Option Nat :=
  ((List.range 64).map (fun i => (d.sconce.nextBank + i) % 64)).find? d.bankTestable

/-- A slice of the scratchpad test begins, or waits for the pass that runs (R514). -/
def testSlice (_ : Clock) (d : Dev) : Dev :=
  match d.sconce.test with
  | some _ => { d with sconce := { d.sconce with waiting := true } }
  | none =>
    match d.nextTestBank with
    | none => { d with sconce := { d.sconce with waiting := false } }
    | some b =>
      let d1 := d.testBegin b false
      { d1 with sconce := { d1.sconce with waiting := false, nextBank := (b + 1) % 64 } }

/-- A pass ends: the former owner is restored, its command is answered, a waiting slice begins (R513). -/
def Dev.testEnd (d : Dev) (k : Clock) (t : TestPass) : Dev :=
  let d1 := (d.set (F.SC_OWNER t.bank) (d.get (F.SC_LENT_FROM t.bank))).set (F.SC_LENT_FROM t.bank) 0
  let d2 := { d1 with sconce := { d1.sconce with test := none } }
  let d3 := if t.byCmd then d2.finishAll k (· == .bankTest t.bank) ⟨stOk, t.faulty, 0⟩ else d2
  if d3.sconce.waiting then testSlice k d3 else d3

def bankTestCheck (q : Req) (m : Mach) : Option Nat :=
  badParam 2 [(0, 2)] [(0, 63 < q.u 0 1 || !m.dev.bankTestable (q.u 0 1)), (1, 2 ≤ q.u 1 1)] q.params

/-- BANK_TEST: starts a pass, or stops the one it started (R513). -/
def bankTest (q : Req) (m : Mach) : Res :=
  let d := m.dev
  let b := q.u 0 1
  match q.flagAt 1 0, d.sconce.test with
  | true, some _ => .done m ⟨stBusy, 0, 0⟩
  | true, none => .later (m.setDev (d.testBegin b true)) (.bankTest b)
  | false, some t => .done (if t.byCmd && t.bank == b then m.setDev (d.testEnd m.clk t) else m) Rep.ok
  | false, none => .done m Rep.ok

def execBankTest (q : Req) (s : State) : Host.Outcome State Fault Refusal :=
  onMach (smiem 0x00C1 bankTestCheck (fun _ => false) bankTest q) s

/-- FLC of a bit of a scratchpad word (R506). -/
def flcScratch (bank word bit_ : Nat) : Nat := flcFull 0 36 2 bank 0 (word / 4096) (word % 4096 * 72 + bit_)

/-- TEST_WORD_STEP: one word is saved, tested and restored; a failing bit is counted and reported (R512). -/
def testWord (bad : Option (Fin 72)) (k : Clock) (d : Dev) : Dev :=
  match d.sconce.test with
  | none => d
  | some t =>
    let d1 := match bad with
      | none => d
      | some b => (d.setBit F.SC_SCONCE_STICKY 3).event k 579 (flcScratch t.bank t.word b)
    let t1 : TestPass := { t with word := t.word + 1, faulty := t.faulty + b2n bad.isSome }
    if t1.word = 32768 then d1.testEnd k t1 else { d1 with sconce := { d1.sconce with test := some t1 } }

def execTestWordStep (failing : Option (Fin 72)) (s : State) : Host.Outcome State Fault Refusal :=
  onDev (testWord failing) s

/-! Firmware restart (R505). -/

/-- FIRMWARE_RESTART, on a core exception or on an uncorrectable error at a word of bank 0 or 1: FW_READY
clears, commands not begun are kept, commands begun complete with INTEGRITY. -/
def fwRestart (error : Option (Fin 2 × Fin 32768)) (k : Clock) (d : Dev) : Dev :=
  if !d.flag F.SM_FW_READY then d
  else
    let d0 := match error with
      | none => d
      | some (b, w) => ((d.count (cGlobal 81) 0).setBit F.SC_SCONCE_STICKY 1).event k 577 (flcScratch b w 0)
    let d1 := (d0.setB F.SM_FW_READY false)
    let d2 : Dev := { d1 with
      sconce := { d1.sconce with restarting := true },
      smi := { d1.smi with fetched := d1.smi.fetched.map (fun e : Fetched => if e.hw then e else { e with kept := true }) } }
    let begun := d2.smi.waits.filter (fun w => !w.hw && !w.answered)
    begun.foldl (fun (d : Dev) (w : Wait) =>
      let d' : Dev := { d with smi := { d.smi with
        waits := d.smi.waits.map (fun x : Wait => if x == w then { x with answered := true } else x) } }
      d'.complete k w.op w.req w.cq w.noReply ⟨stIntegrity, 0, 0⟩) d2

def execFirmwareRestart (error : Option (Fin 2 × Fin 32768)) (s : State) : Host.Outcome State Fault Refusal :=
  onDev (fwRestart error) s

/-- FW_READY is set; event 581 asserts at every setting (R505). -/
def Dev.fwReady (d : Dev) (k : Clock) : Dev := (d.setB F.SM_FW_READY true).eventOf k 36 5 0

/-! Steps of bring-up (R540). -/

/-- A step of R540 is completed; STEP shows it. -/
def Dev.setStep (d : Dev) (n : Nat) : Dev := ({ d with boot := { d.boot with step := n } }).set F.BT_STEP n

/-- Step 9: FW_READY is set, and event 688 asserts when bring-up is DEGRADED. -/
def Dev.bootDone (d : Dev) (k : Clock) : Dev :=
  let d1 := (d.setStep 9).fwReady k
  if d.flag F.BT_DEGRADED then d1.event k 688 (flc 43 5 0) else d1

/-- Step 7 is completed. An image without a forwarding section has nothing to load or light. -/
def Dev.stepSeven (d : Dev) (k : Clock) : Dev :=
  let d1 := d.setStep 7
  if ((d.boot.image.map Image.fwd).getD []).isEmpty then d1.bootDone k else d1

/-- FIRMWARE_READY: the restart completes (R505). -/
def fwReadyAgain (k : Clock) (d : Dev) : Dev :=
  if !d.sconce.restarting then d
  else
    let d1 := { d with sconce := { d.sconce with restarting := false } }
    (((d1.satInc F.SC_FW_RESTARTS).setBit F.SC_SCONCE_STICKY 4).eventOf k 36 4 0).fwReady k

def execFirmwareReady (s : State) : Host.Outcome State Fault Refusal := onDev fwReadyAgain s

end Sys2Proof.Machine
end

