-- ==== Sys2Proof/Machine/Hbm.lean ====
section
/-! DEFINITION. The HBM controller (R378 to R396): regions and addresses, clients, refresh, self-refresh, errors. The
bytes of a client's request move in the client's own command; here requests have age, urgency and order (log entry 80). -/

namespace Sys2Proof.Machine
open Sys2Proof

/-! Geometry (R378, R379, R381). -/

/-- Extents of a region, ascending. -/
def Dev.region (d : Dev) (r : Nat) : List Nat := tgetD d.hbm.regions r []

/-- A place in DRAM: its extent, its pseudo-channel stack × 32 + channel × 2 + PC, bank, row, and 64-byte burst in the row. -/
structure DramAt where
  ext   : Nat
  pc    : Nat
  bank  : Nat
  row   : Nat
  burst : Nat
deriving DecidableEq, Repr

/-- The place of an extent's offset (R381). -/
def dramAt (e o : Nat) : DramAt :=
  let s := e / 6
  let g := o / 256
  let h := g / 8
  ⟨e, s / 4 * 32 + (4 * (s % 4) + g % 8 % 4) * 2 + g % 8 / 4, h % 64, 2048 * (e % 6) + h / 256, h / 64 % 4 * 4 + o % 256 / 64⟩

/-- The place of a region address (R381). -/
def locate (exts : List Nat) (a : Nat) : Option DramAt :=
  let n := exts.length
  if n = 0 || n * 2 ^ 30 ≤ a then none
  else (exts[a / 4096 % n]?).map (fun e => dramAt e (a / (4096 * n) * 4096 + a % 4096))

/-- The segment a Hogshead chunk lies in. -/
def chunkSegment (exts : List Nat) (c : Nat) : Option Nat :=
  if exts.length = 0 then none else (exts[c / 2 % exts.length]?).map (· / 6)

/-- Segment of a pseudo-channel. -/
def segmentOfPc (pc : Nat) : Nat := pc / 8

/-- FLC of a data bit of a row (R379). -/
def flcDram (pc bank row bit_ : Nat) : Nat :=
  flcFull (1 + pc / 32) 0 (pc % 32 / 8) (pc % 8) bank (row / 64) (row % 64 * 8192 + bit_ % 8192)

/-- FLCs of block 35: the scheduler and the PHY of a channel, the client front end, scrub and training. -/
def flcSched (stack channel : Nat) : Nat := flc 35 stack channel
def flcPhy (stack channel : Nat) : Nat := flc 35 stack (16 + channel)
def flcClient (c : Nat) : Nat := flc 35 4 c
def flcScrub : Nat := flc 35 5 0

/-- Is a stack trained and in service. -/
def Dev.stackUp (d : Dev) (s : Nat) : Bool := bit (d.get F.HBM_STACK_UP) s

/-- Is a segment in self-refresh, or its stack DOWN (R389). -/
def Dev.segResting (d : Dev) (s : Nat) : Bool := bit (d.get F.HBM_SEG_RESTING) s

def Dev.onHbm (d : Dev) (f : Hbm → Hbm) : Dev := { d with hbm := f d.hbm }

/-- The pseudo-channels of a segment and of a stack. -/
def segmentPcs (s : Nat) : List Nat := (List.range 8).map (8 * s + ·)
def stackPcs (s : Nat) : List Nat := (List.range 32).map (32 * s + ·)

/-! Refresh (R387, R388). -/

def Dev.pcDebt (d : Dev) (pc : Nat) : Nat := tgetD d.hbm.debt pc 0
def Dev.pcReqs (d : Dev) (pc : Nat) : List DramReq := tgetD d.hbm.reqs pc []

/-- Set a pseudo-channel's debt, and what DEBT_MAX of its stack shows. -/
def Dev.setDebt (d : Dev) (pc n : Nat) : Dev :=
  let d1 := d.onHbm (fun h => { h with debt := tput h.debt pc 0 n })
  d1.set (F.HBM_DEBT_MAX (pc / 32)) ((stackPcs (pc / 32)).foldl (fun m p => max m (d1.pcDebt p)) 0)

/-- Issue refreshes: energy class 10, and the debt falls. All banks of the pseudo-channel close. -/
def Dev.refresh (d : Dev) (pc n : Nat) : Dev :=
  if n = 0 then d
  else
    let d1 := (List.range n).foldl (fun d _ => d.perf 35 1) (d.spend 10 n)
    (d1.setDebt pc (d.pcDebt pc - n)).onHbm (fun h => { h with open_ := tclear h.open_ (64 * pc) (64 * pc + 64) })

/-- TARGET of a client in ns. -/
def Dev.dramTarget (d : Dev) (c : Nat) : Nat := 10 * max 1 (d.get (F.HBM_TARGET c))

/-- Urgency of a request (R383). -/
def Dev.urgency (d : Dev) (k : Clock) (r : DramReq) : Nat := min 7 (8 * tickNs r.at_ k.tick / d.dramTarget r.client)

/-- Does a pseudo-channel hold a request of urgency 4 or more. -/
def Dev.pressing (d : Dev) (k : Clock) (pc : Nat) : Bool := (d.pcReqs pc).any (fun r => 4 ≤ d.urgency k r)

/-- REFRESH_DUE (R387). -/
def refreshDue (pc : Nat) (k : Clock) (d : Dev) : Dev :=
  if !d.stackUp (pc / 32) || d.segResting (segmentOfPc pc) || d.isHeld 35 then d
  else
    let limit := if d.flag (F.HBM_DOUBLED (pc / 32)) then 4 else 8
    let d1 := d.setDebt pc (d.pcDebt pc + 1)
    if !d.pressing k pc then d1.refresh pc (d1.pcDebt pc)
    else if limit < d1.pcDebt pc then d1.refresh pc (d1.pcDebt pc - limit) else d1

def execRefreshDue (pc : Fin 128) (s : State) : Host.Outcome State Fault Refusal := onDev (refreshDue pc) s

/-- STACK_TEMP_READ (R388). -/
def stackTemp (s : Nat) (t : Int) (k : Clock) (d : Dev) : Dev :=
  let d1 := (d.set (F.HBM_TEMP s) (unsign 8 t)).setB (F.HBM_STACK_HOT s) (95 ≤ t)
  let d2 := if 95 ≤ t then (d1.setBit F.HBM_STICKY 5).event k 565 (flcScrub) else d1
  if t < 82 then d2.setB (F.HBM_DOUBLED s) false
  else if t < 85 || d.flag (F.HBM_DOUBLED s) then d2
  else
    let d3 := ((d2.setB (F.HBM_DOUBLED s) true).setBit F.HBM_STICKY 4).event k 564 flcScrub
    let due := (stackPcs s).filter (fun p => 0 < d.pcDebt p)
    if due.isEmpty then d3
    else
      let d4 := due.foldl (fun d p => d.refresh p (d.pcDebt p)) d3
      ((d4.count (cGlobal 55) 0).setBit F.HBM_STICKY 3).event k 563 flcScrub

def execStackTempRead (stack : Fin 4) (reading : Int) (s : State) : Host.Outcome State Fault Refusal :=
  onDev (fun k d => if d.isHeld 35 then d else stackTemp stack reading k d) s

/-! Self-refresh (R389 to R391). -/

/-- Slices of 64 MiB over the allocated extents, in ascending order (R393). -/
def Dev.allocated (d : Dev) : List Nat :=
  (List.range 96).filter (fun e => d.hbm.regions.any (fun r => r.2.contains e))

/-- Scrub slices of a segment's allocated extents. -/
def Dev.segmentSlices (d : Dev) (s : Nat) : List Nat :=
  (List.range (16 * d.allocated.length)).filter (fun i => ((d.allocated)[i / 16]?).map (· / 6) == some s)

/-- Entry of a segment ends before its commit point (R390); it stays awake for the rest of the period. -/
def Dev.entryEnds (d : Dev) (k : Clock) (s : Nat) : Dev :=
  if !bit d.hbm.entering s then d
  else
    let d1 := d.onHbm (fun h => { h with entering := h.entering - 2 ^ s })
    ((d1.count (cGlobal 56) 0).setBit F.HBM_STICKY 6).event k 566 (flc 35 (s / 4) 255)

/-- A resting segment wakes (R390, R391). -/
def Dev.wake (d : Dev) (k : Clock) (s : Nat) : Dev :=
  if !d.segResting s || !d.stackUp (s / 4) then d
  else
    let d1 := (segmentPcs s).foldl (fun d p => d.setDebt p 0) (d.clrBit F.HBM_SEG_RESTING s)
    let d2 :=
      if !bit d1.hbm.lost s then d1
      else
        let d3 := d1.onHbm (fun h => { h with lost := h.lost - 2 ^ s, uninit := tput h.uninit s [] (d.segmentSlices s) })
        if (d.segmentSlices s).isEmpty then d3 else d3.setBit F.HBM_SEG_UNINIT s
    ((d2.count (cGlobal 57) 0).setBit F.HBM_STICKY 7).event k 567 (flc 35 (s / 4) 255)

/-- Chunks in use in a segment. -/
def Dev.segmentChunks (d : Dev) (s : Nat) : Nat :=
  (d.bm.chunks.filter (fun c => chunkSegment (d.region regHog) c == some s)).length

/-- SELF_REFRESH_ENTRY: the segment's pseudo-channels hold no request; debts are issued and the commit point is passed. -/
def selfRefreshEntry (s : Nat) (_ : Clock) (d : Dev) : Dev :=
  let lose := bit (d.get F.HBM_SEG_LOSE) s
  if !bit d.hbm.entering s || (segmentPcs s).any (fun p => !(d.pcReqs p).isEmpty) || d.isHeld 35 ||
      (lose && d.segmentChunks s != 0) then d
  else
    let d1 := (segmentPcs s).foldl (fun d p => d.refresh p (d.pcDebt p)) d
    let d2 := d1.onHbm (fun h => { h with
      entering := h.entering - 2 ^ s
      lost := if lose then h.lost ||| 2 ^ s else h.lost
      open_ := tclear h.open_ (512 * s) (512 * s + 512) })
    d2.setBit F.HBM_SEG_RESTING s

def execSelfRefreshEntry (segment : Fin 16) (s : State) : Host.Outcome State Fault Refusal := onDev (selfRefreshEntry segment) s

/-- SELF_REFRESH_ABANDON: 10 µs after the boundary the segment's pseudo-channels still hold a request. -/
def selfRefreshAbandon (s : Nat) (k : Clock) (d : Dev) : Dev :=
  if (segmentPcs s).any (fun p => !(d.pcReqs p).isEmpty) then d.entryEnds k s else d

def execSelfRefreshAbandon (segment : Fin 16) (s : State) : Host.Outcome State Fault Refusal :=
  onDev (selfRefreshAbandon segment) s

/-- SELF_REFRESH_EXIT: a request, or loss of eligibility, wakes the segment. -/
def selfRefreshExit (s : Nat) (k : Clock) (d : Dev) : Dev :=
  if (segmentPcs s).any (fun p => !(d.pcReqs p).isEmpty) || !bit (d.get F.HBM_SEG_ELIGIBLE) s then d.wake k s else d

def execSelfRefreshExit (segment : Fin 16) (s : State) : Host.Outcome State Fault Refusal := onDev (selfRefreshExit segment) s

/-! HBM_SEGMENTS, HBM_STATUS (R389, R443). -/

/-- Segments that hold an extent of a region other than Hogshead data. -/
def Dev.keptSegments (d : Dev) : List Nat :=
  ((d.hbm.regions.filter (fun r => r.1 != regHog)).map (fun r => r.2.map (· / 6))).flatten

def hbmSegmentsCheck (q : Req) (m : Mach) : Option Nat :=
  let e := q.u 0 2
  let l := q.u 2 2
  badParam 4 [(0, 4)] [(2, l &&& e != l || m.dev.keptSegments.any (bit l))] q.params

def execHbmSegments (q : Req) (s : State) : Host.Outcome State Fault Refusal :=
  onMach (smiem 0x00A0 hbmSegmentsCheck (fun _ => false) (fun _ m => .later m .segments) q) s

/-- CONFIG_GEN counts up (R492); a fingerprint pass that runs is abandoned (R497). -/
def Dev.bumpGen (d : Dev) : Dev :=
  let d1 := d.inc F.GL_CONFIG_GEN
  if d.flag F.GL_FP_EN then d1.satInc F.GL_FP_ABANDONED else d1

/-- At a tally period boundary the accepted masks take effect and are answered, a resting segment that is no longer
eligible wakes, and the entry of the planned segments begins (R389, R390). -/
def Dev.segmentBoundary (d : Dev) (k : Clock) (planned : Nat) : Dev :=
  let waits := d.smi.waits.filter (fun w => w.kind == .segments)
  let d1 := waits.foldl (fun d w =>
    ((d.setAll [(F.HBM_SEG_ELIGIBLE, w.req.u 0 2), (F.HBM_SEG_LOSE, w.req.u 2 2)]).bumpGen).finish k w Rep.ok) d
  let d2 := ((List.range 16).filter (fun s => !bit (d1.get F.HBM_SEG_ELIGIBLE) s)).foldl (fun d s => d.wake k s) d1
  let enter := (List.range 16).filter (fun s =>
    bit planned s && bit (d2.get F.HBM_SEG_ELIGIBLE) s && !d2.segResting s && d2.stackUp (s / 4))
  d2.onHbm (fun h => { h with entering := enter.foldl (fun n s => n + 2 ^ s) 0 })

/-- A register word of the controller as its fields stand. -/
def Dev.wordAt (d : Dev) (off : Nat) : Nat := wordOf ((fieldsAt off).map (fun f => (f, d.get f)))

/-- HBM_STATUS: the 128-byte record. -/
def hbmStatus (q : Req) (_ : Clock) (d : Dev) : Dev × Rep :=
  let w := fun off => toLE (d.wordAt (0x2800000 + off)) 4
  let r := ([0x08, 0x10, 0x14, 0x40, 0x44, 0x48, 0x4C, 0x80, 0x84, 0x88, 0x8C, 0x60, 0x68, 0x6C].map w).flatten ++
    List.replicate 8 0 ++ ((List.range 16).map (fun s => toLE (d.segmentChunks s) 4)).flatten
  let (n, d1) := d.bufWrite (q.u 0 8) (q.u 8 4) 128 [r]
  (d1, ⟨if n = 0 then stPartial else stOk, 0, 0⟩)

def execHbmStatus (q : Req) (s : State) : Host.Outcome State Fault Refusal :=
  onMach (smiemDev 0x00A1 (fun q _ => badParam 12 [(0, 12)] [] q.params) hbmStatus q) s

/-! Requests (R383 to R386, R392). -/

/-- DRAM_REQUEST: a client's request of up to one burst is accepted with age 0. A segment whose entry into self-refresh has
not passed its commit point stays awake. -/
def dramRequest (client region addr len : Nat) (write : Bool) (k : Clock) (d : Dev) : Dev :=
  match locate (d.region region) addr with
  | none => d
  | some x =>
    let s := segmentOfPc x.pc
    let r : DramReq := ⟨client, x.bank, x.row, x.burst, write, write && (len < 64 || addr % 64 != 0), k.tick, false⟩
    if d.isHeld 35 then d
    else
      let d1 := (d.entryEnds k s).onHbm (fun h => { h with reqs := tset h.reqs x.pc (tgetD h.reqs x.pc [] ++ [r]) })
      ({ d1 with chan := { d1.chan with segUse := d1.chan.segUse ||| 2 ^ s } }).perf 35 0

def execDramRequest (client region : Fin 7) (addr len : Nat) (write : Bool) (s : State) :
    Host.Outcome State Fault Refusal := onDev (dramRequest client region addr len write) s

/-- A bank is in in-order mode: a queued read's row matches an earlier queued write's (R386). -/
def inOrder (bank : Nat) : List DramReq → Bool
  | [] => false
  | r :: rs => (r.bank == bank && r.write && rs.any (fun x => x.bank == bank && x.row == r.row && !x.write)) || inOrder bank rs

/-- The requests the order rules let issue: `before` holds the earlier ones. -/
def issuable (all : List DramReq) : List DramReq → List DramReq → List DramReq
  | _, [] => []
  | before, r :: rs =>
    let blocked := before.any (fun x => x.bank == r.bank && x.row == r.row && x.burst == r.burst) ||
      (inOrder r.bank all && before.any (fun x => x.bank == r.bank))
    (if blocked then [] else [r]) ++ issuable all (before ++ [r]) rs

/-- Is request a chosen before a later accepted b (R384). -/
def Dev.before (d : Dev) (k : Clock) (pc : Nat) (a b : DramReq) : Bool :=
  let hog := fun r : DramReq => decide (r.client ≤ 1)
  let hit := fun r : DramReq => tget? d.hbm.open_ (64 * pc + r.bank) == some r.row
  let ua := d.urgency k a
  let ub := d.urgency k b
  if ua != ub then ub < ua
  else if hog a != hog b then hog a
  else if hit a != hit b then hit a
  else a.client ≤ b.client

/-- The request a pseudo-channel's scheduler chooses. -/
def Dev.chooseReq (d : Dev) (k : Clock) (pc : Nat) : Option DramReq :=
  match issuable (d.pcReqs pc) [] (d.pcReqs pc) with
  | [] => none
  | r :: rs => some (rs.foldl (fun a b => if d.before k pc a b then a else b) r)

/-- What a read meets (R392): a single-bit error is corrected and counted; an uncorrectable one is recorded. -/
def Dev.dramError (d : Dev) (k : Clock) (pc bank row client : Nat) (e : ReadErr) : Dev :=
  match e with
  | .clean => d
  | .corrected b => ((d.count (cGlobal (40 + pc / 32)) 0).setBit F.HBM_STICKY 0).event k 560 (flcDram pc bank row b)
  | .uncorrectable b =>
    let at_ := flcDram pc bank row b
    let d1 := ((d.count (cGlobal (44 + pc / 32)) 0).setBit F.HBM_STICKY 1).set64 F.HBM_LAST_ERR_FLC_LO F.HBM_LAST_ERR_FLC_HI at_
    (if client = 4 then d1.count (cGlobal 58) 0 else d1).event k 561 at_

/-- DRAM_REQUEST_ISSUE: the chosen request is issued and what its read meets is handled; a refresh that waited for urgent
requests is issued once there are none. A stack out of service answers as an uncorrectable read (R395). -/
def dramIssue (pc : Nat) (e : ReadErr) (k : Clock) (d : Dev) : Dev :=
  if d.isHeld 35 || (d.stackUp (pc / 32) && d.segResting (segmentOfPc pc)) then d
  else match d.chooseReq k pc with
    | none => d
    | some r =>
      let d1 := d.onHbm (fun h => { h with
        reqs := tput h.reqs pc [] ((tgetD h.reqs pc []).erase r)
        open_ := tset h.open_ (64 * pc + r.bank) r.row })
      let reads := !r.write || r.partial_
      let d2 := if reads then d1.spend 8 1 else d1
      let d3 := if r.write then d2.spend 9 1 else d2
      let met := if d.stackUp (pc / 32) then e else .uncorrectable 8191
      let d4 := if reads then d3.dramError k pc r.bank r.row r.client met else d3
      if d4.pressing k pc then d4 else d4.refresh pc (d4.pcDebt pc)

def execDramRequestIssue (pc : Fin 128) (error : ReadErr) (s : State) : Host.Outcome State Fault Refusal :=
  onDev (dramIssue pc error) s

/-- CLIENT_LATE: the oldest request of a pseudo-channel whose age has reached its client's TARGET is counted, once. -/
def clientLate (pc : Nat) (k : Clock) (d : Dev) : Dev :=
  match (d.pcReqs pc).find? (fun r => !r.late && d.dramTarget r.client ≤ tickNs r.at_ k.tick) with
  | none => d
  | some r =>
    let l := (d.pcReqs pc).takeWhile (· != r) ++ [{ r with late := true }] ++ ((d.pcReqs pc).dropWhile (· != r)).drop 1
    let d1 := d.onHbm (fun h => { h with reqs := tset h.reqs pc l })
    ((d1.count (cGlobal (48 + r.client)) 0).setBit F.HBM_STICKY 2).event k 562 (flcClient r.client)

def execClientLate (pc : Fin 128) (s : State) : Host.Outcome State Fault Refusal := onDev (clientLate pc) s

/-! Allocation (R380) and training (R394, R395). -/

/-- Has every stack been trained, or gone DOWN. -/
def Dev.trainingEnded (d : Dev) : Bool := d.get F.HBM_STACK_UP ||| d.get F.HBM_STACK_DOWN == 15

/-- Extents of each region for W and S, by region number (R380). -/
def regionSizes (w s : Nat) : List (Nat × Nat) :=
  [(regEvents, 1), (regStaging, 4), (regArchive, 4), (regRecords, ceilDiv s 32), (regWindow, w), (regHog, s)]

/-- Give each region the lowest extents not yet given. -/
def giveExtents : List (Nat × Nat) → List Nat → Tab (List Nat)
  | [], _ => []
  | (r, n) :: rs, free => (if n = 0 then [] else [(r, free.take n)]) ++ giveExtents rs (free.drop n)

/-- The allocation is made or refused (R380). While the link is in a CXL mode, W must not be 0. At allocation the event
store begins at the oldest record of the ring (R518). -/
def Dev.allocate (d : Dev) (k : Clock) : Dev :=
  let w := d.get F.HBM_WINDOW_GIB
  let s := d.get F.HBM_HOG_GIB
  let free := (List.range 96).filter (fun e => !bit (d.get F.HBM_STACK_DOWN) (e / 24))
  let mode := d.get F.CXL_MODE
  let bad := (w != 0 && w < 4) || 16 < w || 64 < s || (w = 0 && 1 ≤ mode && mode ≤ 4) || (w != 0 && mode = 5)
  let d1 := d.setB F.HBM_ALLOC_PENDING false
  if bad || free.length < sumList ((regionSizes w s).map (·.2)) then (d1.setBit F.HBM_STICKY 9).event k 569 flcScrub
  else
    let d2 := (d1.setB F.HBM_ALLOC_DONE true).onHbm (fun h => { h with regions := giveExtents (regionSizes w s) free })
    { d2 with lamp := { d2.lamp with storeFrom := some d.oldestSeq, copied := d.oldestSeq } }
where
  sumList (l : List Nat) : Nat := l.foldl (· + ·) 0

/-- A write of HBM_ALLOC: WINDOW_GIB, HOG_GIB and ALLOC_GO, ignored once ALLOC_DONE is 1. -/
def Dev.allocWrite (d : Dev) (k : Clock) (w : Nat) : Dev :=
  if d.flag F.HBM_ALLOC_DONE then d
  else
    let d1 := d.setAll [(F.HBM_WINDOW_GIB, bits w 0 5), (F.HBM_HOG_GIB, bits w 8 7)]
    if !bit w 31 then d1
    else if d.trainingEnded then d1.allocate k else d1.setB F.HBM_ALLOC_PENDING true

/-- ALLOCATION: a held ALLOC_GO, once training has ended. -/
def execAllocation (s : State) : Host.Outcome State Fault Refusal :=
  onDev (fun k d => if d.flag F.HBM_ALLOC_PENDING && d.trainingEnded && !d.isHeld 35 then d.allocate k else d) s

/-- A stack goes DOWN: its segments are reported resting and TRAIN_FAIL is set (R389, R394, R395). -/
def Dev.stackDown (d : Dev) (k : Clock) (s at_ : Nat) : Dev :=
  let d1 := (d.clrBit F.HBM_STACK_UP s).setBit F.HBM_STACK_DOWN s
  let d2 := ((d1.set F.HBM_SEG_RESTING (d1.get F.HBM_SEG_RESTING ||| 15 * 2 ^ (4 * s))).setBit F.HBM_STICKY 8)
  let d3 := d2.onHbm (fun h => { h with
    entering := (List.range 16).foldl (fun n i => if bit h.entering i && i / 4 != s then n + 2 ^ i else n) 0 })
  d3.event k 568 at_

/-- CHANNEL_RETRAIN: a retraining that fails takes its stack out of service (R395). -/
def channelRetrain (s channel : Nat) (failed : Bool) (k : Clock) (d : Dev) : Dev :=
  if failed && d.stackUp s && !d.isHeld 35 then d.stackDown k s (flcPhy s channel) else d

def execChannelRetrain (stack : Fin 4) (channel : Fin 16) (failed : Bool) (s : State) :
    Host.Outcome State Fault Refusal := onDev (channelRetrain stack channel failed) s

/-! Scrub (R391, R393). -/

/-- The slice SCRUB_SLICE reads, its extent and its first offset. -/
def Dev.scrubAt (d : Dev) : Option (Nat × Nat) :=
  ((d.allocated)[d.get F.HBM_SCRUB_NEXT / 16]?).map (fun e => (e, d.get F.HBM_SCRUB_NEXT % 16 * 2 ^ 26))

/-- The region address of an extent's offset, as the model's memory holds it. -/
def Dev.extentAddr (d : Dev) (e o : Nat) : Option Nat :=
  d.hbm.regions.findSome? (fun r =>
    if r.2.contains e then
      some (regionBase r.1 + (o / 4096 * r.2.length + r.2.idxOf e) * 4096 + o % 4096)
    else none)

/-- One burst of a slice meets an uncorrectable error (R391, R392). -/
def scrubBad (e o : Nat) (m : Mach) : Mach :=
  let x := dramAt e o
  if bit (m.dev.get F.HBM_SEG_UNINIT) (e / 6) then
    let dram := match m.dev.extentAddr e o with
      | some a => mwrite m.dram a (List.replicate 64 0)
      | none => m.dram
    { m with dram := dram, dev := m.dev.count (cGlobal 59) 0 }
  else m.setDev (m.dev.dramError m.clk x.pc x.bank x.row 2 (.uncorrectable 8191))

/-- A slice has been passed over: SEG_UNINIT of its segment clears with the last. -/
def Dev.slicePassed (d : Dev) (n s : Nat) : Dev :=
  let left := (tgetD d.hbm.uninit s []).filter (· != n)
  let d1 := d.onHbm (fun h => { h with uninit := tput h.uninit s [] left })
  if left.isEmpty then d1.clrBit F.HBM_SEG_UNINIT s else d1

/-- SCRUB_SLICE: 64 MiB are read. `corrected` and `bad` give the bursts of the slice, by number, that read with a
corrected and with an uncorrectable error. A resting segment's slice is passed over and visited in the next pass. -/
def scrubSlice (corrected bad : List Nat) (m : Mach) : Mach :=
  match m.dev.scrubAt with
  | none => m.setDev (m.dev.set F.HBM_SCRUB_NEXT 0)
  | some (e, o) =>
    let n := m.dev.get F.HBM_SCRUB_NEXT
    let next := fun (d : Dev) => d.set F.HBM_SCRUB_NEXT (if n + 1 < 16 * d.allocated.length then n + 1 else 0)
    if m.dev.segResting (e / 6) then m.setDev (next m.dev)
    else
      let fixed := corrected.foldl (fun d b =>
        let x := dramAt e (o + b % 2 ^ 20 * 64)
        d.dramError m.clk x.pc x.bank x.row 2 (.corrected 8191)) (m.dev.spend 8 (2 ^ 20))
      let m1 := bad.foldl (fun m b => scrubBad e (o + b % 2 ^ 20 * 64) m) (m.setDev fixed)
      m1.setDev (next ((m1.dev.slicePassed n (e / 6))))

end Sys2Proof.Machine
end

