-- ==== Sys2Proof/Machine/Buffers.lean ====
section
/-! DEFINITION. The buffer manager (R229 to R267): the free store, pools and back-pressure, admission with
WRED, ECN and push-out, reference counts, and the Hogshead. -/

namespace Sys2Proof.Machine
open Sys2Proof

def cellCount : Nat := 1048576

/-! Frames and ports as tables. -/

def Port.idle : Port := ⟨none, 0, false, false, false, none⟩

def Dev.port (d : Dev) (p : Nat) : Port := tgetD d.ports p Port.idle

def Dev.setPort (d : Dev) (p : Nat) (x : Port) : Dev := { d with ports := tput d.ports p Port.idle x }

def Dev.frame? (d : Dev) (f : Nat) : Option Frame := tget? d.frames f

def Dev.setFrame (d : Dev) (f : Nat) (x : Frame) : Dev := { d with frames := tset d.frames f x }

def Dev.queue (d : Dev) (q : Nat) : List Copy := tgetD d.bm.queues q []

def Dev.setQueue (d : Dev) (q : Nat) (l : List Copy) : Dev :=
  { d with bm := { d.bm with queues := tput d.bm.queues q [] l } }

/-- The cells a frame has written (R244). -/
def Frame.written (f : Frame) : Nat := min f.cells.length (ceilDiv f.bytes.length 256)

/-- An index-addressed record of a table (R435), all zeros when never written. -/
def Dev.record (d : Dev) (table i len : Nat) : Bytes := padTo (tgetD d.index (table * 2 ^ 24 + i) []) len

def Dev.setRec (d : Dev) (table i : Nat) (b : Bytes) : Dev :=
  { d with index := if b.all (· == 0) then tdel d.index (table * 2 ^ 24 + i) else tset d.index (table * 2 ^ 24 + i) b }

/-! Accounts (R236 to R241). -/

/-- Free cells of the buffer. -/
def Dev.freeCells (d : Dev) : Nat := cellCount - d.bm.cells.length

/-- Ingress account of a pool: the cells charged to it. -/
def Dev.ingFill (d : Dev) (p : Nat) : Nat := (d.bm.cells.filter (fun c => c.2.pool == p && !c.2.quarantined)).length

/-- On-die cells a copy is charged for: none once it is spilled (R263). -/
def Dev.charge (d : Dev) (c : Copy) : Nat :=
  if c.spilled then 0 else ((d.frame? c.fid).map Frame.written).getD 0

/-- Every copy held, with its queue: those waiting and those in transmission. -/
def Dev.copies (d : Dev) : List (Nat × Copy) :=
  (d.bm.queues.map (fun e => e.2.map (fun c => (e.1, c)))).flatten ++
    d.ports.filterMap (fun e => e.2.tx.map (fun t => (t.q, t.copy)))

def sumBy {α : Type} (l : List α) (f : α → Nat) : Nat := l.foldl (fun n x => n + f x) 0

/-- On-die fill of a queue. -/
def Dev.queueFill (d : Dev) (q : Nat) : Nat := sumBy (d.copies.filter (fun e => e.1 == q)) (fun e => d.charge e.2)

/-- Egress account of a pool, by the pool each descriptor records (R247). -/
def Dev.egFill (d : Dev) (p : Nat) : Nat := sumBy (d.copies.filter (fun e => e.2.pool == p)) (fun e => d.charge e.2)

/-- Free descriptors of 1,310,720 (R243). -/
def Dev.descFree (d : Dev) : Nat := 1310720 - d.copies.length

/-- Is a class or arrival priority held (R238). -/
def Dev.classHeld (d : Dev) (c : Nat) : Bool := bit (d.get F.BM_HELD_CLASS) c

/-- The shared free count of R237. -/
def Dev.sharedFree (d : Dev) : Int :=
  (d.freeCells : Int) - sumBy (List.range 16) (fun p => d.get (F.POOL_RESERVE p) - d.ingFill p)

/-- May a pool take a cell (R237). -/
def Dev.mayTake (d : Dev) (p : Nat) : Bool :=
  d.ingFill p < d.get (F.POOL_SIZE p) && (d.ingFill p < d.get (F.POOL_RESERVE p) || 0 < d.sharedFree) &&
    0 < d.freeCells

/-- Is a pool's back-pressure asserted. -/
def Dev.pressed (d : Dev) (p : Nat) : Bool := bit (d.get (F.POOL_STATUS p)) 0

/-- Has a pool's ingress or egress account reached T1 (R239). -/
def Dev.aboveT1 (d : Dev) (p : Nat) : Bool :=
  d.get (F.POOL_T1 p) ≤ d.ingFill p || d.get (F.POOL_T1 p) ≤ d.egFill p

/-- POOL_STATUS as the accounts stand, with back-pressure as given. -/
def Dev.poolStatus (d : Dev) (p : Nat) (bp : Bool) : Nat :=
  b2n bp + 2 * b2n (d.aboveT1 p) + 4 * b2n (decide (d.get (F.POOL_T3 p) ≤ d.ingFill p)) +
    8 * b2n (decide (d.get (F.POOL_SIZE p) ≤ d.ingFill p))

/-- Assert a pool's back-pressure (R240). -/
def Dev.press (d : Dev) (k : Clock) (p : Nat) : Dev :=
  if d.pressed p then d
  else ((d.set (F.POOL_STATUS p) (d.poolStatus p true)).event k (16 * 33 + 1) (flc 33 6 1)).perf 33 4

/-- Bring one pool's status up to date (R239, R240): back-pressure asserts at T2, releases below T1 when the
pool may take a cell; event 528 marks the crossing of T1. -/
def Dev.poolUpdate (d : Dev) (k : Clock) (p : Nat) : Dev :=
  if d.get (F.POOL_SIZE p) = 0 && d.ingFill p = 0 && d.egFill p = 0 then d
  else
    let was := bit (d.get (F.POOL_STATUS p)) 1
    let d1 := if d.get (F.POOL_T2 p) ≤ d.ingFill p then d.press k p else d
    let bp := d1.pressed p && !(decide (d1.ingFill p < d1.get (F.POOL_T1 p)) && d1.mayTake p)
    let d2 := d1.set (F.POOL_STATUS p) (d1.poolStatus p bp)
    if !was && d2.aboveT1 p then d2.event k (16 * 33 + 0) (flc 33 6 1) else d2

/-- Bring every pool's status up to date. -/
def Dev.poolsUpdate (d : Dev) (k : Clock) : Dev := (List.range 16).foldl (fun d p => d.poolUpdate k p) d

/-! The free store (R233). -/

/-- Is a cell free. -/
def Dev.cellFree (d : Dev) (n : Nat) : Bool := (tget? d.bm.cells n).isNone

/-- The lowest-numbered free cell of a buffer bank. -/
def Dev.lowestFree (d : Dev) (b : Nat) : Option Nat :=
  let used := (d.bm.cells.filter (fun c => c.1 % 64 == b)).length
  ((List.range (min (used + 1) 16384)).map (fun s => s * 64 + b)).find? d.cellFree

/-- The cell the free store grants next: the lowest free cell of the next bank in rotation that has one. -/
def Dev.nextCell (d : Dev) : Option Nat :=
  (List.range 64).findSome? (fun i => d.lowestFree ((d.bm.bank + i) % 64))

/-- Grant a frame its next cell, charged to a pool. -/
def Dev.grant (d : Dev) (fid pool : Nat) : Option Dev :=
  match d.nextCell, d.frame? fid with
  | some n, some f =>
    some (({ d with bm := { d.bm with
        cells := tset d.bm.cells n ⟨[], 0, f.later, pool, false⟩
        bank := (n % 64 + 1) % 64 } }).setFrame fid { f with cells := f.cells ++ [n] })
  | _, _ => none

/-- Return a cell to the free store. -/
def Dev.freeCell (d : Dev) (n : Nat) : Dev :=
  if d.cellFree n then d else ({ d with bm := { d.bm with cells := tdel d.bm.cells n } }).perf 33 1

/-- Lower a cell's reference count by one; at 0 it is freed (R250). -/
def Dev.unref (d : Dev) (n : Nat) : Dev :=
  match tget? d.bm.cells n with
  | none => d
  | some c =>
    if c.refs ≤ 1 then d.freeCell n
    else { d with bm := { d.bm with cells := tset d.bm.cells n { c with refs := c.refs - 1 } } }

/-- Raise every cell of a frame by a count (R250, R340). -/
def Dev.addRefs (d : Dev) (f : Frame) (n : Nat) : Dev :=
  f.cells.foldl (fun d i => match tget? d.bm.cells i with
    | none => d
    | some c => { d with bm := { d.bm with cells := tset d.bm.cells i { c with refs := c.refs + n } } }) d

/-- Free every cell of a frame. -/
def Dev.freeFrame (d : Dev) (f : Frame) : Dev := f.cells.foldl Dev.freeCell d

def Dev.lantern (d : Dev) (l : Nat) : Lantern := tgetD d.lanterns l Lantern.idle

def Dev.setLantern (d : Dev) (l : Nat) (x : Lantern) : Dev :=
  { d with lanterns := tput d.lanterns l Lantern.idle x }

/-- Does a lantern hold a learn request of a frame (R200). -/
def Dev.learnHeld (d : Dev) (fid : Nat) : Bool := d.lanterns.any (fun l => l.2.learns.any (fun e => e.1 == fid))

/-- Forget a frame whose decision is released, whose reception has ended, and whose cells are all freed and
which no copy names. -/
def Dev.retire (d : Dev) (fid : Nat) : Dev :=
  match d.frame? fid with
  | none => d
  | some f =>
    if f.decided && f.ended.isSome && (f.later = 0 || f.cells.all d.cellFree) && d.copies.all (fun e => e.2.fid != fid) &&
        !d.learnHeld fid && f.charges.isEmpty then
      { d with frames := tdel d.frames fid }
    else d

/-- Discard a frame before admission: its cells return to the free store. -/
def Dev.discardFrame (d : Dev) (fid : Nat) : Dev :=
  match d.frame? fid with
  | none => d
  | some f => { d.freeFrame f with frames := tdel d.frames fid }

/-! Segmented sends (R138): a frame of `len` bytes whose first `h` are the header. -/

/-- Segments of a send. -/
def segCount (len h mss : Nat) : Nat := max 1 (ceilDiv (len - h) (max 1 mss))

/-- The last segment that reads cell j. -/
def segLast (len h mss j : Nat) : Nat :=
  if 256 * j < h then segCount len h mss - 1
  else min (segCount len h mss - 1) ((256 * (j + 1) - 1 - h) / max 1 mss)

/-- The cells segment i reads: those of the header and those of its part of the payload. -/
def segCells (len h mss i : Nat) : List Nat :=
  (List.range (ceilDiv len 256)).filter (fun j =>
    256 * j < h || (h + mss * i < 256 * (j + 1) && 256 * j < min len (h + mss * (i + 1))))

/-- The cells, by place in the frame, that the transmission in progress of a copy reads. -/
def Copy.reads (c : Copy) (f : Frame) : List Nat :=
  match c.kind with
  | .segmented h mss sent _ => (segCells f.bytes.length h mss sent).filter (· < f.cells.length)
  | _ => List.range f.cells.length

/-- The cells, by place in the frame, that a copy still refers to once n cells of its transmission are read (R250). -/
def Copy.refers (c : Copy) (f : Frame) (n : Nat) : List Nat :=
  match c.kind with
  | .segmented h mss sent _ => (List.range f.cells.length).filter (fun j =>
      sent < segLast f.bytes.length h mss j ||
        (sent == segLast f.bytes.length h mss j && !((c.reads f).take n).contains j))
  | _ => (List.range f.cells.length).drop n

/-- Give up a copy's references to its cells once n cells of its transmission are read. -/
def Dev.releaseFrom (d : Dev) (c : Copy) (n : Nat) : Dev :=
  match d.frame? c.fid with
  | none => d
  | some f =>
    let d1 := if c.spilled then d else (c.refers f n).foldl (fun d j => d.unref (f.cells.getD j 0)) d
    let d2 := d1.setFrame c.fid { f with later := f.later - 1 }
    let d3 := { d2 with bm := { d2.bm with chunks := d2.bm.chunks.filter (fun x => !c.chunks.contains x) } }
    d3.retire c.fid

/-! Counting by queue (R246). -/

/-- Count a copy against its queue and, for offsets 2 to 11, in the block's total (R527, R528). -/
def Dev.countQueue (d : Dev) (q i len : Nat) : Dev :=
  let d1 := d.count (cQueue q i) len
  if 2 ≤ i && i ≤ 11 then d1.count (cGlobal (16 + i)) len else d1

/-- Length counted for a copy: the bytes of its frame. -/
def Dev.copyLen (d : Dev) (c : Copy) : Nat := ((d.frame? c.fid).map (fun f => f.bytes.length)).getD 0

/-! WRED and ECN (R251 to R253). -/

/-- One step of the 16-bit generator. -/
def lfsrStep (v : Nat) : Nat :=
  v / 2 + ((v + v / 4 + v / 8 + v / 32) % 2) * 2 ^ 15

/-- The value WRED_SEED loads: 0 acts as 0xACE1. -/
def Dev.wredSeed (d : Dev) : Nat := if d.get F.BM_WRED_SEED = 0 then 0xACE1 else d.get F.BM_WRED_SEED

/-- The generator after one step, applied as a device update. -/
def Dev.stepLfsr (d : Dev) : Dev := { d with bm := { d.bm with lfsr := lfsrStep d.bm.lfsr } }

/-- What WRED decides for a copy. -/
inductive Wred where
  | pass | below | above
deriving DecidableEq, Repr

/-- The WRED profile a queue profile names for a colour. -/
def Dev.wredProfile (d : Dev) (prof colour : Nat) : Nat :=
  if colour = 0 then d.get (F.QPROF_WRED_G prof)
  else if colour = 1 then d.get (F.QPROF_WRED_Y prof) else d.get (F.QPROF_WRED_R prof)

/-- Update a queue's average and compare (R251). The average has 8 fractional bits. -/
def Dev.wred (d : Dev) (q w : Nat) : Wred × Dev :=
  let avg0 := tgetD d.bm.avg q 0
  let avg := avg0 + ((d.queueFill q * 256 : Nat) - avg0) / (2 ^ d.get (F.WREDP_WEIGHT w) : Nat)
  let d1 := { d with bm := { d.bm with avg := tput d.bm.avg q 0 avg } }
  let lo : Int := d.get (F.WREDP_MIN w) * 256
  let hi : Int := d.get (F.WREDP_MAX w) * 256
  if d.get (F.WREDP_MAX_P w) = 0 || avg < lo then (.pass, d1)
  else if hi ≤ avg || hi ≤ lo then (.above, d1)
  else
    let d2 := d1.stepLfsr
    let prob := (d.get (F.WREDP_MAX_P w) : Int) * (avg - lo) / (hi - lo)
    (if (d2.bm.lfsr / 256 : Nat) < prob then .below else .pass, d2)

/-- ECN_LAYER as it acts (R267). -/
def ecnLayer (n : Nat) : Nat := if 1 ≤ n && n ≤ 4 then n else 1

/-- Is a frame ECN-capable at the layer a profile names (R253). -/
def ecnCapable (bytes : Bytes) (layers : List (Option Nat)) (layer : Nat) : Bool :=
  match (layers.getD layer none) with
  | none => false
  | some o =>
    let v := (byteAt bytes o).toNat / 16
    let e := if v = 4 then (byteAt bytes (o + 1)).toNat % 4 else (byteAt bytes (o + 1)).toNat / 16 % 4
    (v == 4 || v == 6) && (e == 1 || e == 2)

/-! Links (R116). -/

def stDown : Nat := 0
def stLighting : Nat := 1
def stUp : Nat := 2
def stDark : Nat := 3
def stRest : Nat := 4

/-- Does a port discard queued and newly enqueued frames (R116, R444). Port 512 does
while its link is DOWN, and holds them while it retrains (R473). -/
def Dev.portDiscards (d : Dev) (p : Nat) : Bool :=
  if p < 512 then
    let s := d.get (F.PORT_STATUS_STATE p)
    s == stDown || s == stDark || (s == stLighting && !(d.port p).fromRest)
  else p == 512 && d.get F.TAP_STATE != 5 && !d.flag F.TAP_RETRAINING

/-! Spill (R261 to R263). -/

/-- Chunks of the Hogshead: S × 524,288 once allocated (R261). -/
def Dev.hogChunks (d : Dev) : Nat := if d.flag F.HBM_ALLOC_DONE then d.get F.HBM_HOG_GIB * 524288 else 0

def Dev.hogFree (d : Dev) : Nat := d.hogChunks - d.bm.chunks.length

/-- Chunks a queue's copies hold. -/
def Dev.queueSpill (d : Dev) (q : Nat) : Nat := sumBy (d.queue q) (fun c => c.chunks.length)

/-- The lowest free chunk of a segment or an extent: each holds two chunks in every 2n, n the extents of the region. -/
def Dev.lowestChunk (d : Dev) (ok : Nat → Bool) : Option Nat :=
  (List.range (min d.hogChunks ((d.bm.chunks.length + 1) * 2 * (d.region regHog).length))).find? (fun c => ok c && !d.bm.chunks.contains c)

/-- The next chunk (R391): while a segment may lose its contents, in the lowest awake segment that has a free one, or else
in a resting one; otherwise in rotation over the extents of the region. -/
def Dev.nextChunk (d : Dev) : Option (Nat × Dev) :=
  let exts := d.region regHog
  let take := fun (c : Nat) => (c, { d with bm := { d.bm with chunks := d.bm.chunks ++ [c] } })
  if d.get F.HBM_SEG_LOSE &&& d.get F.HBM_SEG_ELIGIBLE != 0 then
    let resting := d.get F.HBM_SEG_RESTING
    let order := (List.range 16).filter (fun s => !bit resting s) ++ (List.range 16).filter (bit resting)
    (order.findSome? (fun s => d.lowestChunk (fun c => chunkSegment exts c == some s))).map take
  else
    ((List.range exts.length).findSome? (fun i =>
      let j := (d.hbm.hogTurn + i) % exts.length
      (d.lowestChunk (fun c => c / 2 % exts.length == j)).map (fun c => (j, c)))).map (fun (j, c) =>
        let (c, d1) := take c
        (c, { d1 with hbm := { d1.hbm with hogTurn := (j + 1) % exts.length } }))

/-- Take n chunks. -/
def Dev.takeChunks (d : Dev) : Nat → List Nat × Dev
  | 0 => ([], d)
  | n + 1 => match d.nextChunk with
    | none => ([], d)
    | some (c, d1) =>
      let (cs, d2) := d1.takeChunks n
      (c :: cs, d2)

/-! Admission (R245). -/

/-- Victims of push-out in one queue, from its tail: waiting copies of the pool, on-die, not Beacon. -/
def victimsOf (pool : Nat) (l : List Copy) : List Copy :=
  (l.reverse.filter (fun c => c.pool == pool && !c.beacon && !c.spilled && c.spilling.isNone &&
    (match c.kind with
      | .segmented _ _ n _ => n == 0
      | _ => true)))

/-- The fewest victims, up to four, that free enough for the pool check to pass (R254). -/
def Dev.victims (d : Dev) (port pool cls need : Nat) : Option (List (Nat × Copy)) :=
  let all := ((List.range cls).filter (fun c => !d.classHeld c)).map (fun c =>
    (victimsOf pool (d.queue (port * 8 + c))).map (fun v => (port * 8 + c, v)))
  ((List.range 5).map (fun n => all.flatten.take n)).find? (fun vs => need ≤ sumBy vs (fun v => d.charge v.2))

/-- Remove a copy from its queue and release its cells. -/
def Dev.dropCopy (d : Dev) (q : Nat) (c : Copy) : Dev := (d.setQueue q ((d.queue q).erase c)).releaseFrom c 0

/-- How admission of one copy ended: accepted, or refused with the queue count's offset. -/
inductive Admit where
  | accepted
  | refused (offset : Nat)
deriving DecidableEq, Repr

/-- Refuse a copy, counting it against its queue (R246). -/
def Dev.refuse (d : Dev) (q off : Nat) (c : Copy) : Admit × Dev :=
  (.refused off, (d.countQueue q off (d.copyLen c)).perf 33 3)

/-- Put a copy in its queue. -/
def Dev.enqueue (d : Dev) (q : Nat) (c : Copy) : Admit × Dev :=
  (.accepted, ((d.setQueue q (d.queue q ++ [c])).count (cQueue q 0) (d.copyLen c)).perf 33 2)

/-- WRED and acceptance of a copy that passed its pool check (R251, R252). -/
def Dev.admitWred (d : Dev) (q : Nat) (c : Copy) : Admit × Dev :=
  let prof := d.get (F.BMQ_PROFILE q)
  let layer := ecnLayer (d.get (F.QPROF_ECN_LAYER prof))
  let (w, d1) := d.wred q (d.wredProfile prof c.colour)
  let capable := d.flag (F.QPROF_ECN_EN prof) &&
    ((d.frame? c.fid).map (fun f => ecnCapable f.bytes c.layers layer)).getD false
  let mark := fun (d : Dev) => d.enqueue q { c with ecn := c.layers.getD layer none }
  match w with
  | .pass => d1.enqueue q c
  | .below => if capable then mark d1 else if d.classHeld c.cls then d1.enqueue q c else d1.refuse q 7 c
  | .above => if d.classHeld c.cls then (if capable then mark d1 else d1.enqueue q c) else d1.refuse q 7 c

/-- May a copy spill, and does room in its queue's share and in the Hogshead let it (R262). -/
def Dev.maySpill (d : Dev) (q : Nat) (c : Copy) (only : Bool) : Bool :=
  d.flag (F.QPROF_SPILL_EN (d.get (F.BMQ_PROFILE q))) && !c.waitEof && only && !c.beacon && c.cls != 7

def Dev.spillRoom (d : Dev) (q n : Nat) : Bool :=
  d.queueSpill q < d.get (F.QPROF_SPILL_MAX (d.get (F.BMQ_PROFILE q))) * 1024 && ceilDiv n 8 ≤ d.hogFree

/-- A host frame that asked for a timestamp is lost: its DISCARDED entry (R319). -/
def Dev.tsLost (d : Dev) (k : Clock) (q : Nat) (c : Copy) : Dev :=
  let lost := fun (r : TsReq) => match r.tsId with
    | some id => if q / 8 < 512 then d.tsqDiscard k (q / 8) id else d
    | none => d
  match c.kind with
  | .inject r => lost r
  | .segmented _ _ 0 r => lost r
  | _ => d

/-- The pool check and what follows it (R245, R254). -/
def Dev.admitPool (d : Dev) (k : Clock) (q n : Nat) (c : Copy) : Admit × Dev :=
  let p := c.pool
  let e := d.egFill p
  let limit := if d.classHeld c.cls then d.get (F.POOL_SIZE p) else min (d.get (F.POOL_SIZE p)) (d.get (F.POOL_T3 p))
  if e + n ≤ limit then d.admitWred q c
  else
    let why := if d.get (F.POOL_SIZE p) < e + n then 6 else 5
    let port := q / 8
    if d.flag (F.BMP_PUSH_EN port) && d.get (F.BMP_PUSH_MIN_CLASS port) ≤ c.cls then
      match d.victims port p c.cls (e + n - limit) with
      | none => d.refuse q why c
      | some vs =>
        (vs.foldl (fun d v => ((d.countQueue v.1 8 (d.copyLen v.2)).tsLost k v.1 v.2).dropCopy v.1 v.2) d).admitWred q c
    else d.refuse q why c

/-- Admit one copy of a frame of n written cells (R245). `only`: it is the frame's only copy. -/
def Dev.admitCopy (d : Dev) (k : Clock) (q n : Nat) (only : Bool) (c : Copy) : Admit × Dev :=
  let prof := d.get (F.BMQ_PROFILE q)
  let fill := d.queueFill q
  if d.portDiscards (q / 8) then d.refuse q 2 c
  else if d.descFree = 0 then ((d.setBit F.BM_STICKY 3).eventOf k 33 5 6).refuse q 3 c
  else if fill + n ≤ d.get (F.QPROF_Q_RESERVE prof) then d.enqueue q c
  else
    let over_ := decide (d.get (F.QPROF_SPILL_AT prof) < fill + n) && d.maySpill q c only
    if over_ && d.spillRoom q n then
      let (ch, d1) := d.takeChunks (ceilDiv n 8)
      (d1.countQueue q 13 (d.copyLen c)).enqueue q { c with chunks := ch, spilling := some 0 }
    else
      let d1 := if over_ then
          ((d.count (cGlobal 33) 0).setBit F.BM_STICKY 6).eventOf k 33 6 7
        else d
      if d.get (F.QPROF_Q_MAX prof) < fill + n then d1.refuse q 4 c
      else d1.admitPool k q n c

/-- MAC rate of a port type in Mbit/s (R111). -/
def macRate (t : Nat) : Nat := [0, 10000, 25000, 50000, 100000, 200000, 400000, 800000, 1600000].getD t 0

/-- Is a copy admitted as cut-through (R255). -/
def Dev.cutThrough (d : Dev) (f : Frame) (q : Nat) (c : Copy) : Bool :=
  let p := q / 8
  let forward := match c.kind with
    | .forward none => true
    | _ => false
  f.ended.isNone && f.pass == 1 && f.via < 512 && d.flag (F.BMP_CT_IN_EN f.via) && p < 512 &&
    bit (d.get (F.BMP_CT_EN p)) c.cls &&
    macRate (d.get (F.PORT_CFG_PORT_TYPE p)) ≤ macRate (d.get (F.PORT_CFG_PORT_TYPE f.via)) &&
    (d.queue q).isEmpty && ((d.port p).tx.map (fun t => t.q != q)).getD true && forward

end Sys2Proof.Machine
end

