-- ==== Sys2Proof/Machine/Chandler.lean ====
section
/-! DEFINITION. The Chandler (R78 to R108): VDD_CORE and its setpoint, the energy account, telemetry, the plan.
The commands of a tally period's end stand in Tally, after the ports whose lanes a boundary darkens. -/

namespace Sys2Proof.Machine
open Sys2Proof

/-- Change the Chandler's own state. -/
def Dev.onChan (d : Dev) (f : Chan → Chan) : Dev := { d with chan := f d.chan }

/-- FLC_UNIT of a flag's event (R106): the accounting sum, telemetry, the throttle, or the planner. -/
def chanUnit (n : Nat) : Nat := if n = 9 then 0 else if n = 4 ∨ n = 5 then 1 else if n = 2 then 3 else 2

/-- Set flag n of CHANDLER_FLAGS and assert its event (R105). -/
def Dev.chFlag (d : Dev) (k : Clock) (n : Nat) : Dev :=
  ((d.setBit F.CHANDLER_FLAGS_FLAGS n).onChan (fun c => { c with flags := c.flags ||| 2 ^ n })).eventOf k 37 n (chanUnit n)

/-! Lanes and demand (R57, R91). -/

/-- Lanes of a front port: 0 when it names none. -/
def Dev.portLanes (d : Dev) (p : Nat) : Nat :=
  if d.get (F.PORT_CFG_PORT_TYPE p) = 0 then 0 else 2 ^ d.get (F.PORT_CFG_LANES p)

/-- Lane rate of a front port in Mbit/s. -/
def Dev.laneRate (d : Dev) (p : Nat) : Nat :=
  if d.portLanes p = 0 then 0 else macRate (d.get (F.PORT_CFG_PORT_TYPE p)) / d.portLanes p

/-- The front port a lane belongs to. -/
def Dev.portOf (d : Dev) (n : Nat) : Option Nat :=
  ((List.range 8).map (fun i => n - i)).find? (fun p => p ≤ n && n < p + d.portLanes p)

/-- Configured front ports of a lantern. -/
def Dev.portsOf (d : Dev) (l : Nat) : List Nat :=
  ((List.range 16).map (fun i => 16 * l + i)).filter (fun p => d.get (F.PORT_CFG_PORT_TYPE p) != 0)

def Dev.laneLit (d : Dev) (n : Nat) : Bool := ((tget? d.lanes n).map Lane.lit).getD false

/-- Minimum-size frame rate of a lane in units of 10,000 frames per second (R57). -/
def laneDemand (rate : Nat) : Nat :=
  if rate = 200000 then 29762 else if rate = 100000 then 14881 else if rate = 50000 then 7440
  else if rate = 25000 then 3720 else if rate = 10000 then 1488 else 0

/-- Lane rate of any lane: its port's, else that of a port in its quad (R110). -/
def Dev.rateOfLane (d : Dev) (n : Nat) : Nat :=
  match (n :: (List.range 4).map (fun i => n / 4 * 4 + i)).findSome? d.portOf with
  | some p => d.laneRate p
  | none => 0

/-- Is a port's lane counted in demand (R91): lit and not planned dark, being lit, or DEMAND_DARK. -/
def Dev.laneCounted (d : Dev) (p n : Nat) : Bool :=
  d.flag F.CHANDLER_CTRL_DEMAND_DARK || d.get (F.PORT_STATUS_STATE p) = stLighting ||
    (d.laneLit n && !d.chan.darken.contains n)

def Dev.portDemand (d : Dev) (p : Nat) : Nat :=
  ((List.range (d.portLanes p)).filter (fun i => d.laneCounted p (p + i))).length * laneDemand (d.laneRate p)

/-- A lantern's demand (R91). -/
def Dev.lanternDemand (d : Dev) (l : Nat) : Nat := sumBy (d.portsOf l) d.portDemand

/-- The highest demand of any lantern. -/
def Dev.worstDemand (d : Dev) : Nat := (List.range 32).foldl (fun m l => max m (d.lanternDemand l)) 0

/-! The setpoint (R55, R91, R92). -/

/-- The capacity table of R55: voltage in mV, stage rate in 10 MHz up to 65, 85 and 105 °C. -/
def capacityRows : List (Nat × Nat × Nat × Nat) :=
  [(600, 116, 111, 106), (625, 127, 121, 116), (650, 138, 132, 126), (675, 148, 141, 135), (700, 157, 150, 144),
   (720, 164, 157, 150), (750, 174, 166, 159), (775, 182, 174, 167), (800, 190, 181, 174)]

/-- The column of R55 for a temperature: its bound (R56). -/
def columnOf (tj : Int) : Nat := if tj ≤ 65 then 65 else if tj ≤ 85 then 85 else 105

def rowRate (r : Nat × Nat × Nat × Nat) (column : Nat) : Nat :=
  if column = 65 then r.2.1 else if column = 85 then r.2.2.1 else r.2.2.2

/-- DROOP_ALLOW in mV (R107). -/
def Dev.droop (d : Dev) : Nat := 5 * min 10 (max 5 (d.get F.CHANDLER_CTRL_DROOP_ALLOW))

def Dev.vsetMin (d : Dev) : Nat := min 800 (max 600 (d.get F.VSET_LIMITS_VSET_MIN))
def Dev.vsetMax (d : Dev) : Nat := min 800 (d.get F.VSET_LIMITS_VSET_MAX)
def Dev.vsetFixed (d : Dev) : Nat := min 800 (max 600 (d.get F.VSET_FIXED))

/-- Condition 1 of R91 for a row and a column: 4 × stage rate ≥ 1.12 × demand. -/
def rowMeets (demand column : Nat) (r : Nat × Nat × Nat × Nat) : Bool :=
  112 * demand ≤ 4 * rowRate r column * 100000

/-- The row voltage plus allowance of R91 and R92, capped at 800 mV, and whether VSET_MAX was overridden. -/
def Dev.rowSetpoint (d : Dev) (column : Nat) : Nat × Bool :=
  let ok := capacityRows.filter (rowMeets d.worstDemand column)
  let fits := fun r : Nat × Nat × Nat × Nat => d.vsetMin ≤ r.1 + d.droop && r.1 + d.droop ≤ d.vsetMax
  match ok.find? fits, ok with
  | some r, _ => (min 800 (r.1 + d.droop), false)
  | none, r :: _ => (min 800 (r.1 + d.droop), true)
  | none, [] => (800, false)

/-- The temperature column forecast for the next period (R91). -/
def Dev.forecastColumn (d : Dev) : Nat :=
  match d.chan.tjMax with
  | none => 105
  | some t => columnOf (t + (max 5 (d.get F.CHANDLER_CTRL_TJ_GUARD) : Nat))

/-- The setpoint a mode asks for (R89), never below what R93 holds and never above 800 mV. -/
def Dev.setpointIn (d : Dev) (mode column : Nat) : Nat :=
  let s := (d.rowSetpoint column).1
  min 800 (max d.chan.hold (if mode = 0 then max d.vsetFixed s else s))

/-! AVSBus (R93). -/

/-- The setpoint being moved to, or in force. -/
def Dev.vTarget (d : Dev) : Nat := (d.chan.avs.map AvsWrite.mv).getD d.chan.taken

/-- Send a voltage write-and-commit. -/
def Dev.avsSend (d : Dev) (mv : Nat) : Dev :=
  let d1 := (d.set F.CHANDLER_STATUS_SETPOINT mv).setB F.CHANDLER_STATUS_MOVING true
  (d1.onChan (fun c => { c with avs := some ⟨mv, c.taken, false⟩, moved := 2 ^ 32 - 1 })).emit
    (.avs (d.get F.AVS_CTRL_AVS_RAIL) mv)

/-- Raise VDD_CORE when a setpoint above the present one is required (R93), once calibrated (R108). -/
def Dev.raiseTo (d : Dev) (mv : Nat) : Dev :=
  if d.flag F.CHANDLER_STATUS_CALIBRATED && d.vTarget < mv then d.avsSend mv else d

/-- Replace planned setpoints below a value (R44). -/
def Dev.planAtLeast (d : Dev) (mv : Nat) : Dev :=
  (List.range 16).foldl (fun d k => if d.get (F.PLAN_SETPOINT k) < mv then d.set (F.PLAN_SETPOINT k) mv else d) d

/-- A light is accepted for a port, now LIGHTING (R44, R100): the raise R91 requires is sent, and the port
waits for it. `byConfig`: the lanes come from PORT_CONFIG and follow R44 whatever DEMAND_DARK holds. -/
def Dev.lightVolt (d : Dev) (p : Nat) (byConfig : Bool) : Dev :=
  if !d.flag F.CHANDLER_STATUS_CALIBRATED || (d.flag F.CHANDLER_CTRL_DEMAND_DARK && !byConfig) then d
  else
    let need := d.setpointIn d.chan.mode d.forecastColumn
    let d1 := (d.planAtLeast need).raiseTo need
    if d1.chan.taken < need then d1.setPort p { d1.port p with waitVolt := true } else d1

/-- AVS_VDONE (R93): the write has settled; light-ups that waited for it may begin; a calibration goes on to
observe its 16 periods, with G from 0x8000 (R545). -/
def avsDone (_ : Clock) (d : Dev) : Dev :=
  match d.chan.avs with
  | none => d
  | some w =>
    let d0 := if d.chan.cal = some .awaitVDone then d.set F.CH_GAIN 0x8000 else d
    let d1 := (d0.setB F.CHANDLER_STATUS_MOVING false).onChan (fun c => { c with
      avs := none, taken := w.mv, hold := 0,
      cal := if c.cal = some .awaitVDone then some (.observing 0 0) else c.cal })
    let need := d1.setpointIn d1.chan.mode d1.forecastColumn
    if !d.flag F.CHANDLER_STATUS_CALIBRATED || need ≤ w.mv then
      { d1 with ports := (d1.ports.map (fun e => (e.1, { e.2 with waitVolt := false }))).filter (fun e => e.2 != Port.idle) }
    else d1.raiseTo need

def execAvsVdone (s : State) : Host.Outcome State Fault Refusal := onDev avsDone s

/-- End a calibration with a code (R545); a code from 2 to 5 asserts event 690, at AVSBus or at PMBus. In bring-up this ends step 7 (R540). -/
def Dev.calEnd (d : Dev) (k : Clock) (code : Nat) : Dev :=
  let d1 := ((d.set F.BT_CAL_CODE code).setB F.CHANDLER_STATUS_CALIBRATED (code == 0)).onChan
    (fun c => { c with cal := none })
  let unit := if code = 2 ∨ code = 4 then 1 else 2
  let d2 := if 2 ≤ code then d1.eventOf k 43 2 unit else d1
  if d.boot.step = 6 then d2.stepSeven k else d2

/-- AVS_SETTLE_TIMEOUT (R93): the write is sent once more; after the second time AVS_TIMEOUT is set, and
VDD_CORE is taken at the lower of the two values. In a calibration the outcome is CAL_CODE 4. -/
def avsTimeout (k : Clock) (d : Dev) : Dev :=
  match d.chan.avs with
  | none => d
  | some w =>
    if !w.resent then
      (d.onChan (fun c => { c with avs := some { w with resent := true } })).emit (.avs (d.get F.AVS_CTRL_AVS_RAIL) w.mv)
    else
      let d1 := ((d.setB F.CHANDLER_STATUS_MOVING false).onChan (fun c => { c with
        avs := none, taken := min w.old w.mv, hold := w.old })).chFlag k 6
      if d1.chan.cal = some .awaitVDone then d1.calEnd k 4 else d1

def execAvsSettleTimeout (s : State) : Host.Outcome State Fault Refusal := onDev avsTimeout s

/-! Calibration (R545). -/

/-- Begin a calibration: the readings of items 1 and 2 are awaited. Without slot 0 the code is 1. -/
def Dev.calBegin (d : Dev) (k : Clock) : Dev :=
  if d.flag (F.PMBUS_SLOT_EN 0) then
    (d.setB F.CHANDLER_STATUS_CALIBRATED false).onChan (fun c => { c with cal := some .awaitReadings })
  else d.calEnd k 1

/-- A Linear16 reading in units of 2⁻¹⁶ V, by the exponent of VOUT_MODE (R86). -/
def linear16 (mode raw : Nat) : Nat := raw * 2 ^ (signed 5 mode + 16).toNat

/-- A Linear11 reading in units of 2⁻¹⁶ W (R86). -/
def linear11 (raw : Nat) : Int := signed 11 raw * (2 ^ (signed 5 (raw / 2048) + 16).toNat : Nat)

/-- CHANDLER_CALIBRATION. The readings of items 1 and 2 arrive: VOUT_MODE, the AVSBus voltage read in mV, and
READ_VOUT; none is a read without an answer. Or the 16 periods of item 4 have been observed. -/
def calibration (e : CalEvent) (k : Clock) (d : Dev) : Dev :=
  match e, d.chan.cal with
  | .readings mode avs vout, some .awaitReadings =>
    let d1 := d.onChan (fun c => { c with voutMode := mode })
    match avs, vout with
    | none, _ => d1.calEnd k 2
    | some _, none => d1.calEnd k 3
    | some a, some v =>
      let mv := linear16 mode v * 1000
      if a * 65536 + 15 * 65536 < mv || mv + 15 * 65536 < a * 65536 then d1.calEnd k 3
      else (d1.avsSend (min 800 (max 750 (d.get F.BT_START_VSET)))).onChan (fun c => { c with cal := some .awaitVDone })
  | .observed, some (.observing 16 failed) => d.calEnd k (if 8 ≤ failed then 5 else 0)
  | _, _ => d

def execChandlerCalibration (event : CalEvent) (s : State) : Host.Outcome State Fault Refusal :=
  onDev (calibration event) s

/-! Readings (R86, R87, R103). -/

/-- READ_VOUT of slot 0 (R86): one sample of v_mean; a failed read gives none. -/
def readVout (reading : Option Nat) (_ : Clock) (d : Dev) : Dev :=
  match reading with
  | none => d
  | some r =>
    if d.flag (F.PMBUS_SLOT_EN 0) then d.onChan (fun c => { c with vout := c.vout ++ [linear16 c.voutMode r] }) else d

/-- The lowest and highest VDD_CORE of R12 in units of 2⁻¹⁶ V. -/
def vddLow : Nat := 39322
def vddHigh : Nat := 52428

/-- A reading of VDD_CORE outside the range of R12 has no specified behaviour. -/
def voutOutside (d : Dev) (reading : Option Nat) : Bool :=
  match reading with
  | none => false
  | some r => linear16 d.chan.voutMode r < vddLow || vddHigh < linear16 d.chan.voutMode r

def execReadVout (_sample : Fin 4) (reading : Option Nat) (s : State) : Host.Outcome State Fault Refusal :=
  if s.m.dev.boot.porN && s.m.dev.flag (F.PMBUS_SLOT_EN 0) && voutOutside s.m.dev reading then
    .fault .outsideOperatingRange
  else onDev (readVout reading) s

/-- READ_POUT of a slot (R86, R87). -/
def readPout (slot : Nat) (reading : Option Nat) (_ : Clock) (d : Dev) : Dev :=
  if !d.flag (F.PMBUS_SLOT_EN slot) then d
  else match reading with
    | none => d.onChan (fun c => { c with poutFail := c.poutFail ||| 2 ^ slot })
    | some r => d.onChan (fun c => { c with pout := tset c.pout slot (linear11 r) })

def execReadPout (slot : Fin 4) (reading : Option Nat) (s : State) : Host.Outcome State Fault Refusal :=
  onDev (readPout slot reading) s

/-- TJ_SAMPLE: a die sensor's highest reading; above the bound of the column in use, the row of the 105 °C
column is sent at once as a raise, which the plan takes (R94), and SETPOINT_EMERGENCY is set (R103). -/
def tjSample (tj : Int) (k : Clock) (d : Dev) : Dev :=
  let d1 := d.onChan (fun c => { c with tjs := c.tjs ++ [tj] })
  if d.flag F.CHANDLER_STATUS_CALIBRATED && (d.chan.column : Int) < tj then
    let need := d1.setpointIn d1.chan.mode 105
    (((d1.onChan (fun c => { c with column := 105 })).chFlag k 7).planAtLeast need).raiseTo need
  else d1

def execTjSample (tj : Int) (s : State) : Host.Outcome State Fault Refusal :=
  if s.m.dev.boot.porN && (tj < -10 || 105 < tj) then .fault .outsideOperatingRange else onDev (tjSample tj) s

/-! The account (R80 to R85). -/

/-- How many lanes or cores are in a state class now (R80). -/
def Dev.stateCount (d : Dev) (c : Nat) : Nat :=
  let lit := (List.range 512).filter d.laneLit
  let at_ := fun rate => (lit.filter (fun n => d.rateOfLane n == rate)).length
  match c with
  | 11 => at_ 200000
  | 12 => at_ 100000
  | 13 => at_ 50000
  | 14 => at_ 25000
  | 15 => at_ 10000
  | 16 => 512 - lit.length
  | 17 => if d.get F.TAP_STATE = 5 then d.get F.TAP_WIDTH else 0
  | 18 => d.get F.CXL_WIDTH
  | 19 => d.get F.SC_CORE0_RUN + d.get F.SC_CORE1_RUN
  | _ => 0

/-- Bring the times of the state classes up to the present; made before any lane or core changes state. -/
def Dev.integrate (d : Dev) (k : Clock) : Dev :=
  if k.shape = d.chan.stateAt then d
  else
    let dt := k.shape - d.chan.stateAt
    let acc := (List.range 9).foldl (fun t i =>
      let c := i + 11
      tput t c 0 (tgetD t c 0 + dt * d.stateCount c)) d.chan.stateAcc
    d.onChan (fun c => { c with stateAt := k.shape, stateAcc := acc })

/-- Model components in 1/16 pJ (R82). -/
structure Model where
  dyn   : Nat
  lanes : Nat
  dram  : Nat
  other : Nat
  leak  : Nat
deriving DecidableEq, Repr

def Model.total (m : Model) : Nat := m.dyn + m.lanes + m.dram + m.other + m.leak

/-- Energy of event classes [lo, hi) in 1/16 pJ at 0.720 V. -/
def Dev.eventSum (d : Dev) (n : Tab Nat) (lo hi : Nat) : Nat :=
  sumBy ((List.range hi).filter (lo ≤ ·)) (fun c => tgetD n c 0 * d.get (F.COEF_VALUE c))

/-- Scale by (v ÷ 0.720 V)², v as a sum of `count` readings in 2⁻¹⁶ V. -/
def scaleV (e sum count : Nat) : Nat := e * (sum * 1000) ^ 2 / (count * 65536 * 720) ^ 2

/-- Energy of state classes [lo, hi) in 1/16 pJ: time in 2⁻³² ns, coefficient in µW. -/
def Dev.stateSum (d : Dev) (t : Tab Nat) (lo hi : Nat) : Nat :=
  sumBy ((List.range hi).filter (lo ≤ ·)) (fun c => tgetD t c 0 * d.get (F.COEF_VALUE c)) * 16 / (1000 * 2 ^ 32)

/-- The segment of an axis a value lies in: index and ends. -/
def segment (axis : List Int) (below : Int → Bool) : Nat × Int × Int :=
  let i := if below (axis.getD 1 0) then 0 else if below (axis.getD 2 0) then 1 else 2
  (i, axis.getD i 0, axis.getD (i + 1) 0)

/-- Leakage energy in 1/16 pJ (R82, R83): v as a sum of `count` readings in 2⁻¹⁶ V, temperature as a sum of
`tn` readings, the length in 2⁻³² ns. Linear in voltage, then in temperature. -/
def Dev.leakEnergy (d : Dev) (sum count : Nat) (ts : Int) (tn len : Nat) : Nat :=
  let vd : Int := (count * 65536 : Nat)
  let vn : Int := (sum * 1000 : Nat)
  let (i, v0, v1) := segment [600, 675, 720, 800] (fun x => vn ≤ x * vd)
  let (j, t0, t1) := segment [-10, 25, 65, 105] (fun x => ts ≤ x * tn)
  let entry := fun a b => (d.get (F.LEAK (4 * a + b)) : Int)
  let atV := fun b => entry i b * (v1 * vd - vn) + entry (i + 1) b * (vn - v0 * vd)
  let num := atV j * (t1 * tn - ts) + atV (j + 1) * (ts - t0 * tn)
  let den := (v1 - v0) * vd * ((t1 - t0) * tn)
  if den ≤ 0 then 0 else (num * 16 * len / (den * 2 ^ 32)).toNat

/-- v_mean as a sum and a count of readings (R86, R87). -/
def Dev.vMean (d : Dev) : Nat × Nat :=
  if d.chan.vout.isEmpty then ((d.get F.CHANDLER_STATUS_SETPOINT - d.droop) * 65536, 1000)
  else (sumBy d.chan.vout id, d.chan.vout.length)

/-- tj_mean as a sum and a count; without a sample the lowest temperature of the table stands. -/
def Dev.tjMean (d : Dev) : Int × Nat :=
  if d.chan.tjs.isEmpty then (-10, 1) else (d.chan.tjs.foldl (· + ·) 0, d.chan.tjs.length)

/-- The model energy of counts and state times over a length (R82). -/
def Dev.model (d : Dev) (n t : Tab Nat) (v : Nat × Nat) (tj : Int × Nat) (len : Nat) : Model :=
  ⟨scaleV (d.eventSum n 0 8) v.1 v.2, d.stateSum t 11 17, d.eventSum n 8 11, d.stateSum t 17 20,
    d.leakEnergy v.1 v.2 tj.1 tj.2 len⟩

/-- The components some enabled slot covers (R85, R107). -/
def Dev.coverMask (d : Dev) : Nat :=
  (List.range 4).foldl (fun m s => if d.flag (F.PMBUS_SLOT_EN s) then m ||| d.get (F.PMBUS_SLOT_COVER s) else m) 0

def Model.covered (m : Model) (mask : Nat) : Nat :=
  (if bit mask 0 then m.dyn + m.leak else 0) + (if bit mask 1 then m.lanes else 0) +
    (if bit mask 2 then m.dram else 0) + (if bit mask 3 then m.other else 0)

/-- 1/16 pJ in whole µJ. -/
def toUJ (e : Nat) : Nat := e / 16000000

/-- Reported energy in µJ (R84, R85): G applies to the covered components. -/
def reported (g : Nat) (m : Model) (mask : Nat) : Nat :=
  toUJ ((g * m.covered mask + 32768 * (m.total - m.covered mask)) / 32768)

/-- Telemetry energy of the enabled slots in 1/16 pJ: power in 2⁻¹⁶ W, length in 2⁻³² ns. -/
def Dev.telemetry (d : Dev) (len : Nat) : Nat :=
  let p : Int := (List.range 4).foldl (fun (a : Int) s =>
    if d.flag (F.PMBUS_SLOT_EN s) then a + (tget? d.chan.pout s).getD 0 else a) 0
  (p * (len * 16000 : Nat) / ((2 ^ 48 : Nat) : Int)).toNat

/-- G after a comparison (R85). -/
def nextGain (g tele cov : Nat) : Nat := min 36864 (max 28672 ((15 * g * cov + 32768 * tele) / (16 * cov)))

/-- Did a READ_POUT of an enabled slot fail, or not come, in the period (R87). -/
def Dev.poutMissing (d : Dev) : Bool :=
  (List.range 4).any (fun s => d.flag (F.PMBUS_SLOT_EN s) && (bit d.chan.poutFail s || (tget? d.chan.pout s).isNone))

/-- The comparison at a boundary (R85, R87): runs of failures, implausible ratios, and the next G. -/
def Dev.correct (d : Dev) (k : Clock) (m : Model) (len : Nat) : Dev :=
  let mask := d.coverMask
  let cov := m.covered mask
  if d.poutMissing then
    let d1 := d.onChan (fun c => { c with missing := min 16 (c.missing + 1) })
    if d.chan.missing = 15 then d1.chFlag k 4 else d1
  else
    let d0 := d.onChan (fun c => { c with missing := 0 })
    if cov = 0 then d0
    else
      let tele := d.telemetry len
      let out := decide (tele * 1000 < 875 * cov) || decide (1125 * cov < tele * 1000)
      let run := if out then min 4 (d.chan.outside + 1) else 0
      let d1 := d0.onChan (fun c => { c with outside := run })
      let d2 := if run = 4 ∧ d.chan.outside = 3 then d1.chFlag k 5 else d1
      if run = 4 then d2 else d2.set F.CH_GAIN (nextGain (d.get F.CH_GAIN) tele cov)

/-! The plan (R94 to R97, R102). -/

/-- Interval between slices of a work item in 1/64 periods (R96). -/
def Dev.workInterval (d : Dev) (w : Nat) : Nat :=
  match w with
  | 0 => 1000 * max 1 (d.get F.AGE_CFG_AGE_SWEEP)
  | 1 => 64 * min 6 (max 1 (d.get F.COMPARE_CFG_COMPARE_INTERVAL))
  | 2 => 64 * max 1 (d.get F.SC_TEST_INTERVAL)
  | 3 => 64 * max 1 (d.get F.PC_ARCHIVE_INTERVAL)
  | _ => 64 * max 1 (d.get F.HBM_SCRUB_INTERVAL)

/-- MAX_DEFER of a work item; the sweep of the ternary arrays keeps its own bound of 50 ms (R96). -/
def Dev.maxDefer (d : Dev) (w : Nat) : Nat :=
  if w = 1 then min (d.get (F.WORK_DEFER_MAX_DEFER 1)) (50 - 8 * min 6 (max 1 (d.get F.COMPARE_CFG_COMPARE_INTERVAL)))
  else d.get (F.WORK_DEFER_MAX_DEFER w)

/-- When a work item's next slice falls due, in 1/64 periods: no later than one interval from now, so that a shorter
interval holds from its commit on. -/
def Dev.nextSlice (d : Dev) (w : Nat) : Nat :=
  min (tgetD d.chan.nextDue w (d.workInterval w)) (64 * d.chan.begun + d.workInterval w)

/-- Slices of a work item due in periods before `until_`, from the one next due. -/
def Dev.dueSlices (d : Dev) (w until_ : Nat) : List (Nat × Nat) :=
  let first := d.nextSlice w
  ((List.range (until_ + 1)).map (fun i => (w, (first + i * d.workInterval w) / 64))).filter
    (fun s => s.2 < until_ && (first / 64 < until_))

/-- A slice placed in a planned period: work, period counted from PLAN_0, and whether it is forced. -/
structure Placed where
  work   : Nat
  q      : Nat
  forced : Bool
deriving DecidableEq, Repr

/-- Place one slice (R95). -/
def placeOne (energy : Nat → Nat) (now : Nat) (defer : Nat → Nat) (acc : List Int × List Placed) (s : Nat × Nat) :
    List Int × List Placed :=
  let (room, got) := acc
  let w := s.1
  let last := s.2 + defer w - now
  let taken := fun q => got.any (fun p => p.work == w && p.q == q)
  let fits := fun q => s.2 - now ≤ q && q ≤ last && (energy w : Int) ≤ room.getD q 0 && !taken q
  let put := fun q forced => (room.set q (room.getD q 0 - energy w), got ++ [⟨w, q, forced⟩])
  match (List.range 16).find? fits with
  | some q => put q false
  | none => if last < 16 then put last true else (room, got)

/-- The slices in order of deadline. -/
def byDeadline (defer : Nat → Nat) (l : List (Nat × Nat)) : List (Nat × Nat) :=
  l.mergeSort (fun a b => decide (a.2 + defer a.1 ≤ b.2 + defer b.1))

/-- The counts traffic is forecast from (R94): the greater of the last period's and the mean of the last 16. -/
def Dev.forecastCounts (d : Dev) : Tab Nat :=
  let last := d.chan.hist.headD []
  let n := max 1 d.chan.hist.length
  (List.range 11).foldl (fun t c =>
    tput t c 0 (max (tgetD last c 0) (sumBy d.chan.hist (fun h => tgetD h c 0) / n))) []

/-- The times of the state classes over a period of 1 ms with the lanes as then planned. -/
def Dev.forecastStates (d : Dev) : Tab Nat :=
  (List.range 9).foldl (fun t i => tput t (i + 11) 0 (d.stateCount (i + 11) * 1000000 * 2 ^ 32)) []

/-- The forecast of a planned period at a setpoint (R94). -/
def Dev.forecast (d : Dev) (setpoint : Nat) : Model :=
  let tj : Int × Nat := match d.chan.tjMax with
    | none => (105, 1)
    | some t => (min 105 (t + (max 5 (d.get F.CHANDLER_CTRL_TJ_GUARD) : Nat)), 1)
  d.model d.forecastCounts d.forecastStates ((setpoint - d.droop) * 65536, 1000) tj (1000000 * 2 ^ 32)

/-- The floor in 1/16 pJ (R102) for a mode, with forced slices of an energy. -/
def Dev.floorOf (d : Dev) (mode : Nat) (m : Model) (forced : Nat) : Nat :=
  let refresh := tgetD d.forecastCounts 10 0 * d.get (F.COEF_VALUE 10)
  let traffic := m.dyn + (m.dram - refresh)
  let (df, all) := d.chan.share
  let deferrable := if all = 0 then 0 else traffic * df / all
  let part := if mode = 2 then
      (if d.flag F.FLOOR_OVERRIDE_OVERRIDE_EN then 0 else deferrable * d.get F.DEFER_CTRL_THROTTLE_MIN / 256)
    else deferrable
  m.leak + m.lanes + m.other + refresh + (traffic - deferrable) + part + forced

/-- mJ in 1/16 pJ. -/
def ofMJ (b : Nat) : Nat := b * 16000000000

/-- THROTTLE_LEVEL of a planned period (R97): raised by what removes the excess, at most 32; lowered by what
the spare energy allows, at most 64, when the forecast is 5 % below budget. -/
def Dev.throttleFor (d : Dev) (m : Model) (work budget : Nat) : Nat :=
  let level := d.get F.CH_THROTTLE_LEVEL
  let (df, all) := d.chan.share
  let e := if all = 0 then 0 else (m.dyn + m.dram) * df / all
  let f := m.total + work
  let top := if d.flag F.FLOOR_OVERRIDE_OVERRIDE_EN then 255 else 256 - d.get F.DEFER_CTRL_THROTTLE_MIN
  if budget < f then
    (if e = 0 then level else max level (min (min 255 top) (level + min 32 (ceilDiv ((f - budget) * 256) e))))
  else if f * 100 ≤ budget * 95 then level - (if e = 0 then 64 else min 64 ((budget - f) * 256 / e))
  else level

/-- Segments the plan rests (R101): eligible, with no access forecast; the forecast is the last period's use. -/
def Dev.srSegments (d : Dev) : List Nat :=
  (List.range 16).filter (fun s => bit (d.get F.HBM_SEG_ELIGIBLE) s && !bit d.chan.segLast s)

/-- The plan for the 16 periods after the one in progress (R94, R95, R97, R102), made for a mode and budget. -/
def Dev.makePlan (d : Dev) (k : Clock) (mode budget : Nat) : Dev :=
  if !d.flag F.CHANDLER_STATUS_CALIBRATED then d
  else
    let col := d.forecastColumn
    let sp := d.setpointIn mode col
    let m := d.forecast sp
    let now := d.chan.begun
    let floor0 := d.floorOf mode m 0
    let eff0 := max (ofMJ budget) floor0
    let energy := fun w => tgetD d.chan.cost w 0
    let slices := byDeadline d.maxDefer
      (d.chan.owed ++ ((List.range 5).map (fun w => d.dueSlices w (now + 16))).flatten)
    let placed : List Placed :=
      if mode = 0 then []
      else if budget = 0 then (slices.filter (fun s => s.2 < now + 16)).map (fun s => ⟨s.1, s.2 - now, false⟩)
      else (slices.foldl (placeOne energy now d.maxDefer)
        (List.replicate 16 ((eff0 : Int) - m.total), [])).2
    let here := placed.filter (fun p => p.q == 0)
    let forced := sumBy (here.filter Placed.forced) (fun p => energy p.work)
    let floor := d.floorOf mode m forced
    let eff := max (ofMJ budget) floor
    let thr := if mode = 2 && budget != 0 then d.throttleFor m (sumBy here (fun p => energy p.work)) eff else 0
    let d1 := (List.range 16).foldl (fun d q =>
      let ps := placed.filter (fun p => p.q == q)
      d.setAll [(F.PLAN_SETPOINT q, sp), (F.PLAN_WORK q, ps.foldl (fun w p => w ||| 2 ^ p.work) 0),
        (F.PLAN_FORCED q, b2n (ps.any Placed.forced)), (F.PLAN_THROTTLE q, thr), (F.PLAN_SR_SEGMENTS q, d.srSegments.length)]) d
    let d2 := d1.onChan (fun c => { c with
      planMode := mode, planBudget := budget, rebuild := false, column := col,
      srMask := sumBy d.srSegments (fun s => 2 ^ s),
      planned := here.map (fun p => (p.work, p.forced)),
      nextEff := eff / 16000000000, nextFloor := floor / 16000000000 })
    let d3 := if (d.rowSetpoint col).2 then d2.chFlag k 8 else d2
    let d4 := if here.any Placed.forced then d3.chFlag k 3 else d3
    d4.raiseTo sp

/-- PLAN_REBUILD (R90): within 200 µs of a boundary that took a new mode or budget, the plan is made against
them; a higher setpoint is sent at once, a lower one at the next boundary. -/
def planRebuild (k : Clock) (d : Dev) : Dev :=
  if d.chan.rebuild then d.makePlan k d.chan.mode d.chan.budget else d

def execPlanRebuild (s : State) : Host.Outcome State Fault Refusal := onDev planRebuild s

/-- A slice of work w runs in the present period (R95, R96): it is no longer owed, and FORCED_LAST tells
whether the plan forced it. `before` holds the counts before the slice's own accesses. -/
def Dev.sliceRan (d : Dev) (w : Nat) (before : Tab Nat) : Dev :=
  let forced := d.chan.planned.contains (w, true)
  let spent := sumBy (List.range 11) (fun c => (tgetD d.energy c 0 - tgetD before c 0) * d.get (F.COEF_VALUE c))
  (d.setB (F.WORK_DEFER_FORCED_LAST w) forced).onChan (fun c => { c with
    ran := c.ran ||| 2 ^ w, ranForced := if forced then c.ranForced ||| 2 ^ w else c.ranForced,
    cost := tput c.cost w 0 spent,
    owed := match c.owed.find? (fun s => s.1 == w) with
      | some s => c.owed.erase s
      | none => c.owed })

/-! ENERGY_BUDGET and ENERGY_REPORT (R443, R104). -/

/-- The 64 bytes of a record (R104). -/
def EnergyRec.bytes (r : EnergyRec) : Bytes :=
  toLE r.period 8 ++ toLE r.startNs 4 ++ toLE r.startS 4 ++ toLE r.energy 4 ++ toLE r.eDyn 4 ++ toLE r.eLeak 4 ++
    toLE r.eLanes 4 ++ toLE r.eDram 4 ++ toLE r.eOther 4 ++ toLE r.eTele 4 ++ toLE r.gain 2 ++ toLE r.setpoint 2 ++
    toLE r.budget 2 ++ toLE r.floor 2 ++ toLE (unsign 8 r.tjMax) 1 ++ toLE r.mode 1 ++ toLE r.workRun 1 ++
    toLE r.workForced 1 ++ toLE r.throttle 1 ++ toLE r.sr 1 ++ toLE r.flags 2 ++ toLE 0 4

/-- ENERGY_REPORT: the records held of the periods asked for. -/
def energyReport (q : Req) (_ : Clock) (d : Dev) : Dev × Rep :=
  let first := q.u 0 8
  let n := q.u 8 2
  let recs := (d.chan.records.reverse).filter (fun r => first ≤ r.period && r.period < first + n)
  let (c, d1) := d.bufWrite (q.u 16 8) (q.u 24 4) 64 (recs.map EnergyRec.bytes)
  (d1, ⟨if c < n then stPartial else stOk, c, 0⟩)

def energyReportCheck (q : Req) (_ : Dev) : Option Nat :=
  badParam 28 [(0, 10), (16, 12)] [(8, q.u 8 2 = 0 || 256 < q.u 8 2)] q.params

def execEnergyReport (q : Req) (s : State) : Host.Outcome State Fault Refusal :=
  onMach (smiemDev 0x0091 energyReportCheck energyReport q) s

/-- Stage a value of an SRW field (R479). -/
def Dev.stage (d : Dev) (f : Fld) (v : Nat) : Dev := { d with staged := tset d.staged f.key (v % 2 ^ f.w) }

/-- ENERGY_BUDGET: BUDGET is staged, and MODE with it when SET_MODE is 1. -/
def energyBudget (q : Req) (_ : Clock) (d : Dev) : Dev × Rep :=
  let d1 := d.stage F.ENERGY_BUDGET_BUDGET (q.u 0 2)
  (if q.flagAt 3 0 then d1.stage F.CHANDLER_CTRL_MODE (q.u 2 1) else d1, Rep.ok)

def energyBudgetCheck (q : Req) (_ : Dev) : Option Nat :=
  badParam 4 [(0, 4)] [(2, 3 ≤ q.u 2 1), (3, 2 ≤ q.u 3 1)] q.params

def execEnergyBudget (q : Req) (s : State) : Host.Outcome State Fault Refusal :=
  onMach (smiemDev 0x0090 energyBudgetCheck energyBudget q) s

end Sys2Proof.Machine
end

