-- ==== Sys2Proof/Machine/Admission.lean ====
section
/-! DEFINITION. Admission of a frame's copies (R245, R250) and the requests for cells (R233 to R238). -/

namespace Sys2Proof.Machine
open Sys2Proof

/-- A port begins to light (R114, R135): its lanes are counted, and wait for a raise when one is needed. -/
def Dev.beginLight (d : Dev) (p : Nat) (fromRest byConfig : Bool) : Dev :=
  let d1 := d.onChan (fun c => { c with darken := c.darken.filter (fun n => n < p || p + d.portLanes p ≤ n) })
  ((d1.setPort p { d1.port p with fromRest := fromRest, waitVolt := false }).set (F.PORT_STATUS_STATE p)
    stLighting).lightVolt p byConfig

/-- Wake a port in REST to which a frame is enqueued (R136). -/
def Dev.wakeRest (d : Dev) (p : Nat) : Dev :=
  if p < 512 && d.get (F.PORT_STATUS_STATE p) = stRest then d.beginLight p true false else d

/-- Admit the copies of a frame in order (R245, R250): each named with its queue. Answers how many were
accepted and how the last one ended. -/
def Dev.admitAll (d : Dev) (k : Clock) (fid : Nat) (cs : List (Nat × Copy)) : Nat × Admit × Dev :=
  match d.frame? fid with
  | none => (0, .accepted, d)
  | some f =>
    let one := fun (acc : Nat × Admit × Dev) (e : Nat × Copy) =>
      let (n, _, d) := acc
      let c0 : Copy := { e.2 with pool := d.get (F.BMQ_POOL e.1), waitEof := f.ended.isNone }
      let ct := d.cutThrough f e.1 c0
      let c : Copy := { c0 with ct := ct, waitEof := f.ended.isNone && !ct }
      let (a, d') := d.admitCopy k e.1 f.written (cs.length == 1) c
      match a with
      | .accepted => (n + 1, a, d'.wakeRest (e.1 / 8))
      | .refused _ => (n, a, d')
    cs.foldl one (0, .accepted, d)

/-- After admission: every written cell takes the number of copies accepted, later cells will too, and with
none accepted the cells are freed at once (R250). `extra` is the reference of R340. -/
def Dev.settle (d : Dev) (k : Clock) (fid accepted extra : Nat) : Dev :=
  match d.frame? fid with
  | none => d
  | some f =>
    let f1 : Frame := { f with decided := true, later := f.later + accepted + extra }
    let d1 := (d.addRefs f (accepted + extra)).setFrame fid f1
    let held := if f.ended.isSome then f.cells else f.cells.take f.written
    let d2 := if f1.later = 0 then held.foldl Dev.freeCell d1 else d1
    (d2.retire fid).poolsUpdate k

/-! Requests for cells (R235 to R240). -/

/-- FLC_ENGINE-level location of the MAC of a front port (R31). -/
def flcMac (p : Nat) : Nat := flc (p / 16) 2 (p % 16)

/-- Is a frame's arrival priority held. -/
def Dev.frameHeld (d : Dev) (f : Frame) : Bool := d.classHeld f.prio

/-- A front-port frame refused cells: discarded, its cells freed where no copy holds them (R235). Its discard
counters take its length when its reception ends. -/
def Dev.refuseFront (d : Dev) (k : Clock) (fid : Nat) : Dev :=
  match d.frame? fid with
  | none => d
  | some f =>
    let d1 := ((d.press k f.pool).setBit F.BM_STICKY 0).eventOf k 33 3 5
    let f1 : Frame := { f with refused := true, owes := f.owes ++ [cPort f.via 14, cGlobal 32] }
    let held := d1.copies.any (fun e => e.2.fid == fid)
    if f.decided && held then
      let unwritten := f.cells.drop f.written
      let d2 := (unwritten.foldl Dev.freeCell d1).setFrame fid { f1 with cells := f.cells.take f.written }
      let waiting := (d2.bm.queues.map (fun e => (e.2.filter (fun c => c.fid == fid)).map (fun c => (e.1, c)))).flatten
      let d3 := waiting.foldl (fun d e => d.dropCopy e.1 e.2) d2
      { d3 with ports := d3.ports.map (fun e => (e.1, { e.2 with tx := e.2.tx.map (fun t =>
          if t.copy.fid = fid then { t with stomp := true } else t) })) }
    else ((if f.decided then f.cells.drop f.written else f.cells).foldl Dev.freeCell d1).setFrame fid { f1 with cells := [] }

/-- Account and event of an arrival discard (R238): the frame is discarded at its first cell. -/
def Dev.arrivalDrop (d : Dev) (k : Clock) (fid : Nat) (f : Frame) (limit : Bool) : Dev :=
  let d1 := if limit && d.frameHeld f then d.setBit F.BM_STICKY 4 else d
  (d1.event k (16 * 33 + 2) (flc 33 6 1)).setFrame fid
    { f with refused := true, owes := f.owes ++ [cPort f.via ((if limit then 16 else 24) + f.prio)] }

/-- A front port asks for the next cell of a frame (R238). -/
def Dev.askFront (d : Dev) (k : Clock) (fid : Nat) : Dev :=
  match d.frame? fid with
  | none => d
  | some f =>
    if f.refused || f.cut || f.ended.isSome || f.written < f.cells.length then d
    else if f.cells.isEmpty && f.bytes.isEmpty && d.get (F.POOL_SIZE f.pool) ≤ d.ingFill f.pool then d.arrivalDrop k fid f true
    else if f.cells.isEmpty && f.bytes.isEmpty && d.get (F.POOL_T3 f.pool) ≤ d.ingFill f.pool && !d.frameHeld f then
      d.arrivalDrop k fid f false
    else if !d.mayTake f.pool then d.refuseFront k fid
    else
      match d.grant fid f.pool with
      | none => d.refuseFront k fid
      | some d1 => ((d1.perf 33 0).spend 5 1).poolUpdate k f.pool

/-- How a writer other than a front port fares with its frame's cells (R235, R238). -/
inductive Ask where
  | granted | waits | dropped
deriving DecidableEq, Repr

/-- Write a frame's bytes into the cells it has been granted, with their CRCs (R229). -/
def Dev.fillCells (d : Dev) (fid : Nat) : Dev :=
  match d.frame? fid with
  | none => d
  | some f =>
    (List.range f.cells.length).foldl (fun d i =>
      let n := f.cells.getD i 0
      let part := (f.bytes.drop (256 * i)).take 256
      { d with bm := { d.bm with cells := tset d.bm.cells n ⟨part, crc32c part, f.later, f.pool, false⟩ } }) d

/-- A whole frame asks for all its cells at once: recirculation, Taper inject and Sconce writers (R235). A held frame waits
to ask while back-pressure stands (R240); once it has been refused its request is repeated in every round (R235). -/
def Dev.askWhole (d : Dev) (k : Clock) (fid : Nat) : Ask × Dev :=
  match d.frame? fid with
  | none => (.dropped, d)
  | some f =>
    let n := ceilDiv f.bytes.length 256
    let held := d.frameHeld f
    let over_ := d.get (F.POOL_SIZE f.pool) ≤ d.ingFill f.pool
    let above := decide (d.get (F.POOL_T3 f.pool) ≤ d.ingFill f.pool) && !held
    let refuse := fun (d : Dev) =>
      if held then (Ask.waits, d.setFrame fid { f with parked := true })
      else (.dropped, (({ d with frames := tdel d.frames fid }).count (cPort f.via 14) f.bytes.length).count (cGlobal 32) f.bytes.length)
    if held && d.pressed f.pool && !f.parked then (.waits, d)
    else if over_ || above then
      let d1 := if over_ && held then d.setBit F.BM_STICKY 4 else d
      (.dropped, (({ d1 with frames := tdel d1.frames fid }).count
        (cPort f.via ((if over_ then 16 else 24) + f.prio)) f.bytes.length).event k (16 * 33 + 2) (flc 33 6 1))
    else
      let got := (List.range n).foldl (fun (a : Option Dev) _ => match a with
        | none => none
        | some d => if d.mayTake f.pool then d.grant fid f.pool else none) (some d)
      match got with
      | none => refuse (d.press k f.pool)
      | some d1 => (.granted, (((d1.fillCells fid).perf 33 0).spend 5 n).poolUpdate k f.pool)

end Sys2Proof.Machine
end

