-- ==== Sys2Proof/Machine/Reception.lean ====
section
/-! DEFINITION. The frame MAC's receive side (R117, R119 to R123, R126 to R128) and the writing of cells. -/

namespace Sys2Proof.Machine
open Sys2Proof

def etherType (b : Bytes) : Nat := beAt b 12 2

/-- MAX_FRAME as it acts (R141). -/
def Dev.maxFrame (d : Dev) (p : Nat) : Nat := min 16000 (max 64 (d.get (F.MAX_FRAME p)))

/-- Arrival priority of a frame at a front port (R236). -/
def Dev.arrivalPrio (d : Dev) (p : Nat) (head : Bytes) : Nat :=
  if 16 ≤ head.length && (etherType head == 0x8100 || etherType head == 0x88A8) then (byteAt head 14).toNat / 32
  else d.get (F.BMP_DEFAULT_PRI p)

/-- The pool ING_POOL_MAP of a port names for a priority (R236). -/
def Dev.poolOf (d : Dev) (p prio : Nat) : Nat := bits (d.get (F.BMP_ING_POOL_MAP p)) (4 * prio) 4

/-- A new frame, before any byte is written. -/
def Frame.new (port prio pool maxF rxTs : Nat) : Frame where
  ingress := port
  via := port
  prio := prio
  pool := pool
  maxFrame := maxF
  bytes := []
  cells := []
  later := 0
  ended := none
  rxLen := 0
  cut := false
  refused := false
  headed := false
  rxTs := rxTs
  pass := 1
  gen := 0
  passStart := 0
  staMatch := 0
  entryOp := 0
  flowHash := 0
  drawn := none
  decided := false
  owes := []
  charges := []
  parked := false

/-- The first byte of a frame arrives at a port that is UP (R117, R119, R311). -/
def Dev.arrive (d : Dev) (k : Clock) (fid p : Nat) (head : Bytes) : Dev :=
  if d.get (F.PORT_STATUS_STATE p) != stUp || (d.port p).rx.isSome || (d.frame? fid).isSome then d
  else
    let prio := d.arrivalPrio p head
    let ts := unsign 32 ((k.ts32 : Int) + signed 16 (d.get (F.PTP_RX_TS_ADJ p)))
    (d.setPort p { d.port p with rx := some fid }).setFrame fid
      (Frame.new p prio (d.poolOf p prio) (d.maxFrame p) ts)

/-- One front-port request of a round (R235): a new frame's first cell, or its next cell. -/
def Dev.frontRequest (d : Dev) (k : Clock) (r : CellReq) : Dev :=
  if 512 ≤ r.port then d
  else
    let d1 := d.arrive k r.frame r.port r.head
    if (d1.port r.port).rx = some r.frame then d1.askFront k r.frame else d1

/-- The order of a round's front-port requests: lanterns in an order that rotates from round to round. -/
def roundOrder (round : Nat) (rs : List CellReq) : List CellReq :=
  ((List.range 32).map (fun i => rs.filter (fun r => r.port / 16 == (round + i) % 32))).flatten

/-- Bytes of a received cell are written (R229), with the count every later cell of the frame takes (R250). -/
def Dev.writeCell (d : Dev) (k : Clock) (fid : Nat) (f : Frame) (data : Bytes) : Dev :=
  let i := f.bytes.length / 256
  let n := f.cells.getD i 0
  let part := (f.bytes.drop (256 * i)) ++ data.take (256 - f.bytes.length % 256)
  let f1 : Frame := { f with bytes := f.bytes ++ data.take (256 - f.bytes.length % 256) }
  let d1 := d.setFrame fid f1
  if f.decided && f.later = 0 then (if f.bytes.length % 256 = 0 then d1.freeCell n else d1).poolsUpdate k
  else ({ d1 with bm := { d1.bm with cells := tset d1.bm.cells n ⟨part, crc32c part, f.later, f.pool, false⟩ } }).poolsUpdate k

/-- CELL_WRITE: up to 256 received bytes go into the frame's next granted cell. -/
def cellWrite (fid : Nat) (data : Bytes) (k : Clock) (d : Dev) : Dev :=
  match d.frame? fid with
  | none => d
  | some f =>
    if f.ended.isSome || f.cut || f.refused || data.isEmpty || f.cells.length ≤ f.bytes.length / 256 then d
    else d.writeCell k fid f data

def execCellWrite (frame : Nat) (data : Bytes) (s : State) : Host.Outcome State Fault Refusal :=
  onDev (cellWrite frame data) s

/-- FRAME_OVERSIZE_CUT: byte MAX_FRAME + 1 arrives and the MAC closes the frame after byte MAX_FRAME − 4
(R122). `tail` holds the bytes received after those already written. -/
def oversizeCut (fid : Nat) (tail : Bytes) (k : Clock) (d : Dev) : Dev :=
  match d.frame? fid with
  | none => d
  | some f =>
    if f.ended.isSome || f.cut || f.refused || f.bytes.length + tail.length < f.maxFrame - 4 then d
    else
      let keep := (f.bytes ++ tail).take (f.maxFrame - 4)
      let cells := f.cells.take (ceilDiv keep.length 256)
      let keep' := keep.take (256 * cells.length)
      let d1 := (f.cells.drop cells.length).foldl Dev.unref d
      let d2 := d1.setFrame fid { f with bytes := keep', cells := cells, cut := true }
      let i := cells.length - 1
      let part := keep'.drop (256 * i)
      let d3 := match tget? d2.bm.cells (cells.getD i 0) with
        | none => d2
        | some c => { d2 with bm := { d2.bm with cells := tset d2.bm.cells (cells.getD i 0) { c with data := part, crc := crc32c part } } }
      d3.poolsUpdate k

def execFrameOversizeCut (frame : Nat) (tail : Bytes) (s : State) : Host.Outcome State Fault Refusal :=
  onDev (oversizeCut frame tail) s

/-! The end of reception (R120, R123). -/

/-- The outcome of a received frame of a length: jabber, oversize, runt, FCS, in that order (R123). -/
def rxOutcome (len maxF : Nat) (fcsGood : Bool) : RxEnd :=
  if 16383 < len then .jabber else if maxF < len then .oversize else if len < 64 then .runt
  else if fcsGood then .good else .fcs

/-- Does a frame's FCS check (R120). -/
def fcsGood (b : Bytes) : Bool := 4 ≤ b.length && leNat (b.drop (b.length - 4)) == fcs32 (b.take (b.length - 4))

/-- Count a frame's reception and set its sticky bit (R120, R123). -/
def Dev.countRx (d : Dev) (p len : Nat) (o : RxEnd) : Dev :=
  match o with
  | .good | .refused => d.count (cPort p 0) len
  | .runt => (d.count (cPort p 1) len).setB (F.MAC_STICKY_RUNT_SEEN p) true
  | .fcs => (d.count (cPort p 2) len).setB (F.MAC_STICKY_FCS_ERR_SEEN p) true
  | .oversize => (d.count (cPort p 3) len).setB (F.MAC_STICKY_OVERSIZE_SEEN p) true
  | .jabber => (d.count (cPort p 4) 16384).setB (F.MAC_STICKY_JABBER_SEEN p) true

/-- The copies of a frame wait no longer for its end (R244). -/
def Dev.clearWait (d : Dev) (fid : Nat) : Dev :=
  { d with bm := { d.bm with queues := d.bm.queues.map (fun e =>
      (e.1, e.2.map (fun c => if c.fid = fid then { c with waitEof := false } else c))) } }

/-- A size or FCS outcome: copies that have not begun are discarded, a begun one will end stomped (R120, R244). -/
def Dev.dropBad (d : Dev) (fid : Nat) : Dev :=
  let waiting := (d.bm.queues.map (fun e => (e.2.filter (fun c => c.fid == fid)).map (fun c => (e.1, c)))).flatten
  let d1 := waiting.foldl (fun d e => d.dropCopy e.1 e.2) d
  { d1 with ports := d1.ports.map (fun e => (e.1, { e.2 with tx := e.2.tx.map (fun t =>
      if t.copy.fid = fid then { t with stomp := true } else t) })) }

/-- Set the classes a received pause or priority flow control frame holds and releases (R128, R130). -/
def Dev.hold (d : Dev) (p on off : Nat) : Dev :=
  let h := d.get (F.PORT_STATUS_HELD p)
  d.set (F.PORT_STATUS_HELD p) (bits h 0 8 &&& (255 - off % 256) ||| on % 256)

/-- A MAC control frame is consumed (R127 to R130). -/
def Dev.control (d : Dev) (p : Nat) (b : Bytes) : Dev :=
  let ignored := fun d : Dev => d.count (cPort p 5) b.length
  let unknown := fun d : Dev => d.setB (F.MAC_STICKY_CTRL_UNKNOWN p) true
  let mode := d.get (F.FC_CFG_FC_MODE p)
  let op := beAt b 14 2
  let rec_ := d.get (F.PORT_STATUS_WD_RECOVERY p)
  let act := fun (on off : Nat) =>
    let d1 := if (on ||| off) &&& rec_ = 0 then d else d.count (cPort p 6) b.length
    d1.hold p (on &&& (255 - rec_)) (off &&& (255 - rec_))
  if b.length != 64 then unknown (ignored d)
  else if op = 0x0001 then
    (if mode = 1 then (if beAt b 16 2 = 0 then act 0 255 else act 255 0) else ignored d)
  else if op = 0x0101 then
    (if mode = 2 then
      let en := beAt b 16 2 % 256 &&& d.get (F.FC_CFG_PFC_EN p)
      let on := (List.range 8).foldl (fun m i => if bit en i && beAt b (18 + 2 * i) 2 != 0 then m ||| 2 ^ i else m) 0
      act on (en - on)
    else ignored d)
  else unknown (ignored d)

/-- A frame's reception ends with an outcome, at length `len` and with all its bytes when they fit. -/
def Dev.endReception (d : Dev) (k : Clock) (fid : Nat) (f : Frame) (len : Nat) (all : Bytes) (o : RxEnd) : Dev :=
  let p := f.via
  let d0 := f.owes.foldl (fun d i => d.count i len) ((d.setPort p { d.port p with rx := none }).countRx p len o)
  if o = .good && etherType all = 0x8808 then (d0.control p all).discardFrame fid |>.poolsUpdate k
  else
    let o' : RxEnd := if o = .good && f.refused then .refused else o
    let f1 : Frame := { f with ended := some o', rxLen := len, owes := [] }
    let spare := f.cells.drop f.written
    let d1 := (spare.foldl Dev.freeCell d0).setFrame fid { f1 with cells := f.cells.take f.written }
    if o' = .good then (d1.clearWait fid).poolsUpdate k
    else
      let d2 := d1.dropBad fid
      if f.headed && !f.decided then
        (((f.cells.take f.written).foldl Dev.freeCell d2).setFrame fid { f1 with cells := [] }).poolsUpdate k
      else if !f.headed then (d2.discardFrame fid).poolsUpdate k
      else (d2.retire fid).poolsUpdate k

/-- FRAME_RECEPTION_END: the frame's last byte has arrived. `rest` holds the bytes received that were not
written, of a frame cut or refused; `fec` says that the frame included an uncorrectable codeword or a decoding error (R112, R123); `status`
that its status entry was uncorrectable (R366). -/
def receptionEnd (fid : Nat) (rest : Bytes) (fec status : Bool) (k : Clock) (d : Dev) : Dev :=
  match d.frame? fid with
  | none => d
  | some f =>
    if (d.port f.via).rx != some fid || (!rest.isEmpty && !f.refused && !f.cut) then d
    else
      let all := f.bytes ++ rest
      let o := rxOutcome all.length f.maxFrame (fcsGood all && !fec)
      if status then
        ((d.setB (F.HDR_FIFO_STATUS_STORE_ERR (f.via / 16)) true).event k (16 * (f.via / 16) + 13)
          (flc (f.via / 16) 2 255)).endReception k fid f all.length all .fcs
      else d.endReception k fid f all.length all o

def execFrameReceptionEnd (frame : Nat) (rest : Bytes) (fec status : Bool) (s : State) :
    Host.Outcome State Fault Refusal := onDev (receptionEnd frame rest fec status) s

end Sys2Proof.Machine
end

