-- ==== Sys2Proof/Machine/Ports.lean ====
section
/-! DEFINITION. Front ports and lanes (R109 to R118, R128 to R137, R439, R563): configuration, link state,
light-up and darkening, flow control sent, holds and the pause watchdog. -/

namespace Sys2Proof.Machine
open Sys2Proof

/-- Event n of a port's lantern, located at the port's MAC (R142). -/
def Dev.portEvent (d : Dev) (k : Clock) (p n : Nat) : Dev := d.event k (16 * (p / 16) + n) (flcMac p)

/-! Port modes (R111). -/

/-- A port mode: type, LANES code, start lane alignment, allowed FECs, FEC at reset. -/
def portModes : List (Nat × Nat × Nat × List Nat × Nat) :=
  [(8, 3, 8, [1], 1), (7, 2, 4, [1], 1), (7, 3, 8, [1], 1), (6, 1, 2, [1], 1), (6, 2, 4, [1], 1), (6, 3, 8, [1], 1),
   (5, 0, 1, [1], 1), (5, 1, 2, [1], 1), (5, 2, 4, [1], 1), (4, 0, 1, [1], 1), (4, 1, 2, [1], 1),
   (4, 2, 4, [2, 4], 2), (3, 0, 1, [1], 1), (2, 0, 1, [2, 3, 4], 2), (1, 0, 1, [3, 4], 4)]

def modeOf (type lanes : Nat) : Option (Nat × Nat × Nat × List Nat × Nat) :=
  portModes.find? (fun m => m.1 == type && m.2.1 == lanes)

/-- The front ports, other than p itself, that hold a lane of the quads of lanes [p, p + n). -/
def Dev.quadPorts (d : Dev) (p n : Nat) : List Nat :=
  ((List.range ((p + n - 1) / 4 * 4 + 4 - p / 4 * 4)).map (fun i => p / 4 * 4 + i)).filterMap
    (fun l => (d.portOf l).filter (· != p))

/-- Does a configuration name a failed lane (R551), or break a start lane, the quad rule, R23 or the one-port rule (R113). -/
def Dev.configBad (d : Dev) (p type lanes fec : Nat) : Bool :=
  match modeOf type lanes with
  | none => true
  | some (_, _, align, fecs, _) =>
    let n := 2 ^ lanes
    (List.range n).any (fun i => bit (d.get (F.BT_LANE_FAILED ((p + i) / 32))) ((p + i) % 32)) || p % align != 0 || 16 < p % 16 + n || (fec != 0 && !fecs.contains fec) ||
      (List.range n).any (fun i => ((d.portOf (p + i)).map (· != p)).getD false) ||
      (d.quadPorts p n).any (fun x => d.laneRate x != macRate type / n)

def portConfigCheck (q : Req) (m : Mach) : Option Nat :=
  let d := m.dev
  let p := q.u 0 2
  let t := q.u 2 1
  match badParam 6 [(0, 6)] [(0, 511 < p), (2, 8 < t), (3, t != 0 && 3 < q.u 3 1), (4, t != 0 && 4 < q.u 4 1),
      (5, t != 0 && 2 ≤ q.u 5 1)] q.params with
  | some o => some o
  | none =>
    if t = 0 then (if ((d.portOf p).map (· != p)).getD false then some 0 else none)
    else if d.configBad p t (q.u 3 1) (q.u 4 1) then some 0xFFFF else none

/-! Link state (R116, R117). -/

/-- The port leaves its state; leaving UP, its reception in progress ends and counts RX_FCS_ERR, every hold
ends, and nothing counts as signalled (R117, R131). -/
def Dev.leaveTo (d : Dev) (k : Clock) (p st : Nat) : Dev :=
  if d.get (F.PORT_STATUS_STATE p) != stUp then d.set (F.PORT_STATUS_STATE p) st
  else
    let d1 := match (d.port p).rx with
      | none => d
      | some fid => match d.frame? fid with
        | none => d
        | some f => d.endReception k fid f f.bytes.length f.bytes .fcs
    let d2 := (d1.set (F.PORT_STATUS_HELD p) 0).setPort p { d1.port p with signal := 0, fromRest := false }
    ((d2.set (F.PORT_STATUS_STATE p) st).setB (F.MAC_STICKY_LINK_DOWN_SEEN p) true).portEvent k p 0

/-- Commands whose reply waits for a port's light-up, LANE_LIGHT or PORT_CONFIG, end with a status. -/
def Dev.endLight (d : Dev) (k : Clock) (p status : Nat) : Dev :=
  d.finishAll k (fun w => match w with
    | .portUp ps => ps.contains p
    | .portConfig x => x == p
    | _ => false) ⟨status, 0, 0⟩

/-- LINK_UP: alignment and no faults have held for LINK_UP_HOLD (R117). A LANE_LIGHT whose ports are all UP is
answered (R135). -/
def linkUp (p : Nat) (k : Clock) (d : Dev) : Dev :=
  let s := d.get (F.PORT_STATUS_STATE p)
  if 512 ≤ p || !d.portExists p || !(s == stDown || s == stLighting) || !(d.port p).lit || d.isHeld (p / 16) then d
  else
    let d1 := d.setAll [(F.PORT_STATUS_STATE p, stUp), (F.PORT_STATUS_LOCAL_FAULT p, 0), (F.PORT_STATUS_REMOTE_FAULT p, 0)]
    let d2 := (d1.setPort p { d1.port p with fromRest := false }).portEvent k p 0
    d2.finishAll k (fun w => match w with
      | .portUp ps => ps.contains p && ps.all (fun x => d2.get (F.PORT_STATUS_STATE x) == stUp)
      | _ => false) Rep.ok

def execLinkUp (port : Nat) (s : State) : Host.Outcome State Fault Refusal := onDev (linkUp port) s

/-- LINK_DOWN: an alignment or fault condition fails (R117). -/
def linkDown (p : Nat) (localFault remoteFault : Bool) (k : Clock) (d : Dev) : Dev :=
  if 512 ≤ p || !d.portExists p then d
  else
    let d1 := (d.setB (F.PORT_STATUS_LOCAL_FAULT p) localFault).setB (F.PORT_STATUS_REMOTE_FAULT p) remoteFault
    if d.get (F.PORT_STATUS_STATE p) = stUp then d1.leaveTo k p stDown else d1

def execLinkDown (port : Nat) (localFault remoteFault : Bool) (s : State) : Host.Outcome State Fault Refusal :=
  onDev (linkDown port localFault remoteFault) s

/-- TRAIN_TIMEOUT: training has not completed within TRAIN_TIMEOUT; the port stays and training restarts
(R118). A LANE_LIGHT that waits is answered TIMEOUT. -/
def trainTimeout (p : Nat) (k : Clock) (d : Dev) : Dev :=
  let s := d.get (F.PORT_STATUS_STATE p)
  if 512 ≤ p || !d.flag (F.PORT_CFG_TRAIN_EN p) || !(d.port p).lit || !(s == stDown || s == stLighting) then d
  else ((d.setB (F.MAC_STICKY_TRAIN_FAIL p) true).portEvent k p 2).finishAll k (fun w => match w with
      | .portUp ps => ps.contains p
      | _ => false) ⟨stTimeout, 0, 0⟩

def execTrainTimeout (port : Nat) (s : State) : Host.Outcome State Fault Refusal := onDev (trainTimeout port) s

/-! Lanes (R132 to R137). -/

def Dev.setLane (d : Dev) (n : Nat) (on : Bool) : Dev :=
  let l := (tget? d.lanes n).getD ⟨false, [0, -8, 56, 0]⟩
  { d with lanes := tput d.lanes n ⟨false, [0, -8, 56, 0]⟩ { l with lit := on } }

def Dev.setLanes (d : Dev) (ls : List Nat) (on : Bool) : Dev := ls.foldl (fun d n => d.setLane n on) d

def Dev.lanesOf (d : Dev) (p : Nat) : List Nat := (List.range (d.portLanes p)).map (p + ·)

/-- LIGHT_UP: the lanes of a port in LIGHTING begin to transmit (R114, R135). The port is then in DOWN, and a
PORT_CONFIG is answered; a port that left REST stays in LIGHTING, which holds its frames, until it is UP. -/
def lightUp (p : Nat) (k : Clock) (d : Dev) : Dev :=
  if 512 ≤ p || d.get (F.PORT_STATUS_STATE p) != stLighting || (d.port p).waitVolt || (d.port p).lit then d
  else
    let d1 := (d.integrate k).setLanes (d.lanesOf p) true
    let d2 := d1.setPort p { d1.port p with lit := true }
    let d3 := if (d.port p).fromRest then d2 else d2.set (F.PORT_STATUS_STATE p) stDown
    let waits := d3.smi.waits.filter (fun w => w.kind == .portConfig p)
    waits.foldl (fun d w => (d.bumpGen).finish k w Rep.ok) d3

def execLightUp (port : Nat) (s : State) : Host.Outcome State Fault Refusal := onDev (lightUp port) s

/-- Darken lanes now: those of a port leave it DARK, or in REST when the idle policy darkened it (R132). -/
def Dev.darkenNow (d : Dev) (k : Clock) (ls : List Nat) : Dev :=
  let ports := (ls.filterMap d.portOf).eraseDups
  let d1 := (d.integrate k).setLanes ls false
  ports.foldl (fun d p =>
    let d2 := if d.get (F.PORT_STATUS_STATE p) = stRest then d else d.leaveTo k p stDark
    d2.setPort p { d2.port p with lit := false }) d1

/-- The darkenings planned for a boundary take place, and the commands that asked for them are answered
(R100, R114, R439). -/
def Dev.darkenPlanned (d : Dev) (k : Clock) : Dev :=
  let d1 := (d.darkenNow k d.chan.darken).onChan (fun c => { c with darken := [] })
  let waits := d1.smi.waits.filter (fun w => match w.kind with
    | .portDark _ => true
    | _ => false)
  waits.foldl (fun d w => (if w.op = 0x0050 then d.bumpGen else d).finish k w Rep.ok) d1

/-- Plan lanes to darken at the next boundary. -/
def Dev.planDark (d : Dev) (ls : List Nat) : Dev :=
  d.onChan (fun c => { c with darken := c.darken ++ ls.filter (fun n => d.laneLit n && !c.darken.contains n) })

/-- The lanes a LANE_DARK or LANE_LIGHT names. -/
def namedLanes (q : Req) : List Nat := (List.range (q.u 2 2)).map (q.u 0 2 + ·)

def Dev.namedPorts (d : Dev) (q : Req) : List Nat := ((namedLanes q).filterMap d.portOf).eraseDups

/-- Refused when some but not all lanes of a port are named (R132). -/
def lanesCheck (q : Req) (m : Mach) : Option Nat :=
  match badParam 4 [(0, 4)] [(0, 511 < q.u 0 2), (2, q.u 2 2 = 0 || 512 < q.u 2 2 || 512 < q.u 0 2 + q.u 2 2)] q.params with
  | some o => some o
  | none =>
    if (m.dev.namedPorts q).any (fun p => (m.dev.lanesOf p).any (fun n => !(namedLanes q).contains n)) then some 0xFFFF
    else none

/-- LANE_DARK (R132, R100, R137): a port in LIGHTING or REST enters DARK at once; the lanes of others darken at
the next boundary. -/
def laneDark (q : Req) (m : Mach) : Res :=
  let d := m.dev
  let ps := d.namedPorts q
  let now := ps.filter (fun p => d.get (F.PORT_STATUS_STATE p) == stLighting || d.get (F.PORT_STATUS_STATE p) == stRest)
  let d1 := now.foldl (fun d p =>
    let d0 := (d.set (F.PORT_STATUS_STATE p) stDark).setPort p { d.port p with fromRest := false, waitVolt := false }
    (d0.darkenNow m.clk (d.lanesOf p)).endLight m.clk p stBusy) d
  let nowLanes := (now.map d.lanesOf).flatten
  let d2 := d1.planDark ((namedLanes q).filter (fun n => !nowLanes.contains n))
  if (namedLanes q).any d2.laneLit then .later (m.setDev d2) (.portDark ps) else .done (m.setDev d2) Rep.ok

def execLaneDark (q : Req) (s : State) : Host.Outcome State Fault Refusal :=
  onMach (smiem 0x0052 lanesCheck (fun _ => false) laneDark q) s

/-- Light one named port: a darkening planned for it takes place first; dark or resting, it begins to light. -/
def Dev.lightPort (d : Dev) (k : Clock) (p : Nat) : Dev :=
  let d1 := if (d.lanesOf p).any d.chan.darken.contains then d.darkenNow k (d.lanesOf p) else d
  let s := d1.get (F.PORT_STATUS_STATE p)
  if s = stDark then d1.beginLight p false false
  else if s = stRest then d1.beginLight p true false else d1

/-- LANE_LIGHT (R135): answered when every named port is UP. A lane of no port is lit alone. -/
def laneLight (q : Req) (m : Mach) : Res :=
  let d := m.dev
  let ps := d.namedPorts q
  let alone := (namedLanes q).filter (fun n => (d.portOf n).isNone)
  let d1 := ps.foldl (fun d p => d.lightPort m.clk p)
    (((d.integrate m.clk).setLanes alone true).onChan (fun c => { c with darken := c.darken.filter (fun n => !alone.contains n) }))
  if ps.all (fun p => d1.get (F.PORT_STATUS_STATE p) == stUp) then .done (m.setDev d1) Rep.ok
  else .later (m.setDev d1) (.portUp ps)

def execLaneLight (q : Req) (s : State) : Host.Outcome State Fault Refusal :=
  onMach (smiem 0x0053 lanesCheck (fun _ => false) laneLight q) s

/-- WAKE_PATTERN on a dark lane: reported, and a light-up from REST, or from DARK with WAKE_EN (R133, R134). -/
def wakePattern (n : Nat) (k : Clock) (d : Dev) : Dev :=
  if d.laneLit n then d
  else match d.portOf n with
  | none => d
  | some p =>
    let d1 := (d.setB (F.MAC_STICKY_WAKE_SEEN p) true).portEvent k p 3
    let s := d.get (F.PORT_STATUS_STATE p)
    if s = stRest then d1.beginLight p true false
    else if s = stDark && d.flag (F.LINK_CFG_WAKE_EN p) then d1.beginLight p false false else d1

def execWakePattern (lane : Fin 512) (s : State) : Host.Outcome State Fault Refusal := onDev (wakePattern lane) s

/-! Flow control sent (R129, R131). -/

/-- What a port should be signalling: bit 8 pause, bits 7:0 the priorities (R129, R240). -/
def Dev.wantSignal (d : Dev) (p : Nat) : Nat :=
  let on := fun i => d.pressed (d.poolOf p i)
  let mode := d.get (F.FC_CFG_FC_MODE p)
  if mode = 1 then (if (List.range 8).any on then 256 else 0)
  else if mode = 2 then
    (List.range 8).foldl (fun m i => if on i && bit (d.get (F.FC_CFG_PFC_TX_EN p)) i then m ||| 2 ^ i else m) 0
  else 0

/-- A MAC control frame of 64 bytes from an opcode and its fields; its source address is not given by the
manual (free value, log entry 8). -/
def controlFrame (sa : Nat) (body : Bytes) : Bytes :=
  let b := padTo ([0x01, 0x80, 0xC2, 0x00, 0x00, 0x01] ++ toBE sa 6 ++ toBE 0x8808 2 ++ body) 60
  b ++ toLE (fcs32 b) 4

/-- Send a MAC control frame. -/
def Dev.sendControl (d : Dev) (p : Nat) (body : Bytes) : Dev :=
  let (sa, d1) := d.draw 48
  (d1.emit (.frame p (controlFrame sa body))).count (cPort p 8) 64

def Dev.sendPause (d : Dev) (p quanta : Nat) : Dev := d.sendControl p (toBE 1 2 ++ toBE quanta 2)

/-- A priority flow control frame: PAUSE_QUANTA for the priorities asserted, 0 for those released. -/
def Dev.sendPfc (d : Dev) (p on off : Nat) : Dev :=
  let quanta := d.get (F.PAUSE_TX_PAUSE_QUANTA p)
  d.sendControl p (toBE 0x0101 2 ++ toBE (on ||| off) 2 ++
    ((List.range 8).map (fun i => toBE (if bit on i then quanta else 0) 2)).flatten)

/-- Bring the partner's view of a port up to date (R129, R131). -/
def Dev.signalNow (d : Dev) (p : Nat) : Dev :=
  let was := (d.port p).signal
  let want := d.wantSignal p
  if d.get (F.PORT_STATUS_STATE p) != stUp || was = want then d
  else
    let d0 := d.setPort p { d.port p with signal := want }
    let d1 := if bit was 8 && !bit want 8 then d0.sendPause p 0 else d0
    let on := bits want 0 8 &&& (255 - bits was 0 8)
    let off := bits was 0 8 &&& (255 - bits want 0 8)
    let d2 := if on = 0 && off = 0 then d1 else d1.sendPfc p on off
    if bit want 8 && !bit was 8 then d2.sendPause p (d.get (F.PAUSE_TX_PAUSE_QUANTA p)) else d2

def execFlowControlFrameSend (port : Nat) (s : State) : Host.Outcome State Fault Refusal :=
  onDev (fun _ d => if port < 512 then d.signalNow port else d) s

/-- PAUSE_REFRESH: what is signalled is sent again (R129). -/
def pauseRefresh (p : Nat) (_ : Clock) (d : Dev) : Dev :=
  let s := (d.port p).signal &&& d.wantSignal p
  if 512 ≤ p || d.get (F.PORT_STATUS_STATE p) != stUp then d
  else
    let d1 := if bit s 8 then d.sendPause p (d.get (F.PAUSE_TX_PAUSE_QUANTA p)) else d
    if bits s 0 8 = 0 then d1 else d1.sendPfc p (bits s 0 8) 0

def execPauseRefresh (port : Nat) (s : State) : Host.Outcome State Fault Refusal := onDev (pauseRefresh port) s

/-- IDLE_HOLD_EXPIRY: quiet lanes and empty queues for IDLE_HOLD put the port in REST (R136); not while
back-pressure is signalled or its release is still to be sent (R137). -/
def idleExpiry (p : Nat) (k : Clock) (d : Dev) : Dev :=
  let s := d.get (F.PORT_STATUS_STATE p)
  let empty := (List.range 8).all (fun c => (d.queue (8 * p + c)).isEmpty) && (d.port p).tx.isNone
  if 512 ≤ p || !d.portExists p || !d.flag (F.LINK_CFG_IDLE_EN p) || !(s == stUp || s == stDown) || !empty ||
      (d.port p).signal != 0 || d.wantSignal p != 0 then d
  else
    let d1 := (d.leaveTo k p stRest).planDark (d.lanesOf p)
    d1.setPort p { d1.port p with lit := false }

def execIdleHoldExpiry (port : Nat) (s : State) : Host.Outcome State Fault Refusal := onDev (idleExpiry port) s

/-! Holds (R128, R130). -/

/-- PAUSE_EXPIRY: the received pause time of classes runs out. -/
def execPauseExpiry (port : Nat) (classes : Fin 256) (s : State) : Host.Outcome State Fault Refusal :=
  onDev (fun _ d => if port < 512 then d.hold port 0 classes else d) s

/-- WD_TIME_EXPIRY: a class has been held for WD_TIME (R130). -/
def watchdog (p c : Nat) (k : Clock) (d : Dev) : Dev :=
  if 512 ≤ p || !d.flag (F.WD_CFG_WD_EN p) || !bit (d.get (F.PORT_STATUS_HELD p)) c then d
  else
    let d1 := ((d.hold p 0 (2 ^ c)).setBit (F.PORT_STATUS_WD_RECOVERY p) c).setB (F.MAC_STICKY_PAUSE_WD_FIRED p) true
    (d1.count (cPort p 7) 0).eventData k (16 * (p / 16) + 1) 0 (flcMac p) c

def execWdTimeExpiry (port : Nat) (cls : Fin 8) (s : State) : Host.Outcome State Fault Refusal :=
  onDev (watchdog port cls) s

/-- REC_TIME_EXPIRY: pause for the class is honoured again. -/
def execRecTimeExpiry (port : Nat) (cls : Fin 8) (s : State) : Host.Outcome State Fault Refusal :=
  onDev (fun _ d => if port < 512 then d.clrBit (F.PORT_STATUS_WD_RECOVERY port) cls else d) s

/-! PORT_CONFIG, PORT_STATE, SERDES_TUNE (R114, R439). -/

/-- Remove a port (R114): it passes through DOWN, its registers' values stay (R569). -/
def Dev.removePort (d : Dev) (k : Clock) (p : Nat) : Dev :=
  let d0 := d.integrate k
  let d1 := (d0.leaveTo k p stDown).endLight k p stBusy
  let ls := d.lanesOf p
  let d2 := d1.setPort p { d1.port p with fromRest := false, lit := false, waitVolt := false, signal := 0 }
  (d2.setAll [(F.PORT_CFG_PORT_TYPE p, 0), (F.PORT_CFG_LANES p, 0), (F.PORT_CFG_FEC p, 0),
    (F.PORT_CFG_TRAIN_EN p, 0), (F.PORT_STATUS_LOCAL_FAULT p, 0), (F.PORT_STATUS_REMOTE_FAULT p, 0)]).planDark ls

def portConfig (q : Req) (m : Mach) : Res :=
  let d := m.dev
  let p := q.u 0 2
  let t := q.u 2 1
  if t = 0 then
    if d.get (F.PORT_CFG_PORT_TYPE p) = 0 then .done (m.setDev d.bumpGen) Rep.ok
    else
      let d1 := d.removePort m.clk p
      if (d.lanesOf p).any d1.laneLit then .later (m.setDev d1) (.portDark [p]) else .done (m.setDev d1.bumpGen) Rep.ok
  else
    let d1 := if d.get (F.PORT_CFG_PORT_TYPE p) = 0 then d else d.removePort m.clk p
    let fec := if q.u 4 1 = 0 then ((modeOf t (q.u 3 1)).map (fun m => m.2.2.2.2)).getD 0 else q.u 4 1
    let d2 := d1.setAll [(F.PORT_CFG_PORT_TYPE p, t), (F.PORT_CFG_LANES p, q.u 3 1), (F.PORT_CFG_FEC p, fec),
      (F.PORT_CFG_TRAIN_EN p, q.u 5 1), (F.PTP_RX_TS_ADJ p, Config.rxTsAdj t fec), (F.PTP_TX_TS_ADJ p, Config.txTsAdj t fec)]
    .later (m.setDev (d2.beginLight p false true)) (.portConfig p)

def execPortConfig (q : Req) (s : State) : Host.Outcome State Fault Refusal :=
  onMach (smiem 0x0050 portConfigCheck (fun _ => false) portConfig q) s

/-- PORT_STATUS and MAC_STICKY as words (R141). -/
def Dev.portStatusWord (d : Dev) (p : Nat) : Nat :=
  wordOf ((fieldsAt (F.PORT_STATUS_STATE p).off).map (fun f => (f, d.get f)))

def Dev.macStickyWord (d : Dev) (p : Nat) : Nat :=
  wordOf ((fieldsAt (F.MAC_STICKY_RUNT_SEEN p).off).map (fun f => (f, d.get f)))

def portState (q : Req) (_ : Clock) (d : Dev) : Dev × Rep :=
  let p := q.u 0 2
  if d.get (F.PORT_CFG_PORT_TYPE p) = 0 then (d, ⟨stNotFound, 0, 0⟩)
  else (d, ⟨stOk, 0, d.portStatusWord p + 2 ^ 32 * d.macStickyWord p⟩)

def execPortState (q : Req) (s : State) : Host.Outcome State Fault Refusal :=
  onMach (smiemDev 0x0051 (fun q _ => badParam 2 [(0, 2)] [(0, 511 < q.u 0 2)] q.params) portState q) s

/-- Do taps lie in the ranges of R563. -/
def tapsBad (pre2 pre1 main post1 : Int) : Bool :=
  pre2 < 0 || 8 < pre2 || pre1 < -20 || 0 < pre1 || main < 32 || 64 < main || post1 < -16 || 0 < post1 ||
    64 < pre2 - pre1 + main - post1

def serdesCheck (q : Req) (_ : Dev) : Option Nat :=
  match badParam 8 [(0, 3), (4, 4)] [(0, 519 < q.u 0 2), (2, 2 < q.u 2 1)] q.params with
  | some o => some o
  | none => if q.u 2 1 = 1 && tapsBad (q.s 4 1) (q.s 5 1) (q.s 6 1) (q.s 7 1) then some 0xFFFF else none

/-- SERDES_TUNE: read, write, or re-adapt; the eye height is the lane's measurement (free value). -/
def serdesTune (q : Req) (_ : Clock) (d : Dev) : Dev × Rep :=
  let n := q.u 0 2
  let dark := if n < 512 then !d.laneLit n else !(d.flag F.TAP_EN)
  let lighting := n < 512 && ((d.portOf n).map (fun p => d.get (F.PORT_STATUS_STATE p) == stLighting)).getD false
  if dark || lighting then (d, ⟨stBusy, 0, 0⟩)
  else
    let old := (tget? d.lanes n).getD ⟨false, [0, -8, 56, 0]⟩
    let l : Lane := if q.u 2 1 = 1 then { old with taps := [q.s 4 1, q.s 5 1, q.s 6 1, q.s 7 1] } else old
    let (eye, d1) := ({ d with lanes := tput d.lanes n ⟨false, [0, -8, 56, 0]⟩ l }).draw 16
    (d1, ⟨stOk, 0, leNat (l.taps.map (fun t => byte (unsign 8 t))) + 2 ^ 32 * eye⟩)

def execSerdesTune (q : Req) (s : State) : Host.Outcome State Fault Refusal :=
  onMach (smiemDev 0x0054 serdesCheck serdesTune q) s

end Sys2Proof.Machine
end

