-- ==== Sys2Proof/Machine/Bushel.lean ====
section
/-! DEFINITION. The Bushel's tables (R181 to R226): placement, reads in RESULT_B, spans, row errors. -/

namespace Sys2Proof.Machine
open Sys2Proof

/-- A hashed table (R184, R190): TABLE_ID, first bank, banks per half, entries per row, stash places, capacity,
first seed. -/
structure HSpec where
  id       : Nat
  first    : Nat
  half     : Nat
  perRow   : Nat
  stash    : Nat
  capacity : Nat
  seed     : Nat
deriving DecidableEq, Repr

def hspecs : List HSpec :=
  [⟨1, 0, 44, 6, 256, 2097152, 0⟩, ⟨3, 88, 22, 6, 64, 1048576, 2⟩, ⟨5, 132, 22, 3, 64, 524288, 4⟩,
   ⟨8, 176, 17, 2, 64, 262144, 6⟩]

def hspec? (t : Nat) : Option HSpec := hspecs.find? (fun h => h.id == t)

/-- Slots in banks; the stash follows (R435). -/
def HSpec.slots (h : HSpec) : Nat := 2 * h.half * 4096 * h.perRow

def Dev.onTbl (d : Dev) (f : Tables → Tables) : Dev := { d with tbl := f d.tbl }

def Dev.ents (d : Dev) (t : Nat) : Tab Ent := tgetD d.tbl.hash t []

def Dev.setEnts (d : Dev) (t : Nat) (es : Tab Ent) : Dev := d.onTbl (fun b => { b with hash := tput b.hash t [] es })

/-- Is an exact-match key long (R219). -/
def longKey (k : Bytes) : Bool := k.length == 40 && (k.drop 16).any (· != 0)

/-- Slots an entry takes. -/
def Ent.width (e : Ent) : Nat := if longKey e.key then 2 else 1

/-- Row of a table that a key's bucket in half 0 or 1 is, counted from the table's first bank (R190). -/
def Dev.bucket (d : Dev) (h : HSpec) (key : Bytes) (side : Nat) : Nat :=
  let i := crc32cSeed (d.get (F.TBL_SEED (h.seed + side))) key % (h.half * 4096)
  (side * h.half + i % h.half) * 4096 + i / h.half

/-- The bucket of a key that a row is not. -/
def Dev.otherBucket (d : Dev) (h : HSpec) (key : Bytes) (row : Nat) : Nat :=
  if d.bucket h key 0 = row then d.bucket h key 1 else d.bucket h key 0

/-- Bank × 4,096 + row of a table row. -/
def HSpec.abs (h : HSpec) (row : Nat) : Nat := h.first * 4096 + row

/-! Poisoned rows (R225). -/

def Dev.rowBad (d : Dev) (abs : Nat) : Bool := d.tbl.poison.any (fun p => p.row == abs)

def Dev.rowBadIn (d : Dev) (west : Bool) (abs : Nat) : Bool := d.tbl.poison.any (fun p => p.row == abs && p.west == west)

/-- Poisoned in both replicas, so that its keys cannot be matched. -/
def Dev.rowDead (d : Dev) (abs : Nat) : Bool := d.rowBadIn false abs && d.rowBadIn true abs

/-- FLC of a cell of a Bushel row (R182, R570). -/
def flcRow (west : Bool) (abs cell : Nat) : Nat :=
  flcFull 0 32 (b2n west) (abs / 4096) 0 (abs % 4096 % 16) cell

/-- All ones in FLC_CELL. -/
def cellNone : Nat := 2 ^ 21 - 1

/-- Report a read of an uncorrectable row. -/
def Dev.rowUncorr (d : Dev) (k : Clock) (west : Bool) (abs cell : Nat) : Dev :=
  let c := flcRow west abs cell
  ((((d.count (cGlobal 12) 0).setB F.BUSHEL_STICKY_UNCORR_SEEN true).set F.BSH_LAST_ERR_FLC_LO c).set
    F.BSH_LAST_ERR_FLC_HI (c / 2 ^ 32)).event k 513 c

/-- A row is read in a replica: a single-bit error is corrected (R224), an uncorrectable one poisons it (R225). -/
def Dev.readRow (d : Dev) (k : Clock) (west : Bool) (perRow : Nat) (r : Nat × ReadErr) : Dev :=
  match r.2 with
  | .corrected c => (d.count (cGlobal 11) 0).event k 512 (flcRow west r.1 c)
  | .uncorrectable c =>
    let others := d.tbl.poison.filter (fun p => !(p.row == r.1 && p.west == west))
    (d.onTbl (fun b => { b with poison := others ++ [⟨west, r.1, List.range perRow⟩] })).rowUncorr k west r.1 c
  | .clean => if d.rowBadIn west r.1 then d.rowUncorr k west r.1 cellNone else d

/-- Rows are read for one lookup: is one of them unreadable (R225). -/
def Dev.readRows (d : Dev) (k : Clock) (west : Bool) (perRow : Nat) (rs : List (Nat × ReadErr)) : Bool × Dev :=
  let d1 := rs.foldl (fun d r => d.readRow k west perRow r) d
  (rs.any (fun r => d1.rowBadIn west r.1), d1)

/-- A hashed row whose last entry has gone is written afresh, and its poison clears (R225). -/
def Dev.clearPoison (d : Dev) (h : HSpec) (row : Nat) : Dev :=
  if (trange (d.ents h.id) (row * h.perRow) ((row + 1) * h.perRow)).isEmpty then
    d.onTbl (fun b => { b with poison := b.poison.filter (fun p => p.row != h.abs row) })
  else d

/-! Indexed tables (R570). -/

/-- Bank, banks and entries per row of an indexed table by its identifier of R435. -/
def ispec (t : Nat) : Option (Nat × Nat × Nat) :=
  match t with
  | 0x06 => some (210, 16, 4)
  | 0x07 => some (226, 1, 8)
  | 0x0A => some (227, 4, 16)
  | 0x09 => some (236, 2, 2)
  | 0x12 => some (231, 4, 8)
  | 0x13 => some (235, 1, 4)
  | _ => none

/-- Bank × 4,096 + row of entry i. -/
def indexRow (s : Nat × Nat × Nat) (i : Nat) : Nat := (s.1 + i / s.2.2 % s.2.1) * 4096 + i / s.2.2 / s.2.1

/-- An entry of an indexed table has been written: its place in a poisoned row is good again (R225). -/
def Dev.indexWritten (d : Dev) (t i : Nat) : Dev :=
  match ispec t with
  | none => d
  | some s =>
    let put := fun (p : Poison) =>
      if p.row = indexRow s i then { p with left := p.left.filter (fun x => x != i % s.2.2) } else p
    d.onTbl (fun b => { b with
      poison := (b.poison.map put).filter (fun p => !(p.row == indexRow s i && p.left.isEmpty)) })

/-! Finding and placing keys (R190 to R192). -/

/-- Is a slot in a row poisoned in both replicas. -/
def Dev.slotDead (d : Dev) (h : HSpec) (slot : Nat) : Bool := slot < h.slots && d.rowDead (h.abs (slot / h.perRow))

/-- The entry of a key, with its slot. -/
def Dev.findKey (d : Dev) (h : HSpec) (key : Bytes) : Option (Nat × Ent) :=
  (d.ents h.id).find? (fun e => e.2.key == key && !d.slotDead h e.1)

/-- Capacity in use, long entries counted as 2. -/
def Dev.used (d : Dev) (h : HSpec) : Nat := sumBy (d.ents h.id) (fun e => e.2.width)

/-- The entries of a row. -/
def Dev.rowEnts (d : Dev) (h : HSpec) (row : Nat) : Tab Ent := trange (d.ents h.id) (row * h.perRow) ((row + 1) * h.perRow)

/-- Free slots of a row. -/
def Dev.rowFree (d : Dev) (h : HSpec) (row : Nat) : Nat := h.perRow - sumBy (d.rowEnts h row) (fun e => e.2.width)

/-- Can a row take an entry of a width. -/
def Dev.rowTakes (d : Dev) (h : HSpec) (row width : Nat) : Bool := !d.rowBad (h.abs row) && width ≤ d.rowFree h row

/-- The lowest free slot of a row. -/
def Dev.slotIn (d : Dev) (h : HSpec) (row : Nat) : Nat :=
  let es := d.rowEnts h row
  ((List.range h.perRow).map (row * h.perRow + ·)).find? (fun s => es.all (fun e => s < e.1 || e.1 + e.2.width ≤ s)) |>.getD 0

/-- Write an entry at a slot, in both replicas: two bank writes. -/
def Dev.putEnt (d : Dev) (h : HSpec) (slot : Nat) (e : Ent) : Dev :=
  (((d.setEnts h.id (tset (d.ents h.id) slot e)).spend 3 2).perf 32 1)

/-- Clear a slot. -/
def Dev.delEnt (d : Dev) (h : HSpec) (slot : Nat) : Dev :=
  ((d.setEnts h.id (tdel (d.ents h.id) slot)).spend 3 2).perf 32 1

/-- A chain of relocations under search: the moves found, newest first (slot moved, row it moves to), the row
at its end and the slots needed there. -/
structure Chain where
  moves : List (Nat × Nat)
  row   : Nat
  need  : Nat
deriving DecidableEq, Repr

/-- Search one entry of a chain's last row: done with a further move, or a longer chain. -/
def Dev.tryMove (d : Dev) (h : HSpec) (c : Chain) (acc : Option (List (Nat × Nat)) × List Chain × List Nat)
    (e : Nat × Ent) : Option (List (Nat × Nat)) × List Chain × List Nat :=
  match acc with
  | (some p, cs, seen) => (some p, cs, seen)
  | (none, cs, seen) =>
    let w := e.2.width
    let to_ := d.otherBucket h e.2.key c.row
    if d.rowFree h c.row + w < c.need || d.rowBad (h.abs to_) then (none, cs, seen)
    else if w ≤ d.rowFree h to_ then (some ((e.1, to_) :: c.moves), cs, seen)
    else if seen.contains to_ then (none, cs, seen)
    else (none, cs ++ [⟨(e.1, to_) :: c.moves, to_, w⟩], seen ++ [to_])

/-- Breadth-first search for a chain of at most `fuel` relocations (R191). -/
def Dev.searchMoves (d : Dev) (h : HSpec) : Nat → List Chain → List Nat → Option (List (Nat × Nat))
  | 0, _, _ => none
  | fuel + 1, cs, seen =>
    let r := cs.foldl (fun acc c => (d.rowEnts h c.row).foldl (d.tryMove h c) acc) (none, [], seen)
    match r with
    | (some p, _, _) => some p
    | (none, [], _) => none
    | (none, next, seen') => d.searchMoves h fuel next seen'

/-- Move an entry to the row its other bucket is: written there before its old slot is cleared. -/
def Dev.relocate (d : Dev) (h : HSpec) (m : Nat × Nat) : Dev :=
  match tget? (d.ents h.id) m.1 with
  | none => d
  | some e => (d.putEnt h (d.slotIn h m.2) e).delEnt h m.1

/-- The lowest free stash slot. -/
def Dev.stashSlot (d : Dev) (h : HSpec) : Option Nat :=
  ((List.range h.stash).map (h.slots + ·)).find? (fun s => (tget? (d.ents h.id) s).isNone)

/-- Reasons of a NO_SPACE refusal (R220). -/
def rsCapacity : Nat := 1
def rsPlacement : Nat := 2
def rsSpanDepth : Nat := 3
def rsPool : Nat := 4
def rsPoisoned : Nat := 5

/-- Place a new key (R191): its slot, or the reason of its refusal. -/
def Dev.place (d : Dev) (h : HSpec) (e : Ent) : Except Nat (Nat × Dev) :=
  let a := d.bucket h e.key 0
  let b := d.bucket h e.key 1
  let w := e.width
  if h.capacity < d.used h + w then .error rsCapacity
  else
    let fa := d.rowTakes h a w
    let fb := d.rowTakes h b w
    if fa || fb then
      let row := if fa && (!fb || d.rowFree h b ≤ d.rowFree h a) then a else b
      let s := d.slotIn h row
      .ok (s, d.putEnt h s e)
    else
      let start := ([a, b].filter (fun r => !d.rowBad (h.abs r))).map (fun r => (⟨[], r, w⟩ : Chain))
      match d.searchMoves h 8 start [a, b] with
      | some moves =>
        let d1 := moves.foldl (fun d m => d.relocate h m) d
        let row := (moves.getLast?.map (fun m => m.1 / h.perRow)).getD a
        let s := d1.slotIn h row
        .ok (s, d1.putEnt h s e)
      | none =>
        match d.stashSlot h with
        | some s => .ok (s, d.putEnt h s e)
        | none => .error (if d.rowBad (h.abs a) && d.rowBad (h.abs b) then rsPoisoned else rsPlacement)

/-- Stash entries move back into a bucket that has room (R192). -/
def Dev.unstash (d : Dev) (h : HSpec) : Dev :=
  (d.ents h.id).foldl (fun d e =>
    if e.1 < h.slots then d
    else
      match [d.bucket h e.2.key 0, d.bucket h e.2.key 1].find? (fun r => d.rowTakes h r e.2.width) with
      | some r => (d.putEnt h (d.slotIn h r) e.2).delEnt h e.1
      | none => d) d

/-! Span filter (R209 to R214). -/

/-- Index of a VRF's span entry of a family. -/
def spanIndex (v6 : Bool) (vrf : Nat) : Nat := vrf % 4096 + 4096 * b2n v6

def Span.empty : Span := ⟨[], none⟩

def Dev.span (d : Dev) (v6 : Bool) (vrf : Nat) : Span := tgetD d.tbl.span (spanIndex v6 vrf) Span.empty

def Dev.setSpan (d : Dev) (v6 : Bool) (vrf : Nat) (s : Span) : Dev :=
  (d.onTbl (fun b => { b with span := tput b.span (spanIndex v6 vrf) Span.empty s })).spend 3 2

/-- Count one more route of a length, adding the length in descending order. -/
def addLen (len : Nat) : List (Nat × Nat) → List (Nat × Nat)
  | [] => [(len, 1)]
  | (l, n) :: t => if l = len then (l, n + 1) :: t else if l < len then (len, 1) :: (l, n) :: t else (l, n) :: addLen len t

/-- Count one route of a length fewer; the last removes the length. -/
def dropLen (len : Nat) : List (Nat × Nat) → List (Nat × Nat)
  | [] => []
  | (l, n) :: t => if l = len then (if n ≤ 1 then t else (l, n - 1) :: t) else (l, n) :: dropLen len t

/-- Lengths a VRF may hold (R227). -/
def Dev.depth (d : Dev) (v6 : Bool) : Nat :=
  min 8 (max 1 (d.get (if v6 then F.SPAN_DEPTH_DEPTH_V6 else F.SPAN_DEPTH_DEPTH_V4)))

/-- L0 to L7 of a list of lengths. -/
def lensBytes (ls : List Nat) : Bytes := (ls.map byte ++ List.replicate 8 (byte 0xFF)).take 8

/-- DEF_NH, and DEF_VALID with DEF_OPSEL. -/
def defBytes : Option (Nat × Nat) → Bytes
  | none => List.replicate 4 0
  | some (nh, sel) => toLE nh 3 ++ [byte (1 + 2 * sel)]

/-- The probe state of a span entry (R212). -/
def Span.state (s : Span) : Bytes := lensBytes (s.lens.map (·.1)) ++ defBytes s.dflt

/-- An address with the bits beyond a length cleared. -/
def maskAddr (addr : Bytes) (len : Nat) : Bytes :=
  let n := 8 * addr.length
  toBE (beNat addr / 2 ^ (n - len) * 2 ^ (n - len)) addr.length

/-- The stored key of a route (R211). -/
def routeKey (vrf len : Nat) (addr : Bytes) : Bytes := toLE (vrf % 4096) 2 ++ [byte len] ++ maskAddr addr len

/-! Removing entries. -/

/-- Remove an entry: a route leaves its span entry's counts first (R214); freed room takes stash entries. -/
def Dev.remove (d : Dev) (h : HSpec) (slot : Nat) (e : Ent) : Dev :=
  let route := h.id == 3 || h.id == 5
  let vrf := leAt e.key 0 2
  let sp := d.span (h.id == 5) vrf
  let d1 := if route then d.setSpan (h.id == 5) vrf { sp with lens := dropLen (byteAt e.key 2).toNat sp.lens } else d
  let d2 := d1.delEnt h slot
  let d3 := if slot < h.slots then d2.clearPoison h (slot / h.perRow) else d2
  d3.unstash h

/-- A delete of a key whose bucket is a row poisoned in both replicas frees every slot of that row (R225). -/
def Dev.purge (d : Dev) (h : HSpec) (key : Bytes) : List Nat × Dev :=
  let rows := ([d.bucket h key 0, d.bucket h key 1]).filter (fun r => d.rowDead (h.abs r))
  let es := (rows.map (fun r => d.rowEnts h r)).flatten
  (es.map (·.1), es.foldl (fun d e => d.remove h e.1 e.2) d)

/-! Forwarding reads (R187, R194 to R219). -/

/-- RESULT_B from its fields (R194). -/
def resultB (t : Nat) (hit uncorr : Bool) (op : Nat) (rest : Bytes) : Bytes :=
  [byte (b2n hit + 2 * b2n uncorr + t % 16 * 16), byte op] ++ padTo (rest.take 14) 14

/-- A miss, with bytes 2 to 15. -/
def missB (t : Nat) (uncorr : Bool) (rest : Bytes) : Bytes := resultB t false uncorr 0 rest

/-- The opcode that list entry OPSEL of a table supplies (R195). -/
def Dev.opOf (d : Dev) (t sel : Nat) : Nat :=
  let f := if sel < 4 then F.TBL_OPLIST_LO (t - 1) else F.TBL_OPLIST_HI (t - 1)
  bits (d.get f) (sel % 4 * 8) 8

/-- A read of a hashed key's buckets and stash in a replica. -/
def Dev.hashRead (d : Dev) (k : Clock) (west : Bool) (h : HSpec) (key : Bytes) (e1 e2 : ReadErr) :
    Bool × Option (Nat × Ent) × Dev :=
  let (bad, d1) := d.readRows k west h.perRow [(h.abs (d.bucket h key 0), e1), (h.abs (d.bucket h key 1), e2)]
  let d2 := (d1.spend 2 2).perf 32 0
  (bad, if bad then none else d2.findKey h key, d2)

/-- Set an entry's hit bit in a replica (R199). -/
def Dev.setHit (d : Dev) (h : HSpec) (slot : Nat) (e : Ent) (west : Bool) : Dev :=
  d.setEnts h.id (tset (d.ents h.id) slot (if west then { e with hitW := true } else { e with hitE := true }))

/-- Station result (R198, R199). -/
def Dev.readStation (d : Dev) (k : Clock) (west learnWord : Bool) (h : HSpec) (key : Bytes) (e1 e2 : ReadErr) : Bytes × Dev :=
  match d.hashRead k west h (key.take 8) e1 e2 with
  | (bad, none, d1) => (missB 1 bad [], d1)
  | (_, some (s, e), d1) =>
    let before := if west then e.hitW else e.hitE
    let d2 := if learnWord || !d1.flag F.BUSHEL_CTRL_HIT_ON then d1.setHit h s e west else d1
    (resultB 1 true false (d2.opOf 1 e.opsel) (toLE (0x4000 + leNat e.data % 1024) 2 ++
      [byte (b2n e.static + 2 * b2n e.lock + 4 * b2n e.frozen + 8 * b2n before)]), d2)

/-- Exact-match result (R219). -/
def Dev.readExact (d : Dev) (k : Clock) (west : Bool) (h : HSpec) (key : Bytes) (e1 e2 : ReadErr) : Bytes × Dev :=
  match d.hashRead k west h key e1 e2 with
  | (bad, none, d1) => (missB 8 bad [], d1)
  | (_, some (_, e), d1) => (resultB 8 true false (d1.opOf 8 e.opsel) e.data, d1)

/-- Span result (R212). -/
def Dev.readSpan (d : Dev) (k : Clock) (west v6 : Bool) (key : Bytes) (e1 : ReadErr) : Bytes × Dev :=
  let t := if v6 then 4 else 2
  let vrf := leAt key 0 2 % 4096
  let (bad, d1) := d.readRows k west 2 [(238 * 4096 + vrf, e1)]
  let d2 := (d1.spend 2 1).perf 32 0
  let s := d2.span v6 vrf
  if bad then (missB t true [], d2)
  else if s.lens.isEmpty && s.dflt.isNone then (missB t false [], d2)
  else (resultB t true false (d2.opOf t 0) s.state, d2)

/-- The lengths a probe state lists: up to the first byte that is 0xFF, 0 or above the longest length. -/
def stateLens (longest : Nat) (b : Bytes) : List Nat :=
  ((b.take 8).map BitVec.toNat).takeWhile (fun l => 1 ≤ l && l ≤ longest)

/-- The end of a probe: the default route, or a miss with the emptied state (R213). -/
def Dev.probeDefault (d : Dev) (t : Nat) (uncorr : Bool) (dflt : Bytes) : Bytes × Dev :=
  let f := (byteAt dflt 3).toNat
  if bit f 0 then (resultB t true uncorr (d.opOf t (bits f 1 3)) (dflt.take 3 ++ [0]), d)
  else (missB t uncorr (lensBytes [] ++ dflt), d)

/-- A route probe (R213). `old` is RESULT_B at the start of the word. -/
def Dev.readRoute (d : Dev) (k : Clock) (west v6 : Bool) (h : HSpec) (key old : Bytes) (e1 e2 : ReadErr) : Bytes × Dev :=
  let t := if v6 then 5 else 3
  let alen := if v6 then 16 else 4
  let dflt := sliceZ old 10 4
  match stateLens (8 * alen) (sliceZ old 2 8) with
  | [] => d.probeDefault t false dflt
  | len :: rest =>
    match d.hashRead k west h (routeKey (leAt key 0 2) len (sliceZ key 2 alen)) e1 e2 with
    | (_, some (_, e), d1) => (resultB t true false (d1.opOf t e.opsel) (e.data ++ [byte len]), d1)
    | (bad, none, d1) =>
      if rest.isEmpty then d1.probeDefault t bad dflt else (missB t bad (lensBytes rest ++ dflt), d1)

/-- Next-hop result (R215). -/
def Dev.readNextHop (d : Dev) (k : Clock) (west : Bool) (key : Bytes) (e1 : ReadErr) : Bytes × Dev :=
  let i := leAt key 0 3 % 262144
  let (bad, d1) := d.readRows k west 4 [(indexRow (210, 16, 4) i, e1)]
  let d2 := (d1.spend 2 1).perf 32 0
  let r := d2.record 0x06 i 16
  if bad then (missB 6 true [], d2)
  else if !bit (leAt r 8 1) 3 then (missB 6 false [], d2)
  else (resultB 6 true false (d2.opOf 6 (leAt r 12 1 % 8)) (r.take 14), d2)

/-- ECMP result (R217). -/
def Dev.readEcmp (d : Dev) (k : Clock) (west : Bool) (key : Bytes) (e1 e2 : ReadErr) : Bytes × Dev :=
  let g := leAt key 0 2 % 16384
  let (bad, d1) := d.readRows k west 8 [(indexRow (226, 1, 8) g, e1)]
  let r := d1.record 0x07 g 8
  let size := leAt r 4 2
  if bad || !bit (leAt r 6 1) 0 || size = 0 then (missB 7 bad [], (d1.spend 2 1).perf 32 0)
  else
    let off := leAt key 4 2 * size / 65536
    let m := leAt r 0 4 % 262144 + off
    let (bad2, d2) := d1.readRows k west 16 [(indexRow (227, 4, 16) m, e2)]
    let d3 := (d2.spend 2 2).perf 32 0
    if bad2 then (missB 7 true [], d3)
    else (resultB 7 true false (d3.opOf 7 (leAt r 7 1 % 8)) (toLE (leNat (d3.record 0x0A m 4) % 262144) 3 ++ toLE off 2), d3)

/-- Stream result (R351). -/
def Dev.readStream (d : Dev) (k : Clock) (west : Bool) (key : Bytes) (e1 : ReadErr) : Bytes × Dev :=
  let i := leAt key 0 3 % 262144
  if 16384 ≤ i then (missB 9 false [], d)
  else
    let (bad, d1) := d.readRows k west 2 [(indexRow (236, 2, 2) i, e1)]
    let d2 := (d1.spend 2 1).perf 32 0
    let r := d2.record 0x09 i 32
    if bad then (missB 9 true [], d2)
    else if !bit (leAt r 17 1) 0 then (missB 9 false [], d2)
    else (resultB 9 true false 0 (sliceZ r 12 8), d2)

/-- One Bushel read of a chain stage (R160, R194): RESULT_B, by table, key and the RESULT_B before it. -/
def Dev.bushelRead (d : Dev) (k : Clock) (west learnWord : Bool) (t : Nat) (key old : Bytes) (e1 e2 : ReadErr) :
    Bytes × Dev :=
  match t, hspec? t with
  | 1, some h => d.readStation k west learnWord h key e1 e2
  | 8, some h => d.readExact k west h key e1 e2
  | 3, some h => d.readRoute k west false h key old e1 e2
  | 5, some h => d.readRoute k west true h key old e1 e2
  | 2, _ => d.readSpan k west false key e1
  | 4, _ => d.readSpan k west true key e1
  | 6, _ => d.readNextHop k west key e1
  | 7, _ => d.readEcmp k west key e1 e2
  | 9, _ => d.readStream k west key e1
  | _, _ => (missB t false [], d)

/-- Does the read need a bank access: a route probe whose state is empty does not (R187). -/
def readNeedsBank (t : Nat) (old : Bytes) : Bool :=
  !((t == 3 && (stateLens 32 (sliceZ old 2 8)).isEmpty) || (t == 5 && (stateLens 128 (sliceZ old 2 8)).isEmpty))

end Sys2Proof.Machine
end

