-- ==== Sys2Proof/Machine/Beacon.lean ====
section
/-! DEFINITION. Destinations (R25, R248) and the Beacon class (R349 to R358): stream requests, sequence
generation and recovery. -/

namespace Sys2Proof.Machine
open Sys2Proof

/-- FLC of a lantern's reorder unit (R31). -/
def flcReorder (l : Nat) : Nat := flc l 3 0

/-! Destinations. -/

/-- Count a discard for an invalid destination (R25). -/
def Dev.badDest (d : Dev) (len : Nat) : Dev := d.count (cGlobal 1) len

/-- The queue of a port and class, with the copy for it; a port that is no destination gives none, and the
discard sink takes the frame without a count (R22, R25). -/
def Dev.toPort (d : Dev) (p : Nat) (c : Copy) : List (Nat × Copy) × Dev :=
  if p < 518 && d.portExists p then ([(p * 8 + c.cls, c)], d)
  else if p = 1023 then ([], d)
  else ([], d.badDest (d.copyLen c))

/-- Group members, in order (R248): one copy to each valid member's port. -/
def Dev.toGroup (d : Dev) (g ingress : Nat) (c : Copy) : List (Nat × Copy) × Dev :=
  let r := d.record 0x10 g 8
  let base := leAt r 0 4 % 131072
  let n := leAt r 4 2
  let fl := leAt r 6 1
  let invalid := fun (d : Dev) =>
    (d.countQueue (ingress * 8 + c.cls) 11 (d.copyLen c)).setBit F.BM_STICKY 8
  if !bit fl 0 || n = 0 then ([], invalid d)
  else
    (List.range n).foldl (fun (acc : List (Nat × Copy) × Dev) i =>
      let m := leAt (acc.2.record 0x11 (base + i) 4) 0 2
      let p := m % 1024
      if !bit m 15 || (bit fl 1 && p == ingress) || p == 1023 then acc
      else if p < 518 && acc.2.portExists p then (acc.1 ++ [(p * 8 + c.cls, c)], acc.2)
      else (acc.1, invalid acc.2)) ([], d)

/-! R-TAG (R355). -/

/-- Where a redundancy tag stands: after the source address and up to two VLAN tags. -/
def rtagAt (b : Bytes) : Nat :=
  let vlan := fun o => beAt b o 2 == 0x8100 || beAt b o 2 == 0x88A8
  if vlan 12 then (if vlan 16 then 20 else 16) else 12

/-- The sequence number of a frame's R-TAG. -/
def rtagSeq (b : Bytes) : Option Nat :=
  let o := rtagAt b
  if o + 6 ≤ b.length && beAt b o 2 == 0xF1C1 then some (beAt b (o + 4) 2) else none

/-! Stream entries (R349). -/

def Dev.stream (d : Dev) (s : Nat) : Bytes := d.record 0x09 s 32

def stFlag (r : Bytes) (n : Nat) : Bool := bit (leAt r 17 1) n

/-- Does an entry serve: VALID, and one of GEN_EN and REC_EN; not when its row is poisoned in both replicas. -/
def Dev.streamValid (d : Dev) (s : Nat) : Bool :=
  let r := d.stream s
  stFlag r 0 && (stFlag r 1 || stFlag r 2) && !d.rowDead (indexRow (236, 2, 2) s)

/-- The valid ports of an entry. -/
def streamPorts (r : Bytes) : List Nat :=
  ([leAt r 12 2, leAt r 14 2].filter (fun p => bit p 15)).map (· % 1024)

/-- Write an entry in both replicas. -/
def Dev.setStream (d : Dev) (s : Nat) (r : Bytes) : Dev := (d.setRec 0x09 s r).spend 3 2

/-- Microseconds of TICK_COUNT, as LAST_ACCEPT holds them. -/
def Clock.us (k : Clock) : Nat := k.tick * 128 / 100000 % 2 ^ 48

/-- What a recovery update comes to (R356): accept or not, the entry after it, and counts by stream offset. -/
structure Recovery where
  accept : Bool
  entry  : Bytes
  counts : List (Nat × Nat)
deriving DecidableEq, Repr

/-- Put a field of an entry. -/
def putLE (r : Bytes) (o w v : Nat) : Bytes := putBytes r o (toLE v w)

/-- The recovery function on a tagged frame (R356). -/
def recover (r : Bytes) (now seq : Nat) : Recovery :=
  let hl := leAt r 16 1
  let reset := stFlag r 6
  let old := leAt r 20 6
  let done := fun (r : Bytes) (cs : List (Nat × Nat)) => (⟨true, putLE r 20 6 now, cs ++ [(0, 1)]⟩ : Recovery)
  let drop := fun (cs : List (Nat × Nat)) => (⟨false, r, cs ++ [(1, 1)]⟩ : Recovery)
  if reset || leAt r 18 2 * 1000 < (now + 2 ^ 48 - old) % 2 ^ 48 then
    let r1 := putLE (putLE (putLE r 2 2 seq) 4 8 (2 ^ hl - 1)) 17 1 (leAt r 17 1 - 64 * b2n reset)
    done r1 (if reset then [] else [(6, 1)])
  else if stFlag r 3 then
    (if seq = leAt r 2 2 then drop [] else done (putLE r 2 2 seq) [])
  else
    let delta := signed 16 (unsign 16 ((seq : Int) - leAt r 2 2))
    let hist := leAt r 4 8
    if (hl : Int) ≤ delta || delta ≤ -(hl : Int) then drop [(3, 1)]
    else if delta ≤ 0 then
      let i := (-delta).toNat
      if bit hist i then drop []
      else done (putLE r 4 8 (hist + 2 ^ i)) (if delta < 0 then [(2, 1)] else [])
    else
      let dn := delta.toNat
      let lost := ((List.range hl).filter (fun i => !bit hist i && hl ≤ i + dn)).length
      let r1 := putLE (putLE r 4 8 ((hist * 2 ^ dn + 1) % 2 ^ hl)) 2 2 seq
      done r1 ((if lost = 0 then [] else [(4, lost)]) ++ (if 1 < dn then [(2, 1)] else []))

/-- Count a stream's figures. -/
def Dev.countStream (d : Dev) (s len : Nat) (cs : List (Nat × Nat)) : Dev :=
  cs.foldl (fun d c => (List.range c.2).foldl (fun d _ => d.count (cStream s c.1) len) d) d

/-! Requests (R352 to R356). -/

/-- The frame's forwarded copies are not made, because its entry is not valid. -/
def Dev.beaconInvalid (d : Dev) (k : Clock) (l s len : Nat) : Dev :=
  ((d.count (cStream s 7) len).setB (F.WICK_STICKY_BEACON_INVALID_SEEN l) true).event k (16 * l + 14) (flcReorder l)

/-- Admit the copies of an answered request, as often as the frame was released (R355, R357). -/
def Dev.admitStream (d : Dev) (k : Clock) (q : StreamReq) (fwd : List (Nat × Copy)) : Dev :=
  let all := (List.replicate q.times (fwd ++ q.others)).flatten
  let (n, _, d1) := d.admitAll k q.fid all
  d1.settle k q.fid n q.extra

/-- The forwarded copies of a Beacon frame at an entry's ports (R357). -/
def Dev.beaconCopies (d : Dev) (ports : List Nat) (c : Copy) : List (Nat × Copy) × Dev :=
  ports.foldl (fun (acc : List (Nat × Copy) × Dev) p =>
    let (l, d') := acc.2.toPort p c
    (acc.1 ++ l, d')) ([], d)

/-- Apply one stream request against the entry as it stands (R352, R355, R356). -/
def Dev.streamApply (d : Dev) (k : Clock) (q : StreamReq) : Dev :=
  let s := q.stream
  let r := d.stream s
  let len := d.copyLen q.fwd
  let refuse := fun (d : Dev) => d.admitStream k q []
  match d.frame? q.fid with
  | none => d
  | some f =>
    if !d.streamValid s then refuse (d.beaconInvalid k q.lantern s len)
    else if stFlag r 1 then
      let seq := leAt r 0 2
      let ports := streamPorts r
      let d1 := (d.setStream s (putLE r 0 2 ((seq + 1) % 65536))).setFrame q.fid { f with drawn := some (seq, ports) }
      let (cs, d2) := d1.beaconCopies ports { q.fwd with rtag := .put seq }
      d2.admitStream k q cs
    else
      let pop : RTag := if stFlag r 5 then .remove else .keep
      let forward := fun (d : Dev) =>
        let (cs, d2) := d.beaconCopies (streamPorts r) { q.fwd with rtag := pop }
        d2.admitStream k q cs
      match rtagSeq f.bytes with
      | none =>
        if stFlag r 4 then forward (d.countStream s len [(5, 1)]) else refuse (d.countStream s len [(5, 1), (1, 1)])
      | some seq =>
        let v := recover r k.us seq
        let d1 := (d.setStream s v.entry).countStream s len v.counts
        if v.accept then forward d1 else refuse d1

/-- The next stream request: alternately from the two queues when both hold one (R353). -/
def Dev.nextStream (d : Dev) : Option (StreamReq × Dev) :=
  let east := fun (q : StreamReq) (t : List StreamReq) =>
    some (q, d.onTbl (fun b => { b with recE := t, recTurn := true }))
  let west := fun (q : StreamReq) (t : List StreamReq) =>
    some (q, d.onTbl (fun b => { b with recW := t, recTurn := false }))
  match d.tbl.recE, d.tbl.recW with
  | [], [] => none
  | q :: t, [] => east q t
  | [], q :: t => west q t
  | qe :: te, qw :: tw => if d.tbl.recTurn then west qw tw else east qe te

/-- One stream request is taken and applied. -/
def Dev.streamTurn (d : Dev) (k : Clock) : Dev :=
  match d.nextStream with
  | none => d
  | some (q, d1) => d1.streamApply k q

/-- FLC of an engine of the table engine (R182). -/
def flcTable (engine : Nat) : Nat := flc 32 2 engine

/-- STREAM_REQUEST_APPLY. An uncorrectable request makes no forwarded copy (R366). -/
def streamRequest (uncorrectable : Bool) (k : Clock) (d : Dev) : Dev :=
  if !uncorrectable then d.streamTurn k
  else
    match d.nextStream with
    | none => d
    | some (q, d1) =>
      (((d1.count (cGlobal 34) (d1.copyLen q.fwd)).setB F.BUSHEL_STICKY_QUEUE_UNCORR_SEEN true).event k 522
        (flcTable 0)).admitStream k q []

def execStreamRequestApply (uncorrectable : Bool) (s : State) : Host.Outcome State Fault Refusal :=
  onDev (streamRequest uncorrectable) s

/-- Stream requests go before every other item of the serialiser (R201, R353). -/
def Dev.streamsFirst (d : Dev) (k : Clock) : Dev :=
  (List.range (d.tbl.recE.length + d.tbl.recW.length)).foldl (fun d _ => d.streamTurn k) d

/-- No stream request waits. -/
def Dev.noStreams (d : Dev) : Bool := d.tbl.recE.isEmpty && d.tbl.recW.isEmpty

/-- A Beacon frame is released (R352, R354, R355): its request enters the recovery queue of the lantern's
replica, or is answered at once: by a number already drawn, or because the entry is not valid, or because the
queue is full. -/
def Dev.beaconRelease (d : Dev) (k : Clock) (q : StreamReq) : Dev :=
  let west := 16 ≤ q.lantern
  let queue := if west then d.tbl.recW else d.tbl.recE
  let len := d.copyLen q.fwd
  if !d.streamValid q.stream then (d.beaconInvalid k q.lantern q.stream len).admitStream k q []
  else
    match (d.frame? q.fid).bind Frame.drawn with
    | some (seq, ports) =>
      let (cs, d1) := d.beaconCopies ports { q.fwd with rtag := .put seq }
      d1.admitStream k q cs
    | none =>
      if stFlag (d.stream q.stream) 1 && queue.any (fun x => x.fid == q.fid) then
        let twice := queue.map (fun x : StreamReq => if x.fid = q.fid then { x with times := x.times + 1 } else x)
        d.onTbl (fun b => if west then { b with recW := twice } else { b with recE := twice })
      else if 256 ≤ queue.length then
        ((((d.count (cStream q.stream 8) len).setB (F.WICK_STICKY_BEACON_QUEUE_FULL q.lantern) true).event k
          (16 * q.lantern + 15) (flcReorder q.lantern)).admitStream k q [])
      else d.onTbl (fun b => if west then { b with recW := queue ++ [q] } else { b with recE := queue ++ [q] })

end Sys2Proof.Machine
end

