-- ==== Sys2Proof/Machine/Learning.lean ====
section
/-! DEFINITION. Learning, moves and aging of stations (R200 to R206). -/

namespace Sys2Proof.Machine
open Sys2Proof

/-- The station table. -/
def stations : HSpec := ⟨1, 0, 44, 6, 256, 2097152, 0⟩

/-! Learn requests (R200, R201). -/

/-- A request enters its replica's queue. -/
def Dev.learnEnter (d : Dev) (k : Clock) (r : LearnReq) : Dev :=
  let west := 16 ≤ r.lantern
  let q := if west then d.tbl.learnW else d.tbl.learnE
  if q.any (fun x => x.key == r.key && x.port == r.port) then d.count (cGlobal 4) 0
  else if 4096 ≤ q.length then
    ((d.count (cGlobal 5) 0).setB F.BUSHEL_STICKY_LEARN_OVERFLOW true).event k 518 (flcTable 0)
  else
    let d1 := d.onTbl (fun b => if west then { b with learnW := q ++ [r] } else { b with learnE := q ++ [r] })
    if q.isEmpty then d1.perf 32 3 else d1

/-- LEARN_REQUEST: the frame's reception has ended, and its lantern lets its request go. -/
def learnRequest (fid : Nat) (k : Clock) (d : Dev) : Dev :=
  match d.frame? fid with
  | none => d
  | some f =>
    let l := f.ingress / 16
    let x := d.lantern l
    match x.learns.find? (fun e => e.1 == fid), f.ended with
    | some e, some o =>
      let d1 := d.setLantern l { x with learns := x.learns.erase e }
      let bad := o == .runt || o == .fcs || o == .oversize || o == .jabber
      let d2 := if bad || !d.flag F.BUSHEL_CTRL_LEARN_EN then d1 else d1.learnEnter k ⟨e.2, f.ingress, l⟩
      d2.retire fid
    | _, _ => d

def execLearnRequest (frame : Nat) (s : State) : Host.Outcome State Fault Refusal := onDev (learnRequest frame) s

/-! Moves (R203). -/

/-- Rewrite an entry of the station table at its slot. -/
def Dev.setStation (d : Dev) (slot : Nat) (e : Ent) : Dev := d.setEnts 1 (tset (d.ents 1) slot e)

/-- Report a move or a refused move (R203, R517). -/
def Dev.moveEvent (d : Dev) (k : Clock) (e : Ent) (port : Nat) (refused : Bool) : Dev :=
  d.eventData k (if refused then 517 else 516) 1 (leNat e.key)
    (leNat e.data % 65536 + (port + 32768 * b2n refused) * 65536)

/-- The move is applied: the port changes and HIT is set in both replicas. -/
def Dev.moveNow (d : Dev) (k : Clock) (slot : Nat) (e : Ent) (port : Nat) : Dev :=
  (((d.setStation slot { e with data := toLE port 2, hitE := true, hitW := true }).spend 3 2).count
    (cGlobal 3) 0).moveEvent k e port false

/-- The tracker's entry for a key, made when there is none: the entry least recently moved and not frozen
gives way when 1,024 are held; none when every entry is frozen. -/
def trackFor (l : List Track) (key : Bytes) (now : Nat) : Option (Track × List Track) :=
  match l.find? (fun t => t.key == key) with
  | some t => some (t, l.erase t)
  | none =>
    let new : Track := ⟨key, now, 0, now, none⟩
    if l.length < 1024 then some (new, l)
    else
      match (l.filter (fun t => t.frozen.isNone)).foldl (fun (o : Option Track) t => match o with
        | none => some t
        | some u => if t.last < u.last then some t else some u) none with
      | none => none
      | some victim => some (new, l.erase victim)

/-- A requested move of a station. -/
def Dev.move (d : Dev) (k : Clock) (slot : Nat) (e : Ent) (port : Nat) : Dev :=
  let now := k.abs
  match trackFor d.tbl.track e.key now with
  | none => (d.setB F.BUSHEL_STICKY_TRACK_FULL true).moveNow k slot e port
  | some (t, rest) =>
    let t1 : Track := if t.start + 1000000000 < now then { t with start := now, count := 0 } else t
    let limit := d.get F.FLAP_CFG_FLAP_LIMIT
    if limit = 0 || t1.count < limit then
      (d.onTbl (fun b => { b with track := rest ++ [{ t1 with count := t1.count + 1, last := now }] })).moveNow k slot e port
    else
      let t2 : Track := { t1 with frozen := some (now + 1000000000 * max 1 (d.get F.FLAP_CFG_FLAP_HOLD)) }
      (((d.onTbl (fun b => { b with track := rest ++ [t2] })).setStation slot { e with frozen := true }).count
        (cGlobal 9) 0).moveEvent k e port true

/-! The serialiser's turn of a learn request (R201, R202). -/

def Dev.learnNew (d : Dev) (k : Clock) (r : LearnReq) : Dev :=
  match d.place stations ⟨r.key, toLE r.port 2, false, false, false, false, 0, true, true⟩ with
  | .ok (_, d1) => d1.count (cGlobal 2) 0
  | .error n =>
    if n = rsCapacity then ((d.count (cGlobal 6) 0).setB F.BUSHEL_STICKY_LEARN_FULL true).event k 514 (flcTable 0)
    else ((d.count (cGlobal 7) 0).setB F.BUSHEL_STICKY_LEARN_NO_PLACE true).event k 515 (flcTable 0)

def Dev.learnOne (d : Dev) (k : Clock) (r : LearnReq) : Dev :=
  let d0 := d.perf 32 2
  match d0.findKey stations r.key with
  | none => d0.learnNew k r
  | some (s, e) =>
    if e.static || e.lock then d0.count (cGlobal 8) 0
    else if e.frozen then d0.count (cGlobal 9) 0
    else if leNat e.data = r.port then d0.setHit stations s e (16 ≤ r.lantern)
    else if !d0.flag F.BUSHEL_CTRL_MOVE_EN then d0.count (cGlobal 8) 0
    else d0.move k s e r.port

/-- The serialiser's last turn. -/
def Dev.setTurn (d : Dev) (n : Nat) : Dev := d.onTbl (fun b => { b with turn := n })

/-- The next learn request: in rotation after the last turn, passing over an empty queue. -/
def Dev.nextLearn (d : Dev) : Option (LearnReq × Dev) :=
  let east := match d.tbl.learnE with
    | [] => none
    | r :: t => some (r, (d.onTbl (fun b => { b with learnE := t })).setTurn 0)
  let west := match d.tbl.learnW with
    | [] => none
    | r :: t => some (r, (d.onTbl (fun b => { b with learnW := t })).setTurn 1)
  if d.tbl.turn = 0 then west.or east else east.or west

/-- LEARN_APPLY. An uncorrectable request is discarded (R366). -/
def learnApply (uncorrectable : Bool) (k : Clock) (d : Dev) : Dev :=
  if !d.noStreams then d
  else
    match d.nextLearn with
    | none => d
    | some (r, d1) =>
      if uncorrectable then
        ((d1.count (cGlobal 5) 0).setB F.BUSHEL_STICKY_QUEUE_UNCORR_SEEN true).event k 522 (flcTable 0)
      else d1.learnOne k r

def execLearnApply (uncorrectable : Bool) (s : State) : Host.Outcome State Fault Refusal :=
  onDev (learnApply uncorrectable) s

/-- End a freeze and forget the tracker's entry (R203). -/
def Dev.unfreeze (d : Dev) (t : Track) : Dev :=
  let d1 := d.onTbl (fun b => { b with track := b.track.erase t })
  match d1.findKey stations t.key with
  | some (s, e) => d1.setStation s { e with frozen := false }
  | none => d1

/-- FREEZE_EXPIRY: the freeze of a key expires (R203); or its tracker entry reads uncorrectable (R366). -/
def freezeExpiry (key : Bytes) (uncorrectable : Bool) (k : Clock) (d : Dev) : Dev :=
  match d.tbl.track.find? (fun t => t.key == key) with
  | none => d
  | some t =>
    if uncorrectable then
      ((d.setB F.BUSHEL_STICKY_QUEUE_UNCORR_SEEN true).event k 522 (flcTable 4)).unfreeze t
    else
      match t.frozen with
      | some at_ => if at_ ≤ k.abs then d.unfreeze t else d
      | none => d

def execFreezeExpiry (key : Bytes) (uncorrectable : Bool) (s : State) : Host.Outcome State Fault Refusal :=
  onDev (freezeExpiry key uncorrectable) s

/-! Aging (R205, R206). -/

/-- Station slots of a sweep, and of one of its 64 slices. -/
def stationSlots : Nat := stations.slots + stations.stash
def sliceVisits : Nat := stationSlots / 64

/-- AGING_SLICE: the visits of a slice are owed. -/
def agingSlice (_ : Clock) (d : Dev) : Dev :=
  if !d.flag F.BUSHEL_CTRL_AGE_EN then d
  else
    let d1 := (d.sliceRan 0 d.energy).onChan (fun c => { c with
      cost := tput c.cost 0 0 (sliceVisits * d.get (F.COEF_VALUE 2)) })
    d1.onTbl (fun b => { b with owed := b.owed + sliceVisits })

def execAgingSlice (s : State) : Host.Outcome State Fault Refusal := onDev agingSlice s

/-- One visit of an entry. -/
def Dev.ageEntry (d : Dev) (slot : Nat) (e : Ent) : Dev :=
  if e.static || e.lock || d.slotDead stations slot then d
  else if e.hitE || e.hitW then d.setStation slot { e with hitE := false, hitW := false, aged := false }
  else if !e.aged then d.setStation slot { e with aged := true }
  else (d.remove stations slot e).count (cGlobal 10) 0

/-- AGING_VISIT: the sweeper's turn at its next slot. -/
def agingVisit (_ : Clock) (d : Dev) : Dev :=
  if !d.flag F.BUSHEL_CTRL_AGE_EN || d.tbl.owed = 0 || !d.noStreams then d
  else
    let s := d.tbl.sweep
    let d1 := ((d.onTbl (fun b => { b with sweep := (s + 1) % stationSlots, owed := b.owed - 1, turn := 3 })).spend 2 1).perf 32 1
    match tget? (d1.ents 1) s with
    | none => d1
    | some e => d1.ageEntry s e

def execAgingVisit (s : State) : Host.Outcome State Fault Refusal := onDev agingVisit s

end Sys2Proof.Machine
end

