-- ==== Sys2Proof/Machine/Image.lean ====
section
/-! DEFINITION. The image of the chains (R146 to R151, R173 to R177, R437): control store, dispatch tables,
ternary arrays, rule-set generations and their loading; and bulk data (R430). -/

namespace Sys2Proof.Machine
open Sys2Proof

/-! Bulk data (R430). -/

/-- Is a LOC refused: not 0 to 2, or a region that is not allocated or does not hold the range. -/
def Dev.locBad (d : Dev) (loc addr len : Nat) : Bool :=
  match loc with
  | 0 => false
  | 1 => !d.flag F.HBM_ALLOC_DONE || d.get F.HBM_WINDOW_GIB * 2 ^ 30 < addr + len || d.get F.HBM_WINDOW_GIB = 0
  | 2 => !d.flag F.HBM_ALLOC_DONE || 4 * 2 ^ 30 < addr + len
  | _ => true

/-- The region of a LOC. -/
def locRegion (loc : Nat) : Nat := if loc = 1 then regWindow else regStaging

/-- Bulk data read: host memory as the command carries it. For the window, bytes the command carries are those the host
returns by coherence (R407), otherwise the window is read, up to its first poisoned line. A read of the staging region
that ends poisoned meets an uncorrectable error after the bytes carried (R392). -/
def Mach.bulk (m : Mach) (q : Req) (loc addr len : Nat) : HostRead :=
  if loc = 0 || (loc = 1 && (!q.src.bytes.isEmpty || q.src.ended != .whole)) then
    (if q.src.ended = .whole then ⟨sliceZ q.src.bytes 0 len, .whole⟩ else ⟨q.src.bytes.take len, q.src.ended⟩)
  else
    let start := regionBase (locRegion loc) + addr
    let bad := m.dev.cxl.poison.filter (fun l => addr < 64 * l + 64 && 64 * l < addr + len)
    let stop := if loc = 1 then bad.foldl (fun n l => min n (64 * l - addr)) len
      else if q.src.ended = .whole then len else min len q.src.bytes.length
    ⟨mread m.dram start stop, if (loc = 1 && !bad.isEmpty) || (loc != 1 && q.src.ended != .whole) then .poisoned else .whole⟩

/-- Status of a command whose source ended early (R429). -/
def endStatus : ReadEnd → Nat
  | .whole => stOk
  | .poisoned => stIntegrity
  | .timedOut => stTimeout

/-- Bulk data written. -/
def Mach.bulkWrite (m : Mach) (loc addr : Nat) (b : Bytes) : Mach :=
  if b.isEmpty then m
  else if loc = 0 then m.setDev (m.dev.emit (.hostWrite addr b))
  else
    let covered := fun (l : Nat) => loc = 1 && addr ≤ 64 * l && 64 * l + 64 ≤ addr + b.length
    { m with
      dram := mwrite m.dram (regionBase (locRegion loc) + addr) b
      dev := { m.dev with cxl := { m.dev.cxl with poison := m.dev.cxl.poison.filter (fun l => !covered l) } } }

/-- A byte string cut into n records of a size. -/
def chunks (b : Bytes) (size n : Nat) : List Bytes := (List.range n).map (fun i => sliceZ b (i * size) size)

/-! The image's memories, held as indexed records: control store words under 0x20 at stage × 512 + word,
dispatch entries under 0x21 at (bank × 20 + stage) × 256 + opcode, ternary rules under 0x14 at
lantern × 4,096 + bank × 2,048 + rule. -/

def storeIndex (stage word : Nat) : Nat := stage * 512 + word
def dispIndex (bank stage op : Nat) : Nat := (bank * 20 + stage) * 256 + op
def ternIndex (lantern bank i : Nat) : Nat := lantern * 4096 + bank * 2048 + i

/-- A control word as a number of 512 bits. -/
def Dev.controlWord (d : Dev) (stage word : Nat) : Nat := leNat (d.record 0x20 (storeIndex stage word) 64)

/-- A dispatch entry. -/
def Dev.dispatch (d : Dev) (bank stage op : Nat) : Nat := leNat (d.record 0x21 (dispIndex bank stage op) 2)

/-! Rule-set generations (R173 to R177). -/

/-- The generation a header carries. -/
def Header.gen (h : Header) : Nat := leAt h.hv 268 2

/-- Is a generation resident (R174): some header or frame tagged with it is in a chain, a reorder unit or a
recirculation queue. -/
def Dev.resident (d : Dev) (g : Nat) : Bool :=
  let inFrame := fun fid => ((d.frame? fid).map (fun f => f.gen == g)).getD false
  d.lanterns.any (fun l => l.2.stages.any (fun s => s.2.any (fun h => h.gen == g)) ||
    l.2.reorder.any (fun h => h.gen == g) || l.2.recirc.any inFrame) ||
  d.copies.any (fun c => 514 ≤ c.1 / 8 && c.1 / 8 < 518 && inFrame c.2.fid)

/-- Is the generation before the one in force resident. -/
def Dev.oldResident (d : Dev) : Bool := d.resident ((d.rules.gen + 65535) % 65536)

/-- The bank of the generation in force, and the standby bank. -/
def Dev.activeBank (d : Dev) : Nat := d.rules.gen % 2
def Dev.standbyBank (d : Dev) : Nat := (d.rules.gen + 1) % 2

/-- Loads of the standby bank are refused, and a swap waits (R175, R177). -/
def Dev.standbyBusy (d : Dev) : Bool := d.oldResident || d.rules.copying

def Dev.onRules (d : Dev) (f : Rules → Rules) : Dev := { d with rules := f d.rules }

/-- Waiting RULESET_SWAPs. -/
def isSwap : WaitKind → Bool
  | .swap _ _ => true
  | _ => false

/-- Apply the held swap, or end it with STALE_GENERATION (R173, R426): whether it was applied. -/
def Dev.applySwap (d : Dev) (k : Clock) (s : SwapHeld) : Bool × Dev :=
  let d0 := d.onRules (fun r => { r with held := none })
  let stale := d.smi.waits.any (fun w => isSwap w.kind && w.req.genCheck && w.req.expectGen.toNat != d.get F.GL_CONFIG_GEN)
  if stale then (false, d0.finishAll k isSwap ⟨stStale, d.get F.GL_CONFIG_GEN, 0⟩)
  else
    let g := (d.rules.gen + 1) % 65536
    (true, (d0.onRules (fun r => { r with gen := g, copying := s.copy })).finishAll k isSwap ⟨stOk, g, 0⟩)

/-- A commit of groups reaches a held swap (R177): applied, or to be applied when the old generation has gone. -/
def Dev.swapCommit (d : Dev) (k : Clock) (groups : Nat) : Bool × Dev :=
  match d.rules.held with
  | none => (false, d)
  | some s =>
    if !bit groups s.group then (false, d)
    else if d.standbyBusy then (false, d.onRules (fun r => { r with held := some { s with committed := true } }))
    else d.applySwap k s

/-- RULESET_SWAP_APPLY: the swap whose group has been committed is applied (R177, R492). -/
def swapLater (k : Clock) (d : Dev) : Dev :=
  match d.rules.held with
  | none => d
  | some s =>
    if !s.committed || d.standbyBusy then d
    else
      let (done, d1) := d.applySwap k s
      if done then d1.bumpGen else d1

def execRulesetSwapApply (s : State) : Host.Outcome State Fault Refusal := onDev swapLater s

/-- A STAGE_DISCARD of a group withdraws its held swap, unless the group has been committed since (R177). -/
def Dev.swapDiscard (d : Dev) (k : Clock) (groups : Nat) : Dev :=
  match d.rules.held with
  | none => d
  | some s =>
    if bit groups s.group && !s.committed then
      (d.onRules (fun r => { r with held := none })).finishAll k isSwap ⟨stTimeout, 2, 0⟩
    else d

def rulesetSwapCheck (q : Req) (_ : Mach) : Option Nat :=
  badParam 2 [(0, 2)] [(0, 15 < q.u 0 1), (1, 2 ≤ q.u 1 1)] q.params

/-- RULESET_SWAP: held until its group is committed (R177). -/
def rulesetSwap (q : Req) (m : Mach) : Res :=
  let d := m.dev
  if d.rules.held.isSome then .done m ⟨stBusy, 0, 0⟩
  else .later (m.setDev (d.onRules (fun r => { r with held := some ⟨q.u 0 1, q.flagAt 1 0, false⟩ })))
    (.swap (q.u 0 1) d.rules.gen)

def execRulesetSwap (q : Req) (s : State) : Host.Outcome State Fault Refusal :=
  onMach (smiem 0x0032 rulesetSwapCheck (fun _ => true) rulesetSwap q) s

/-- Copy the records of a table from one range of indices to another. -/
def Dev.copyRecs (d : Dev) (table from_ to_ n len : Nat) : Dev :=
  let base := table * 2 ^ 24
  let src := trange d.index (base + from_) (base + from_ + n)
  let cleared : Dev := { d with index := tclear d.index (base + to_) (base + to_ + n) }
  src.foldl (fun d e => d.setRec table (to_ + (e.1 - base - from_)) (padTo e.2 len)) cleared

/-- DISPATCH_COPY_COMPLETE: the active dispatch tables and ternary arrays stand in the standby bank (R176). -/
def copyComplete (_ : Clock) (d : Dev) : Dev :=
  if !d.rules.copying || d.oldResident then d
  else
    let a := d.activeBank
    let b := d.standbyBank
    let d1 := d.copyRecs 0x21 (dispIndex a 0 0) (dispIndex b 0 0) 5120 2
    let d2 := (List.range 32).foldl (fun d l => d.copyRecs 0x14 (ternIndex l a 0) (ternIndex l b 0) 2048 96) d1
    d2.onRules (fun r => { r with copying := false })

def execDispatchCopyComplete (s : State) : Host.Outcome State Fault Refusal := onDev copyComplete s

/-! Control words (R150, R151, R165). -/

/-- Is an action word defined, with its operand as R151 and R165 state. -/
def actOk (act : Nat) : Bool :=
  let op := bits act 26 6
  let v := bits act 0 26
  let layer := bits v 23 3
  let len := bits v 9 6
  match op with
  | 0x00 | 0x10 | 0x14 => v == 0
  | 0x01 => v < 1024
  | 0x02 | 0x0A => v < 16384
  | 0x03 => v < 256 && !(2 ≤ v && v ≤ 15)
  | 0x04 => v < 2048
  | 0x05 => v < 16
  | 0x06 => v < 2 ^ 19
  | 0x07 => v < 2 ^ 21
  | 0x08 => v < 64
  | 0x09 => v < 256
  | 0x0B | 0x0C => layer ≤ 4 && 1 ≤ len && len ≤ 32 && bits v 0 9 + len ≤ 320
  | 0x0D => layer ≤ 4 && 1 ≤ len && bits v 0 9 == 0
  | 0x0E => layer ≤ 4 && bits v 1 22 == 0
  | 0x0F => 0x10 ≤ v && v < 256
  | 0x11 => 1 ≤ bits v 11 6 && bits v 0 11 == 0 && bits v 17 9 + bits v 11 6 ≤ 320
  | 0x12 => bits v 18 8 ≤ 254 && bits v 16 2 == 0
  | 0x13 =>
    1 ≤ bits v 3 6 && bits v 3 6 ≤ 32 && bits v 0 3 == 0 && bits v 9 9 + bits v 3 6 ≤ 320 &&
      bits v 18 8 + bits v 3 6 ≤ 256
  | _ => false

/-- The four action slots of a control word. -/
def wordActs (w : Nat) : List Nat := [bits w 344 32, bits w 376 32, bits w 408 32, bits w 440 32]

/-- The extracts of a control word: source, length, destination. -/
def wordExts (w : Nat) : List (Nat × Nat × Nat) :=
  (List.range 4).map (fun i => (bits w (8 + 23 * i) 9, bits w (17 + 23 * i) 6, bits w (23 + 23 * i) 8))

/-- The key slices of a control word: source, length. -/
def wordKeys (w : Nat) : List (Nat × Nat) :=
  (List.range 4).map (fun i => (bits w (272 + 15 * i) 9, bits w (281 + 15 * i) 6))

/-- Does a control word keep the rules of R151. -/
def wordOk (w : Nat) : Bool :=
  let acts := wordActs w
  let opsOf := fun o => (acts.filter (fun a => bits a 26 6 == o)).length
  let lookup := bit w 1
  bits w 6 2 == 0 && bits w 131 1 == 0 && bits w 263 1 == 0 && bits w 340 4 == 0 && bits w 474 22 == 0 &&
    (wordExts w).all (fun e => e.2.1 ≤ 32 && e.2.2 + e.2.1 ≤ 256) &&
    sumBy (wordKeys w) (·.2) ≤ 40 && (wordKeys w).all (fun s => s.2 == 0 || s.1 + s.2 ≤ 320) &&
    (!lookup || (1 ≤ bits w 264 8 && bits w 264 8 ≤ 9)) && bits w 128 3 ≤ 4 && acts.all actOk &&
    opsOf 0x06 ≤ 1 && (opsOf 0x06 == 0 || !lookup) && opsOf 0x07 ≤ 2 &&
    (opsOf 0x10 == 0 || (lookup && bits w 264 8 == 1))

/-- The banks that are live (R175): that of the generation in force, and that of the one before it while it is
resident. -/
def Dev.liveBanks (d : Dev) : List Nat := if d.oldResident then [0, 1] else [d.activeBank]

/-- Does a valid entry of a live bank of a stage reference a word (R175). -/
def Dev.wordLive (d : Dev) (stage word : Nat) : Bool :=
  d.liveBanks.any (fun b => (trange d.index (0x21 * 2 ^ 24 + dispIndex b stage 0) (0x21 * 2 ^ 24 + dispIndex b stage 256)).any
    (fun e => bit (leNat e.2) 9 && bits (leNat e.2) 0 9 == word))

/-- The first position at which a test holds. -/
def firstAt (l : List Nat) (p : Nat → Bool) : Option Nat := l.find? p

def cstoreCheck (q : Req) (m : Mach) : Option Nat :=
  match badParam 24 [(0, 1), (2, 4), (8, 1), (16, 8)]
      [(0, 19 < q.u 0 1), (2, 511 < q.u 2 2), (4, q.u 4 2 = 0 || 512 < q.u 4 2),
       (8, m.dev.locBad (q.u 8 1) (q.u 16 8) (64 * q.u 4 2))] q.params with
  | some o => some o
  | none => if 512 < q.u 2 2 + q.u 4 2 then some 0xFFFF else none

/-- CSTORE_LOAD: every word is read and checked before any is written (R151, R175, R437). -/
def cstoreLoad (q : Req) (m : Mach) : Res :=
  let d := m.dev
  let n := q.u 4 2
  let stage := q.u 0 1
  let first := q.u 2 2
  let src := m.bulk q (q.u 8 1) (q.u 16 8) (64 * n)
  if src.ended != .whole then .done m ⟨endStatus src.ended, 0, 0⟩
  else
    let words := chunks src.bytes 64 n
    match firstAt (List.range n) (fun i => !wordOk (leNat (words.getD i []))) with
    | some i => .done m ⟨stBadParam, 2 ^ 31 + i, 0⟩
    | none =>
      match firstAt (List.range n) (fun i => d.wordLive stage (first + i)) with
      | some i => .done m ⟨stLocked, 2 ^ 31 + i, 0⟩
      | none =>
        let d1 := (List.range n).foldl (fun d i => d.setRec 0x20 (storeIndex stage (first + i)) (words.getD i [])) d
        .done (m.setDev d1.bumpGen) ⟨stOk, n, 0⟩

def execCstoreLoad (q : Req) (s : State) : Host.Outcome State Fault Refusal :=
  onMach (smiem 0x0030 cstoreCheck (fun _ => false) cstoreLoad q) s

def dispatchCheck (q : Req) (m : Mach) : Option Nat :=
  match badParam 24 [(0, 1), (2, 4), (8, 1), (16, 8)]
      [(0, 19 < q.u 0 1), (2, 253 < q.u 2 2), (4, q.u 4 2 = 0 || 254 < q.u 4 2),
       (8, m.dev.locBad (q.u 8 1) (q.u 16 8) (2 * q.u 4 2))] q.params with
  | some o => some o
  | none => if 254 < q.u 2 2 + q.u 4 2 then some 0xFFFF else none

/-- DISPATCH_LOAD: entries go into the standby bank of a stage (R175, R437). -/
def dispatchLoad (q : Req) (m : Mach) : Res :=
  let d := m.dev
  let n := q.u 4 2
  let src := m.bulk q (q.u 8 1) (q.u 16 8) (2 * n)
  if d.standbyBusy then .done m ⟨stBusy, 0, 0⟩
  else if src.ended != .whole then .done m ⟨endStatus src.ended, 0, 0⟩
  else
    let es := chunks src.bytes 2 n
    let d1 := (List.range n).foldl (fun d i =>
      d.setRec 0x21 (dispIndex d.standbyBank (q.u 0 1) (q.u 2 2 + i)) (toLE (leNat (es.getD i []) % 1024) 2)) d
    .done (m.setDev d1.bumpGen) Rep.ok

def execDispatchLoad (q : Req) (s : State) : Host.Outcome State Fault Refusal :=
  onMach (smiem 0x0031 dispatchCheck (fun _ => false) dispatchLoad q) s

end Sys2Proof.Machine
end

