-- ==== Sys2Proof/Machine/TableCmds.lean ====
section
/-! DEFINITION. Table commands and table DMA (R207 to R221, R350, R435, R436), the ECMP pool (R218), shadows and the
background compare (R222, R223), and the hash seeds (R193). -/

namespace Sys2Proof.Machine
open Sys2Proof

/-! Records (R435). -/

/-- Bytes of a table's record. -/
def recSize (t : Nat) : Nat :=
  match t with
  | 0x01 | 0x03 | 0x06 | 0x13 => 16
  | 0x02 | 0x04 => 128
  | 0x05 | 0x09 => 32
  | 0x07 | 0x10 | 0x12 => 8
  | 0x08 => 64
  | 0x0A | 0x11 => 4
  | 0x14 => 96
  | _ => 0

/-- How many slots or indices a table has. -/
def tableLen (t : Nat) : Nat :=
  match t with
  | 0x02 | 0x04 => 4096
  | 0x06 | 0x0A | 0x12 => 262144
  | 0x07 | 0x09 | 0x10 => 16384
  | 0x11 => 131072
  | 0x13 => 8192
  | 0x14 => 2048
  | _ => (((hspec? t).map (fun h => h.slots + h.stash)).getD 0)

/-- Reserved bits of a record: byte offsets and masks. -/
def recReserved (t : Nat) : List (Nat × Nat) :=
  let bytes := fun a b => (List.range (b - a)).map (fun i => (a + i, 255))
  match t with
  | 0x01 => [(7, 0xF0), (9, 0xFC), (10, 0xC0), (11, 0xF8)] ++ bytes 12 16
  | 0x03 => [(5, 0xF0), (7, 0xFC), (10, 0xFC), (11, 0xF8)] ++ bytes 12 16
  | 0x05 => [(17, 0xF0), (19, 0xFC), (22, 0xFC), (23, 0xF8)] ++ bytes 24 32
  | 0x06 => [(8, 0xF0), (10, 0xF0), (12, 0xF8)] ++ bytes 13 16
  | 0x07 => [(2, 0xFC), (3, 255), (6, 0xFE), (7, 0xF8)]
  | 0x08 => [(54, 0xFC), (55, 0xF8)] ++ bytes 56 64
  | 0x09 => [(13, 0x7C), (15, 0x7C), (26, 0xFE)] ++ bytes 27 32
  | 0x0A => [(2, 0xFC), (3, 255)]
  | 0x10 => [(2, 0xFE), (3, 255), (6, 0xFC), (7, 255)]
  | 0x11 => [(1, 0x7C), (2, 255), (3, 255)]
  | 0x14 => [(84, 0xFE)] ++ bytes 85 96
  | _ => []

/-- The first byte of a record that holds a reserved bit. -/
def recBad (t : Nat) (r : Bytes) : Option Nat :=
  ((recReserved t).find? (fun m => (byteAt r m.1).toNat &&& m.2 != 0)).map (·.1)

/-- Offset of a hashed record's flags byte. -/
def flagsAt (t : Nat) : Nat := match t with | 0x01 => 10 | 0x03 => 7 | 0x05 => 19 | _ => 54

/-- Bit of LOCK in the flags byte. -/
def lockBit (t : Nat) : Nat := if t = 1 then 2 else 1

def recValid (t : Nat) (r : Bytes) : Bool := bit (byteAt r (flagsAt t)).toNat 0
def recLock (t : Nat) (r : Bytes) : Bool := bit (byteAt r (flagsAt t)).toNat (lockBit t)

/-- Offset of LEN in a route record, and the longest length. -/
def lenAt (t : Nat) : Nat := if t = 5 then 18 else 6
def maxLen (t : Nat) : Nat := if t = 5 then 128 else 32
def recLen (t : Nat) (r : Bytes) : Nat := (byteAt r (lenAt t)).toNat

def isRoute (t : Nat) : Bool := t == 3 || t == 5

def recVrf (t : Nat) (r : Bytes) : Nat := leAt r (if t = 5 then 16 else 4) 2 % 4096

/-- The stored key a record names (R197, R211, R219). -/
def recKey (t : Nat) (r : Bytes) : Bytes :=
  if t = 1 then toLE (leAt r 6 2 % 4096) 2 ++ sliceZ r 0 6
  else if isRoute t then routeKey (recVrf t r) (recLen t r) (sliceZ r 0 (if t = 5 then 16 else 4))
  else sliceZ r 0 40

/-- The entry a record makes. -/
def recEnt (t : Nat) (r : Bytes) : Ent :=
  let data := if t = 1 then sliceZ r 8 2 else if t = 3 then sliceZ r 8 3 else if t = 5 then sliceZ r 20 3 else sliceZ r 40 14
  let sel := leAt r (if t = 3 then 11 else if t = 5 then 23 else if t = 1 then 11 else 55) 1 % 8
  ⟨recKey t r, data, t == 1 && bit (leAt r 10 1) 1, recLock t r, false, false, sel, false, false⟩

/-- A route record from its parts. -/
def routeRec (t vrf len : Nat) (addr : Bytes) (nh sel : Nat) (lock : Bool) : Bytes :=
  if t = 5 then padTo (addr ++ toLE vrf 2 ++ [byte len, byte (1 + 2 * b2n lock)] ++ toLE nh 3 ++ [byte sel]) 32
  else padTo (addr ++ toLE vrf 2 ++ [byte len, byte (1 + 2 * b2n lock)] ++ toLE nh 3 ++ [byte sel]) 16

/-- The record of an entry. -/
def entRec (t : Nat) (e : Ent) : Bytes :=
  if t = 1 then
    padTo (sliceZ e.key 2 6 ++ sliceZ e.key 0 2 ++ sliceZ e.data 0 2 ++
      [byte (1 + 2 * b2n e.static + 4 * b2n e.lock + 8 * b2n (e.hitE || e.hitW) + 16 * b2n e.aged + 32 * b2n e.frozen),
       byte e.opsel]) 16
  else if isRoute t then routeRec t (leAt e.key 0 2) (leAt e.key 2 1) (e.key.drop 3) (leNat e.data) e.opsel e.lock
  else padTo (sliceZ e.key 0 40 ++ sliceZ e.data 0 14 ++ [byte (1 + 2 * b2n e.lock), byte e.opsel]) 64

/-- One family's half of a span record (R211). -/
def spanRec (s : Span) : Bytes :=
  padTo (s.state ++ (s.lens.map (fun l => toLE l.2 4)).flatten) 64

/-- The default route of a VRF as a record. -/
def defaultRec (t vrf : Nat) (d : Nat × Nat) : Bytes :=
  routeRec t vrf 0 (List.replicate (if t = 5 then 16 else 4) 0) d.1 d.2 false

/-- The slot a reply gives for a default (R211). -/
def slotDefault : Nat := 0xFFFFFFFF

/-! Refusals (R220, R228). -/

/-- What a refusal of NO_SPACE sets and asserts. -/
def Dev.noSpace (d : Dev) (k : Clock) (reason : Nat) : Dev :=
  if reason = rsPlacement then d.event k 515 (flcTable 0)
  else if reason = rsSpanDepth then d.event k 520 (flcTable 0)
  else (d.setB F.BUSHEL_STICKY_TABLE_FULL_SEEN true).event k 521 (flcTable 0)

/-- How an insert or delete ends. -/
inductive TabOut where
  | ok (slot : Nat) (existed : Bool)
  | locked
  | notFound
  | noSpace (reason : Nat)
deriving DecidableEq, Repr

/-- Insert a record by its key (R191, R207, R210, R211, R214). -/
def Dev.tabInsert (d : Dev) (k : Clock) (h : HSpec) (r : Bytes) (holder : Bool) : TabOut × Dev :=
  let t := h.id
  let v6 := t == 5
  let vrf := recVrf t r
  let new := recEnt t r
  if isRoute t && recLen t r = 0 then
    let s := d.span v6 vrf
    (.ok slotDefault s.dflt.isSome, d.setSpan v6 vrf { s with dflt := some (leNat new.data % 262144, new.opsel) })
  else
    match d.findKey h new.key with
    | some (slot, e) =>
      if e.lock && !holder then (.locked, d)
      else
        (.ok slot true, d.putEnt h slot { e with data := new.data, static := new.static, lock := new.lock, opsel := new.opsel })
    | none =>
      let s := d.span v6 vrf
      let len := recLen t r
      if isRoute t && !s.lens.any (fun l => l.1 == len) && d.depth v6 ≤ s.lens.length then
        (.noSpace rsSpanDepth, d.noSpace k rsSpanDepth)
      else
        match d.place h new with
        | .error reason => (.noSpace reason, d.noSpace k reason)
        | .ok (slot, d1) =>
          (.ok slot false, if isRoute t then d1.setSpan v6 vrf { s with lens := addLen len s.lens } else d1)

/-- Delete the entry of a record's key (R207, R211, R225). -/
def Dev.tabDelete (d : Dev) (h : HSpec) (r : Bytes) (holder : Bool) : TabOut × Dev :=
  let t := h.id
  let vrf := recVrf t r
  if isRoute t && recLen t r = 0 then
    let s := d.span (t == 5) vrf
    if s.dflt.isNone then (.notFound, d) else (.ok slotDefault true, d.setSpan (t == 5) vrf { s with dflt := none })
  else
    match d.purge h (recKey t r) with
    | (slot :: _, d1) => (.ok slot true, d1)
    | ([], _) =>
      match d.findKey h (recKey t r) with
      | none => (.notFound, d)
      | some (slot, e) => if e.lock && !holder then (.locked, d) else (.ok slot true, d.remove h slot e)

/-! TABLE_INSERT, TABLE_DELETE, TABLE_LOOKUP, TABLE_LOCK (R436). -/

/-- Checks of the record a command carries at an offset. -/
def recordCheck (q : Req) (at_ : Nat) (used : List (Nat × Nat)) (lock : Bool) : Option Nat :=
  let t := q.u 0 2
  match hspec? t with
  | none => some 0
  | some _ =>
    let r := sliceZ q.params at_ (recSize t)
    match badParam (at_ + recSize t) (used ++ [(at_, recSize t)])
        [(2, 2 ≤ q.u 2 1), (at_ + ((recBad t r).getD 0), (recBad t r).isSome),
         (at_ + lenAt t, isRoute t && (maxLen t < recLen t r || (lock && recLen t r == 0)))] q.params with
    | some o => some o
    | none => none

def tableRecordCheck (q : Req) (_ : Mach) : Option Nat := recordCheck q 4 [(0, 3)] false

/-- The reply to an insert or a delete. -/
def TabOut.rep : TabOut → Rep
  | .ok slot existed => ⟨stOk, 2 ^ 31 * b2n existed, slot⟩
  | .locked => ⟨stLocked, 0, 0⟩
  | .notFound => ⟨stNotFound, 0, 0⟩
  | .noSpace r => ⟨stNoSpace, r, 0⟩

/-- Run a serialised change of a table: stream requests first, then the command's turn (R201, R220). -/
def serialised (m : Mach) (f : HSpec → Dev → TabOut × Dev) (q : Req) : TabOut × Mach :=
  let d := (m.dev.streamsFirst m.clk).setTurn 2
  match hspec? (q.u 0 2) with
  | none => (.notFound, m)
  | some h =>
    let (o, d1) := f h d
    (o, m.setDev d1)

def tableInsert (q : Req) (m : Mach) : Res :=
  let (o, m1) := serialised m (fun h d => d.tabInsert m.clk h (sliceZ q.params 4 (recSize h.id)) (q.flagAt 2 0)) q
  .done m1 o.rep

def execTableInsert (q : Req) (s : State) : Host.Outcome State Fault Refusal :=
  onMach (smiem 0x0020 tableRecordCheck (fun _ => false) tableInsert q) s

def tableDelete (q : Req) (m : Mach) : Res :=
  let (o, m1) := serialised m (fun h d => d.tabDelete h (sliceZ q.params 4 (recSize h.id)) (q.flagAt 2 0)) q
  match o with
  | .ok slot _ => .done m1 ⟨stOk, 0, slot⟩
  | _ => .done m1 o.rep

def execTableDelete (q : Req) (s : State) : Host.Outcome State Fault Refusal :=
  onMach (smiem 0x0021 tableRecordCheck (fun _ => false) tableDelete q) s

def tableLookupCheck (q : Req) (_ : Mach) : Option Nat :=
  recordCheck q 16 [(0, 3), (4, 12)] false

/-- TABLE_LOOKUP: exactly the record's key, in one replica (R220, R436). -/
def tableLookup (q : Req) (m : Mach) : Res :=
  let d := m.dev
  let t := q.u 0 2
  let r := sliceZ q.params 16 (recSize t)
  let answer := fun (d : Dev) (slot : Nat) (b : Bytes) =>
    let (n, d1) := d.bufWrite (q.u 4 8) (q.u 12 4) (recSize t) [b]
    Res.done (m.setDev d1) ⟨if n = 0 then stPartial else stOk, 0, slot⟩
  match hspec? t with
  | none => .done m ⟨stNotFound, 0, 0⟩
  | some h =>
    if isRoute t && recLen t r = 0 then
      match (d.span (t == 5) (recVrf t r)).dflt with
      | none => .done m ⟨stNotFound, 0, 0⟩
      | some x => answer d slotDefault (defaultRec t (recVrf t r) x)
    else
      match d.hashRead m.clk (q.flagAt 2 0) h (recKey t r) .clean .clean with
      | (_, none, d1) => .done (m.setDev d1) ⟨stNotFound, 0, 0⟩
      | (_, some (slot, e), d1) => answer d1 slot (entRec t e)

def execTableLookup (q : Req) (s : State) : Host.Outcome State Fault Refusal :=
  onMach (smiem 0x0022 tableLookupCheck (fun _ => false) tableLookup q) s

def tableLockCheck (q : Req) (_ : Mach) : Option Nat := recordCheck q 4 [(0, 3)] true

/-- TABLE_LOCK: LOCK changes alone (R207). -/
def tableLock (q : Req) (m : Mach) : Res :=
  let (o, m1) := serialised m (fun h d =>
    match d.findKey h (recKey h.id (sliceZ q.params 4 (recSize h.id))) with
    | none => (.notFound, d)
    | some (slot, e) => (.ok slot false, d.putEnt h slot { e with lock := q.flagAt 2 0 })) q
  match o with
  | .ok _ _ => .done m1 Rep.ok
  | _ => .done m1 o.rep

def execTableLock (q : Req) (s : State) : Host.Outcome State Fault Refusal :=
  onMach (smiem 0x0023 tableLockCheck (fun _ => false) tableLock q) s

/-! Indexed writes (R217, R218, R248, R350). -/

/-- How a record of table DMA ends. -/
inductive RecOut where
  | written
  | skipped
  | refused
deriving DecidableEq, Repr

/-- Pool ranges that are not free (R218): those valid groups cover, other than group g, and those released. -/
def Dev.poolTaken (d : Dev) (g : Option Nat) : List (Nat × Nat) :=
  let base := 0x07 * 2 ^ 24
  let groups := (trange d.index base (base + 16384)).filter (fun e => bit (leAt e.2 6 1) 0 && leAt e.2 4 2 != 0 && g != some (e.1 - base))
  groups.map (fun e => (leAt e.2 0 4 % 262144, leAt e.2 4 2)) ++ d.tbl.released.map (fun r => (r.2.1, r.2.2))

/-- Slots of the pool that ranges cover. -/
def covered (rs : List (Nat × Nat)) : Nat :=
  ((rs.mergeSort (fun a b => decide (a.1 ≤ b.1))).foldl (fun (acc : Nat × Nat) r =>
    let hi := r.1 + r.2
    if hi ≤ acc.2 then acc else (acc.1 + (hi - max acc.2 r.1), hi)) (0, 0)).1

/-- POOL_FREE (R227). -/
def Dev.poolFree (d : Dev) : Nat := 262144 - covered (d.poolTaken none)

/-- Write a group record (R217, R218): its new members must lie in free slots, and the slots it gives up are
released. -/
def Dev.writeGroup (d : Dev) (k : Clock) (g : Nat) (r : Bytes) : RecOut × Dev :=
  let range := fun (r : Bytes) => if bit (leAt r 6 1) 0 then (leAt r 0 4 % 262144, leAt r 4 2) else (0, 0)
  let old := range (d.record 0x07 g 8)
  let new := range r
  let free := (d.poolTaken none).all (fun x => x.1 + x.2 ≤ new.1 || new.1 + new.2 ≤ x.1)
  if 512 < leAt r 4 2 || 262144 < leAt r 0 4 + leAt r 4 2 then (.refused, d)
  else if new != old && new.2 != 0 && !free then (.refused, d.noSpace k rsPool)
  else
    let d1 := if new != old && old.2 != 0 then d.onTbl (fun b => { b with released := b.released ++ [(g, old.1, old.2)] }) else d
    (.written, (d1.setRec 0x07 g r).indexWritten 0x07 g)

/-- POOL_SLOT_RELEASE: the slots a group's oldest rewrite gave up are free (R218). -/
def poolRelease (g : Nat) (_ : Clock) (d : Dev) : Dev :=
  match d.tbl.released.find? (fun r => r.1 == g) with
  | none => d
  | some r => d.onTbl (fun b => { b with released := b.released.erase r })

def execPoolSlotRelease (group : Nat) (s : State) : Host.Outcome State Fault Refusal := onDev (poolRelease group) s

/-- Write a stream entry (R350, R207). -/
def Dev.writeStream (d : Dev) (s : Nat) (r : Bytes) : RecOut × Dev :=
  let old := d.stream s
  let hl := leAt r 16 1
  let ps := streamPorts r
  let clash := match ps with
    | [a, b] => a == b || (a < 512 && b < 512 && a / 16 == b / 16)
    | _ => false
  if (stFlag r 1 && stFlag r 2) || hl = 0 || 64 < hl || leAt r 18 2 = 0 || ps.any (fun p => 518 ≤ p && p < 1023) || clash then
    (.refused, d)
  else if stFlag old 7 && !stFlag r 7 then (.skipped, d)
  else
    let init := stFlag r 6
    let fl := (leAt r 17 1 &&& 0xBF) + 64 * b2n (init || stFlag old 6)
    let gen := if bit (leAt r 26 1) 0 then sliceZ r 0 2 else sliceZ old 0 2
    let rec_ := if init then List.replicate 2 0 else sliceZ old 2 2
    let hist := if init then List.replicate 8 0 else toLE (leAt old 4 8 % 2 ^ hl) 8
    let last := if init then List.replicate 6 0 else sliceZ old 20 6
    let new := gen ++ rec_ ++ hist ++ sliceZ r 12 4 ++ [byte hl, byte fl] ++ sliceZ r 18 2 ++ last
    (.written, (d.setStream s (padTo new 32)).indexWritten 0x09 s)

/-- Write one record of an indexed table. -/
def Dev.writeIndexed (d : Dev) (k : Clock) (t lantern i : Nat) (r : Bytes) : RecOut × Dev :=
  if tableLen t ≤ i then (.refused, d)
  else if t = 0x07 then d.writeGroup k i r
  else if t = 0x09 then d.writeStream i r
  else if t = 0x10 && (1024 < leAt r 4 2 || 131072 < leAt r 0 4 + leAt r 4 2) then (.refused, d)
  else if t = 0x14 then (.written, d.setRec 0x14 (ternIndex lantern d.standbyBank i) r)
  else (.written, ((d.setRec t i r).indexWritten t i).spend 3 2)

/-- Write one record of a hashed table: an insert, or a delete when VALID is 0 (R207, R221). -/
def Dev.writeHashed (d : Dev) (k : Clock) (h : HSpec) (r : Bytes) : RecOut × Dev :=
  if isRoute h.id && maxLen h.id < recLen h.id r then (.refused, d)
  else
    let (o, d1) := if recValid h.id r then d.tabInsert k h r (recLock h.id r) else d.tabDelete h r (recLock h.id r)
    match o with
    | .ok _ _ | .notFound => (.written, d1)
    | .locked => (.skipped, d1)
    | .noSpace _ => (.refused, d1)

/-- One record at its turn of the serialiser. -/
def Dev.writeRecord (d : Dev) (k : Clock) (t lantern i : Nat) (r : Bytes) : RecOut × Dev :=
  let d0 := (d.streamsFirst k).setTurn 2
  if (recBad t r).isSome then (.refused, d0)
  else
    match hspec? t with
    | some h => d0.writeHashed k h r
    | none => d0.writeIndexed k t lantern i r

/-! TABLE_DMA_READ and TABLE_DMA_WRITE (R221, R436). -/

/-- The record at a slot or index of a table as a replica reads it. -/
def Dev.tableRec (d : Dev) (west : Bool) (t lantern bank i : Nat) : Bytes :=
  match hspec? t with
  | some h =>
    let bad := i < h.slots && d.rowBadIn west (h.abs (i / h.perRow))
    match tget? (d.ents t) i, bad with
    | some e, false => entRec t e
    | _, _ => List.replicate (recSize t) 0
  | none =>
    if t = 2 || t = 4 then spanRec (d.span false i) ++ spanRec (d.span true i)
    else if t = 0x14 then d.record t (ternIndex lantern bank i) 96
    else
      match ispec t with
      | some s => if d.rowBadIn west (indexRow s i) then List.replicate (recSize t) 0 else d.record t i (recSize t)
      | none => d.record t i (recSize t)

def dmaReadCheck (q : Req) (m : Mach) : Option Nat :=
  let t := q.u 0 2
  if recSize t = 0 then some 0
  else
    badParam 28 [(0, 13), (16, 12)]
      [(2, 4 ≤ q.u 2 1), (3, if t = 0x14 then 31 < q.u 3 1 else q.u 3 1 != 0),
       (12, m.dev.locBad (q.u 12 1) (q.u 16 8) (q.u 24 4))] q.params

/-- TABLE_DMA_READ: records from FIRST, whole records up to LEN (R429). Records past the table's end are not there. -/
def dmaRead (q : Req) (m : Mach) : Res :=
  let t := q.u 0 2
  let n := min (min (q.u 8 4) (q.u 24 4 / recSize t)) (tableLen t - q.u 4 4)
  let recs := (List.range n).map (fun i => m.dev.tableRec (q.flagAt 2 0) t (q.u 3 1) (b2n (q.flagAt 2 1)) (q.u 4 4 + i))
  .done (m.bulkWrite (q.u 12 1) (q.u 16 8) recs.flatten) ⟨if n < q.u 8 4 then stPartial else stOk, n, 0⟩

def execTableDmaRead (q : Req) (s : State) : Host.Outcome State Fault Refusal :=
  onMach (smiem 0x0024 dmaReadCheck (fun _ => false) dmaRead q) s

def dmaWriteCheck (q : Req) (m : Mach) : Option Nat :=
  let t := q.u 0 2
  if recSize t = 0 || t = 2 || t = 4 || t = 0x12 || t = 0x13 then some 0
  else
    badParam 28 [(0, 13), (16, 12)]
      [(3, if t = 0x14 then 31 < q.u 3 1 else q.u 3 1 != 0),
       (12, m.dev.locBad (q.u 12 1) (q.u 16 8) (q.u 24 4))] q.params

/-- Records written, skipped and refused. -/
structure Tallied where
  written : Nat
  skipped : Nat
  refused : Nat
deriving DecidableEq, Repr

def Tallied.add (t : Tallied) : RecOut → Tallied
  | .written => { t with written := t.written + 1 }
  | .skipped => { t with skipped := t.skipped + 1 }
  | .refused => { t with refused := t.refused + 1 }

/-- TABLE_DMA_WRITE. -/
def dmaWrite (q : Req) (m : Mach) : Res :=
  let d := m.dev
  let t := q.u 0 2
  let size := recSize t
  let want := min (q.u 8 4) (q.u 24 4 / size)
  let src := m.bulk q (q.u 12 1) (q.u 16 8) (want * size)
  let n := if src.ended = .whole then want else src.bytes.length / size
  if t = 0x14 && d.standbyBusy then .done m ⟨stBusy, 0, 0⟩
  else
    let (_, tl, d1) := (chunks src.bytes size n).foldl (fun (a : Nat × Tallied × Dev) r =>
      let (o, d') := a.2.2.writeRecord m.clk t (q.u 3 1) (q.u 4 4 + a.1) r
      (a.1 + 1, a.2.1.add o, d')) (0, (⟨0, 0, 0⟩ : Tallied), d)
    let d2 := if t = 0x14 && tl.written != 0 then d1.bumpGen else d1
    let st := if src.ended != .whole then endStatus src.ended
      else if tl.skipped != 0 || tl.refused != 0 || n < q.u 8 4 then stPartial else stOk
    .done (m.setDev d2) ⟨st, tl.written, tl.skipped + 2 ^ 32 * tl.refused⟩

def execTableDmaWrite (q : Req) (s : State) : Host.Outcome State Fault Refusal :=
  onMach (smiem 0x0025 dmaWriteCheck (fun _ => false) dmaWrite q) s

/-! Shadows and the background compare (R222, R223). -/

/-- Tables that SHADOW_BIND accepts. -/
def shadowTables : List Nat := [0x01, 0x03, 0x05, 0x06, 0x07, 0x08, 0x09, 0x0A, 0x10, 0x11, 0x14]

def shadowBindCheck (q : Req) (m : Mach) : Option Nat :=
  let t := q.u 0 2
  let cxl := decide (1 ≤ m.dev.get F.CXL_MODE ∧ m.dev.get F.CXL_MODE ≤ 4)
  badParam 16 [(0, 5), (8, 8)]
    [(0, !shadowTables.contains t), (2, 2 ≤ q.u 2 1), (3, if t = 0x14 then 31 < q.u 3 1 else q.u 3 1 != 0),
     (4, !q.flagAt 2 0 && (q.u 4 1 != b2n cxl || m.dev.locBad (q.u 4 1) (q.u 8 8) 0))] q.params

/-- SHADOW_BIND: a table's shadow is bound, or unbound (R436). -/
def shadowBind (q : Req) (_ : Clock) (d : Dev) : Dev × Rep :=
  let rest := d.tbl.shadows.filter (fun s => !(s.table == q.u 0 2 && s.lantern == q.u 3 1))
  (d.onTbl (fun b => { b with
    shadows := if q.flagAt 2 0 then rest else rest ++ [⟨q.u 0 2, q.u 3 1, q.u 4 1, q.u 8 8⟩] }), Rep.ok)

def execShadowBind (q : Req) (s : State) : Host.Outcome State Fault Refusal :=
  onMach (smiem 0x0026 shadowBindCheck (fun _ => false)
    (fun q m => let (d, r) := shadowBind q m.clk m.dev; .done (m.setDev d) r) q) s

/-- What is compared of a record: HIT, AGED and FROZEN are not, and a station entry only when STATIC. -/
def comparable (t : Nat) (r : Bytes) : Bytes :=
  if t = 1 then
    (if bit (leAt r 10 1) 1 then putBytes r 10 [byte (leAt r 10 1 % 8)] else List.replicate 16 0)
  else if t = 9 then List.replicate 12 0 ++ sliceZ r 12 5 ++ [byte (leAt r 17 1 &&& 0xBF)] ++ sliceZ r 18 2 ++ List.replicate 12 0
  else r

/-- Records of a shadow: slot or index, with bank 1's rules after bank 0's. -/
def Shadow.length (s : Shadow) : Nat := if s.table = 0x14 then 4096 else tableLen s.table

/-- The device's record that a shadow's record i stands for. -/
def Dev.shadowed (d : Dev) (s : Shadow) (i : Nat) : Bytes :=
  if s.table = 0x14 then d.tableRec false 0x14 s.lantern (i / 2048) (i % 2048) else d.tableRec false s.table 0 0 i

/-- Does a record differ from its shadow, as its bytes now stand in the host window or in what the host returned. -/
def Mach.differs (m : Mach) (s : Shadow) (host : Bytes) (i : Nat) : Bool :=
  let size := recSize s.table
  let there := if s.loc = 1 then mread m.dram (regionBase regWindow + s.addr + i * size) size else sliceZ host 0 size
  comparable s.table (m.dev.shadowed s i) != comparable s.table there

/-- FLC of an entry compared (R182), or of the lantern whose ternary array holds it. -/
def flcEntry (t lantern i : Nat) : Nat :=
  match hspec? t, ispec t with
  | some h, _ => if i < h.slots then flcRow false (h.abs (i / h.perRow)) cellNone else flc 32 0 255
  | none, some s => flcRow false (indexRow s i) cellNone
  | none, none => if t = 0x14 then flc lantern 0 255 else flc 33 255 255

/-- A slice's share of a shadow's records, from a position: 1/8 for the ternary arrays, 1/256 for others. -/
def slicePart (s : Shadow) (tern other : Nat) : List Nat :=
  let n := if s.table = 0x14 then 8 else 256
  let i := if s.table = 0x14 then tern else other
  let part := ceilDiv s.length n
  (List.range (min part (s.length - i * part))).map (i * part + ·)

/-- COMPARE_SLICE: the records of a slice are compared with their shadows; differences await a second reading. In a PCIe
mode `host` says which records of bound shadows the host's memory holds otherwise (table, lantern, slot). -/
def compareSlice (host : List (Nat × Nat × Nat)) (m : Mach) : Mach :=
  let d := m.dev
  if !d.flag F.BUSHEL_CTRL_COMPARE_EN then m
  else
    let found := d.tbl.shadows.map (fun s =>
      ((slicePart s d.tbl.ternAt d.tbl.otherAt).filter (fun i =>
        if s.loc = 1 then m.differs s [] i else host.contains (s.table, s.lantern, i))).map
          (fun i => (⟨s.table, s.lantern, i⟩ : Diff)))
    let new := found.flatten.filter (fun x => !d.tbl.diffs.contains x)
    let d1 := d.onTbl (fun b => { b with
      diffs := b.diffs ++ new, ternAt := (b.ternAt + 1) % 8, otherAt := (b.otherAt + 1) % 256 })
    let reads := sumBy d.tbl.shadows (fun s => (slicePart s d.tbl.ternAt d.tbl.otherAt).length)
    m.setDev ((d1.spend 2 reads).sliceRan 1 d.energy)

def execCompareSlice (host : List (Nat × Nat × Nat)) (s : State) : Host.Outcome State Fault Refusal :=
  onMach (compareSlice host) s

/-- COMPARE_CONFIRM: the oldest difference is read again, and reported when it is still present. -/
def compareConfirm (still : Bool) (m : Mach) : Mach :=
  match m.dev.tbl.diffs with
  | [] => m
  | x :: rest =>
    let d := m.dev.onTbl (fun b => { b with diffs := rest })
    match d.tbl.shadows.find? (fun s => s.table == x.table && s.lantern == x.lantern) with
    | none => m.setDev d
    | some s =>
      if if s.loc = 1 then m.differs s [] x.slot else still then
        m.setDev (((d.count (cGlobal 13) 0).setB F.BUSHEL_STICKY_COMPARE_DIFF true).eventData m.clk 519 0
          (flcEntry x.table x.lantern x.slot) (x.table % 256 + x.slot % 2 ^ 24 * 256))
      else m.setDev d

def execCompareConfirm (still : Bool) (s : State) : Host.Outcome State Fault Refusal := onMach (compareConfirm still) s

/-! Hash seeds (R193). -/

/-- A write of TBL_SEED_k: ignored while its table holds an entry. -/
def Dev.writeSeed (d : Dev) (i v : Nat) : Dev :=
  let t := [1, 3, 5, 8].getD (i / 2) 1
  if (d.ents t).isEmpty then d.set (F.TBL_SEED i) v else d.setB F.BUSHEL_STICKY_SEED_REFUSED true

end Sys2Proof.Machine
end

