-- ==== Sys2Proof/Machine/Gates.lean ====
section
/-! DEFINITION. Gate control lists of ports and stream gates (R278 to R281, R290 to R297). -/

namespace Sys2Proof.Machine
open Sys2Proof

/-! Positions in a list (R293). -/

/-- INTERVAL and the states byte of an entry. -/
def entNs (e : Bytes) : Nat := leAt e 0 4
def entStates (e : Bytes) : Nat := leAt e 4 1

/-- The entry in force at an offset in the cycle: its number, where it begins, where the next one begins if it is
reached, and its bytes. -/
def entAt (off : Nat) : List Bytes → Nat → Nat → Nat × Nat × Option Nat × Bytes
  | [], i, at_ => (i, at_, none, [])
  | [e], i, at_ => (i, at_, none, e)
  | e :: es, i, at_ => if off < at_ + entNs e then (i, at_, some (at_ + entNs e), e) else entAt off es (i + 1) (at_ + entNs e)

/-- Where a gate stands: entry, the network time it began, and its bytes. -/
structure GatePos where
  entry : Nat
  start : Nat
  bytes : Bytes
deriving DecidableEq, Repr

/-- Position of a list at network time t on its grid; entry 0 before CONFIG_CHANGE_TIME (R293, R297). -/
def GList.pos (l : GList) (t : Nat) : GatePos :=
  if t < l.change then ⟨0, l.change, l.entries.headD []⟩
  else
    let off := (t - l.change) % l.cycle
    let (i, at_, _, e) := entAt off l.entries 0 0
    ⟨i, t - off + at_, e⟩

/-- The next instant after t at which a list may change. -/
def GList.bound (l : GList) (t : Nat) : Nat :=
  if t < l.change then l.change
  else
    let off := (t - l.change) % l.cycle
    let (_, _, next, _) := entAt off l.entries 0 0
    t - off + min l.cycle (next.getD l.cycle)

/-- Position of a running list while another is pending: a cycle that would start less than the cycle extension before
the pending list does not start (R293). -/
def GList.posBefore (r p : GList) (t : Nat) : GatePos :=
  let c := t - (t - r.change) % r.cycle
  if r.change ≤ t && r.change < c && p.acc < c && p.change < c + r.ext then r.pos (c - 1) else r.pos t

/-- Position of a gate's lists at network time t; none before the first list starts. -/
def Gate.pos (g : Gate) (t : Nat) : Option GatePos :=
  match g.pend, g.run with
  | some p, some r => some (if p.change ≤ t then p.pos t else r.posBefore p t)
  | some p, none => if p.change ≤ t then some (p.pos t) else none
  | none, some r => some (r.pos t)
  | none, none => none

def Gate.idle : Gate := ⟨[], none, none, 0, 0, 0⟩

def Dev.gate (d : Dev) (p : Nat) : Gate := tgetD d.egr.gates p Gate.idle

def Dev.setGate (d : Dev) (p : Nat) (g : Gate) : Dev := { d with egr := { d.egr with gates := tput d.egr.gates p Gate.idle g } }

def Dev.sgate (d : Dev) (n : Nat) : Gate := tgetD d.egr.sgates n Gate.idle

def Dev.setSgate (d : Dev) (n : Nat) (g : Gate) : Dev :=
  { d with egr := { d.egr with sgates := tput d.egr.sgates n Gate.idle g } }

/-! Port gates at hand-off (R293 to R296). -/

/-- Gate states of a port at network time t. -/
def Dev.gateStates (d : Dev) (p t : Nat) : Nat :=
  if !d.flag (F.EGP_GATE_EN p) then 255
  else match (d.gate p).pos t with
    | none => d.get (F.EGP_ADMIN_GATE_STATES p)
    | some x => entStates x.bytes

/-- The next close of a class's gate after t, within a number of boundaries; none when it does not close (R295). -/
def Dev.nextClose (d : Dev) (p c : Nat) : Nat → Nat → Option Nat
  | 0, _ => none
  | fuel + 1, t =>
    let g := d.gate p
    let own := match g.pend, g.run with
      | some q, some r => if q.change ≤ t then some (q.bound t) else some (min q.change (r.bound t))
      | some q, none => some (if q.change ≤ t then q.bound t else q.change)
      | none, some r => some (r.bound t)
      | none, none => none
    match own with
    | none => none
    | some b =>
      if !bit (d.gateStates p b) c then some b
      else if (g.pend.map (fun q => q.change == b)).getD false then none
      else d.nextClose p c fuel b

/-- Open and closed stretches of one cycle of a list, for a class. -/
def stretches (cycle c : Nat) : List Bytes → Nat → List (Nat × Bool)
  | [], _ => []
  | [e], at_ => if cycle ≤ at_ then [] else [(cycle - at_, bit (entStates e) c)]
  | e :: es, at_ =>
    if cycle ≤ at_ then []
    else (min (entNs e) (cycle - at_), bit (entStates e) c) :: stretches cycle c es (at_ + entNs e)

/-- The longest continuous open time of a class in a list; none when it is always open (R296). -/
def GList.longest (l : GList) (c : Nat) : Option Nat :=
  let s := stretches l.cycle c l.entries 0
  if s.all (·.2) then none
  else
    let r := (s ++ s).foldl (fun (a : Nat × Nat) x =>
      let run := if x.2 then a.1 + x.1 else 0
      (run, max a.2 run)) (0, 0)
    some r.2

/-- Whether a gate lets a copy start now, makes it wait, or can never pass it. -/
inductive GateSays where
  | pass | wait | tooLong
deriving DecidableEq, Repr

/-- What the gate of class c of a port says of a copy of egress length e (R294 to R296). -/
def Dev.gateSays (d : Dev) (k : Clock) (p c e : Nat) : GateSays :=
  if 512 ≤ p || !d.flag (F.EGP_GATE_EN p) then .pass
  else
    let t := k.abs + d.get (F.EGP_TX_ADVANCE p)
    let aware := d.flag (F.EGP_LENGTH_AWARE p)
    let rate := macRate (d.get (F.PORT_CFG_PORT_TYPE p))
    let need := (e + 20) * 8 * 1000
    let g := d.gate p
    if aware && ((g.run.bind (fun l => l.longest c)).map (fun n => decide (n * rate < need))).getD false then .tooLong
    else if !bit (d.gateStates p t) c then .wait
    else if aware && ((d.nextClose p c 4096 t).map (fun n => decide ((n - t) * rate < need))).getD false then .wait
    else .pass

/-- What the port registers show of its gates (R301). -/
def Dev.gateShow (d : Dev) (k : Clock) (p : Nat) : Dev :=
  let t := k.abs + d.get (F.EGP_TX_ADVANCE p)
  let x := (d.gate p).pos t
  d.setAll [(F.EGP_OPER_GATE_STATES p, d.gateStates p t), (F.EGP_ENTRY p, (x.map GatePos.entry).getD 0)]

/-! Stream gates (R278 to R281). -/

/-- What a stream gate's list says now, closing flags apart: open, IPV_VALID, IPV, OCTET_MAX, and the start of the
entry in force. -/
structure SgSays where
  open_ : Bool
  ipvOn : Bool
  ipv   : Nat
  max_  : Nat
  start : Option Nat
deriving DecidableEq, Repr

def Dev.sgateSays (d : Dev) (k : Clock) (n : Nat) : SgSays :=
  let admin : SgSays := ⟨d.flag (F.SG_ADMIN_OPEN n), d.flag (F.SG_ADMIN_IPV_VALID n), d.get (F.SG_ADMIN_IPV n), 0, none⟩
  if !d.flag (F.SG_EN n) then admin
  else match (d.sgate n).pos k.abs with
    | none => admin
    | some x =>
      let st := entStates x.bytes
      ⟨bit st 0, bit st 1, bits st 2 3, leAt x.bytes 5 3, some x.start⟩

/-- Is a stream gate open: by its list and its closing flags (R280). -/
def Dev.sgateOpen (d : Dev) (k : Clock) (n : Nat) : Bool :=
  (d.sgateSays k n).open_ && !d.flag (F.SG_CLOSED_INVALID n) && !d.flag (F.SG_CLOSED_OCTETS n)

/-- What a stream gate's status register shows (R301). -/
def Dev.sgateShow (d : Dev) (k : Clock) (n : Nat) : Dev :=
  let s := d.sgateSays k n
  let e := ((d.sgate n).pos k.abs).map GatePos.entry
  d.setAll [(F.SG_OPEN n, b2n (d.sgateOpen k n)), (F.SG_IPV_VALID n, b2n s.ipvOn), (F.SG_IPV n, s.ipv),
    (F.SG_ENTRY n, e.getD 0)]

/-- The octet count of the entry in force in a replica (R279, R281). -/
def Dev.octets (d : Dev) (n : Nat) (west : Bool) (start : Nat) : Nat :=
  let g := d.sgate n
  if g.at_ = start then (if west then g.octW else g.octE) else 0

/-- Set the octet count of the entry that began at `start`. -/
def Dev.setOctets (d : Dev) (n : Nat) (west : Bool) (start v : Nat) : Dev :=
  let g := d.sgate n
  let g1 : Gate := if g.at_ = start then g else { g with at_ := start, octE := 0, octW := 0 }
  d.setSgate n (if west then { g1 with octW := v } else { g1 with octE := v })

/-- FLC of the stream gates and of the port gates of a port's lantern (R299). -/
def flcSgate : Nat := flc 34 4 0
def flcGates (p : Nat) : Nat := flc 34 3 (p / 16)

/-- A frame is dropped at a stream gate: SGATE_DROP, and a closing flag when the gate closes on it (R279, R280). -/
def Dev.sgateDrop (d : Dev) (k : Clock) (n len : Nat) (octets : Bool) : Dev :=
  let d1 := d.count (cGate n) len
  let shut := if octets then d.flag (F.SG_CLOSE_ON_OCTETS n) else d.flag (F.SG_CLOSE_ON_INVALID n)
  let f := if octets then F.SG_CLOSED_OCTETS n else F.SG_CLOSED_INVALID n
  if !shut || d.flag f then d1
  else (((d1.setB f true).sgateShow k n).setBit F.EG_SCHED_STICKY 4).event k 547 flcSgate

/-- STREAM_GATE_REOPEN: a write of a gate's status register; a closing flag written 1 clears (R280). -/
def Dev.sgateWrite (d : Dev) (k : Clock) (n w : Nat) : Dev :=
  let d1 := if bit w 5 then d.setB (F.SG_CLOSED_INVALID n) false else d
  (if bit w 6 then d1.setB (F.SG_CLOSED_OCTETS n) false else d1).sgateShow k n

/-- STREAM_GATE_ENTRY_CHANGE: an entry boundary of the gate's list; the octet counts begin at 0 (R279, R293). -/
def sgateEntry (n : Nat) (k : Clock) (d : Dev) : Dev :=
  if d.isHeld 34 then d
  else
    let d1 := match (d.sgateSays k n).start with
      | none => d
      | some s => if (d.sgate n).at_ = s then d else d.setOctets n false s 0
    d1.sgateShow k n

def execStreamGateEntryChange (gate : Fin 1024) (s : State) : Host.Outcome State Fault Refusal := onDev (sgateEntry gate) s

/-- GATE_ENTRY_CHANGE: an entry boundary of a port's list is reached at hand-off (R293, R294). -/
def execGateEntryChange (port : Nat) (s : State) : Host.Outcome State Fault Refusal :=
  onDev (fun k d => if port < 512 && d.portExists port && !d.isHeld 34 then d.gateShow k port else d) s

/-! Loading and starting (R291, R292). -/

/-- Does an entry keep R278 or R290: the offset of its first field that does not. -/
def entBad (stream : Bool) (e : Bytes) : Option Nat :=
  if entNs e < 64 || 1000000000 < entNs e then some 0
  else if stream then (if 32 ≤ entStates e then some 4 else none)
  else if leAt e 5 1 != 0 then some 5 else if leAt e 6 2 != 0 then some 6 else none

/-- The pending list of a target, as written. -/
def Dev.gateOf (d : Dev) (stream : Bool) (n : Nat) : Gate := if stream then d.sgate n else d.gate n

def Dev.setGateOf (d : Dev) (stream : Bool) (n : Nat) (g : Gate) : Dev := if stream then d.setSgate n g else d.setGate n g

/-- The entries of a packet. -/
def gateEntries (q : Req) : List Bytes := chunks (q.params.drop 32) 8 (q.u 6 2)

/-- The store of a target after a packet's entries are written. -/
def gateStore (q : Req) (g : Gate) : Tab Bytes :=
  (List.range (q.u 6 2)).foldl (fun t i => tset t (q.u 4 2 + i) ((gateEntries q).getD i [])) g.store

def gateLoadCheck (q : Req) (m : Mach) : Option Nat :=
  let d := m.dev
  let stream := q.u 0 1 == 1
  let id := q.u 2 2
  let change := q.flagAt 1 0
  let cap := if stream then 64 else 1024
  let count := q.u 6 2
  let len := q.u 8 2
  let entry := (List.range count).findSome? (fun i => (entBad stream ((gateEntries q).getD i [])).map (32 + 8 * i + ·))
  match badParam (32 + 8 * count) [(0, 28), (32, 8 * count)]
      [(0, 1 < q.u 0 1), (1, 2 ≤ q.u 1 1), (2, if stream then 1023 < id else 511 < id || !d.portExists id),
       (6, 504 < count), (8, change && (len = 0 || cap < len)), (16, change && 1000000000 ≤ q.u 16 4),
       (20, change && (q.u 20 4 < 64 || 1000000000 < q.u 20 4)), (24, change && q.u 20 4 < q.u 24 4)] q.params with
  | some o => some (match entry with
    | some e => min o e
    | none => o)
  | none => match entry with
    | some e => some e
    | none =>
      if (if change then len else cap) < q.u 4 2 + count then some 0xFFFF
      else
        let store := gateStore q (d.gateOf stream id)
        if change && (List.range len).any (fun i => (entBad stream (tgetD store i [])).isSome) then some 0xFFFF else none

/-- A refusal sets GATE_CFG_ERR and asserts event 545. -/
def gateRefused (q : Req) (m : Mach) : Mach :=
  m.onDev (fun k d => (d.setBit F.EG_SCHED_STICKY 3).event k 545
    (if q.u 0 1 = 1 then flcSgate else if q.u 2 2 < 512 then flcGates (q.u 2 2) else flc 34 3 255))

/-- CONFIG_CHANGE_TIME: base + N × cycle for the least N that puts it 10 µs after acceptance (R292). -/
def changeTime (base cycle acc : Nat) : Nat :=
  if acc + 10000 ≤ base then base else base + ceilDiv (acc + 10000 - base) cycle * cycle

/-- What the registers hold of an accepted list. -/
def Dev.gateAccepted (d : Dev) (stream : Bool) (n : Nat) (l : GList) : Dev :=
  let ns := l.change % 1000000000
  let s := l.change / 1000000000
  if stream then d.setAll [(F.SG_SGATE_CHANGE_LO n, ns), (F.SG_SGATE_CHANGE_HI n, s), (F.SG_SGATE_CYCLE n, l.cycle),
    (F.SG_SGATE_BASE_LO n, l.base.2), (F.SG_SGATE_BASE_HI n, l.base.1), (F.SG_PENDING n, 1)]
  else d.setAll [(F.EGP_GATE_BASE_LO n, l.base.2), (F.EGP_GATE_BASE_HI n, l.base.1), (F.EGP_GATE_CYCLE n, l.cycle),
    (F.EGP_GATE_CYCLE_EXT n, l.ext), (F.EGP_GATE_CHANGE_LO n, ns), (F.EGP_GATE_CHANGE_HI n, s), (F.EGP_PENDING n, 1),
    (F.EGP_PENDING_LEN n, l.entries.length)]

/-- GATE_LIST_LOAD (R291, R440, R492). -/
def gateLoad (q : Req) (k : Clock) (d : Dev) : Dev × Rep :=
  let stream := q.u 0 1 == 1
  let id := q.u 2 2
  let g := d.gateOf stream id
  let store := gateStore q g
  if !q.flagAt 1 0 then (d.setGateOf stream id { g with store := store }, Rep.ok)
  else
    let base := (q.u 10 6, q.u 16 4)
    let change := changeTime (base.1 * 1000000000 + base.2) (q.u 20 4) k.abs
    let l : GList := ⟨(List.range (q.u 8 2)).map (fun i => tgetD store i []), base, q.u 20 4, q.u 24 4, change, k.abs⟩
    let d1 := (d.setGateOf stream id { g with store := store, pend := some l }).gateAccepted stream id l
    let s := change / 1000000000
    (d1.bumpGen, ⟨stOk, s / 2 ^ 32 % 65536, change % 1000000000 + s % 2 ^ 32 * 2 ^ 32⟩)

def execGateListLoad (q : Req) (s : State) : Host.Outcome State Fault Refusal :=
  onMach (smiemOr (gateRefused q) 0x0060 gateLoadCheck (fun _ => false)
    (fun q m => let (d, r) := gateLoad q m.clk m.dev; .done (m.setDev d) r) q) s

/-- The pending list of a target starts: it becomes the running list (R292). -/
def Dev.gateStart (d : Dev) (k : Clock) (stream : Bool) (n : Nat) : Dev :=
  let g := d.gateOf stream n
  match g.pend with
  | none => d
  | some l =>
    let d1 := d.setGateOf stream n { g with run := some l, pend := none, octE := 0, octW := 0, at_ := 0 }
    let d2 := if stream then d1.set (F.SG_PENDING n) 0
      else d1.setAll [(F.EGP_PENDING n, 0), (F.EGP_OPER_VALID n, 1), (F.EGP_OPER_LEN n, l.entries.length), (F.EGP_PENDING_LEN n, 0)]
    let d3 := d2.event k 544 (if stream then flcSgate else flcGates n)
    if stream then d3.sgateShow k n else d3.gateShow k n

/-- GATE_LIST_START: network time has reached CONFIG_CHANGE_TIME of a pending list. -/
def gateListStart (stream : Bool) (n : Nat) (k : Clock) (d : Dev) : Dev :=
  let due := ((d.gateOf stream n).pend.map (fun l => decide (l.change ≤ k.abs))).getD false
  if due && !d.isHeld 34 then d.gateStart k stream n else d

def execGateListStart (stream : Bool) (id : Nat) (s : State) : Host.Outcome State Fault Refusal :=
  onDev (gateListStart stream id) s

/-- After a step of network time every list stands where the new time puts it, and a pending list whose
CONFIG_CHANGE_TIME is reached starts at once (R297). -/
def Dev.gatesStep (d : Dev) (k : Clock) : Dev :=
  let d1 := d.egr.gates.foldl (fun d e => (gateListStart false e.1 k d).gateShow k e.1) d
  d1.egr.sgates.foldl (fun d e => (gateListStart true e.1 k d).sgateShow k e.1) d1

end Sys2Proof.Machine
end

