-- ==== Sys2Proof/Machine/Policers.lean ====
section
/-! DEFINITION. Policers (R269 to R277): their words and profiles, the colour decision behind stream gates, trailing
charges, refill ticks and POLICER_SET. -/

namespace Sys2Proof.Machine
open Sys2Proof

/-- A policer's word (R271): buckets, profile, INIT. -/
structure PolWord where
  c    : Int
  e    : Int
  prof : Nat
  init : Bool
deriving DecidableEq, Repr

def PolWord.of (w : Nat) : PolWord := ⟨signed 25 (bits w 0 25), signed 25 (bits w 25 25), bits w 50 13, bit w 63⟩

def PolWord.word (p : PolWord) : Nat :=
  unsign 25 p.c + unsign 25 p.e * 2 ^ 25 + p.prof % 8192 * 2 ^ 50 + b2n p.init * 2 ^ 63

def Dev.policer (d : Dev) (n : Nat) : PolWord := .of (leNat (d.record 0x12 n 8))

def Dev.setPolicer (d : Dev) (n : Nat) (p : PolWord) : Dev := d.setRec 0x12 n (toLE p.word 8)

/-- A profile record (R272). -/
structure Profile where
  cir      : Nat
  eir      : Nat
  cbs      : Nat
  ebs      : Nat
  div      : Nat
  mode     : Nat
  redDrop  : Bool
  couple   : Bool
  overhead : Int
  gate     : Nat
  gateOn   : Bool
deriving DecidableEq, Repr

def Profile.of (r : Bytes) : Profile :=
  let m := leAt r 12 1
  ⟨leAt r 0 3, leAt r 3 3, leAt r 6 3, leAt r 9 3, bits m 0 3, bits m 3 2, bit m 5, bit m 6, signed 7 (leAt r 13 1),
    bits (leAt r 14 2) 0 10, bit (leAt r 14 2) 15⟩

/-- The active copy of a profile; its pending copy stands at 8,192 + n (R570). -/
def Dev.profile (d : Dev) (n : Nat) : Profile := .of (d.record 0x13 n 16)

/-- The lowest value of a bucket (R274). -/
def bucketFloor : Int := -(2 ^ 24)

/-- Debit the named buckets. -/
def PolWord.debit (p : PolWord) (c e : Bool) (b : Nat) : PolWord :=
  { p with c := if c then max bucketFloor (p.c - b) else p.c, e := if e then max bucketFloor (p.e - b) else p.e }

/-- B of R269: a length plus the profile's overhead, at least 1. -/
def chargeOf (len : Nat) (overhead : Int) : Nat := (max 1 ((len : Int) + overhead)).toNat

/-- The colour of a charge and the buckets it debits (R273): 0 green, 1 yellow, 2 red. -/
def colourOf (mode pre : Nat) (p : PolWord) (b : Nat) : Nat × Bool × Bool :=
  let inC := decide ((b : Int) ≤ p.c)
  let inE := decide ((b : Int) ≤ p.e)
  if 2 ≤ pre then (2, false, false)
  else if mode = 1 then
    if pre = 0 then (if !inE then (2, false, false) else if !inC then (1, false, true) else (0, true, true))
    else if inE then (1, false, true) else (2, false, false)
  else if mode = 2 then
    if pre = 0 && inC then (0, true, false) else if inE then (1, false, true) else (2, false, false)
  else if inC then (0, true, false) else (2, false, false)

/-- What a POLICE action comes to: colour, whether it drops, the IPV it sets, and the charge that trails. -/
structure Policed where
  colour : Nat
  drop   : Bool
  ipv    : Option Nat
  trail  : Option Charge
deriving DecidableEq, Repr

/-- FLC of the refill engine, and of a policer's bank in its home replica (R299, R182, R185). -/
def flcRefill : Nat := flc 34 0 0

/-- The residue of a policer's update fails: it is filled at its next visit (R277). -/
def Dev.policerFault (d : Dev) (k : Clock) (n : Nat) : Dev :=
  ((d.setPolicer n { d.policer n with init := true }).setBit F.EG_SCHED_STICKY 0).event k 548 flcRefill

/-- The meter of a policer, once its gate has let the frame pass (R273, R274, R277). -/
def Dev.meter (d : Dev) (k : Clock) (n pre b : Nat) (ipv : Option Nat) (gate : Option Nat) (west residueOk : Bool) :
    Policed × Dev :=
  let w := d.policer n
  let p := d.profile w.prof
  let (colour, c, e) := colourOf p.mode pre w b
  if !residueOk then (⟨pre, false, ipv, none⟩, d.policerFault k n)
  else
    (⟨colour, colour == 2 && p.redDrop, ipv, if colour = 2 then none else some ⟨n, c, e, gate, west⟩⟩,
      d.setPolicer n (w.debit c e b))

/-- A POLICE action (R165, R273, R279): policer, pre-colour, frame length charged now, replica of the lantern. -/
def Dev.police (d : Dev) (k : Clock) (n pre len : Nat) (west residueOk : Bool) : Policed × Dev :=
  let p := d.profile (d.policer n).prof
  let b := chargeOf len p.overhead
  if !p.gateOn then d.meter k n pre b none none west residueOk
  else
    let s := d.sgateSays k p.gate
    let dropped : Policed := ⟨2, true, none, none⟩
    if !d.sgateOpen k p.gate then (dropped, d.sgateDrop k p.gate len false)
    else
      let ipv := if s.ipvOn then some s.ipv else none
      match s.start with
      | none => d.meter k n pre b ipv (some p.gate) west residueOk
      | some at_ =>
        let now := d.octets p.gate west at_
        if s.max_ != 0 && s.max_ < now + b then (dropped, d.sgateDrop k p.gate len true)
        else (d.setOctets p.gate west at_ (now + b)).meter k n pre b ipv (some p.gate) west residueOk

/-- One trailing charge of a number of bytes (R274, R279). -/
def Dev.trail (d : Dev) (k : Clock) (c : Charge) (n : Nat) (residueOk : Bool) : Dev :=
  let d1 := match c.gate with
    | none => d
    | some g => match (d.sgateSays k g).start with
      | none => d
      | some at_ => d.setOctets g c.west at_ (d.octets g c.west at_ + n)
  if residueOk then d1.setPolicer c.policer ((d1.policer c.policer).debit c.c c.e n) else d1.policerFault k c.policer

/-- TRAILING_CHARGE: the frame's reception has ended, and its policers take what lies beyond 512 bytes; a jabber
counts to its cut (R274). -/
def trailingCharge (fid : Nat) (residueOk : Bool) (k : Clock) (d : Dev) : Dev :=
  match d.frame? fid with
  | none => d
  | some f =>
    match f.ended with
    | none => d
    | some o =>
      let len := if o = .jabber then 16384 else f.rxLen
      let d1 := d.setFrame fid { f with charges := [] }
      (f.charges.foldl (fun d c => d.trail k c (len - 512) residueOk) d1).retire fid

def execTrailingCharge (frame : Nat) (residueOk : Bool) (s : State) : Host.Outcome State Fault Refusal :=
  onDev (trailingCharge frame residueOk) s

/-! Refill (R275, R276). -/

/-- The credit of one crediting refill. -/
def PolWord.credit (w : PolWord) (p : Profile) : PolWord :=
  let c := w.c + p.cir
  let over_ := max 0 (c - p.cbs)
  let e := if p.mode = 2 && p.couple then min (p.ebs : Int) (w.e + p.eir + over_)
    else if p.mode != 0 then min (p.ebs : Int) (w.e + p.eir) else w.e
  { w with c := min (p.cbs : Int) c, e := e }

/-- The assignments POLICER_SET has made of a policer that wait for a visit, oldest first. -/
def Dev.assigned (d : Dev) : List Wait :=
  d.smi.waits.filter (fun w => match w.kind with
    | .policer _ => w.req.u 0 1 == 1
    | _ => false)

/-- One visit of a policer in tick t. -/
def Dev.visit (d : Dev) (k : Clock) (t n : Nat) (residueOk : Bool) : Dev :=
  let w0 := (d.assigned.filter (fun w => w.req.u 4 4 == n)).foldl
    (fun (w : PolWord) x => { w with prof := x.req.u 8 2, init := w.init || x.req.flagAt 1 0 }) (d.policer n)
  let p := d.profile w0.prof
  let w1 : PolWord := if w0.init then { w0 with c := p.cbs, e := p.ebs, init := false } else w0
  if t % 2 ^ p.div != 0 then d.setPolicer n w1
  else if residueOk then d.setPolicer n (w1.credit p)
  else (d.setPolicer n w1).policerFault k n

/-- Every pending profile copy becomes active (R275). -/
def Dev.profilesTake (d : Dev) : Dev :=
  let base := 0x13 * 2 ^ 24 + 8192
  let pend := trange d.index base (base + 8192)
  pend.foldl (fun d e => d.setRec 0x13 (e.1 - base) e.2) ({ d with index := tclear d.index base (base + 8192) } : Dev)
    |>.set F.EG_PROFILE_PENDING 0

/-- The policers a tick changes: those whose word is not 0, those named by a waiting assignment, and all of them when
profile 0 credits an untouched word. -/
def Dev.visited (d : Dev) : List Nat :=
  let base := 0x12 * 2 ^ 24
  let named := (trange d.index base (base + 262144)).map (fun e => e.1 - base)
  if (PolWord.of 0).credit (d.profile 0) = PolWord.of 0 then
    named ++ ((d.assigned.map (fun w => w.req.u 4 4)).eraseDups).filter (fun n => !named.contains n)
  else List.range 262144

/-- REFILL_TICK: shaping time reaches the next multiple of 8,192 ns (R275). -/
def refillTick (bad : List Nat) (k : Clock) (d : Dev) : Dev :=
  let n := d.get64 F.EG_REFILL_NUM_LO F.EG_REFILL_NUM_HI + 1
  if d.isHeld 34 || k.shape < n * 8192 * 2 ^ 32 then d
  else
    let d1 := (d.set64 F.EG_REFILL_NUM_LO F.EG_REFILL_NUM_HI n).profilesTake
    let d2 := d1.visited.foldl (fun d i => d.visit k n i (!bad.contains i)) d1
    let done := d2.smi.waits.filter (fun w => match w.kind with
      | .policer _ => true
      | _ => false)
    done.foldl (fun d w => d.bumpGen.finish k w Rep.ok) d2

def execRefillTick (bad : List Nat) (s : State) : Host.Outcome State Fault Refusal := onDev (refillTick bad) s

/-! POLICER_SET. -/

def policerSetCheck (q : Req) (_ : Mach) : Option Nat :=
  let prof := q.u 0 1 != 1
  let f := q.u 20 1
  badParam (if prof then 24 else 10) (if prof then [(0, 2), (4, 20)] else [(0, 2), (4, 6)])
    [(0, 1 < q.u 0 1), (1, 2 ≤ q.u 1 1), (4, (if prof then 8191 else 262143) < q.u 4 4),
     (8, !prof && 8191 < q.u 8 2), (14, prof && q.u 14 3 = 0),
     (17, prof && (bits f 3 2 = 1 || bits f 3 2 = 2) && q.u 17 3 = 0),
     (20, prof && (bits f 3 2 = 3 || bit f 7)), (21, prof && bit (q.u 21 1) 7),
     (22, prof && bits (q.u 22 2) 10 5 != 0)] q.params

/-- A refusal sets POLICER_CFG_ERR (R276). -/
def policerRefused (m : Mach) : Mach := m.onDev (fun _ d => d.setBit F.EG_SCHED_STICKY 5)

/-- POLICER_SET: the pending copy is written, or the assignment waits for the policer's next visit (R276). -/
def policerSet (q : Req) (m : Mach) : Res :=
  let d := m.dev
  let n := d.get64 F.EG_REFILL_NUM_LO F.EG_REFILL_NUM_HI + 1
  if q.u 0 1 = 1 then .later m (.policer n)
  else
    let was := (tget? d.index (0x13 * 2 ^ 24 + 8192 + q.u 4 4)).isSome
    let d1 := d.setRec 0x13 (8192 + q.u 4 4) (sliceZ q.params 8 16)
    .later (m.setDev (if was then d1 else d1.inc F.EG_PROFILE_PENDING)) (.policer n)

def execPolicerSet (q : Req) (s : State) : Host.Outcome State Fault Refusal :=
  onMach (smiemOr policerRefused 0x0062 policerSetCheck (fun _ => false) policerSet q) s

end Sys2Proof.Machine
end

