-- ==== Sys2Proof/Machine/Wicks.lean ====
section
/-! DEFINITION. The twin wicks (R332 to R348): roles, snuff, takeover, halt, trim, relight and FORCE. -/

namespace Sys2Proof.Machine
open Sys2Proof

/-! Roles (R332). -/

def wkOff : Nat := 0
def wkActive : Nat := 1
def wkReady : Nat := 2
def wkLighting : Nat := 3
def wkSnuffed : Nat := 4
def wkHeld : Nat := 5

/-- State of a wick. -/
def Dev.wick (d : Dev) (l : Nat) (w : Wick) : Nat :=
  match w with
  | .a => d.get (F.WICK_ROLE_STATE_A l)
  | .b => d.get (F.WICK_ROLE_STATE_B l)

/-- ACTIVE_WICK and HALTED as the states stand. -/
def Dev.showRoles (d : Dev) (l : Nat) : Dev :=
  let a := d.wick l .a == wkActive
  let b := d.wick l .b == wkActive
  let d1 := d.setB (F.WICK_ROLE_HALTED l) (!a && !b)
  if a || b then d1.setB (F.WICK_ROLE_ACTIVE_WICK l) b else d1

/-- Give a wick a state. -/
def Dev.setWick (d : Dev) (l : Nat) (w : Wick) (st : Nat) : Dev :=
  ((match w with
    | .a => d.set (F.WICK_ROLE_STATE_A l) st
    | .b => d.set (F.WICK_ROLE_STATE_B l) st).showRoles l)

/-- The wick whose results are used: during an overlap window the twin of the wick that snuffs (R338). -/
def Dev.activeWick (d : Dev) (l : Nat) : Option Wick :=
  match (d.lantern l).overlap with
  | some w => some w.other
  | none => if d.wick l .a = wkActive then some .a else if d.wick l .b = wkActive then some .b else none

/-- Does a wick receive the headers dealt now (R332). -/
def Dev.receives (d : Dev) (l : Nat) (w : Wick) : Bool :=
  (d.lantern l).overlap != some w &&
    (d.wick l w == wkActive || d.wick l w == wkReady || d.wick l w == wkLighting)

/-- Is a header held by a wick. -/
def Header.has (h : Header) (w : Wick) : Bool :=
  match w with
  | .a => h.inA
  | .b => h.inB

def Header.drop (h : Header) (w : Wick) : Header :=
  match w with
  | .a => { h with inA := false }
  | .b => { h with inB := false }

/-- A wick that is held in reset loses its headers (R334). -/
def Dev.emptyWick (d : Dev) (l : Nat) (w : Wick) : Dev :=
  let x := d.lantern l
  d.setLantern l { x with stages := x.stages.map (fun e => (e.1, e.2.map (fun h => h.drop w))) }

/-- All the headers in a lantern's chains. -/
def Lantern.headers (x : Lantern) : List Header := (x.stages.map (·.2)).flatten

/-! Discards of undecided frames. -/

/-- Count a frame's discard with the bytes received, or leave the count to the end of its reception (R525). -/
def Dev.countFrame (d : Dev) (fid i : Nat) : Dev :=
  match d.frame? fid with
  | none => d
  | some f =>
    if f.ended.isSome then d.count i (if f.ended = some .jabber then 16384 else f.rxLen)
    else d.setFrame fid { f with owes := f.owes ++ [i] }

/-- Discard a frame whose decision will not be made: counted, its cells freed (R60, R341, R366). -/
def Dev.dropUndecided (d : Dev) (k : Clock) (fid i : Nat) : Dev := (d.countFrame fid i).settle k fid 0 0

/-! Snuffs (R335 to R341). -/

/-- FLC of a wick's stage for a fault (R337). -/
def flcStage (l : Nat) (w : Wick) (chain stage cause bank : Nat) : Nat :=
  if cause = 3 then flcFull 0 l w.num (chain * 32 + stage) 0 0 cellNone
  else if cause = 4 then flcFull 0 l w.num (chain * 32 + stage) (1 + bank) 0 cellNone
  else flc l w.num (chain * 32 + stage)

/-- A fault as it is recorded: wick, cause, chain, stage, dispatch bank, and the word it arose in. -/
structure WickFault where
  wick   : Wick
  cause  : Nat
  chain  : Nat
  stage  : Nat
  bank   : Nat
  op     : Nat
  wordId : Nat
deriving DecidableEq, Repr

def WickFault.flc (f : WickFault) (l : Nat) : Nat := flcStage l f.wick f.chain f.stage f.cause f.bank

/-- DATA_B of a snuff record (R517). -/
def snuffData (cause dup op wordId : Nat) : Nat := cause % 16 + dup % 8 * 16 + op % 256 * 2 ^ 8 + wordId % 65536 * 2 ^ 16

/-- SNUFF_INFO, SNUFF_FLC and SNUFF_TIME. -/
def Dev.snuffRegs (d : Dev) (k : Clock) (l : Nat) (f : WickFault) : Dev :=
  d.setAll [(F.SNUFF_INFO_CAUSE l, f.cause), (F.SNUFF_INFO_WICK l, f.wick.num), (F.SNUFF_INFO_DUP_COUNT l, 0),
    (F.SNUFF_INFO_OPCODE l, f.op), (F.SNUFF_INFO_WORD_ID l, f.wordId), (F.WK_SNUFF_FLC_LO l, f.flc l),
    (F.WK_SNUFF_FLC_HI l, f.flc l / 2 ^ 32), (F.WK_SNUFF_TIME_LO l, k.ns), (F.WK_SNUFF_TIME_HI l, k.sec)]

/-- A fault is recorded and counted for its wick. -/
def Dev.recordSnuff (d : Dev) (k : Clock) (l : Nat) (f : WickFault) : Dev :=
  let c := match f.wick with
    | .a => F.WK_SNUFF_COUNT_A l
    | .b => F.WK_SNUFF_COUNT_B l
  (d.snuffRegs k l f).satInc c

/-- The lantern's task beside its wick states ends or begins; BUSY follows. -/
def Dev.setTask (d : Dev) (l : Nat) (t : WickTask) : Dev :=
  (d.setLantern l { d.lantern l with task := t }).setB (F.WICK_ROLE_BUSY l) (t != .none)

def Dev.endTrims (d : Dev) (k : Clock) (l : Nat) (rep : Rep) : Dev :=
  d.finishAll k (fun w => match w with
    | .trim x => x == l
    | _ => false) rep

def Dev.endRelights (d : Dev) (k : Clock) (l : Nat) (rep : Rep) : Dev :=
  d.finishAll k (fun w => match w with
    | .relight x _ => x == l
    | _ => false) rep

/-! FORCE (R347). -/

/-- May a trim begin (R343). -/
def Dev.trimFree (d : Dev) (l : Nat) : Bool :=
  let x := d.lantern l
  x.task == .none && x.overlap.isNone &&
    match d.activeWick l with
    | none => false
    | some w => d.wick l w.other == wkReady

/-- A wick is placed in HELD. -/
def Dev.hold_ (d : Dev) (l : Nat) (w : Wick) : Dev := (d.setWick l w wkHeld).emptyWick l w

/-- FORCE acts; a value that has no effect leaves the field as it was. -/
def Dev.forceNow (d : Dev) (l v : Nat) : Dev :=
  if v = 0 || v = 3 then
    let free := fun (d : Dev) (w : Wick) => if d.wick l w = wkHeld then d.setWick l w wkSnuffed else d
    (free (free d .a) .b).set (F.WICK_CTRL_FORCE l) v
  else
    let sole : Wick := if v = 1 then .a else .b
    let x := d.lantern l
    if x.overlap.isSome || x.task != .none then d
    else if d.wick l sole = wkActive then (d.hold_ l sole.other).set (F.WICK_CTRL_FORCE l) v
    else if d.wick l sole = wkReady && d.trimFree l then
      (d.setTask l (.trim none (some sole))).set (F.WICK_CTRL_FORCE l) v
    else d

/-- A write of FORCE: it waits for a relight in progress (R348). -/
def Dev.forceWrite (d : Dev) (l v : Nat) : Dev :=
  match (d.lantern l).task with
  | .relight _ _ _ => d.setLantern l { d.lantern l with force := some v }
  | _ => d.forceNow l v

/-- A relight has ended: a FORCE that waited acts. -/
def Dev.forceLate (d : Dev) (l : Nat) : Dev :=
  match (d.lantern l).force with
  | none => d
  | some v => (d.setLantern l { d.lantern l with force := none }).forceNow l v

/-- A relight ends because its wick snuffs or is reset. -/
def Dev.relightLost (d : Dev) (k : Clock) (l : Nat) : Dev :=
  ((d.setTask l .none).endRelights k l ⟨stIntegrity, 0, 0⟩).forceLate l

/-- Drop the reference R340 holds on a frame; the cells of a frame that still waits for its stream request's answer
stay. -/
def Dev.dropExtra (d : Dev) (fid : Nat) : Dev :=
  match d.frame? fid with
  | none => d
  | some f =>
    let f1 : Frame := { f with later := f.later - 1 }
    if f.decided then ((f.cells.foldl Dev.unref d).setFrame fid f1).retire fid
    else
      let lower := fun (d : Dev) (i : Nat) => match tget? d.bm.cells i with
        | none => d
        | some c => { d with bm := { d.bm with cells := tset d.bm.cells i { c with refs := c.refs - 1 } } }
      (f.cells.foldl lower d).setFrame fid f1

/-- The overlap window ends: its references are dropped. -/
def Dev.endOverlap (d : Dev) (l : Nat) : Dev :=
  let x := d.lantern l
  let d1 := (d.setLantern l { x with overlap := none, presented := [], extra := [] }).setB (F.WICK_ROLE_OVERLAP l) false
  x.extra.foldl Dev.dropExtra d1

/-- Slots are added to a class of the census (R532). -/
def Dev.slots (d : Dev) (lo hi : Fld) (n : Nat) : Dev := d.set64 lo hi (d.get64 lo hi + n)

/-- The lantern halts (R341): its headers are discarded, and an abandoned trim replies (R343). -/
def Dev.halt (d : Dev) (k : Clock) (l flcData data : Nat) : Dev :=
  let hs := (d.lantern l).headers
  let d0 := d.slots (F.PC_VOID_LO l) (F.PC_VOID_HI l) (hs.foldl (fun n h => n + h.words) 0)
  let d1 := (d0.setLantern l { d0.lantern l with stages := [] }).endOverlap l
  let d2 := hs.foldl (fun d h => d.dropUndecided k h.fid (cPort (((d.frame? h.fid).map Frame.ingress).getD 0) 13)) d1
  let d3 := (d2.setB (F.WICK_STICKY_HALT_SEEN l) true).eventData k (16 * l + 10) 0 flcData data
  d3.endTrims k l ⟨stIntegrity, 0, 0⟩

/-- The overlap window of a takeover opens (R338): of each chain the newest result the snuffing wick presented may be
presented again. -/
def Dev.takeover (d : Dev) (l : Nat) (w : Wick) : Dev :=
  let x := d.lantern l
  let newest := (List.range 4).filterMap (fun c => ((x.reorder.filter (fun h => h.chain == c)).getLast?).map Header.pos)
  ((d.setLantern l { x with overlap := some w, presented := newest }).setTask l .none).setB (F.WICK_ROLE_OVERLAP l) true

/-- Both wicks are out of service and the lantern halts. -/
def Dev.snuffBoth (d : Dev) (k : Clock) (l : Nat) (f : WickFault) : Dev :=
  let d1 := ((d.setWick l .a wkSnuffed).setWick l .b wkSnuffed).setTask l .none
  d1.halt k l (f.flc l) (snuffData f.cause 0 f.op f.wordId)

/-- The active wick snuffs with no READY twin (R336, R348): a relight in step 1 or 2 goes on, one in LIGHTING ends. -/
def Dev.snuffAlone (d : Dev) (k : Clock) (l : Nat) (f : WickFault) : Dev :=
  let y := f.wick.other
  let d1 := d.setWick l f.wick wkSnuffed
  let d2 := if d.wick l y = wkLighting then
      (d1.setWick l y wkSnuffed).relightLost k l
    else d1
  d2.halt k l (f.flc l) (snuffData f.cause 0 f.op f.wordId)

/-- A wick that is not active snuffs (R336): a trim whose marker is not dealt is refused, a LIGHTING wick's relight
ends (R348). -/
def Dev.snuffStandby (d : Dev) (k : Clock) (l : Nat) (f : WickFault) : Dev :=
  let lighting := d.wick l f.wick == wkLighting
  let trimming := match (d.lantern l).task with
    | .trim _ _ => true
    | _ => false
  let d1 := ((d.setWick l f.wick wkSnuffed).emptyWick l f.wick).setB (F.WICK_STICKY_STANDBY_SNUFF_SEEN l) true
  let d2 := d1.eventData k (16 * l + 9) 0 (f.flc l) (snuffData f.cause 0 f.op f.wordId)
  if lighting then
    (d2.setB (F.WICK_STICKY_RELIGHT_FAIL l) true).relightLost k l
  else if trimming then (d2.setTask l .none).endTrims k l ⟨stBusy, 0, 0⟩
  else d2

/-- One wick samples a fault (R336, R338, R348). -/
def Dev.snuff (d : Dev) (k : Clock) (l : Nat) (f : WickFault) : Dev :=
  let x := d.lantern l
  let d0 := d.recordSnuff k l f
  let dealt := match x.task with
    | .trim (some _) _ => true
    | _ => false
  if x.overlap.isSome then d0.snuffBoth k l f
  else if dealt then d0.takeover l f.wick
  else if d.activeWick l = some f.wick then
    (if d.wick l f.wick.other = wkReady then d0.takeover l f.wick else d0.snuffAlone k l f)
  else d0.snuffStandby k l f

/-- The faults sampled at one word boundary, at most one of each wick (R348). -/
def Dev.snuffs (d : Dev) (k : Clock) (l : Nat) (fs : List WickFault) : Dev :=
  match fs with
  | [] => d
  | [f] => d.snuff k l f
  | f :: g :: _ =>
    let relit := d.wick l f.wick = wkLighting || d.wick l g.wick = wkLighting
    let d1 := ((d.recordSnuff k l f).recordSnuff k l g).snuffBoth k l g
    if relit then (d1.setB (F.WICK_STICKY_RELIGHT_FAIL l) true).relightLost k l else d1

/-- OVERLAP_WINDOW_CLOSE: the takeover completes (R338 steps 4 to 6, R340, R343). -/
def overlapClose (l : Nat) (k : Clock) (d : Dev) : Dev :=
  match (d.lantern l).overlap with
  | none => d
  | some w =>
    let d1 := ((((d.endOverlap l).setWick l w wkSnuffed).setWick l w.other wkActive).emptyWick l w).setB
      (F.WICK_STICKY_TAKEOVER_SEEN l) true
    let code := d1.get (F.WK_SNUFF_FLC_LO l) + 2 ^ 32 * d1.get (F.WK_SNUFF_FLC_HI l)
    let data := snuffData (d1.get (F.SNUFF_INFO_CAUSE l)) (d1.get (F.SNUFF_INFO_DUP_COUNT l)) (d1.get (F.SNUFF_INFO_OPCODE l))
      (d1.get (F.SNUFF_INFO_WORD_ID l))
    (d1.eventData k (16 * l + 8) 0 code data).endTrims k l ⟨stIntegrity, 0, 0⟩

def execOverlapWindowClose (lantern : Fin 32) (s : State) : Host.Outcome State Fault Refusal := onDev (overlapClose lantern) s

/-! Trim (R343, R344). -/

def wickTrim (q : Req) (m : Mach) : Res :=
  let l := q.u 0 1
  if m.dev.trimFree l then .later (m.setDev (m.dev.setTask l (.trim none none))) (.trim l)
  else .done m ⟨stBusy, 0, 0⟩

def execWickTrim (q : Req) (s : State) : Host.Outcome State Fault Refusal :=
  onMach (smiem 0x0080 (fun q _ => badParam 1 [(0, 1)] [(0, 31 < q.u 0 1)] q.params) (fun _ => false) wickTrim q) s

/-- FLC of a wick. -/
def flcWick (l : Nat) (w : Wick) : Nat := flc l w.num 255

/-- TRIM_COMPLETE: the last result of the old active has been released, and the roles change. -/
def trimComplete (l : Nat) (k : Clock) (d : Dev) : Dev :=
  let x := d.lantern l
  match x.task, d.activeWick l with
  | .trim mk force, some w =>
    if (x.headers ++ x.reorder).any (fun h => match mk with
      | some p => decide (h.pos < p)
      | none => true) then d
    else
      let d1 := (((d.setWick l w wkReady).setWick l w.other wkActive).setTask l .none).inc (F.WK_TRIM_COUNT l)
      let d2 := (d1.setB (F.WICK_STICKY_TRIM_DONE l) true).event k (16 * l + 11) (flcWick l w.other)
      let d3 := match force with
        | some sole => d2.hold_ l sole.other
        | none => d2
      d3.endTrims k l Rep.ok
  | _, _ => d

def execTrimComplete (lantern : Fin 32) (s : State) : Host.Outcome State Fault Refusal := onDev (trimComplete lantern) s

/-- Is an instant of R344 reached in the present second. -/
def Dev.trimInstant (d : Dev) (k : Clock) (l : Nat) : Bool :=
  let p := d.get (F.WICK_CTRL_TRIM_PERIOD l)
  let off := d.get (F.WICK_CTRL_TRIM_OFFSET l) % (p * 60) * 60
  p != 0 && d.flag F.TU_TIME_VALID && off ≤ k.sec && (k.sec - off) % (p * 3600) == 0

/-- AUTOMATIC_TRIM: the Sconce's trim at an instant of R344; a trim refused is tried once more 1 s later. -/
def automaticTrim (l : Nat) (k : Clock) (d : Dev) : Dev :=
  let x := d.lantern l
  let begin_ := fun (d : Dev) => d.setTask l (.trim none none)
  if !d.flag F.SM_FW_READY then d
  else if x.retry = some k.sec then
    let d1 := d.setLantern l { x with retry := none }
    if d1.trimFree l then begin_ d1 else d1
  else if d.trimInstant k l && x.served != some k.sec then
    let d1 := d.setLantern l { x with served := some k.sec, retry := if d.trimFree l then none else some (k.sec + 1) }
    if d.trimFree l then begin_ d1 else d1
  else d

def execAutomaticTrim (lantern : Fin 32) (s : State) : Host.Outcome State Fault Refusal := onDev (automaticTrim lantern) s

/-! Relight (R345, R346). -/

def wickOf (q : Req) : Wick := if q.u 1 1 = 0 then .a else .b

/-- A relight is refused for a wick that is ACTIVE, READY, LIGHTING or HELD (R346). -/
def wickRelightCheck (q : Req) (m : Mach) : Option Nat :=
  let st := m.dev.wick (q.u 0 1) (wickOf q)
  badParam 2 [(0, 2)] [(0, 31 < q.u 0 1), (1, 1 < q.u 1 1 || st = wkActive || st = wkReady || st = wkLighting || st = wkHeld)]
    q.params

def wickRelight (q : Req) (m : Mach) : Res :=
  let l := q.u 0 1
  let x := m.dev.lantern l
  if x.task != .none || x.overlap.isSome then .done m ⟨stBusy, 0, 0⟩
  else .later (m.setDev (m.dev.setTask l (.relight (wickOf q) 1 0))) (.relight l (wickOf q))

def execWickRelight (q : Req) (s : State) : Host.Outcome State Fault Refusal :=
  onMach (smiem 0x0081 wickRelightCheck (fun _ => false) wickRelight q) s

/-- RELIGHT_SCRUB_COMPLETE: step 1 ends; an uncorrectable word is named by chain, stage and store (0 control store, 1 and
2 the dispatch banks). -/
def relightScrub (l : Nat) (bad : Option (Fin 4 × Fin 20 × Fin 3)) (k : Clock) (d : Dev) : Dev :=
  match (d.lantern l).task, bad with
  | .relight w 1 _, none => d.setTask l (.relight w 2 0)
  | .relight w 1 _, some (c, s, b) =>
    let f : WickFault := ⟨w, if b.val = 0 then 3 else 4, c, s, b.val - 1, 0, 0⟩
    let d1 := ((d.snuffRegs k l f).setWick l w wkSnuffed).setB (F.WICK_STICKY_RELIGHT_FAIL l) true
    (d1.eventData k (16 * l + 11) 0 (f.flc l) f.cause).relightLost k l
  | _, _ => d

def execRelightScrubComplete (lantern : Fin 32) (bad : Option (Fin 4 × Fin 20 × Fin 3)) (s : State) :
    Host.Outcome State Fault Refusal := onDev (relightScrub lantern bad) s

/-- The relight ends well. -/
def Dev.relit (d : Dev) (k : Clock) (l : Nat) (w : Wick) : Dev :=
  (((d.setTask l .none).event k (16 * l + 11) (flcWick l w)).endRelights k l Rep.ok).forceLate l

/-- RELIGHT_BUBBLE: step 3. The wick enters LIGHTING; in a halted lantern it enters ACTIVE. -/
def relightBubble (l : Nat) (k : Clock) (d : Dev) : Dev :=
  let x := d.lantern l
  match x.task with
  | .relight w 2 _ =>
    if x.overlap.isSome then d
    else if (d.activeWick l).isNone then (d.setWick l w wkActive).relit k l w
    else (d.setWick l w wkLighting).setTask l (.relight w 3 x.nextPos)
  | _ => d

def execRelightBubble (lantern : Fin 32) (s : State) : Host.Outcome State Fault Refusal := onDev (relightBubble lantern) s

/-- RELIGHT_READY: the last header dealt before the bubble has left stage 19. -/
def relightReady (l : Nat) (k : Clock) (d : Dev) : Dev :=
  let x := d.lantern l
  match x.task with
  | .relight w 3 b => if x.headers.any (fun h => h.pos < b) then d else (d.setWick l w wkReady).relit k l w
  | _ => d

def execRelightReady (lantern : Fin 32) (s : State) : Host.Outcome State Fault Refusal := onDev (relightReady lantern) s

/-! WICK_STATUS (R442). -/

def Dev.regWord (d : Dev) (off : Nat) : Nat := wordOf ((fieldsAt off).map (fun f => (f, d.get f)))

def wickStatus (q : Req) (_ : Clock) (d : Dev) : Dev × Rep :=
  let base := (F.WICK_ROLE_STATE_A (q.u 0 1)).off - 4
  let w := fun o => toLE (d.regWord (base + o)) 4
  let rec_ := w 4 ++ w 0x10 ++ w 0x14 ++ w 0x18 ++ w 0x1C ++ w 0x20 ++ w 0x24 ++ w 0x28 ++ w 0x2C ++ w 8
  let (n, d1) := d.bufWrite (q.u 8 8) (q.u 16 4) 64 [padTo rec_ 64]
  (d1, ⟨if n = 0 then stPartial else stOk, n, 0⟩)

def wickStatusCheck (q : Req) (_ : Dev) : Option Nat :=
  badParam 20 [(0, 1), (8, 12)] [(0, 31 < q.u 0 1)] q.params

def execWickStatus (q : Req) (s : State) : Host.Outcome State Fault Refusal :=
  onMach (smiemDev 0x0082 wickStatusCheck wickStatus q) s

end Sys2Proof.Machine
end

