-- ==== Sys2Proof/Machine/Chains.lean ====
section
/-! DEFINITION. The parse-and-classify chains (R58 to R60, R143 to R172): the header FIFO, dealing, control words,
lookups and actions. -/

namespace Sys2Proof.Machine
open Sys2Proof

/-! The header vector (R156). Metadata offsets count from byte 256. -/

def mFrameLen : Nat := 2
def mDest : Nat := 16
def mClass : Nat := 18
def mFlags : Nat := 19
def mMirror : Nat := 20
def mReason : Nat := 22
def mRecircOp : Nat := 23
def mStream : Nat := 24
def mDelta : Nat := 26
def mLayers : Nat := 27
def mCursor : Nat := 28
def mHash : Nat := 30
def mLayerOff : Nat := 34
def mResultT : Nat := 42
def mResultB : Nat := 48

/-- A metadata field of w bytes. -/
def Header.m (h : Header) (o w : Nat) : Nat := leAt h.hv (256 + o) w

def Header.setM (h : Header) (o w v : Nat) : Header := { h with hv := putBytes h.hv (256 + o) (toLE v w) }

/-- Set n bits of a metadata byte from bit lo. -/
def Header.putM (h : Header) (o lo n v : Nat) : Header := h.setM o 1 (putBits (h.m o 1) lo n v)

def Header.resultB (h : Header) : Bytes := sliceZ h.hv (256 + mResultB) 16

def Header.hitB (h : Header) : Bool := bit (h.m mResultB 1) 0
def Header.hitT (h : Header) : Bool := bit (h.m (mResultT + 4) 2) 15

/-- The offset a layer selects (R165): 0 is the window start. -/
def Header.layerOff (h : Header) (n : Nat) : Option Nat :=
  if n = 0 then some 0
  else if n ≤ 4 && bit (h.m mLayers 1) n then some (h.m (mLayerOff + 2 * (n - 1)) 2 % 512) else none

/-! The ingress header FIFO (R60, R126). -/

/-- LEVEL and PEAK of a lantern's header FIFO. -/
def Dev.showFifo (d : Dev) (l : Nat) : Dev :=
  let n := (d.lantern l).fifo.length
  d.setAll [(F.HDR_FIFO_STATUS_LEVEL l, n), (F.HDR_FIFO_STATUS_PEAK l, max n (d.get (F.HDR_FIFO_STATUS_PEAK l)))]

/-- LEVEL and PEAK of a lantern's reorder unit. -/
def Dev.showReorder (d : Dev) (l : Nat) : Dev :=
  let n := (d.lantern l).reorder.length
  d.setAll [(F.REORDER_STATUS_LEVEL l, n), (F.REORDER_STATUS_PEAK l, max n (d.get (F.REORDER_STATUS_PEAK l)))]

/-- STA_MATCH of a destination address at a port (R126): the lowest enabled entry that equals it. -/
def Dev.staMatch (d : Dev) (p da : Nat) : Nat :=
  match (List.range 8).find? (fun j => d.flag (F.STA_ADDR_HI_EN p j) &&
      d.get (F.STA_ADDR_HI_ADDR_HI p j) * 2 ^ 32 + d.get (F.STA_ADDR_LO_ADDR_LO p j) == da) with
  | none => 0
  | some j => j + 8 + 16 * d.get (F.STA_ADDR_HI_MODE p j)

/-- HEADER_WINDOW_COMPLETE: 512 bytes of a frame, or all of it, have been received; the header enters its lantern's FIFO
or its frame is discarded (R60). -/
def headerComplete (fid : Nat) (k : Clock) (d : Dev) : Dev :=
  match d.frame? fid with
  | none => d
  | some f =>
    let l := f.ingress / 16
    let done := decide (512 ≤ f.bytes.length) || f.ended == some .good
    if 512 ≤ f.via || f.pass != 1 || f.headed || f.refused || f.decided || !done || etherType f.bytes == 0x8808 || d.isHeld l then d
    else
      let x := d.lantern l
      if 128 ≤ x.fifo.length then
        let d1 := (d.setFrame fid { f with refused := true }).dropUndecided k fid (cPort f.ingress 12)
        (d1.setB (F.HDR_FIFO_STATUS_HDR_FIFO_DROP l) true).event k (16 * l + 13) (flcMac f.ingress)
      else
        let d1 := d.setFrame fid { f with headed := true, staMatch := d.staMatch f.ingress (beAt f.bytes 0 6) }
        let d2 := (d1.setLantern l { x with fifo := x.fifo ++ [fid] }).showFifo l
        if x.fifo.length + 1 = 64 then d2.perf l 2 else d2

def execHeaderWindowComplete (frame : Nat) (s : State) : Host.Outcome State Fault Refusal := onDev (headerComplete frame) s

/-! Dealing (R36, R49, R58, R156, R157). -/

/-- Ticks in 20 µs (R49). -/
def passLimit : Nat := 15625

/-- Opcodes 0xFE and 0xFF given as an entry opcode act as 0xFE (R148, R179). -/
def entryOf (op : Nat) : Nat := if 0xFE ≤ op then 0xFE else op

/-- The vector of a header as it is dealt (R156). -/
def dealtVector (f : Frame) (len hash : Nat) : Bytes :=
  List.replicate 256 0 ++ toLE f.ingress 2 ++ toLE (len % 16384) 2 ++ toLE f.rxTs 4 ++
    [byte (if f.pass = 1 then f.staMatch else 0), byte f.pass, byte (entryOf f.entryOp), byte (b2n (f.pass != 1))] ++
    toLE f.gen 2 ++ toLE f.passStart 2 ++ List.replicate 11 0 ++ [1] ++ toLE 0 2 ++ toLE hash 4 ++ List.replicate 30 0

/-- The header of a frame, dealt at a position to a chain. FRAME_LEN of a frame still in reception is not given by the
manual (free value). -/
def Dev.dealHeader (d : Dev) (l fid pos chain : Nat) (f : Frame) : Header × Dev :=
  let window := f.bytes.take 512
  let seed := d.get (F.HASH_SEED l)
  let hash := if f.pass = 1 then crc32cSeed seed (sliceZ window 0 14) else f.flowHash
  let (len, d1) := if f.ended.isSome then (f.rxLen, d) else d.draw 14
  (⟨pos, fid, chain, dealtVector f len hash, window, entryOf f.entryOp, entryOf f.entryOp, [], none, .fresh, [], 0, seed,
    d.get (F.PUNT_CFG_PUNT_CLASS l), f.ended.isSome, d.receives l .a, d.receives l .b, 0⟩, d1)

/-- The frame whose header a lantern deals next, and whether it is a front-port one (R58). -/
def Lantern.nextDeal (x : Lantern) : Option (Nat × Bool) :=
  match x.fifo, x.recirc with
  | [], [] => none
  | f :: _, [] => some (f, true)
  | [], r :: _ => some (r, false)
  | f :: _, r :: _ => if 64 ≤ x.fifo.length || !x.turn then some (f, true) else some (r, false)

/-- A trim's marker goes with the first header dealt after it (R343). -/
def WickTask.mark (t : WickTask) (pos : Nat) : WickTask :=
  match t with
  | .trim Option.none f => .trim (Option.some pos) f
  | t => t

/-- Deal one frame's header. -/
def Dev.dealFrame (d : Dev) (k : Clock) (l fid : Nat) (front : Bool) (f : Frame) : Dev :=
  let x := d.lantern l
  let f1 : Frame := if f.pass = 1 then
      { f with gen := d.rules.gen, passStart := k.tick, entryOp := d.get (F.ENTRY_OP f.ingress) }
    else f
  let (h, d1) := d.dealHeader l fid x.nextPos x.chain f1
  let i := x.chain * 20
  let x1 : Lantern := { x with
    fifo := if front then x.fifo.drop 1 else x.fifo
    recirc := if front then x.recirc else x.recirc.drop 1
    turn := front
    chain := (x.chain + 1) % 4
    nextPos := x.nextPos + 1
    stages := tset x.stages i (tgetD x.stages i [] ++ [h])
    task := x.task.mark x.nextPos }
  (((d1.setFrame fid f1).setLantern l x1).showFifo l).perf l (if front then 0 else 1)

/-- HEADER_DEAL: to the next chain, when its stage 0 can accept; a frame whose further pass would start more than 20 µs
after its first is discarded (R49). -/
def headerDeal (l : Nat) (k : Clock) (d : Dev) : Dev :=
  let x := d.lantern l
  match x.nextDeal with
  | none => d
  | some (fid, front) =>
    if (d.activeWick l).isNone || d.isHeld l || d.dealersHeld then d
    else if 24 ≤ (tgetD x.stages (x.chain * 20) []).length then d.perf l 3
    else match d.frame? fid with
      | none => d.setLantern l (if front then { x with fifo := x.fifo.drop 1 } else { x with recirc := x.recirc.drop 1 })
      | some f =>
        if !front && f.passStart + passLimit < k.tick then
          (d.setLantern l { x with recirc := x.recirc.drop 1 }).dropUndecided k fid (cGlobal 0)
        else d.dealFrame k l fid front f

def execHeaderDeal (lantern : Fin 32) (s : State) : Host.Outcome State Fault Refusal := onDev (headerDeal lantern) s

/-! Control words. -/

/-- What a header's opcode selects in a stage (R147, R148). -/
inductive Sel where
  | builtIn
  | bad
  | word (w : Nat)
deriving DecidableEq, Repr

def Dev.select (d : Dev) (h : Header) (stage op : Nat) : Sel :=
  if 0xFE ≤ op then .builtIn
  else
    let e := d.dispatch (h.gen % 2) stage op
    if bit e 9 then .word (d.controlWord stage (bits e 0 9)) else .bad

/-- WORD_ID of the word an opcode selects. -/
def Sel.id : Sel → Nat
  | .word w => bits w 496 16
  | _ => 0

/-- A sticky bit of the chains is set; event 16 × L + 5 asserts when one of its four bits becomes set (R180). -/
def Dev.chainSeen (d : Dev) (k : Clock) (l : Nat) (h : Header) (stage : Nat) (f : Fld) : Dev :=
  if d.flag f then d
  else
    let w := (d.activeWick l).getD .a
    (d.setB f true).event k (16 * l + 5) (flc l w.num (h.chain * 32 + stage))

/-- PUNT_LAST and PUNT_LAST_OP (R170, R179). -/
def Dev.puntLast (d : Dev) (l : Nat) (h : Header) (p : Failure) : Dev :=
  d.setAll [(F.PUNT_LAST_STAGE l, p.stage), (F.PUNT_LAST_CHAIN l, h.chain), (F.PUNT_LAST_REASON l, p.reason),
    (F.PUNT_LAST_WORD_ID l, p.wordId), (F.PUNT_LAST_OP_OPCODE l, p.opcode),
    (F.PUNT_LAST_OP_INGRESS_PORT l, h.m 0 2), (F.PUNT_LAST_OP_PASS l, h.m 9 1)]

/-- Mark a header as punted with a reason. -/
def Header.punted (h : Header) (p : Failure) : Header :=
  { ((h.putM mFlags 2 1 1).setM mReason 1 p.reason) with punt := some p }

/-- A punt of reason 0x01 to 0x06 (R167), with its sticky bit. -/
def Dev.puntBy (d : Dev) (k : Clock) (l : Nat) (h : Header) (p : Failure) : Dev :=
  let d1 := d.puntLast l h p
  match p.reason with
  | 1 => d1.chainSeen k l h p.stage (F.CHAIN_STICKY_PARSE_FAIL_SEEN l)
  | 2 => d1.chainSeen k l h p.stage (F.CHAIN_STICKY_BAD_OPCODE_SEEN l)
  | 4 => d1.chainSeen k l h p.stage (F.CHAIN_STICKY_NO_DECISION_SEEN l)
  | 5 => d1.setB (F.CHAIN_STICKY_TTL_EXPIRED_SEEN l) true
  | 6 => d1.chainSeen k l h p.stage (F.CHAIN_STICKY_EDIT_LIMIT_SEEN l)
  | _ => d1

/-- A failure: the header is punted and takes opcode 0xFE (R148, R155). -/
def Dev.fails (d : Dev) (k : Clock) (l : Nat) (h : Header) (p : Failure) : Header × Dev :=
  let h1 := h.punted p
  ({ h1 with op := 0xFE }, d.puntBy k l h1 p)

/-! The parse of a word (R150 to R155). -/

/-- The window bytes a word reads, as (offset from the cursor, length). -/
def wordReads (w : Nat) : List (Nat × Nat) :=
  (wordExts w).filterMap (fun e => if e.2.1 = 0 then none else some (e.1, e.2.1)) ++
    (if bit w 132 then [(bits w 133 9, 2)] else []) ++ (if bit w 100 then [(bits w 110 9, 1)] else [])

/-- Does a word read beyond the window (R155). -/
def Header.outOfRange (h : Header) (w : Nat) : Bool :=
  bit w 0 && (511 < h.cursor || (wordReads w).any (fun r => h.window.length < h.cursor + r.1 + r.2))

/-- The advance of a word (R153). -/
def Header.advance (h : Header) (w : Nat) : Nat :=
  let c := bits w 101 9
  if bit w 100 then
    c + (((byteAt h.window (h.cursor + bits w 110 9)).toNat / 2 ^ bits w 119 3) &&& bits w 122 4) * 2 ^ bits w 126 2
  else c

/-- Extracts and the layer mark (R152). -/
def Header.parse (h : Header) (w : Nat) : Header :=
  if !bit w 0 then h
  else
    let hv := (wordExts w).foldl (fun hv e =>
      if e.2.1 = 0 then hv else putBytes hv e.2.2 (sliceZ h.window (h.cursor + e.1) e.2.1)) h.hv
    let h1 : Header := { h with hv := hv }
    let n := bits w 128 3
    if n = 0 || 4 < n then h1 else (h1.setM (mLayerOff + 2 * (n - 1)) 2 (h.cursor % 512)).putM mLayers n 1 1

/-- The key of a word, padded to 40 bytes (R159). -/
def Header.keyOf (h : Header) (w : Nat) : Bytes :=
  sliceZ ((wordKeys w).map (fun s => sliceZ h.hv s.1 s.2)).flatten 0 40

/-- How many wicks hold a header. -/
def Header.wicks (h : Header) : Nat := b2n h.inA + b2n h.inB

/-- A stage begins its word on a header: the parse, and its lookups are issued. -/
def Dev.beginWord (d : Dev) (k : Clock) (l stage : Nat) (h : Header) : Header × Dev :=
  let h0 : Header := { h with disp := h.op, phase := .waiting false false }
  match d.select h stage h.op with
  | .builtIn => if stage = 0 && h.op = 0xFE then d.fails k l h0 ⟨2, 0, 0, 0xFE⟩ else (h0, d)
  | .bad => d.fails k l h0 ⟨2, stage, 0, h.op⟩
  | .word w =>
    if h.outOfRange w then d.fails k l h0 ⟨1, stage, bits w 496 16, h.op⟩
    else
      let h1 := h0.parse w
      let look := bit w 1
      let d1 := if look && readNeedsBank (bits w 264 8) h1.resultB then d.perf l 4 else d
      let d2 := if bit w 2 then (d1.perf l 5).spend 4 h.wicks else d1
      ({ h1 with key := h1.keyOf w, phase := .waiting look (bit w 2) }, d2)

/-! Edits (R164, R166). -/

/-- WINDOW_DELTA as a signed number. -/
def Header.delta (h : Header) : Int := signed 8 (h.m mDelta 1)

/-- Where an action stands: lantern, stage, WORD_ID and the opcode of its word, and whether the word looks up. -/
structure Site where
  l      : Nat
  stage  : Nat
  wordId : Nat
  op     : Nat
  look   : Bool
deriving DecidableEq, Repr

/-- A punt of the device's own during a word: the header runs on. -/
def Dev.puntAt (d : Dev) (k : Clock) (s : Site) (h : Header) (reason : Nat) : Header × Dev :=
  let p : Failure := ⟨reason, s.stage, s.wordId, s.op⟩
  (h.punted p, d.puntBy k s.l h p)

/-- Append edits that address bytes of the window, unless a limit of R166 is passed. -/
def Dev.addEdits (d : Dev) (k : Clock) (s : Site) (h : Header) (es : List Edit) (inside : Bool) (grow : Int) : Header × Dev :=
  let delta := h.delta + grow
  if !inside || 16 < h.edits.length + es.length || delta < -128 || 64 < delta then d.puntAt k s h 6
  else ({ (h.setM mDelta 1 (unsign 8 delta)) with edits := h.edits ++ es }, d)

/-- SET_FIELD, PUSH and POP. -/
def Dev.actEdit (d : Dev) (k : Clock) (s : Site) (h : Header) (op v : Nat) : Header × Dev :=
  let len := bits v 9 6
  match h.layerOff (bits v 23 3) with
  | none => d.puntAt k s h 6
  | some o =>
    let at_ := o + bits v 15 8
    let data := sliceZ h.hv (bits v 0 9) len
    if op = 0x0B then d.addEdits k s h [.set at_ data] (decide (at_ + len ≤ h.window.length)) 0
    else if op = 0x0C then d.addEdits k s h [.push at_ data] (decide (at_ < h.window.length)) len
    else d.addEdits k s h [.pop at_ len] (decide (at_ + len ≤ h.window.length)) (-(len : Int))

/-- DEC_TTL. -/
def Dev.actTtl (d : Dev) (k : Clock) (s : Site) (h : Header) (v : Nat) : Header × Dev :=
  let v6 := bit v 0
  match h.layerOff (bits v 23 3) with
  | none => d.puntAt k s h 6
  | some o =>
    let inside := decide (o + (if v6 then 8 else 12) ≤ h.window.length)
    if inside && (byteAt h.window (o + if v6 then 7 else 8)).toNat ≤ 1 then d.puntAt k s h 5
    else d.addEdits k s h [.ttl o v6] inside 0

/-- An action that the device refuses (R166, R216). -/
def Dev.actRefused (d : Dev) (s : Site) : Dev := d.setB (F.CHAIN_STICKY_ACT_REFUSED s.l) true

/-- APPLY_NH (R198, R216). -/
def Dev.actApplyNh (d : Dev) (k : Clock) (s : Site) (h : Header) : Header × Dev :=
  let b := h.resultB
  let t := leAt b 0 1 / 16
  let target := leAt b 2 2
  let kind := target / 2 ^ 14
  if !h.hitB then (h, d.actRefused s)
  else if t = 1 then (h.setM mDest 2 target, d)
  else if t = 6 && (kind = 1 || kind = 2) then
    let fl := leAt b 10 1
    let mac := d.get (F.ROUTER_MAC_HI (leAt b 13 1)) * 2 ^ 32 + d.get (F.ROUTER_MAC_LO (leAt b 13 1))
    let tagged := etherType h.window == 0x8100 || etherType h.window == 0x88A8
    let es := (if bit fl 0 then [Edit.set 0 (sliceZ b 4 6)] else []) ++ (if bit fl 1 then [Edit.set 6 (toBE mac 6)] else []) ++
      (if bit fl 2 && tagged then [Edit.vid 14 (leAt b 11 2 % 4096)] else [])
    d.addEdits k s (h.setM mDest 2 (if 16 < h.edits.length + es.length then h.m mDest 2 else target)) es true 0
  else (h, d.actRefused s)

/-- POLICE (R165, R273, R274, R279). -/
def Dev.actPolice (d : Dev) (k : Clock) (s : Site) (h : Header) (v : Nat) (residueOk : Bool) : Header × Dev :=
  let cc := h.m mClass 1
  let len := if h.full then h.m mFrameLen 2 % 16384 else 512
  let (r, d1) := d.police k (bits v 0 18) (if bit v 18 then bits cc 3 2 else 0) len (decide (16 ≤ s.l)) residueOk
  let h1 := h.putM mClass 3 2 r.colour
  let h2 := if r.drop then (h1.putM mClass 6 1 1).setM mReason 1 1 else h1
  let h3 := match r.ipv with
    | none => h2
    | some p => h2.putM mClass 0 3 p
  let d2 := match r.trail, d1.frame? h.fid with
    | some c, some f => if h.full then d1 else d1.setFrame h.fid { f with charges := f.charges ++ [c] }
    | _, _ => d1
  (h3, (d2.spend 2 1).spend 3 1)

/-- LEARN: the lantern holds the request until the frame's reception has ended (R200). -/
def Dev.actLearn (d : Dev) (s : Site) (h : Header) : Header × Dev :=
  let x := d.lantern s.l
  (h.putM mFlags 3 1 1, d.setLantern s.l { x with learns := x.learns ++ [(h.fid, h.key.take 8)] })

/-- One action word of a control word (R165). -/
def Dev.act (d : Dev) (k : Clock) (s : Site) (h : Header) (a : Nat) (residueOk : Bool) : Header × Dev :=
  let v := bits a 0 26
  match bits a 26 6 with
  | 0x01 => (h.setM mDest 2 (2 ^ 14 + v % 1024), d)
  | 0x02 => (h.setM mDest 2 (2 ^ 15 + v % 16384), d)
  | 0x03 => ((h.putM mClass 6 1 1).setM mReason 1 v, d)
  | 0x04 => (((h.putM mFlags 0 1 1).putM mFlags 4 3 (bits v 8 3)).setM mReason 1 v, d)
  | 0x05 => (h.setM mMirror 2 (h.m mMirror 2 ||| 2 ^ (v % 16)), d)
  | 0x06 => d.actPolice k s h v residueOk
  | 0x07 => (h, d.countFrame h.fid (v % 2 ^ 21))
  | 0x08 => (if bit v 5 then h.putM mClass 0 5 (v % 32) else h.putM mClass 0 3 v, d)
  | 0x09 => ((h.putM mFlags 1 1 1).setM mRecircOp 1 v, d)
  | 0x0A => ((h.putM mClass 5 1 1).setM mStream 2 (v % 16384), d)
  | 0x0B => d.actEdit k s h 0x0B v
  | 0x0C => d.actEdit k s h 0x0C v
  | 0x0D => d.actEdit k s h 0x0D v
  | 0x0E => d.actTtl k s h v
  | 0x0F => (h.punted ⟨v % 256, s.stage, s.wordId, s.op⟩, d)
  | 0x10 => d.actLearn s h
  | 0x11 => (h.setM mHash 4 (crc32cSeed h.seed (sliceZ h.hv (bits v 17 9) (bits v 11 6))), d)
  | 0x12 => ({ h with hv := putBytes h.hv (bits v 18 8) (toBE (v % 65536) 2) }, d)
  | 0x13 => ({ h with hv := putBytes h.hv (bits v 18 8) (sliceZ h.hv (bits v 9 9) (bits v 3 6)) }, d)
  | 0x14 => d.actApplyNh k s h
  | _ => (h, d)

/-- An action word taken from a result (R166). -/
def Dev.actResult (d : Dev) (k : Clock) (s : Site) (h : Header) (a : Nat) (residueOk : Bool) : Header × Dev :=
  if !actOk a then (h, d.setB (F.CHAIN_STICKY_ACT_UNDEF s.l) true)
  else if (bits a 26 6 = 0x06 && s.look) || bits a 26 6 = 0x10 then (h, d.actRefused s)
  else d.act k s h a residueOk

/-! The end of a word (R152, R154, R171). -/

/-- The action slots and the result words. -/
def Dev.actions (d : Dev) (k : Clock) (s : Site) (w : Nat) (h : Header) (residueOk : Bool) : Header × Dev :=
  let r1 := if bit w 3 then (wordActs w).foldl (fun (p : Header × Dev) a => p.2.act k s p.1 a residueOk) (h, d) else (h, d)
  let r2 := if bit w 472 && bit w 2 && r1.1.hitT then r1.2.actResult k s r1.1 (r1.1.m mResultT 4) residueOk else r1
  if bit w 473 && s.look && bits w 264 8 = 8 && r2.1.hitB then
    r2.2.actResult k s r2.1 (leAt r2.1.resultB 12 4) residueOk
  else r2

/-- The selector field: of a word that does not parse, a value the manual does not give (free value). -/
def Dev.selector (d : Dev) (h : Header) (w : Nat) : Nat × Dev :=
  if bit w 0 then (beAt h.window (h.cursor + bits w 133 9) 2, d) else d.draw 16

/-- The next opcode of a word, less a NO_MATCH punt (R154, 2 to 6). -/
def Dev.nextOp (d : Dev) (h : Header) (w : Nat) (missed : Bool) : Nat × Dev :=
  if bit w 4 then (0xFF, d)
  else if missed then (bits w 332 8, d)
  else if bit w 262 && bit w 1 && h.hitB && leAt h.resultB 1 1 != 0 then (leAt h.resultB 1 1, d)
  else if !bit w 132 then (bits w 254 8, d)
  else
    let (sel, d1) := d.selector h w
    let mask := bits w 142 16
    match (List.range 4).find? (fun i => (sel &&& mask) == (bits w (158 + 16 * i) 16 &&& mask)) with
    | some i => (bits w (222 + 8 * i) 8, d1)
    | none => (bits w 254 8, d1)

/-- The word of a header ends: actions, the next opcode, the cursor. -/
def Dev.endWord (d : Dev) (k : Clock) (l stage : Nat) (h : Header) (residueOk : Bool) : Header × Dev :=
  match d.select h stage h.op with
  | .word w =>
    let s : Site := ⟨l, stage, bits w 496 16, h.op, bit w 1⟩
    let (h1, d1) := d.actions k s w h residueOk
    let missed := (bit w 1 || bit w 2) && !(bit w 1 && h1.hitB) && !(bit w 2 && h1.hitT)
    let cursor := if bit w 0 then h.cursor + h.advance w else h.cursor
    let moved := fun (h : Header) => ({ (h.setM mCursor 2 (cursor % 512)) with cursor := cursor } : Header)
    if missed && bit w 5 then
      let (h2, d2) := d1.fails k l h1 ⟨3, stage, bits w 496 16, h.op⟩
      (moved h2, d2)
    else
      let (op, d2) := d1.nextOp h1 w missed
      ({ (moved h1) with op := op }, d2)
  | _ => (h, d)

/-! Stages. -/

def Dev.stageList (d : Dev) (l i : Nat) : List Header := tgetD (d.lantern l).stages i []

def Dev.setStage (d : Dev) (l i : Nat) (hs : List Header) : Dev :=
  d.setLantern l { d.lantern l with stages := tput (d.lantern l).stages i [] hs }

/-- Put a header back in its stage, by its position. -/
def Dev.setHeader (d : Dev) (l i : Nat) (h : Header) : Dev :=
  d.setStage l i ((d.stageList l i).map (fun x => if x.pos = h.pos then h else x))

/-- May a header leave stage `i % 20` of a chain: its successor, or the reorder unit, has room (R143, R145). -/
def Dev.stageRoom (d : Dev) (l i : Nat) : Bool :=
  if i % 20 = 19 then decide ((d.lantern l).reorder.length < 2048) else decide ((d.stageList l (i + 1)).length < 24)

/-- A header leaves its stage. -/
def Dev.leaveStage (d : Dev) (l i : Nat) (h : Header) : Dev :=
  let d1 := d.setStage l i ((d.stageList l i).filter (fun x => x.pos != h.pos))
  let h1 : Header := { h with phase := .fresh }
  if i % 20 != 19 then d1.setStage l (i + 1) (d1.stageList l (i + 1) ++ [h1])
  else
    let d2 := match d1.frame? h.fid with
      | none => d1
      | some f => d1.setFrame h.fid { f with flowHash := h.m mHash 4 }
    let x := d2.lantern l
    ((d2.setLantern l { x with reorder := x.reorder ++ [h1] }).showReorder l).slots (F.PC_WORK_LO l) (F.PC_WORK_HI l) h.words

/-- Is a wick in service, so that its self-checks count. -/
def Dev.inService (d : Dev) (l : Nat) (w : Wick) : Bool := d.receives l w

/-- The faults of a word, at most one of each wick: the lowest cause (R335, R348). -/
def Dev.wordFaults (d : Dev) (l stage : Nat) (h : Header) (faults : List (Wick × List Nat)) : List WickFault :=
  let word := d.select h stage h.disp
  [Wick.a, Wick.b].filterMap (fun w =>
    match ((faults.filter (fun f => f.1 == w)).map (·.2)).flatten.filter (fun c => 1 ≤ c && c ≤ 5) with
    | [] => none
    | c :: cs =>
      let cause := cs.foldl min c
      if h.has w && d.inService l w then
        some ⟨w, cause, h.chain, stage, h.gen % 2, h.disp, word.id⟩
      else none)

/-- The oldest header of a stage completes its word there: faults are sampled first, and what they leave in service ends
the word (R171, R336, R338). -/
def Dev.finishStage (d : Dev) (k : Clock) (l i : Nat) (h : Header) (faults : List (Wick × List Nat)) (residueOk : Bool) : Dev :=
  let d1 := d.snuffs k l (d.wordFaults l (i % 20) h faults)
  if (d1.activeWick l).isNone then d1
  else match (d1.stageList l i).find? (fun x => x.pos == h.pos) with
    | none => d1
    | some h1 =>
      let (h2, d2) := d1.endWord k l (i % 20) h1 residueOk
      let loaded := match d1.select h1 (i % 20) h1.op with
        | .word _ => true
        | _ => false
      let d3 := if loaded then d2 else d2.slots (F.PC_VOID_LO l) (F.PC_VOID_HI l) 1
      (d3.spend 0 h1.wicks).leaveStage l i { h2 with words := h2.words + b2n loaded }

/-- A single-bit error in a control word or dispatch entry was corrected at fetch (R171, R180). -/
def Dev.corrected (d : Dev) (k : Clock) (l chain stage : Nat) (c : Option Wick) : Dev :=
  match c with
  | none => d
  | some w =>
    if d.flag (F.CHAIN_STICKY_CSTORE_CORRECTED l) then d
    else (d.setB (F.CHAIN_STICKY_CSTORE_CORRECTED l) true).event k (16 * l + 7) (flc l w.num (chain * 32 + stage))

def Header.ready (h : Header) : Bool := h.phase == .waiting false false

/-- STAGE_EXECUTE: a stage completes its oldest header when its lookups are done and its successor has room; otherwise
it begins the word of the first header that has none begun, and completes it when it is the oldest and looks nothing up. -/
def stageExecute (l chain stage : Nat) (faults : List (Wick × List Nat)) (fixed : Option Wick) (residueOk : Bool)
    (k : Clock) (d : Dev) : Dev :=
  let i := chain * 20 + stage
  match d.stageList l i with
  | [] => d
  | h :: hs =>
    if d.isHeld l then d
    else if h.ready && d.stageRoom l i then d.finishStage k l i h faults residueOk
    else match (h :: hs).find? (fun x => x.phase == .fresh) with
      | none => d
      | some x =>
        let (x1, d1) := (d.corrected k l chain stage fixed).beginWord k l stage x
        let d2 := d1.setHeader l i x1
        if x.pos = h.pos && x1.ready && d2.stageRoom l i then d2.finishStage k l i x1 faults residueOk else d2

def execStageExecute (lantern : Fin 32) (chain : Fin 4) (stage : Fin 20) (faults : List (Wick × List Nat))
    (fixed : Option Wick) (residueOk : Bool) (s : State) : Host.Outcome State Fault Refusal :=
  onDev (stageExecute lantern chain stage faults fixed residueOk) s

/-- BUSHEL_READ_COMPLETE: RESULT_B of both wicks is written (R40, R160, R194). -/
def bushelDone (l chain stage place : Nat) (e1 e2 : ReadErr) (k : Clock) (d : Dev) : Dev :=
  let i := chain * 20 + stage
  match (d.stageList l i)[place]? with
  | none => d
  | some h =>
    match h.phase, d.select h stage h.op with
    | .waiting true t, .word w =>
      let learns := bit w 3 && (wordActs w).any (fun a => bits a 26 6 == 0x10)
      let (b, d1) := d.bushelRead k (decide (16 ≤ l)) learns (bits w 264 8) h.key h.resultB e1 e2
      d1.setHeader l i { h with hv := putBytes h.hv (256 + mResultB) b, phase := .waiting false t }
    | _, _ => d

def execBushelReadComplete (lantern : Fin 32) (chain : Fin 4) (stage : Fin 20) (place : Fin 24) (first second : ReadErr)
    (s : State) : Host.Outcome State Fault Refusal := onDev (bushelDone lantern chain stage place first second) s

/-- Does a ternary rule match a key (R161). -/
def ruleHits (r key : Bytes) : Bool :=
  bit (leAt r 84 1) 0 && ((beNat key ^^^ beAt r 0 40) &&& beAt r 40 40) == 0

/-- RESULT_T of a search: the lowest rule that matches. -/
def Dev.ternary (d : Dev) (l bank : Nat) (key : Bytes) : Bytes :=
  let base := 0x14 * 2 ^ 24 + ternIndex l bank 0
  match (trange d.index base (base + 2048)).find? (fun e => ruleHits (padTo e.2 96) key) with
  | none => List.replicate 6 0
  | some e => sliceZ e.2 80 4 ++ toLE (e.1 - base + 2 ^ 15) 2

/-- TERNARY_SEARCH_COMPLETE: RESULT_T is written. -/
def ternaryDone (l chain stage place : Nat) (_ : Clock) (d : Dev) : Dev :=
  let i := chain * 20 + stage
  match (d.stageList l i)[place]? with
  | none => d
  | some h =>
    match h.phase with
    | .waiting b true =>
      d.setHeader l i { h with hv := putBytes h.hv (256 + mResultT) (d.ternary l (h.gen % 2) h.key), phase := .waiting b false }
    | _ => d

def execTernarySearchComplete (lantern : Fin 32) (chain : Fin 4) (stage : Fin 20) (place : Fin 24) (s : State) :
    Host.Outcome State Fault Refusal := onDev (ternaryDone lantern chain stage place) s

/-- HANDSHAKE_TIMEOUT: a stage of a wick has held a header for 2 µs while not waiting for the Bushel (R335). -/
def handshakeTimeout (l chain stage : Nat) (w : Wick) (k : Clock) (d : Dev) : Dev :=
  let waits := fun (h : Header) => h.has w && match h.phase with
    | .waiting true _ => false
    | _ => true
  match (d.stageList l (chain * 20 + stage)).find? waits with
  | none => d
  | some h =>
    let op := if h.phase = .fresh then h.op else h.disp
    if d.inService l w then d.snuffs k l [⟨w, 5, chain, stage, h.gen % 2, op, (d.select h stage op).id⟩] else d

def execHandshakeTimeout (lantern : Fin 32) (chain : Fin 4) (stage : Fin 20) (wick : Wick) (s : State) :
    Host.Outcome State Fault Refusal := onDev (handshakeTimeout lantern chain stage wick) s

end Sys2Proof.Machine
end

