-- ==== Sys2Proof/Machine/Release.lean ====
section
/-! DEFINITION. The reorder unit's releases (R145, R167 to R170, R259, R339, R340, R366, R367), the punt policer, and
the sentinels (R71 to R74). -/

namespace Sys2Proof.Machine
open Sys2Proof

/-- The copy of a header's frame, of a kind and class, with the edits it carries. -/
def Header.copy (h : Header) (kind : CopyKind) (cls : Nat) (edits : List Edit) : Copy where
  fid := h.fid
  cls := cls
  colour := bits (h.m mClass 1) 3 2
  edits := edits
  layers := (List.range 5).map h.layerOff
  hash := h.m mHash 4
  pass := h.m 9 1
  pool := 0
  kind := kind
  ct := false
  beacon := false
  waitEof := false
  ecn := none
  rtag := .keep
  chunks := []
  spilling := none
  spilled := false

/-- The copies an output gives: each with its queue. -/
abbrev Outs := List (Nat × Copy)

/-! The punt policer (R169). -/

/-- A copy to the host asks bucket b for one frame of credit; a copy refused is counted against the bucket. -/
def Dev.puntCredit (d : Dev) (k : Clock) (l b fid : Nat) : Bool × Dev :=
  let x := d.lantern l
  let credit := if b = 0 then x.credit0 else x.credit1
  if 1000 ≤ credit then
    (true, d.setLantern l (if b = 0 then { x with credit0 := credit - 1000 } else { x with credit1 := credit - 1000 }))
  else
    let f := if b = 0 then F.CHAIN_STICKY_PUNT_POLICED l else F.CHAIN_STICKY_COPY_POLICED l
    let d1 := d.countFrame fid (cGlobal (128 + 2 * l + b))
    (false, if d.flag f then d1 else (d1.setB f true).event k (16 * l + 6) (flcReorder l))

/-- A copy to the host (R168, R169, R526): counted by its reason, and made when its bucket lets it pass. -/
def Dev.hostCopy (d : Dev) (k : Clock) (l b : Nat) (h : Header) (kind : HostKind) (cls : Nat) (m : HostMeta) : Outs × Dev :=
  let (ok, d1) := (d.countFrame h.fid (cPunt l m.reason)).puntCredit k l b h.fid
  (if ok then [(512 * 8 + cls, h.copy (.host kind m) cls [])] else [], d1)

/-- One refill of a bucket (R169, R179). -/
def refillPunt (credit rate burst : Nat) : Nat := min (credit + max 1 rate) (min 4096 (max 1 burst) * 1000)

/-- PUNT_POLICER_REFILL. -/
def puntRefill (l : Nat) (_ : Clock) (d : Dev) : Dev :=
  let x := d.lantern l
  if d.isHeld l then d
  else d.setLantern l { x with
    credit0 := refillPunt x.credit0 (d.get (F.PUNT_RATE_RATE_0 l)) (d.get (F.PUNT_BURST_BURST_0 l))
    credit1 := refillPunt x.credit1 (d.get (F.PUNT_RATE_RATE_1 l)) (d.get (F.PUNT_BURST_BURST_1 l)) }

def execPuntPolicerRefill (lantern : Fin 32) (s : State) : Host.Outcome State Fault Refusal := onDev (puntRefill lantern) s

/-! Mirroring (R259). -/

/-- MODE of a mirror session (R267): 0b11 acts as 0. -/
def Dev.mirrorMode (d : Dev) (s : Nat) : Nat := if d.get (F.MIR_MODE s) = 3 then 0 else d.get (F.MIR_MODE s)

/-- Does a session copy the frame that now names it (R259). -/
def Dev.mirrorTakes (d : Dev) (s : Nat) : Bool × Dev :=
  let n := d.get (F.MIR_SAMPLE s)
  if n = 0 then (true, d)
  else
    let c := tgetD d.bm.mirror s 0
    (c % 2 ^ n == 0, { d with bm := { d.bm with mirror := tput d.bm.mirror s 0 (c + 1) } })

/-- A mirror copy to a session's destination, with its next sequence number. -/
def Dev.mirrorCopy (d : Dev) (h : Header) (s : Nat) : Outs × Dev :=
  let p := d.get (F.MIR_DEST s)
  let cls := d.get (F.MIR_CLASS s)
  let mode := d.mirrorMode s
  let c := h.copy (.mirror s mode (d.get (F.MIR_SEQ s))) cls []
  if !(p < 518 && d.portExists p) then ([], d.badDest (d.copyLen c))
  else ([(p * 8 + cls, if mode = 2 then { c with layers := [] } else c)], d.inc (F.MIR_SEQ s))

/-- The copies of the sessions a frame names, in session order. -/
def Dev.mirrors (d : Dev) (h : Header) : Outs × Dev :=
  (maskBits (h.m mMirror 2) 16).foldl (fun (acc : Outs × Dev) s =>
    if acc.2.mirrorMode s = 0 then acc
    else
      let (takes, d1) := acc.2.mirrorTakes s
      if takes then
        let (o, d2) := d1.mirrorCopy h s
        (acc.1 ++ o, d2)
      else (acc.1, d1)) ([], d)

/-! The outputs of a released header (R168). -/

/-- What a release comes to: the copies to the ports, the copies to the host and of mirrors, and the stream whose request
gives the former. -/
structure Outputs where
  fwd    : Outs
  others : Outs
  stream : Option (Nat × Copy)
deriving DecidableEq, Repr

/-- The forwarded part of a header that is neither trapped nor punted. -/
def Dev.forwardPart (d : Dev) (k : Clock) (l : Nat) (h : Header) : Outputs × Dev :=
  let cc := h.m mClass 1
  let cls := bits cc 0 3
  let dest := h.m mDest 2
  let kind := dest / 2 ^ 14
  let c := h.copy (.forward none) cls h.edits
  let none_ : Outputs := ⟨[], [], none⟩
  if bit cc 6 then (none_, d.countFrame h.fid (cDrop l (h.m mReason 1)))
  else if bit (h.m mFlags 1) 1 then
    if 4 ≤ h.m 9 1 then (none_, d.countFrame h.fid (cGlobal 0))
    else (⟨[((514 + l / 8) * 8 + cls, { c with kind := .forward (some (h.m mRecircOp 1)) })], [], none⟩, d)
  else if bit cc 5 then (⟨[], [], some (h.m mStream 2 % 16384, { c with beacon := true })⟩, d)
  else if kind = 3 then (none_, d.countFrame h.fid (cGlobal 1))
  else if kind = 1 then
    let (o, d1) := d.toPort (dest % 1024) c
    (⟨o, [], none⟩, d1)
  else if kind = 2 then
    let (o, d1) := d.toGroup (dest % 16384) (h.m 0 2) c
    (⟨o, [], none⟩, d1)
  else
    let p : Failure := ⟨4, 19, 0, h.disp⟩
    let (o, d1) := (d.puntBy k l h p).hostCopy k l 0 h .punt h.puntCls ⟨4, 19, h.chain, 0, h.disp⟩
    (⟨[], o, none⟩, d1)

/-- What R170 reports of the word that punted; for an opcode 0xFE that no failure gave, values the manual does not give
(free values). -/
def Dev.puntMeta (d : Dev) (h : Header) : HostMeta × Dev :=
  match h.punt with
  | some p => (⟨h.m mReason 1, p.stage, h.chain, p.wordId, p.opcode⟩, d)
  | none =>
    let (s, d1) := d.draw 5
    let (w, d2) := d1.draw 16
    let (o, d3) := d2.draw 8
    (⟨h.m mReason 1, s, h.chain, w, o⟩, d3)

/-- The outputs of a header (R168). -/
def Dev.outputs (d : Dev) (k : Clock) (l : Nat) (h : Header) : Outputs × Dev :=
  let fl := h.m mFlags 1
  if bit (h.m 8 1) 4 then
    let cls := d.get (F.FC_CFG_TRAP_CLASS (h.m 0 2))
    let (o, d1) := d.hostCopy k l 0 h .trap cls ⟨7, 19, h.chain, 0, h.disp⟩
    (⟨[], o, none⟩, d1)
  else if bit fl 2 || h.op = 0xFE then
    let (m, d1) := d.puntMeta h
    let (o, d2) := d1.hostCopy k l 0 h .punt h.puntCls m
    let (ms, d3) := d2.mirrors h
    (⟨[], o ++ ms, none⟩, d3)
  else
    let (r, d1) := d.forwardPart k l h
    let (o, d2) := if bit fl 0 then d1.hostCopy k l 1 h .copy (bits fl 4 3) ⟨h.m mReason 1, 0, h.chain, 0, 0⟩ else ([], d1)
    let (ms, d3) := d2.mirrors h
    (⟨r.fwd, r.others ++ o ++ ms, r.stream⟩, d3)

/-- Every output copy is made again at a second release (R339): a mirror copy takes its session's next number. -/
def Dev.again (d : Dev) (os : Outs) : Outs × Dev :=
  os.foldl (fun (acc : Outs × Dev) o => match o.2.kind with
    | .mirror s m _ => (acc.1 ++ [(o.1, { o.2 with kind := .mirror s m (acc.2.get (F.MIR_SEQ s)) })], acc.2.inc (F.MIR_SEQ s))
    | _ => (acc.1 ++ [o], acc.2)) ([], d)

/-- Make the outputs of a frame: admitted, or left to the answer of its stream request (R245, R352). -/
def Dev.makeOutputs (d : Dev) (k : Clock) (l fid : Nat) (o : Outputs) (extra : Nat) : Dev :=
  let d0 := ((o.fwd ++ o.others).filter (fun x => x.1 / 8 == 512)).foldl (fun d _ => d.perf l 6) d
  match o.stream with
  | some (s, c) => d0.beaconRelease k ⟨l, s, fid, c, o.others, extra, 1⟩
  | none =>
    let (n, _, d1) := d0.admitAll k fid (o.fwd ++ o.others)
    d1.settle k fid n extra

/-- The reference R340 holds on every cell of a frame released while an overlap window is open. -/
def Dev.holdExtra (d : Dev) (l fid : Nat) : Dev :=
  match d.frame? fid with
  | none => d
  | some f =>
    let x := d.lantern l
    ((d.addRefs f 1).setFrame fid { f with later := f.later + 1 }).setLantern l { x with extra := x.extra ++ [fid] }

/-- A frame can still leave: its reception goes on or ended well. -/
def Frame.sound (f : Frame) : Bool := !f.refused && (f.ended.isNone || f.ended == some .good)

/-- The result of a header is released, twice when the overlap window gave it twice. -/
def Dev.release (d : Dev) (k : Clock) (l : Nat) (h : Header) (twice : Bool) : Dev :=
  let (o, d1) := d.outputs k l h
  match d1.frame? h.fid with
  | none => d1
  | some f =>
    if !f.sound then d1.settle k h.fid 0 0
    else if (d1.lantern l).overlap.isNone then d1.makeOutputs k l h.fid o 0
    else
      let d2 := (d1.holdExtra l h.fid).makeOutputs k l h.fid o 0
      if !twice then d2
      else
        let (fwd, d3) := d2.again o.fwd
        let (others, d4) := d3.again o.others
        let d5 := d4.makeOutputs k l h.fid ⟨fwd, others, o.stream⟩ 0
        (d5.inc (F.SNUFF_INFO_DUP_COUNT l)).satInc (F.WK_DUP_TOTAL l)

/-- Counter increments whose residue check fails are not applied, and the counters become invalid (R367, R525). -/
def Dev.residues (before after : Dev) (k : Clock) (bad : List Nat) : Dev :=
  bad.foldl (fun d i =>
    let old := tgetD before.ctrs i Ctr.zero
    if tgetD after.ctrs i Ctr.zero = old then d
    else
      let d1 : Dev := { d with ctrs := tset d.ctrs i { old with invalid := true } }
      ((d1.setB F.PC_CNT_RESIDUE true).set F.PC_LAST_BAD_INDEX i).eventData k 656 0 (flc 41 0 255) i) after

/-- The result the reorder unit releases next: the first in dealing order, once no earlier header is in the chains (R36). -/
def Lantern.nextResult (x : Lantern) : Option Header :=
  match x.reorder with
  | [] => none
  | h :: hs =>
    let first := hs.foldl (fun a b => if b.pos < a.pos then b else a) h
    if x.headers.any (fun y => y.pos < first.pos) then none else some first

/-- RESULT_RELEASE. `twice`: both wicks presented it in the overlap window; `error`: its parity failed (R366);
`cntBad`: counters whose increments failed their residue check. -/
def resultRelease (l : Nat) (twice error : Bool) (cntBad : List Nat) (k : Clock) (d : Dev) : Dev :=
  let x := d.lantern l
  match x.nextResult with
  | none => d
  | some h =>
    if d.isHeld l then d
    else
      let dup := twice && x.overlap.isSome && x.presented.contains h.pos
      let d1 := (d.setLantern l { x with
        reorder := x.reorder.filter (fun y => y.pos != h.pos)
        presented := x.presented.filter (· != h.pos) }).showReorder l
      let d2 := if error then
          ((d1.dropUndecided k h.fid (cPort (h.m 0 2) 15)).setB (F.HDR_FIFO_STATUS_STORE_ERR l) true).event k (16 * l + 13)
            (flcReorder l)
        else d1.release k l h dup
      d1.residues d2 k cntBad

def execResultRelease (lantern : Fin 32) (twice error : Bool) (cntBad : List Nat) (s : State) :
    Host.Outcome State Fault Refusal := onDev (resultRelease lantern twice error cntBad) s

/-! Sentinels (R71 to R74). -/

/-- Ticks of a sentinel window. -/
def sentinelTicks (sel : Nat) : Nat := 256 * 4 ^ sel

/-- STAGE_RATE in MHz (R72): a tick is 1.28 ns. -/
def stageRate (count ratio ticks : Nat) : Nat := count * ratio * 100000 / (4096 * ticks * 128)

/-- SENTINEL_WINDOW_END: the handshake counts of the eight rings are published together (R72, R73). -/
def sentinelEnd (l : Nat) (counts : List Nat) (k : Clock) (d : Dev) : Dev :=
  if !d.flag (F.SENTINEL_CTRL_SENTINEL_EN l) || d.isHeld l then d
  else
    let ticks := sentinelTicks (d.get (F.SENTINEL_CTRL_WINDOW_SEL l))
    let count := fun i => counts.getD i 0 % 2 ^ 24
    let rate := fun i => stageRate (count i) (d.get (F.SENTINEL_RATIO_RATIO l i)) ticks % 65536
    let mixed := bit d.chan.moved l || d.flag F.CHANDLER_STATUS_MOVING
    let d1 := (List.range 8).foldl (fun d i => d.setAll [(F.SENTINEL_COUNT_COUNT l i, count i),
      (F.SENTINEL_RATE_STAGE_RATE l i, rate i), (F.SENTINEL_RATE_MIXED l i, b2n mixed), (F.SENTINEL_RATE_VALID l i, 1)]) d
    let best := (List.range 8).foldl (fun a i => if rate i < rate a then i else a) 0
    let d2 := d1.setAll [(F.SENTINEL_MIN_MIN_RATE l, rate best), (F.SENTINEL_MIN_MIN_INDEX l, best), (F.SENTINEL_MIN_VALID l, 1)]
    let moved := if bit d.chan.moved l && !d.flag F.CHANDLER_STATUS_MOVING then d.chan.moved - 2 ^ l else d.chan.moved
    let d3 := d2.onChan (fun c => { c with moved := moved })
    if d.get (F.SENTINEL_FLOOR l) ≤ rate best then d3
    else
      let d4 := d3.setB (F.SENTINEL_MIN_SENTINEL_LOW l) true
      if d.flag (F.SENTINEL_CTRL_ALARM_EN l) then d4.event k (16 * l + 12) (flc l 255 255) else d4

def execSentinelWindowEnd (lantern : Fin 32) (counts : List Nat) (s : State) : Host.Outcome State Fault Refusal :=
  onDev (sentinelEnd lantern counts) s

end Sys2Proof.Machine
end

