-- ==== Sys2Proof/Machine/Edits.lean ====
section
/-! DEFINITION. The egress image of a copy (R121, R124, R138 to R140, R164, R252, R259, R260, R355): edits applied to
the received bytes, mirror encapsulation, segments. -/

namespace Sys2Proof.Machine
open Sys2Proof

/-! Checksums. -/

/-- Ones' complement sum of a byte string's 16-bit words. -/
def onesSum : Bytes → Nat
  | [] => 0
  | [a] => a.toNat * 256
  | a :: b :: t => a.toNat * 256 + b.toNat + onesSum t

/-- A ones' complement sum folded to 16 bits. -/
def onesFold (n : Nat) : Nat :=
  let m := n / 65536 + n % 65536
  (m / 65536 + m % 65536) % 65536

/-- Internet checksum of a byte string. -/
def inetSum (b : Bytes) : Nat := 65535 - onesFold (onesSum b)

/-- Incremental update of a checksum when a 16-bit word goes from old to new. -/
def sumUpdate (sum old new : Nat) : Nat := 65535 - onesFold ((65535 - sum) + (65535 - old) + new)

/-- Put a network-order field. -/
def putBE (b : Bytes) (o w v : Nat) : Bytes := putBytes b o (toBE v w)

/-- Replace a 16-bit word of an IPv4 header at offset o, with its header checksum. -/
def putV4 (b : Bytes) (o at_ new : Nat) : Bytes :=
  putBE (putBE b at_ 2 new) (o + 10) 2 (sumUpdate (beAt b (o + 10) 2) (beAt b at_ 2) new)

/-! Edits (R164). -/

/-- Edits that change bytes in place, in received offsets. -/
def Edit.inPlace (b : Bytes) : Edit → Bytes
  | .set o data => putBytes b o data
  | .ttl o v6 =>
    if v6 then putBytes b (o + 7) [byte ((byteAt b (o + 7)).toNat + 255)]
    else putV4 b o (o + 8) ((beAt b (o + 8) 2 + 65536 - 256) % 65536)
  | .vid o v => putBE b o 2 (beAt b o 2 / 4096 * 4096 + v % 4096)
  | _ => b

/-- Does a POP remove the byte received at offset i. -/
def popped (es : List Edit) (i : Nat) : Bool := es.any (fun e => match e with
  | .pop o n => o ≤ i && i < o + n
  | _ => false)

/-- The bytes pushed at offset i, in list order. -/
def pushedAt (es : List Edit) (i : Nat) : Bytes := (es.filterMap (fun e => match e with
  | .push o b => if o = i then some b else none
  | _ => none)).flatten

/-- Pushes inserted and pops removed, from offset i on. -/
def weave (es : List Edit) : Nat → Bytes → Bytes
  | i, [] => pushedAt es i
  | i, b :: bs => pushedAt es i ++ (if popped es i then [] else [b]) ++ weave es (i + 1) bs

/-- The ECN field of the layer at offset o is set to CE (R252). -/
def markEcn (b : Bytes) (o : Nat) : Bytes :=
  if (byteAt b o).toNat / 16 = 4 then putV4 b o o (beAt b o 2 / 4 * 4 + 3)
  else putBE b o 2 (beAt b o 2 / 64 * 64 + 48 + beAt b o 2 % 16)

/-- What egress does with the redundancy tag (R355, R356). -/
def RTag.apply (b : Bytes) : RTag → Bytes
  | .keep => b
  | .put seq =>
    let o := rtagAt b
    if (rtagSeq b).isSome then putBE b (o + 4) 2 seq
    else b.take o ++ toBE 0xF1C1 2 ++ toBE 0 2 ++ toBE seq 2 ++ b.drop o
  | .remove =>
    let o := rtagAt b
    if (rtagSeq b).isSome then b.take o ++ b.drop (o + 6) else b

/-- The image of a forwarded copy over a frame's bytes. -/
def Copy.edited (c : Copy) (b : Bytes) : Bytes :=
  let b1 := c.edits.foldl Edit.inPlace b
  let b2 := match c.ecn with
    | some o => if popped c.edits (o + 1) then b1 else markEcn b1 o
    | none => b1
  c.rtag.apply (weave c.edits 0 b2)

/-! Bodies. -/

/-- Does a frame hold an FCS in its last four bytes: received on a front port or recirculated, and ended whole. -/
def Frame.hasFcs (f : Frame) : Bool := (f.via < 512 || 514 ≤ f.via) && f.ended.isSome && !f.cut && !f.refused

/-- The bytes of a frame that are read, less its FCS. -/
def Frame.body (f : Frame) (read : Bytes) : Bytes := if f.hasFcs then read.take (f.bytes.length - 4) else read

/-! Mirror encapsulation (R259, R260). -/

/-- A session's address from its two registers: bytes 0 and 1 in the high one. -/
def addr6 (hi lo : Nat) : Bytes := toBE hi 2 ++ toBE lo 4

/-- The GRE copy of a frame's bytes. -/
def Dev.greImage (d : Dev) (f : Frame) (s seq : Nat) (body : Bytes) : Bytes :=
  let n := d.get (F.MIR_TRUNC s) * 64
  let carried := if n = 0 then body else body.take n
  let cut := b2n (n != 0 && n < body.length)
  let vid := d.get (F.MIR_ENC_VID s)
  let tag := if vid = 0 then [] else toBE 0x8100 2 ++ toBE (d.get (F.MIR_CLASS s) * 8192 + vid) 2
  let ip := toBE 0x45 1 ++ toBE (d.get (F.MIR_ENC_DSCP s) * 4) 1 ++ toBE (40 + carried.length) 2 ++ toBE 0 2 ++
    toBE 0x4000 2 ++ toBE (d.get (F.MIR_ENC_TTL s)) 1 ++ toBE 47 1 ++ toBE 0 2 ++ toBE (d.get (F.MIR_ENC_SRC_IP s)) 4 ++
    toBE (d.get (F.MIR_ENC_DST_IP s)) 4
  let mirror := toBE (16 + s) 1 ++ toBE cut 1 ++ toBE (f.ingress % 1024) 2 ++ toBE seq 4 ++ toBE f.rxTs 4 ++
    toBE body.length 2 ++ toBE 0 2
  addr6 (d.get (F.MIR_ENC_DA_HI s)) (d.get (F.MIR_ENC_DA_LO s)) ++ addr6 (d.get (F.MIR_ENC_SA_HI s)) (d.get (F.MIR_ENC_SA_LO s)) ++
    tag ++ toBE 0x0800 2 ++ putBE ip 10 2 (inetSum ip) ++ toBE 0 2 ++ toBE (d.get F.BM_MIRROR_PROTO) 2 ++ mirror ++ carried

/-! Segments (R138 to R140). -/

/-- A send's header as R140 asks for it: where its IP and its transport header begin, IPv6, and UDP. -/
structure SegHeader where
  ip  : Nat
  l4  : Nat
  v6  : Bool
  udp : Bool
deriving DecidableEq, Repr

def segHeader (h : Bytes) : Option SegHeader :=
  let o := rtagAt h
  let ip := o + 2
  let ver := (byteAt h ip).toNat / 16
  let ihl := (byteAt h ip).toNat % 16 * 4
  let finish := fun (l4 proto : Nat) (v6 : Bool) =>
    if proto = 6 && l4 + 20 ≤ h.length then some (⟨ip, l4, v6, false⟩ : SegHeader)
    else if proto = 17 && l4 + 8 ≤ h.length then some ⟨ip, l4, v6, true⟩ else none
  if beAt h o 2 = 0x0800 && ver == 4 && 20 ≤ ihl && ip + ihl ≤ h.length then finish (ip + ihl) (byteAt h (ip + 9)).toNat false
  else if beAt h o 2 = 0x86DD && ver == 6 && ip + 40 ≤ h.length then finish (ip + 40) (byteAt h (ip + 6)).toNat true
  else none

/-- Transport checksum over the pseudo-header and the segment. -/
def l4Sum (b : Bytes) (s : SegHeader) : Nat :=
  let seg := b.drop s.l4
  let addrs := if s.v6 then (b.drop (s.ip + 8)).take 32 else (b.drop (s.ip + 12)).take 8
  65535 - onesFold (onesFold (onesSum seg) + onesSum addrs + seg.length + (if s.udp then 17 else 6))

/-- Segment i of n: the header's copy as the MAC edits it and its part of the payload (R139). -/
def segmentImage (hdr part : Bytes) (i n mss : Nat) : Bytes :=
  match segHeader hdr with
  | none => hdr ++ part
  | some s =>
    let b := hdr ++ part
    let b1 :=
      if s.v6 then putBE b (s.ip + 4) 2 (b.length - s.ip - 40)
      else
        let x := putBE (putBE (putBE b (s.ip + 2) 2 (b.length - s.ip)) (s.ip + 4) 2 (beAt b (s.ip + 4) 2 + i)) (s.ip + 10) 2 0
        putBE x (s.ip + 10) 2 (inetSum ((x.drop s.ip).take (s.l4 - s.ip)))
    if s.udp then
      let b2 := putBE b1 (s.l4 + 4) 2 (b.length - s.l4)
      if !s.v6 && beAt hdr (s.l4 + 6) 2 = 0 then b2
      else
        let b3 := putBE b2 (s.l4 + 6) 2 0
        putBE b3 (s.l4 + 6) 2 (if l4Sum b3 s = 0 then 65535 else l4Sum b3 s)
    else
      let fl := (byteAt hdr (s.l4 + 13)).toNat
      let fl1 := if i = 0 then fl else fl % 128
      let fl2 := if i + 1 = n then fl1 else fl1 / 16 * 16 + fl1 % 8 / 2 * 2
      let b2 := putBE (putBE b1 (s.l4 + 4) 4 (beAt hdr (s.l4 + 4) 4 + i * mss)) (s.l4 + 13) 1 fl2
      let b3 := putBE b2 (s.l4 + 16) 2 0
      putBE b3 (s.l4 + 16) 2 (l4Sum b3 s)

/-- Is a whole send discarded (R140). -/
def segBad (bytes : Bytes) (hdrLen mss maxF : Nat) : Bool :=
  hdrLen < 14 || 256 < hdrLen || (segHeader (bytes.take hdrLen)).isNone || 262144 < bytes.length - hdrLen ||
    4096 < segCount bytes.length hdrLen mss || maxF < hdrLen + mss + 4

/-! Images. -/

/-- What leaves at the egress MAC for a copy, before padding and the FCS, from the bytes its transmission has read. -/
def Dev.content (d : Dev) (c : Copy) (f : Frame) (read : Bytes) : Bytes :=
  match c.kind with
  | .forward _ => c.edited (f.body read)
  | .host _ _ => f.body read
  | .mirror s mode seq => if mode = 2 then d.greImage f s seq (f.body read) else f.body read
  | .inject _ => read
  | .segmented h mss sent _ =>
    let whole := ((c.reads f).zip (List.range (c.reads f).length)).foldl
      (fun b e => putBytes b (256 * e.1) ((read.drop (256 * e.2)).take 256)) f.bytes
    segmentImage (whole.take h) (((whole.drop h).drop (mss * sent)).take mss) sent (segCount f.bytes.length h mss) mss

/-- A stomped FCS is the complement of the correct one (R121). -/
def withFcs (b : Bytes) (stomp : Bool) : Bytes :=
  b ++ toLE (if stomp then 2 ^ 32 - 1 - fcs32 b else fcs32 b) 4

/-- Egress length of a copy as egress would send it now (R269). -/
def Dev.egressLen (d : Dev) (p : Nat) (c : Copy) (f : Frame) : Nat :=
  let n := match c.kind with
    | .segmented h mss sent _ => h + min mss (f.bytes.length - h - mss * sent)
    | _ => (d.content c f f.bytes).length
  if p = 512 || p = 513 then n else max 60 n + 4

end Sys2Proof.Machine
end

