-- ==== Sys2Proof/Machine/Egress.lean ====
section
/-! DEFINITION. Egress scheduling (R269, R282 to R289), shapers and throttle. -/

namespace Sys2Proof.Machine
open Sys2Proof

/-! Shaping time (R270, R284). -/

/-- Shaping time in 2⁻¹⁶ ns. -/
def Clock.shaping (k : Clock) : Nat := k.shape / 2 ^ 16

/-- Width of a wheel slot, 160 ns (R285), in the same unit. -/
def slotWidth : Nat := 160 * 65536

def keyThrottle (q : Nat) : Nat := 8192 + q
def keyPort (p : Nat) : Nat := 16384 + p

/-- Give a shaper its T_NEXT: due, or filed in the wheel (R285). -/
def Dev.setNext (d : Dev) (k : Clock) (key t : Nat) : Dev :=
  let now := k.shaping
  let filed := if t ≤ now then tdel d.egr.filed key
    else tset d.egr.filed key (min (t / slotWidth) (now / slotWidth + 65535))
  { d with egr := { d.egr with next := tset d.egr.next key t, filed := filed } }

/-- Is a shaper due. -/
def Dev.due (d : Dev) (key : Nat) : Bool := (tget? d.egr.filed key).isNone

/-- FLC_ENGINE of a port's scheduler (R299). -/
def schedEngine (p : Nat) : Nat := if p < 512 then p / 16 else 32

/-- A shaper's copy of e bytes is chosen (R284, R287). -/
def Dev.charged (d : Dev) (k : Clock) (p key inc burst e : Nat) (residueOk : Bool) : Dev :=
  if residueOk then d.setNext k key (max (tgetD d.egr.next key 0) (k.shaping - burst * inc) + e * inc)
  else ((d.setNext k key k.shaping).setBit F.EG_SCHED_STICKY 1).event k 549 (flc 34 1 (schedEngine p))

/-- Length charged to a shaper: egress length and the signed OVERHEAD, at least 1 (R269). -/
def shaperLen (e overhead : Nat) : Nat := max 1 ((e : Int) + signed 7 overhead).toNat

/-! The throttle (R288, R289). -/

/-- Rate of a port in Mbit/s: MAC rate, Taper's payload rate at the trained width, or a recirculation port's. -/
def Dev.portRate (d : Dev) (p : Nat) : Nat :=
  if p < 512 then macRate (d.get (F.PORT_CFG_PORT_TYPE p))
  else if p = 512 then d.get F.TAP_WIDTH * 100000 else 1600000

/-- INC of a rate in Mbit/s (R284). -/
def rateInc (m : Nat) : Nat := if m = 0 then 0 else (8000 * 65536 + m / 2) / m

/-- The level in use for a class (R288); class 7 has none (R98). -/
def Dev.throttleLevel (d : Dev) (c : Nat) : Nat :=
  if c = 7 || !bit (d.get F.DEFER_CTRL_DEFER_CLASS) c then 0
  else if d.flag F.FLOOR_OVERRIDE_OVERRIDE_EN then d.get F.CH_THROTTLE_LEVEL
  else min (d.get F.CH_THROTTLE_LEVEL) (256 - d.get F.DEFER_CTRL_THROTTLE_MIN)

/-- Does the throttle hold a class's queues completely. -/
def Dev.throttleHolds (d : Dev) (c : Nat) : Bool :=
  d.flag F.FLOOR_OVERRIDE_OVERRIDE_EN && d.throttleLevel c == 255

/-- INC of a queue's throttle. -/
def Dev.throttleInc (d : Dev) (q : Nat) : Nat :=
  let base := if d.flag (F.EGQ_SHAPE_EN q) && d.get (F.EGQ_INC q) != 0 then d.get (F.EGQ_INC q) else rateInc (d.portRate (q / 8))
  min (2 ^ 32 - 1) (base * 256 / (256 - d.throttleLevel (q % 8)))

/-- Does a queue's throttle let its head start. -/
def Dev.throttleDue (d : Dev) (q : Nat) (c : Copy) : Bool :=
  c.beacon || d.throttleLevel (q % 8) == 0 || (!d.throttleHolds (q % 8) && d.due (keyThrottle q))

/-! Shapers in use (R284, R286). -/

def Dev.queueShaped (d : Dev) (q : Nat) : Bool := d.flag (F.EGQ_SHAPE_EN q) && d.get (F.EGQ_INC q) != 0
def Dev.portShaped (d : Dev) (p : Nat) : Bool := d.flag (F.EGP_SHAPE_EN p) && d.get (F.EGP_INC p) != 0

def Dev.queueDue (d : Dev) (q : Nat) : Bool := !d.queueShaped q || d.due q
def Dev.portDue (d : Dev) (p : Nat) : Bool := !d.portShaped p || d.due (keyPort p)

/-- A copy of egress length e is chosen from a queue: its shapers advance. `bad` names the computations whose residue
check fails: 0 the queue's, 1 the throttle's, 2 the port's. -/
def Dev.chargeAll (d : Dev) (k : Clock) (q : Nat) (c : Copy) (e : Nat) (bad : List Nat) : Dev :=
  let p := q / 8
  let d1 := if d.queueShaped q then
      d.charged k p q (d.get (F.EGQ_INC q)) (d.get (F.EGQ_BURST q)) (shaperLen e (d.get (F.EGQ_OVERHEAD q))) (!bad.contains 0)
    else d
  let d2 := if c.beacon || d1.throttleLevel (q % 8) = 0 then d1
    else d1.charged k p (keyThrottle q) (d1.throttleInc q) (d1.get (F.EGQ_BURST q)) (shaperLen e (d1.get (F.EGQ_OVERHEAD q)))
      (!bad.contains 1)
  if d2.portShaped p then
    d2.charged k p (keyPort p) (d2.get (F.EGP_INC p)) (d2.get (F.EGP_BURST p)) (shaperLen e (d2.get (F.EGP_OVERHEAD p)))
      (!bad.contains 2)
  else d2

/-- CALENDAR_SLOT: the entries of the slots that shaping time has passed are rechecked (R285). -/
def calendarSlot (k : Clock) (d : Dev) : Dev :=
  let passed := d.egr.filed.filter (fun e => (e.2 + 1) * slotWidth ≤ k.shaping)
  if passed.isEmpty || d.isHeld 34 then d
  else (passed.foldl (fun d e => d.setNext k e.1 (tgetD d.egr.next e.1 0)) d).perf 34 1

def execCalendarSlot (s : State) : Host.Outcome State Fault Refusal := onDev calendarSlot s

/-! SHAPER_SET (R286, R440). -/

def shaperSetCheck (q : Req) (d : Dev) : Option Nat :=
  let port := q.u 0 1 == 1
  let id := q.u 2 2
  badParam 16 [(0, 5), (8, 8)] [(0, 1 < q.u 0 1), (1, 1 < q.u 1 1),
    (2, if port then 517 < id || !d.portExists id else 8191 < id || !d.queueExists id),
    (4, q.s 4 1 < -64 || 63 < q.s 4 1), (12, 2 ^ 24 ≤ q.u 12 4)] q.params

def shaperSet (q : Req) (_ : Clock) (d : Dev) : Dev × Rep :=
  let id := q.u 2 2
  let en := b2n (q.flagAt 1 0)
  let over_ := unsign 7 (q.s 4 1)
  let d1 := if q.u 0 1 = 0 then
      d.setAll [(F.EGQ_SHAPE_EN id, en), (F.EGQ_OVERHEAD id, over_), (F.EGQ_INC id, q.u 8 4), (F.EGQ_BURST id, q.u 12 4)]
    else d.setAll [(F.EGP_SHAPE_EN id, en), (F.EGP_OVERHEAD id, over_), (F.EGP_INC id, q.u 8 4), (F.EGP_BURST id, q.u 12 4)]
  (d1.bumpGen, Rep.ok)

def execShaperSet (q : Req) (s : State) : Host.Outcome State Fault Refusal :=
  onMach (smiemDev 0x0061 shaperSetCheck shaperSet q) s

/-! Discards at the head of a queue (R282). -/

/-- The head copy of a queue is discarded and counted. -/
def Dev.headDrop (d : Dev) (k : Clock) (q : Nat) (c : Copy) (count : Dev → Dev) : Dev :=
  ((count d).tsLost k q c).dropCopy q c

/-- Why the head copy of a queue is to be discarded, as the discard; none when it is not (R116, R124, R140, R296). -/
def Dev.headBad (d : Dev) (k : Clock) (q : Nat) (c : Copy) : Option (Dev → Dev) :=
  let p := q / 8
  if d.portDiscards p then some (fun d => d.countQueue q 2 (d.copyLen c))
  else if 512 ≤ p || c.waitEof || c.spilled then none
  else match d.frame? c.fid with
    | none => none
    | some f =>
      let e := d.egressLen p c f
      let lso := match c.kind with
        | .segmented h mss _ _ => segBad f.bytes h mss (d.maxFrame p)
        | _ => false
      let whole := match c.kind with
        | .segmented _ _ _ _ => false
        | _ => !c.ct
      if lso then some (fun d => ((d.count (cPort p 11) (d.copyLen c)).setB (F.MAC_STICKY_LSO_ERR p) true).portEvent k p 4)
      else if whole && d.maxFrame p < e then
        some (fun d => (d.count (cPort p 10) e).setB (F.MAC_STICKY_EGRESS_OVERSIZE p) true)
      else if (!c.ct || f.ended.isSome) && d.gateSays k p c.cls e = .tooLong then
        some (fun d => ((d.countQueue q 14 (d.copyLen c)).setBit F.EG_SCHED_STICKY 2).event k 546 (flcGates p))
      else none

/-- Discard from the head of a queue for as long as its head is to be discarded. -/
def Dev.headDrops (d : Dev) (k : Clock) (q : Nat) : Nat → Dev
  | 0 => d
  | n + 1 => match d.queue q with
    | [] => d
    | c :: _ => match d.headBad k q c with
      | none => d
      | some count => (d.headDrop k q c count).headDrops k q n

/-- The head discards of every queue of a port. -/
def Dev.portDrops (d : Dev) (k : Clock) (p : Nat) : Dev :=
  (List.range 8).foldl (fun d c => d.headDrops k (8 * p + c) (d.queue (8 * p + c)).length) d

/-! Choosing (R282, R283). -/

/-- A queue that is empty has no deficit and no turn (R283). -/
def Dev.normalQueue (d : Dev) (q : Nat) : Dev :=
  if (d.queue q).isEmpty then d.setAll [(F.EGQ_DEFICIT q, 0), (F.EGQ_IN_TURN q, 0)] else d

/-- The body bytes of the first block of a copy to port 512, in credits of 64 bytes (R461, R463, R465). -/
def firstCredits (n : Nat) : Nat := ceilDiv (min 2048 (32 + n)) 64

/-- Credit the peer has granted on a VC and that is not used (R461). -/
def Dev.vcCredit (d : Dev) (v : Nat) : Nat :=
  (tgetD d.taper.granted v 0 + 65536 - tgetD d.taper.consumed v 0) % 65536

/-- Can a port start a copy of class c and length e (R282, R444, R463). -/
def Dev.portTakes (d : Dev) (p c e : Nat) : Bool :=
  if p < 512 then d.get (F.PORT_STATUS_STATE p) == stUp && !bit (d.get (F.PORT_STATUS_HELD p)) c
  else if p = 512 then d.get F.TAP_STATE == 5 && (tgetD d.taper.msgs c []).isEmpty && firstCredits e ≤ d.vcCredit c
  else p != 513

/-- Egress length of a queue's head where the manual gives it; of a cut-through copy still being received a free
value. -/
def Dev.headLen (d : Dev) (q : Nat) (c : Copy) : Nat × Dev :=
  match d.frame? c.fid with
  | none => (0, d)
  | some f => if f.ended.isSome || !c.ct then (d.egressLen (q / 8) c f, d) else d.draw 14

/-- Is a head copy of length e eligible (R282). -/
def Dev.eligible (d : Dev) (k : Clock) (q : Nat) (c : Copy) (e : Nat) : Bool :=
  !c.waitEof && !c.spilled && d.gateSays k (q / 8) (q % 8) e == .pass && d.queueDue q && d.throttleDue q c &&
    d.portTakes (q / 8) (q % 8) e

/-- The eligible heads of a port: class, copy, length. Queues that are not eligible have no turn. -/
def Dev.heads (d : Dev) (k : Clock) (p : Nat) : List (Nat × Copy × Nat) × Dev :=
  (List.range 8).foldl (fun (acc : List (Nat × Copy × Nat) × Dev) cls =>
    let q := 8 * p + cls
    let (l, d) := acc
    match d.queue q with
    | [] => (l, d.normalQueue q)
    | c :: _ =>
      let (e, d1) := d.headLen q c
      if d1.eligible k q c e then (l ++ [(cls, c, e)], d1) else (l, d1.set (F.EGQ_IN_TURN q) 0)) ([], d)

/-- QUANTUM as it acts (R283). -/
def Dev.quantum (d : Dev) (q : Nat) : Nat :=
  let maxF := if q / 8 < 512 then d.maxFrame (q / 8) else 16000
  max (d.get (F.EGQ_QUANTUM q)) (ceilDiv (maxF + 20) 64)

/-- A port's rotation of its classes. -/
def Dev.rotation (d : Dev) (p : Nat) : List Nat := tgetD d.egr.rot p (List.range 8)

/-- Strict levels, and deficit round robin within one (R283). -/
def Dev.pick (d : Dev) (p : Nat) (hs : List (Nat × Copy × Nat)) : Nat → Nat → Option (Nat × Copy × Nat) × Dev
  | 0, _ => (none, d)
  | fuel + 1, level =>
    let atLevel := (d.rotation p).filter (fun c => d.get (F.EGQ_LEVEL (8 * p + c)) == level && hs.any (·.1 == c))
    match atLevel with
    | [] => if level = 0 then (none, d) else d.pick p hs fuel (level - 1)
    | cls :: _ =>
      match hs.find? (·.1 == cls) with
      | none => (none, d)
      | some h =>
        let q := 8 * p + cls
        let d1 := if d.flag (F.EGQ_IN_TURN q) then d
          else d.setAll [(F.EGQ_DEFICIT q, d.get (F.EGQ_DEFICIT q) + d.quantum q * 64), (F.EGQ_IN_TURN q, 1)]
        let len := h.2.2 + 20
        if len ≤ d1.get (F.EGQ_DEFICIT q) then (some h, d1.set (F.EGQ_DEFICIT q) (d1.get (F.EGQ_DEFICIT q) - len))
        else
          let d2 := d1.set (F.EGQ_IN_TURN q) 0
          ({ d2 with egr := { d2.egr with rot := tset d2.egr.rot p ((d2.rotation p).filter (· != cls) ++ [cls]) } }).pick p hs
            fuel level

/-- A copy whose spill is still being written starts from its on-die cells: the spill is abandoned (R264). -/
def Dev.stopSpill (d : Dev) (c : Copy) : Copy × Dev :=
  if c.spilling.isNone then (c, d)
  else ({ c with spilling := none, chunks := [] },
    { d with bm := { d.bm with chunks := d.bm.chunks.filter (fun x => !c.chunks.contains x) } })

/-- A chosen copy begins to be sent, or is discarded because its descriptor reads uncorrectable (R365). -/
def Dev.start (d : Dev) (k : Clock) (p : Nat) (h : Nat × Copy × Nat) (descBad : Bool) (bad : List Nat) : Dev :=
  let (cls, c, e) := h
  let q := 8 * p + cls
  let d1 := (d.chargeAll k q c e bad).perf 34 0
  if descBad then
    ((((d1.countQueue q 15 (d.copyLen c)).setBit F.BM_STICKY 2).event k 533 (flc 33 6 0)).headDrop k q c id).normalQueue q
  else
    let (c1, d2) := (d1.setQueue q ((d1.queue q).erase c)).stopSpill c
    (d2.setPort p { d2.port p with tx := some ⟨q, c1, 0, [], false, false⟩ }).normalQueue q

/-- SCHEDULER_SELECT: head discards, then the choice of the next copy. -/
def schedulerSelect (p : Nat) (descBad : Bool) (bad : List Nat) (k : Clock) (d : Dev) : Dev :=
  if 518 ≤ p || p = 513 || !d.portExists p || d.isHeld 34 || d.isHeld 33 || (d.port p).tx.isSome || !d.portDue p then d
  else
    let (hs, d1) := (d.portDrops k p).heads k p
    match d1.pick p hs 64 7 with
    | (none, d2) => d2.poolsUpdate k
    | (some h, d2) => (d2.start k p h descBad bad).poolsUpdate k

def execSchedulerSelect (port : Nat) (descBad : Bool) (residueBad : List (Fin 3)) (s : State) :
    Host.Outcome State Fault Refusal := onDev (schedulerSelect port descBad (residueBad.map Fin.val)) s

end Sys2Proof.Machine
end

