-- ==== Sys2Proof/Machine/Transmit.lean ====
section
/-! DEFINITION. Transmission (R121, R124, R138, R230, R231), PTP (R311, R315 to R319), recirculation (R48, R49), the
arbitration of cells (R235) and the Hogshead's transfers (R261 to R265). -/

namespace Sys2Proof.Machine
open Sys2Proof

/-! Cells read for egress (R230, R231). -/

/-- FLC of a cell of the on-die buffer; the failing bit is not known (R29, R232). -/
def flcCell (n : Nat) : Nat := flcFull 0 33 4 (n % 64) 0 (n / 64 / 512) (2 ^ 21 - 1)

/-- Is cell i of a frame available to egress (R122, R125). -/
def Frame.available (f : Frame) (i : Nat) : Bool :=
  i < f.cells.length && (f.ended.isSome || f.cut || f.refused || 256 * (i + 1) < f.bytes.length)

/-- The port sends nothing. -/
def Dev.stopTx (d : Dev) (p : Nat) : Dev := d.setPort p { d.port p with tx := none }

/-- A copy in transmission ends early: discarded before its first cell, else stomped with its other cells given up. -/
def Dev.cutTx (d : Dev) (k : Clock) (p : Nat) (t : Tx) (n : Nat) : Dev :=
  if n = 0 then ((d.stopTx p).tsLost k t.q t.copy).releaseFrom t.copy 0
  else match d.frame? t.copy.fid with
    | none => d.stopTx p
    | some f =>
      let d1 := (t.copy.refers f n).foldl (fun d j => d.unref (f.cells.getD j 0)) d
      d1.setPort p { d1.port p with tx := some { t with stomp := true, over_ := true } }

/-- A cell's CRC fails (R230). -/
def Dev.cellBad (d : Dev) (k : Clock) (p : Nat) (t : Tx) (cell : Nat) : Dev :=
  (((d.countQueue t.q 9 (d.copyLen t.copy)).setBit F.BM_STICKY 1).event k 532 (flcCell cell)).cutTx k p t t.read

/-- The link word of place i of a frame reads uncorrectable (R231): its copies are discarded or stomped, the cells before
are freed, the others quarantined. -/
def Dev.linkBad (d : Dev) (k : Clock) (fid i : Nat) (f : Frame) : Dev :=
  let bad := f.cells.drop i
  let waiting := (d.bm.queues.map (fun e => (e.2.filter (fun c => c.fid == fid)).map (fun c => (e.1, c)))).flatten
  let d1 := waiting.foldl (fun d e => (d.tsLost k e.1 e.2).setQueue e.1 ((d.queue e.1).erase e.2)) d
  let d2 := d1.ports.foldl (fun d e => match e.2.tx with
    | some t => if t.copy.fid != fid then d
      else if t.read = 0 then (d.stopTx e.1).tsLost k t.q t.copy
      else d.setPort e.1 { e.2 with tx := some { t with stomp := true, over_ := true } }
    | none => d) d1
  let d3 := (f.cells.take i).foldl Dev.freeCell d2
  let d4 := bad.foldl (fun d n => match tget? d.bm.cells n with
    | some c => { d with bm := { d.bm with cells := tset d.bm.cells n { c with quarantined := true } } }
    | none => d) d3
  let d5 := d4.setFrame fid { f with cells := [], refused := true, later := 0 }
  let d6 := (d5.set F.BM_QUARANTINED (d5.get F.BM_QUARANTINED + bad.length)).setBit F.BM_STICKY 2
  (d6.event k 533 (flcCell (f.cells.getD i 0))).retire fid

/-- EGRESS_CELL_READ: the next cell of the copy a port sends is read over its plane. `read` gives the bytes when they are
not those written; `linkErr` says that the cell's link word reads uncorrectable. -/
def egressCellRead (p : Nat) (read : Option Bytes) (linkErr : Bool) (k : Clock) (d : Dev) : Dev :=
  match (d.port p).tx with
  | none => d
  | some t => match d.frame? t.copy.fid with
    | none => d
    | some f => match (t.copy.reads f)[t.read]? with
      | none => d
      | some i =>
        if t.over_ || !f.available i || d.isHeld 33 then d
        else
          let n := f.cells.getD i 0
          let c := (tget? d.bm.cells n).getD ⟨[], 0, 0, 0, false⟩
          let data := read.getD c.data
          if linkErr then (d.linkBad k t.copy.fid i f).poolsUpdate k
          else if crc32c data != c.crc then (d.cellBad k p t n).poolsUpdate k
          else
            let d1 := d.setPort p { d.port p with tx := some { t with read := t.read + 1, bytes := t.bytes ++ data } }
            let freed := (t.copy.refers f t.read).contains i && !(t.copy.refers f (t.read + 1)).contains i
            let d2 := if freed then d1.unref n else d1
            ((d2.spend 6 1).spend 7 1).poolsUpdate k

def execEgressCellRead (port : Nat) (read : Option Bytes) (linkErr : Bool) (s : State) :
    Host.Outcome State Fault Refusal := onDev (egressCellRead port read linkErr) s

/-- Has a transmission read everything it will read. -/
def Tx.done (t : Tx) (f : Frame) : Bool :=
  t.over_ || ((f.ended.isSome || f.cut || f.refused) && (t.copy.reads f).length ≤ t.read)

/-! PTP (R311, R315 to R317). -/

/-- A PTP event message in an egress image: where its header begins, and its UDP header with whether it is over IPv6. -/
structure Ptp where
  hdr : Nat
  udp : Option (Nat × Bool)
deriving DecidableEq, Repr

/-- The detector of R315, for a message whose action writes up to byte `upTo` of its header. -/
def ptpOf (b : Bytes) (upTo : Nat) : Option Ptp :=
  let o := rtagAt b
  let ip := o + 2
  let ver := (byteAt b ip).toNat / 16
  let l4 := if ver = 6 then ip + 40 else ip + (byteAt b ip).toNat % 16 * 4
  let found : Option Ptp :=
    if beAt b o 2 = 0x88F7 then some ⟨o + 2, none⟩
    else if beAt b o 2 = 0x0800 && ver == 4 && (byteAt b (ip + 9)).toNat == 17 && beAt b (ip + 6) 2 % 0x4000 == 0 &&
        beAt b (l4 + 2) 2 == 319 then some ⟨l4 + 8, some (l4, false)⟩
    else if beAt b o 2 = 0x86DD && ver == 6 && (byteAt b (ip + 6)).toNat == 17 && beAt b (l4 + 2) 2 == 319 then
      some ⟨l4 + 8, some (l4, true)⟩
    else none
  found.filter (fun p => (byteAt b (p.hdr + 1)).toNat % 16 == 2 && (byteAt b p.hdr).toNat % 16 ≤ 3 && p.hdr + upTo ≤ b.length)

/-- Write bytes into a message, with the UDP checksum updated incrementally (R316). -/
def Ptp.write (p : Ptp) (b : Bytes) (o : Nat) (data : Bytes) : Bytes :=
  let b1 := putBytes b o data
  match p.udp with
  | none => b1
  | some (u, v6) =>
    let sum := beAt b (u + 6) 2
    if !v6 && sum = 0 then b1
    else
      let new := 65535 - onesFold ((65535 - sum) + onesFold (onesSum data) +
        (65535 - onesFold (onesSum (sliceZ b o data.length))))
      putBE b1 (u + 6) 2 (if new = 0 then 65535 else new)

/-- The egress timestamp of a port, as nanoseconds of network time (R311). -/
def Dev.egressTs (d : Dev) (k : Clock) (p : Nat) : Nat := ((k.abs : Int) + signed 16 (d.get (F.PTP_TX_TS_ADJ p))).toNat

/-- Transparent correction (R316). -/
def Dev.correction (d : Dev) (k : Clock) (p : Nat) (f : Frame) (b : Bytes) (residueOk : Bool) : Bytes × Dev :=
  let mode := d.get (F.PTP_TC_MODE p)
  match ptpOf b 16 with
  | none => (b, d)
  | some x =>
    let kind := (byteAt b x.hdr).toNat % 16
    if !(mode = 1 || (mode = 2 && kind = 0)) then (b, d)
    else if !residueOk then (b, (d.setBit F.TU_TIME_STICKY 3).event k 618 (flcMac p))
    else
      let res := (d.egressTs k p + 2 ^ 32 - f.rxTs % 2 ^ 32) % 2 ^ 32
      let add := res * 65536 + (if mode = 2 then d.get (F.PTP_PEER_DELAY f.ingress) else 0)
      (x.write b (x.hdr + 8) (toBE ((beAt b (x.hdr + 8) 8 + add) % 2 ^ 64) 8), d)

/-- The timestamp requests of a host frame (R317, R318). -/
def Dev.hostStamp (d : Dev) (k : Clock) (p : Nat) (r : TsReq) (b : Bytes) : Bytes × Dev :=
  let t := d.egressTs k p
  let d1 := match r.tsId with
    | some id => d.tsqPut k (p / 16) ⟨id, p, false, t % 1000000000, t / 1000000000 % 2 ^ 48⟩
    | none => d
  if !r.oneStep then (b, d1)
  else match (ptpOf b 44).filter (fun x => (byteAt b x.hdr).toNat % 16 == 0) with
    | some x => (x.write b (x.hdr + 34) (toBE (t / 1000000000) 6 ++ toBE (t % 1000000000) 4), d1)
    | none => (b, d1.setBit F.TU_TIME_STICKY 4)

/-- Timestamping of a copy's image before its FCS. -/
def Dev.stamped (d : Dev) (k : Clock) (p : Nat) (c : Copy) (f : Frame) (b : Bytes) (residueOk : Bool) : Bytes × Dev :=
  match c.kind with
  | .forward _ => if f.ingress < 512 then d.correction k p f b residueOk else (b, d)
  | .inject r => d.hostStamp k p r b
  | .segmented _ _ 0 r => d.hostStamp k p r b
  | _ => (b, d)

/-! COPY_TRANSMIT. -/

/-- A frame leaves by a front port: oversize cut (R124), padding, timestamps, FCS, counts. -/
def Dev.sendFrame (d : Dev) (k : Clock) (p : Nat) (t : Tx) (f : Frame) (residueOk : Bool) : Dev :=
  let body := d.content t.copy f t.bytes
  let over_ := d.maxFrame p < body.length + 4
  let stomp := t.stomp || over_ || f.cut || f.refused || (f.ended.isSome && f.ended != some .good)
  let (b, d1) := d.stamped k p t.copy f (padTo (if over_ then body.take (d.maxFrame p - 4) else body) 60) residueOk
  let len := b.length + 4
  let d2 := (d1.emit (.frame p (withFcs b stomp))).count (cPort p 8) len
  let d3 := if over_ then (d2.count (cPort p 10) len).setB (F.MAC_STICKY_EGRESS_OVERSIZE p) true else d2
  let d4 := if stomp then (d3.count (cPort p 9) len).setB (F.MAC_STICKY_STOMP_SENT p) true else d3
  let marked := match t.copy.ecn with
    | some o => !popped t.copy.edits (o + 1)
    | none => false
  let d5 := if marked then d4.countQueue t.q 12 len else d4
  d5.countQueue t.q 1 len

/-- The metadata of R465. -/
def upMeta (c : Copy) (f : Frame) (len : Nat) : Bytes :=
  let (kind, reason, sc, op, ses, wid) := match c.kind with
    | .host .punt m => (1, m.reason, m.stage + 32 * m.chain, m.opcode, 0, m.wordId)
    | .host .trap m => (2, m.reason, m.stage + 32 * m.chain, m.opcode, 0, m.wordId)
    | .host .copy m => (3, m.reason, 0, 0, 0, 0)
    | .mirror s _ _ => (4, 0, 0, 0, s + 128, 0)
    | _ => (0, 0, 0, 0, 0, 0)
  toLE f.ingress 2 ++ toLE f.pass 1 ++ toLE (c.cls % 8 + 8 * kind) 1 ++ toLE reason 1 ++ toLE sc 1 ++ toLE op 1 ++
    toLE ses 1 ++ toLE f.gen 2 ++ toLE wid 2 ++ toLE f.rxTs 4 ++ toLE len 2 ++ toLE 0 2 ++ toLE c.hash 4 ++ toLE 0 8

/-- A copy to port 512 becomes a Taper message on the VC of its class (R464, R465); one whose cells failed is not sent. -/
def Dev.sendUp (d : Dev) (t : Tx) (f : Frame) : Dev :=
  if t.stomp then d
  else
    let b := d.content t.copy f t.bytes
    let type := match t.copy.kind with
      | .mirror _ _ _ => 2
      | _ => 1
    let v := t.copy.cls
    let msg : TapMsg := ⟨type, upMeta t.copy f b.length ++ b, false⟩
    ({ d with taper := { d.taper with msgs := tset d.taper.msgs v (tgetD d.taper.msgs v [] ++ [msg]) } }).countQueue t.q 1 b.length

/-- Bytes forwarded in the period, and those of deferrable classes (R97). -/
def Dev.tallyBytes (d : Dev) (c : Copy) (n : Nat) : Dev :=
  let defer := bit (d.get F.DEFER_CTRL_DEFER_CLASS) c.cls && c.cls != 7
  let m := if defer then n else 0
  d.onChan (fun x => { x with bytes := x.bytes + n, deferBytes := x.deferBytes + m })

/-- A segmented send with segments left stands at the head of its queue again (R138). -/
def Dev.afterSend (d : Dev) (p : Nat) (t : Tx) (f : Frame) : Dev :=
  let d1 := d.stopTx p
  match t.copy.kind with
  | .segmented h mss sent r =>
    if sent + 1 < segCount f.bytes.length h mss && !t.over_ then
      d1.setQueue t.q ({ t.copy with kind := .segmented h mss (sent + 1) r } :: d1.queue t.q)
    else d1.releaseFrom t.copy t.read
  | _ => d1.releaseFrom t.copy t.read

/-- Give up what a transmission that ended early no longer holds: its cells are given up already. -/
def Dev.afterCut (d : Dev) (p : Nat) (t : Tx) (f : Frame) : Dev :=
  ((d.stopTx p).setFrame t.copy.fid { f with later := f.later - 1 }).retire t.copy.fid

/-- COPY_TRANSMIT: the copy a port has read leaves the device. -/
def copyTransmit (p : Nat) (residueOk : Bool) (k : Clock) (d : Dev) : Dev :=
  match (d.port p).tx with
  | none => d
  | some t => match d.frame? t.copy.fid with
    | none => d.stopTx p
    | some f =>
      if 513 ≤ p || !t.done f then d
      else
        let d1 := (if p = 512 then d.sendUp t f else d.sendFrame k p t f residueOk).tallyBytes t.copy t.bytes.length
        (if t.over_ then d1.afterCut p t f else d1.afterSend p t f).poolsUpdate k

def execCopyTransmit (port : Nat) (residueOk : Bool) (s : State) : Host.Outcome State Fault Refusal :=
  onDev (copyTransmit port residueOk) s

/-! Recirculation (R48, R49). -/

/-- A number no frame has. -/
def Dev.newFrame (d : Dev) : Nat := d.frames.foldl (fun n e => max n (e.1 + 1)) 0

/-- A frame that has its cells joins its lantern's recirculated headers. -/
def Dev.joinRecirc (d : Dev) (l fid : Nat) : Dev :=
  d.setLantern l { d.lantern l with recirc := (d.lantern l).recirc ++ [fid] }

/-- A frame waits for cells (R235). -/
def Dev.park (d : Dev) (fid : Nat) (u : CellUse) : Dev :=
  match d.frame? fid with
  | none => d
  | some _ => { d with bm := { d.bm with waiting := d.bm.waiting ++ [(fid, u)] } }

/-- The frame of a copy's next pass, with the opcode it asked for (a free value where no RECIRCULATE named one). -/
def Dev.nextPass (d : Dev) (p : Nat) (c : Copy) (f : Frame) (body : Bytes) : Frame × Dev :=
  let b := withFcs (padTo body 60) false
  let (op, d1) := match c.kind with
    | .forward (some op) => (op, d)
    | _ => d.draw 8
  ({ Frame.new f.ingress c.cls (d.poolOf p c.cls) f.maxFrame f.rxTs with
      via := p, bytes := b, ended := some .good, rxLen := b.length, headed := true, pass := f.pass + 1, gen := f.gen,
      passStart := f.passStart, entryOp := op, flowHash := c.hash }, d1)

/-- RECIRCULATION_ENTRY: a copy read at a recirculation port re-enters the lantern where its frame first entered. -/
def recirculate (p : Nat) (k : Clock) (d : Dev) : Dev :=
  match (d.port p).tx with
  | none => d
  | some t => match d.frame? t.copy.fid with
    | none => d.stopTx p
    | some f =>
      if p < 514 || !t.done f then d
      else
        let body := d.content t.copy f t.bytes
        let d1 := if t.stomp then d
          else (d.countQueue t.q 1 (max 64 (body.length + 4))).tallyBytes t.copy t.bytes.length
        let d2 := if t.over_ then d1.afterCut p t f else d1.afterSend p t f
        if t.stomp then d2.poolsUpdate k
        else if 4 ≤ f.pass then (d2.count (cGlobal 0) body.length).poolsUpdate k
        else
          let (g, d3) := d2.nextPass p t.copy f body
          let fid := d3.newFrame
          let l := f.ingress / 16
          let d4 := match (d3.setFrame fid g).askWhole k fid with
            | (.granted, d) => d.joinRecirc l fid
            | (.waits, d) => d.park fid (.recirc l)
            | (.dropped, d) => d
          d4.poolsUpdate k

def execRecirculationEntry (port : Nat) (s : State) : Host.Outcome State Fault Refusal := onDev (recirculate port) s

/-- RECIRCULATION_LIMIT: 20 µs after its first pass began, a frame that waits for a further pass is discarded (R49). -/
def recircLimit (fid : Nat) (k : Clock) (d : Dev) : Dev :=
  match d.frame? fid with
  | none => d
  | some f =>
    let l := f.ingress / 16
    let x := d.lantern l
    let parked := d.bm.waiting.any (fun e => e.1 == fid)
    if f.pass ≤ 1 || !(x.recirc.contains fid || parked) || k.tick < f.passStart + passLimit then d
    else if parked then
      ({ d with bm := { d.bm with waiting := d.bm.waiting.filter (fun e => e.1 != fid) }, frames := tdel d.frames fid }).count
        (cGlobal 0) f.bytes.length
    else (d.setLantern l { x with recirc := x.recirc.filter (· != fid) }).dropUndecided k fid (cGlobal 0)

def execRecirculationLimit (frame : Nat) (s : State) : Host.Outcome State Fault Refusal := onDev (recircLimit frame) s

/-! Frames that wait for cells (R235). -/

/-- A frame that entered from the host is offered to its queue (R467), and forgotten when refused. -/
def Dev.offer (d : Dev) (k : Clock) (q fid : Nat) (c : Copy) : Admit × Dev :=
  let (n, a, d1) := d.admitAll k fid [(q, c)]
  let d2 := if n = 0 then d1.tsLost k q c else d1
  (a, d2.settle k fid n 0)

/-- All the cells of a returning frame, or none of them: its priority counts as held, and it is never refused (R264). -/
def Dev.takeBack (d : Dev) (f : Frame) (fid : Nat) : Option Dev :=
  ((List.range (ceilDiv f.bytes.length 256)).foldl (fun (a : Option Dev) _ => a.bind (fun d =>
    if d.mayTake f.pool then d.grant fid f.pool else none)) (some d)).map (fun d =>
      (d.fillCells fid).spend 5 (ceilDiv f.bytes.length 256))

/-- A frame returned from the Hogshead has its cells: its copy is on-die again and its chunks are freed (R264). -/
def Dev.returned (d : Dev) (q fid : Nat) : Dev :=
  match (d.queue q).find? (fun c => c.fid == fid), d.frame? fid with
  | some c, some f =>
    let d1 := d.setQueue q ((d.queue q).map (fun x => if x.fid = fid then { x with spilled := false, chunks := [] } else x))
    let d2 := { d1 with bm := { d1.bm with chunks := d1.bm.chunks.filter (fun x => !c.chunks.contains x) } }
    (d2.addRefs f 1).setFrame fid { f with later := 1 }
  | _, _ => d

/-- A frame that waited has its cells. -/
def Dev.served (d : Dev) (k : Clock) (fid : Nat) (u : CellUse) : Dev :=
  match u with
  | .recirc l => d.joinRecirc l fid
  | .back q => d.returned q fid
  | .offer q c =>
    let (a, d1) := d.offer k q fid c
    let detail := match a with
      | .accepted => 1
      | .refused off => 256 * off
    d1.finishAll k (fun w => w == .frameSend fid) ⟨stOk, detail, 0⟩

/-- Rank of a waiting requester (R235, R264): recirculation, Taper inject and Hogshead return, Sconce. -/
def rankOf (d : Dev) (fid : Nat) : CellUse → Nat
  | .recirc _ => 0
  | .back _ => 1
  | .offer _ _ => if ((d.frame? fid).map Frame.via).getD 512 = 513 then 2 else 1

/-- A frame waits no longer. -/
def Dev.unpark (d : Dev) (fid : Nat) : Dev :=
  { d with bm := { d.bm with waiting := d.bm.waiting.filter (fun w => w.1 != fid) } }

/-- A host frame's cells are refused: its timestamp request and its FRAME_SEND are answered (R319, R444). -/
def Dev.offerLost (d : Dev) (k : Clock) (fid : Nat) : CellUse → Dev
  | .offer q c => (d.tsLost k q c).finishAll k (fun w => w == .frameSend fid) ⟨stNoSpace, 1, 0⟩
  | _ => d

/-- One waiting frame asks again. -/
def Dev.retryOne (d : Dev) (k : Clock) (e : Nat × CellUse) : Dev :=
  match e.2 with
  | .back q => match d.frame? e.1 with
    | none => d.unpark e.1
    | some f => match d.takeBack f e.1 with
      | some d1 => (d1.unpark e.1).returned q e.1
      | none => d
  | u => match d.askWhole k e.1 with
    | (.granted, d1) => (d1.unpark e.1).served k e.1 u
    | (.waits, d1) => d1
    | (.dropped, d1) => (d1.unpark e.1).offerLost k e.1 u

/-- CELL_ARBITRATION_ROUND: front-port requests, then the waiting requesters by rank. -/
def arbitrate (rs : List CellReq) (k : Clock) (d : Dev) : Dev :=
  if d.isHeld 33 then d
  else
    let d1 := (roundOrder d.bm.round rs).foldl (fun d r => d.frontRequest k r) d
    let d2 := (List.range 3).foldl (fun d rank =>
      (d.bm.waiting.filter (fun e => rankOf d e.1 e.2 == rank)).foldl (fun d e => d.retryOne k e) d) d1
    ({ d2 with bm := { d2.bm with round := (d2.bm.round + 1) % 32 } }).poolsUpdate k

def execCellArbitrationRound (requests : List CellReq) (s : State) : Host.Outcome State Fault Refusal :=
  onDev (arbitrate requests) s

/-! The Hogshead (R261 to R265). -/

/-- Address of a chunk's bytes and of its record. -/
def chunkAt (c : Nat) : Nat := regionBase regHog + 2048 * c
def recordAt (c : Nat) : Nat := regionBase regRecords + 64 * c

/-- The chunk record: eight cell CRCs, then the link to the next chunk. The layout is the model's. -/
def chunkRecord (crcs : List Nat) (next : Nat) : Bytes :=
  padTo ((List.range 8).map (fun i => toLE (crcs.getD i 0) 4)).flatten 32 ++ toLE next 4 ++ List.replicate 28 0

/-- The copy of a frame whose spill is being written, with its queue. -/
def Dev.spillOf (d : Dev) (fid : Nat) : Option (Nat × Copy) :=
  d.bm.queues.findSome? (fun e => (e.2.find? (fun c => c.fid == fid && c.spilling.isSome)).map (fun c => (e.1, c)))

/-- Change a waiting copy. -/
def Dev.swapCopy (d : Dev) (q : Nat) (old new : Copy) : Dev :=
  d.setQueue q ((d.queue q).map (fun c => if c = old then new else c))

/-- SPILL_WRITE_COMPLETE: the next cell of a spilling frame is read, checked and written to its chunk; with the last one
the frame is spilled and its cells are released (R263). -/
def spillWrite (fid : Nat) (read : Option Bytes) (m : Mach) : Mach :=
  let d := m.dev
  match d.spillOf fid, d.frame? fid with
  | some (q, c), some f =>
    let i := c.spilling.getD 0
    let n := f.cells.getD i 0
    let cell := (tget? d.bm.cells n).getD ⟨[], 0, 0, 0, false⟩
    let data := read.getD cell.data
    if f.cells.length ≤ i || d.isHeld 33 then m
    else if crc32c data != cell.crc then
      let d1 := ((d.countQueue q 9 (d.copyLen c)).setBit F.BM_STICKY 1).event m.clk 532 (flcCell n)
      let (c1, d2) := d1.stopSpill c
      m.setDev ((d2.swapCopy q c c1).poolsUpdate m.clk)
    else
      let ch := c.chunks.getD (i / 8) 0
      let crcs := ((f.cells.drop (i / 8 * 8)).take 8).map (fun n => ((tget? d.bm.cells n).map CellRec.crc).getD 0)
      let dram := mwrite (mwrite m.dram (chunkAt ch + 256 * (i % 8)) (padTo data 256)) (recordAt ch)
        (chunkRecord crcs (c.chunks.getD (i / 8 + 1) 0))
      let d1 := d.spend 6 1
      if i + 1 < f.cells.length then
        { m with dram := dram, dev := d1.swapCopy q c { c with spilling := some (i + 1) } }
      else
        let d2 := f.cells.foldl Dev.unref (d1.swapCopy q c { c with spilling := none, spilled := true })
        { m with dram := dram, dev := (d2.setFrame fid { f with cells := [], later := 1 }).poolsUpdate m.clk }
  | _, _ => m

def execSpillWriteComplete (frame : Nat) (read : Option Bytes) (s : State) : Host.Outcome State Fault Refusal :=
  onMach (spillWrite frame read) s

/-- RETURN_DEPTH as it acts (R267). -/
def Dev.returnDepth (d : Dev) : Nat := max 1 (d.get F.BM_RETURN_DEPTH)

/-- The queue a spilled frame stands in, when it is one of the first RETURN_DEPTH. -/
def Dev.returnable (d : Dev) (fid : Nat) : Option (Nat × Copy) :=
  d.bm.queues.findSome? (fun e => ((e.2.take d.returnDepth).find? (fun c => c.fid == fid && c.spilled)).map (fun c => (e.1, c)))

/-- HOGSHEAD_RETURN: a spilled frame near its queue's head is read back into cells (R264), or lost to an uncorrectable
error whose FLC is given (R265). -/
def hogReturn (fid : Nat) (bad : Option Nat) (m : Mach) : Mach :=
  let d := m.dev
  match d.returnable fid, d.frame? fid with
  | some (q, c), some f =>
    if d.isHeld 33 || d.bm.waiting.any (fun e => e.1 == fid) then m
    else match bad with
      | some at_ =>
        m.setDev (((((d.countQueue q 10 f.bytes.length).setBit F.BM_STICKY 7).event m.clk 535 at_).tsLost m.clk q c).dropCopy q c)
      | none =>
        let bytes := (c.chunks.map (fun ch => mread m.dram (chunkAt ch) 2048)).flatten.take f.bytes.length
        let f1 : Frame := { f with bytes := bytes, cells := [], later := 0, pool := d.get (F.BMQ_POOL q), parked := true }
        match (d.setFrame fid f1).takeBack f1 fid with
        | some d1 => m.setDev ((d1.returned q fid).poolsUpdate m.clk)
        | none => m.setDev (((d.setFrame fid f1).press m.clk f1.pool).park fid (.back q))
  | _, _ => m

def execHogsheadReturn (frame : Nat) (bad : Option Nat) (s : State) : Host.Outcome State Fault Refusal :=
  onMach (hogReturn frame bad) s

end Sys2Proof.Machine
end

