-- ==== Sys2Proof/Machine/Cxl.lean ====
section
/-! DEFINITION. The attachment to the host (R399 to R418): link modes, the host window, IDE, MSI-X unmasking, resets of the
link. Configuration space beyond what these commands act on is the host's own and is not held. -/

namespace Sys2Proof.Machine
open Sys2Proof

/-- FLCs of block 39 (R418): the PHY, the link and transaction layers, CXL.mem and the decoder, IDE. -/
def flcCxl (unit : Nat) : Nat := flc 39 unit 255

def Dev.onCxl (d : Dev) (f : Cxl → Cxl) : Dev := { d with cxl := f d.cxl }

/-- Is the link in a CXL mode. -/
def Dev.inCxl (d : Dev) : Bool := decide (1 ≤ d.get F.CXL_MODE ∧ d.get F.CXL_MODE ≤ 4)

/-! Modes (R399, R401). -/

/-- The mode trained: the highest CXL mode the host allows (bit n of `host` is mode n + 1) and CXL_MODE_MASK does not bar,
else PCIe. -/
def Dev.bestMode (d : Dev) (host : Nat) : Nat :=
  match (List.range 4).find? (fun n => bit host n && !bit (d.get F.CXL_MODE_MASK) n) with
  | some n => n + 1
  | none => 5

/-- The highest rate of a mode, as RATE codes it. -/
def modeRate (mode gen : Nat) : Nat := if mode ≤ 2 then 6 else if mode ≤ 4 then 5 else gen

/-- CXL_LINK_TRAINED: the modes the host allows, the PCIe generation agreed if none is met, width and rate. -/
def linkTrained (host gen width rate : Nat) (k : Clock) (d : Dev) : Dev :=
  let mode := d.bestMode host
  if !d.boot.perstN || d.get F.CXL_MODE != 0 || d.isHeld 39 || !([1, 2, 4, 8, 16].contains width) ||
      rate < 3 || modeRate mode gen < rate || 6 < modeRate mode gen then d
  else
    let d1 := d.setAll [(F.CXL_MODE, mode), (F.CXL_PCIE_GEN, if mode = 5 then gen else 0), (F.CXL_WIDTH, width), (F.CXL_RATE, rate)]
    let d2 := d1.event k 624 (flcCxl 1)
    if width < 16 || rate < modeRate mode gen then (d2.setBit F.CXL_STICKY 1).event k 625 (flcCxl 0) else d2

def execCxlLinkTrained (hostModes gen width rate : Nat) (s : State) : Host.Outcome State Fault Refusal :=
  onDev (linkTrained hostModes gen width rate) s

/-! Resets of the link (R413, R447). -/

/-- Smiem at a reset of R413: every ring's EN is cleared, reserved entries are released, and the replies of commands in
flight are not written. -/
def Dev.ringsReset (d : Dev) : Dev :=
  let d1 := (List.range 16).foldl (fun d r => (d.setB (F.SQ_EN r) false).setB (F.CQ_EN r) false) d
  { d1 with smi := { d1.smi with
      fetched := d1.smi.fetched.map (fun e => { e with noReply := true })
      waits := d1.smi.waits.map (fun w => { w with noReply := true }) } }

/-- Registers, decoder, IDE and MSI-X of block 39 return to their reset values; the window's contents stay. -/
def Dev.cxlClear (d : Dev) : Dev :=
  let d1 := d.resetFields 0x3000000 0x3400000
  { d1 with cxl := ⟨0, 0, false, false, d.cxl.poison⟩, msix := [], msixPend := [] }

/-- A reset of R413. A function-level reset keeps the link trained. -/
def Dev.cxlReset (d : Dev) (k : Clock) (keepLink : Bool) : Dev :=
  let link := [F.CXL_MODE, F.CXL_PCIE_GEN, F.CXL_WIDTH, F.CXL_RATE]
  let d1 := d.cxlClear.ringsReset
  let d2 := if keepLink then d1.setAll (link.map (fun f => (f, d.get f))) else d1
  (d2.setBit F.CXL_STICKY 0).event k 624 (flcCxl 1)

/-- PERST_N: PERST_N asserts, or a hot reset, link disable or surprise link-down stands for it. The read of a pushed image is
abandoned (R550). -/
def perstN (k : Clock) (d : Dev) : Dev :=
  ({ d with boot := { d.boot with perstN := false, pushGo := false } }).cxlReset k false

def execPerstN (s : State) : Host.Outcome State Fault Refusal := onDev perstN s

def execFunctionLevelReset (s : State) : Host.Outcome State Fault Refusal :=
  onDev (fun k d => if d.get F.CXL_MODE = 0 then d else d.cxlReset k true) s

/-- PERST_N_RELEASE: the link may train (R414). -/
def execPerstNRelease (s : State) : Host.Outcome State Fault Refusal :=
  onDev (fun _ d => { d with boot := { d.boot with perstN := true } }) s

/-- LINK_RECOVERY: an entry to Recovery, after an uncorrectable link error or a replay that exceeds its limit; when it
fails the link goes down (R415). -/
def linkRecovery (uncorrectable failed : Bool) (k : Clock) (d : Dev) : Dev :=
  if d.get F.CXL_MODE = 0 then d
  else
    let d1 := d.satInc F.CXL_LINK_RECOVERIES
    let d2 := if uncorrectable then d1.event k 628 (flcCxl 1) else d1
    if failed then d2.cxlReset k false else d2

def execLinkRecovery (uncorrectable failed : Bool) (s : State) : Host.Outcome State Fault Refusal :=
  onDev (linkRecovery uncorrectable failed) s

/-! The host window (R404 to R406). -/

/-- Size of the window in bytes. -/
def Dev.windowSize (d : Dev) : Nat := d.get F.HBM_WINDOW_GIB * 2 ^ 30

/-- Memory_Active: every extent of the window lies in a stack that is up (R405). -/
def Dev.memoryActive (d : Dev) : Bool :=
  d.flag F.HBM_ALLOC_DONE && (d.region regWindow).all (fun e => d.stackUp (e / 24))

/-- HDM_DECODER_COMMIT: the decoder's base, size, ways and lock-on-commit are written with its commit bit; in CXL 1.1 mode,
DVSEC range 1 base with Mem_Enable. -/
def hdmCommit (base size : Nat) (oneWay lock commit : Bool) (k : Clock) (d : Dev) : Dev :=
  if !d.inCxl || (d.flag F.CXL_HDM_COMMITTED && d.cxl.lock) || d.isHeld 39 then d
  else
    let d1 := d.onCxl (fun c => { c with base := base - base % 2 ^ 28, size := size, lock := lock, refused := false })
    if !commit then d1.setB F.CXL_HDM_COMMITTED false
    else if d.flag F.HBM_ALLOC_DONE && size = d.windowSize && oneWay then d1.setB F.CXL_HDM_COMMITTED true
    else
      let d2 := (d1.onCxl (fun c => { c with refused := true })).setB F.CXL_HDM_COMMITTED false
      (d2.setBit F.CXL_STICKY 3).event k 627 (flcCxl 3)

def execHdmDecoderCommit (base size : Nat) (oneWay lock commit : Bool) (s : State) :
    Host.Outcome State Fault Refusal := onDev (hdmCommit base size oneWay lock commit) s

/-- Region address of a host physical address the decoder claims. -/
def Dev.decode (d : Dev) (addr : Nat) : Option Nat :=
  if d.flag F.CXL_HDM_COMMITTED && d.cxl.base ≤ addr && addr < d.cxl.base + d.cxl.size then some (addr - d.cxl.base) else none

/-- Is a request on a stream refused (R410, R411). -/
def Dev.ideRefuses (d : Dev) (secure : Fld) : Bool := d.flag F.CXL_IDE_REQUIRED && !d.flag secure

/-- A request on the window at region address a: a read of its line, or a write of bytes within the line. -/
def windowAccess (write : Bool) (addr a : Nat) (data : Bytes) (poison : Bool) (e : ReadErr) (m : Mach) : Mach :=
  let line := a / 64
  let at_ := regionBase regWindow + 64 * line
  let bytes := data.take (64 - a % 64)
  let whole := bytes.length == 64
  let place := locate (m.dev.region regWindow) a
  let d1 := if write && whole then m.dev
    else match place with
      | some x => m.dev.dramError m.clk x.pc x.bank x.row 3 e
      | none => m.dev
  let bad := match e with
    | .uncorrectable _ => true
    | _ => m.dev.cxl.poison.contains line
  if !write then m.setDev (d1.emit (.memRead addr (mread m.dram at_ 64) bad))
  else
    let stays := poison || (bad && !whole)
    let rest := m.dev.cxl.poison.filter (· != line)
    { m with
      dram := mwrite m.dram (at_ + a % 64) bytes
      dev := d1.onCxl (fun c => { c with poison := if stays then rest ++ [line] else rest }) }

/-- CXL_MEM_REQUEST (R406): `error` is what a read of the line meets. -/
def memRequest (write : Bool) (addr : Nat) (data : Bytes) (poison : Bool) (e : ReadErr) (m : Mach) : Mach :=
  let d := m.dev
  if !d.inCxl || d.isHeld 39 then m
  else if d.ideRefuses F.CXL_IDE_MEM_SECURE then m.setDev (d.satInc F.CXL_IDE_REFUSED)
  else match d.decode addr with
    | none => m
    | some a =>
      if d.memoryActive then windowAccess write addr a data poison e m
      else
        let d1 := d.setBit F.CXL_STICKY 4
        m.setDev (if write then d1 else
          let (v, d2) := d1.draw 512
          d2.emit (.memRead addr (toLE v 64) true))

def execCxlMemRequest (write : Bool) (addr : Nat) (data : Bytes) (poison : Bool) (error : ReadErr) (s : State) :
    Host.Outcome State Fault Refusal := onMach (memRequest write addr data poison error) s

/-! IDE (R410, R411). -/

/-- The secure bit of a stream: CXL.cachemem or CXL.io. -/
def ideStream (mem : Bool) : Fld := if mem then F.CXL_IDE_MEM_SECURE else F.CXL_IDE_IO_SECURE

/-- IDE_KEY_ESTABLISH: keys are established on a stream, in CXL modes of 2.0 and later. -/
def ideKey (mem : Bool) (_ : Clock) (d : Dev) : Dev :=
  if 1 ≤ d.get F.CXL_MODE && d.get F.CXL_MODE ≤ 3 && !d.isHeld 39 then d.setB (ideStream mem) true else d

def execIdeKeyEstablish (mem : Bool) (s : State) : Host.Outcome State Fault Refusal := onDev (ideKey mem) s

/-- IDE_FAIL: an integrity check of a secure stream fails. -/
def ideFail (mem : Bool) (k : Clock) (d : Dev) : Dev :=
  if d.flag (ideStream mem) then ((d.setB (ideStream mem) false).setBit F.CXL_STICKY 2).event k 626 (flcCxl 4) else d

def execIdeFail (mem : Bool) (s : State) : Host.Outcome State Fault Refusal := onDev (ideFail mem) s

/-! Snoops and MSI-X (R408, R412). -/

/-- H2D_SNOOP: answered with RspIHitI. -/
def execH2dSnoop (addr : Nat) (s : State) : Host.Outcome State Fault Refusal :=
  onDev (fun _ d => if d.inCxl then d.emit (.snoopRsp addr) else d) s

/-- MSIX_UNMASK: a vector's table entry is written and unmasked; a pending message is sent. -/
def msixUnmask (v addr data : Nat) (_ : Clock) (d : Dev) : Dev :=
  let d1 := { d with msix := tset d.msix v ⟨addr, data⟩ }
  if d.msixPend.contains v then ({ d1 with msixPend := d.msixPend.filter (· != v) }).sendMsix v else d1

def execMsixUnmask (vector : Fin 64) (addr data : Nat) (s : State) : Host.Outcome State Fault Refusal :=
  onDev (msixUnmask vector addr data) s

end Sys2Proof.Machine
end

