-- ==== Sys2Proof/Machine/Rings.lean ====
section
/-! DEFINITION. The rings of Smiem as the host works them (R419 to R422, R446, R450): doorbells, enabling, fetching,
coalescing. -/

namespace Sys2Proof.Machine
open Sys2Proof

/-- FLC of the Smiem engine (R506). -/
def flcSmiem : Nat := flc 36 3 0

/-- Does a doorbell write act: the block runs and its stream is secure when IDE is required (R410, R541). -/
def Dev.doorbell (d : Dev) (act : Dev → Dev) : Dev :=
  if d.flag F.BT_FAILED then d
  else if d.ideRefuses F.CXL_IDE_IO_SECURE then d.satInc F.CXL_IDE_REFUSED
  else act d

/-- SQ_TAIL: the slot after the last packet written (R421). -/
def sqTail (r v : Nat) (k : Clock) (d : Dev) : Dev :=
  d.doorbell (fun d =>
    if d.sqSize r ≤ v % 2 ^ 16 then (d.setB (F.SQ_DB_ERR r) true).event k 588 flcSmiem
    else d.set (F.SQ_TAIL r) v)

def execSqTail (ring : Fin 16) (value : Word) (s : State) : Host.Outcome State Fault Refusal :=
  onDev (sqTail ring value.toNat) s

/-- Entries a CQ_HEAD value would free: from the last one recorded up to it. With every entry written and none consumed the
recorded value frees them all, or a ring the host has consumed whole would stay full. -/
def Dev.cqFrees (d : Dev) (c v : Nat) : Nat :=
  let ahead := (v + d.cqSize c - d.get (F.CQ_HEAD_SEEN c) % d.cqSize c) % d.cqSize c
  if ahead = 0 ∧ d.unconsumed c = d.cqSize c then d.cqSize c else ahead

/-- CQ_HEAD: the entry after the last reply consumed (R421). -/
def cqHead (c v : Nat) (k : Clock) (d : Dev) : Dev :=
  d.doorbell (fun d =>
    if d.cqSize c ≤ v % 2 ^ 16 || d.unconsumed c < d.cqFrees c (v % 2 ^ 16) then
      (d.setB (F.CQ_DB_ERR c) true).event k 588 flcSmiem
    else
      let d1 := { d with smi := { d.smi with
        written := tput d.smi.written c 0 (d.unconsumed c - d.cqFrees c (v % 2 ^ 16)) } }
      d1.set (F.CQ_HEAD_SEEN c) v)

def execCqHead (ring : Fin 16) (value : Word) (s : State) : Host.Outcome State Fault Refusal :=
  onDev (cqHead ring value.toNat) s

/-- PACKET_FETCH: the turn of a ring that may fetch; `data` is what its slots read as. -/
def execPacketFetch (ring : Fin 16) (data : HostRead) (s : State) : Host.Outcome State Fault Refusal :=
  onDev (fetchPacket ring data) s

/-- COAL_TIME_EXPIRY: COAL_TIME has passed since the first reply that no message covers (R422). -/
def coalExpiry (c : Nat) (_ : Clock) (d : Dev) : Dev :=
  if (tgetD d.smi.coal c ⟨0, false⟩).timer then d.cqMessage c else d

def execCoalTimeExpiry (ring : Fin 16) (s : State) : Host.Outcome State Fault Refusal := onDev (coalExpiry ring) s

/-- A write of SQ_CFG: setting EN clears STOPPED and ERR (R450). -/
def Dev.sqCfgWrite (d : Dev) (r w : Nat) : Dev :=
  let d1 := d.setAll [(F.SQ_EN r, bits w 0 1), (F.SQ_SIZE_LOG2 r, bits w 1 5), (F.SQ_CQ r, bits w 8 4)]
  if bit w 0 && !d.flag (F.SQ_EN r) then (d1.setB (F.SQ_STOPPED r) false).set (F.SQ_ERR r) 0 else d1

/-- A write of CQ_CFG: setting EN restarts PHASE at 1 and the tail at 0 (R450); the consumed position follows. -/
def Dev.cqCfgWrite (d : Dev) (c w : Nat) : Dev :=
  let d1 := d.setAll [(F.CQ_EN c, bits w 0 1), (F.CQ_SIZE_LOG2 c, bits w 1 5), (F.CQ_VECTOR c, bits w 8 6),
    (F.CQ_COAL_COUNT c, bits w 16 8), (F.CQ_COAL_TIME c, bits w 24 8)]
  if bit w 0 && !d.flag (F.CQ_EN c) then
    let d2 := d1.setAll [(F.CQ_PHASE c, 1), (F.CQ_TAIL c, 0), (F.CQ_HEAD_SEEN c, 0)]
    { d2 with smi := { d2.smi with written := tdel d2.smi.written c, coal := tdel d2.smi.coal c } }
  else d1

def execSubmissionRingEn (ring : Fin 16) (value : Word) (s : State) : Host.Outcome State Fault Refusal :=
  onDev (fun _ d => if d.flag F.BT_FAILED then d else d.sqCfgWrite ring value.toNat) s

def execCompletionRingEn (ring : Fin 16) (value : Word) (s : State) : Host.Outcome State Fault Refusal :=
  onDev (fun _ d => if d.flag F.BT_FAILED then d else d.cqCfgWrite ring value.toNat) s

end Sys2Proof.Machine
end

