-- ==== Sys2Proof/Machine/Taper.lean ====
section
/-! DEFINITION. The Taper link (R451 to R478): words and blocks, retry, credits, messages, training, Ethernet carriage. -/

namespace Sys2Proof.Machine
open Sys2Proof

def Dev.onTap (d : Dev) (f : Taper → Taper) : Dev := { d with taper := f d.taper }

/-- STATE of R478. -/
def tapDown : Nat := 0
def tapAdapt : Nat := 1
def tapLaneId : Nat := 2
def tapLock : Nat := 3
def tapConfig : Nat := 4
def tapUp : Nat := 5

def Dev.tapState (d : Dev) : Nat := d.get F.TAP_STATE

/-- An FLC of block 40 (R476). -/
def flcTap (unit engine : Nat) : Nat := flc 40 unit engine

/-! Words and blocks (R455, R456). -/

/-- A control word from its KIND and bytes 1 onward. -/
def ctrlWord (kind : Nat) (rest : Bytes) : Bytes :=
  let b := padTo ((byte kind :: rest).take 28) 28
  b ++ toLE (crc32c b) 4

/-- Does a control word's CRC hold. -/
def wordGood (w : Bytes) : Bool := w.length == 32 && crc32c (w.take 28) == leAt w 28 4

/-- ACK and NAK words, the CREDIT words of eight counts, the TRAIN word. -/
def ackWord (s : Nat) : Bytes := ctrlWord 3 (toLE 0 3 ++ toLE s 2)
def nakWord (s : Nat) : Bytes := ctrlWord 4 (toLE 0 3 ++ toLE s 2)
def creditWord (high : Bool) (counts : List Nat) : Bytes :=
  ctrlWord (if high then 6 else 5) (toLE 0 3 ++ (counts.map (fun c => toLE c 2)).flatten)
def trainWord (lane step widths next : Nat) (first : Bool) : Bytes :=
  ctrlWord 7 (toLE 0 3 ++ toLE lane 1 ++ toLE step 1 ++ toLE widths 1 ++ toLE 0 1 ++ toLE next 2 ++ toLE (b2n first) 1)

/-- Words of a block with a body of n bytes. -/
def blockWords (n : Nat) : Nat := 1 + ceilDiv (n + 4) 32

/-- The BLOCK_START word of a block. -/
def TapBlock.start (b : TapBlock) : Bytes :=
  ctrlWord 1 (toLE b.type 1 ++ toLE (b.vc % 16 + 16 * b2n b.first + 32 * b2n b.last) 1 ++ toLE 0 1 ++
    toLE (b.seq % 4096) 2 ++ toLE b.body.length 2)

/-- A block as it travels: its start word, its body padded, and the CRC of the whole at the end. -/
def TapBlock.bytes (b : TapBlock) : Bytes :=
  b.start ++ padTo b.body (32 * (blockWords b.body.length - 1) - 4) ++ toLE (crc32c (b.start.take 28 ++ b.body)) 4

/-- Credits a block consumes (R461). -/
def blockCredits (n : Nat) : Nat := ceilDiv n 64

/-! What the link emits (R474). -/

/-- A MAC address from its two registers. -/
def Dev.tapMac (d : Dev) (hi lo : Fld) : Bytes := addr6 (d.get hi) (d.get lo)

/-- The Ethernet frame that carries one unit. -/
def Dev.carried (d : Dev) (unit : Bytes) : Bytes :=
  withFcs (padTo (d.tapMac F.TAP_ETH_PEER_MAC_HI F.TAP_ETH_PEER_MAC_LO ++ d.tapMac F.TAP_ETH_LOCAL_MAC_HI F.TAP_ETH_LOCAL_MAC_LO ++
    toBE 0x88B5 2 ++ toBE 1 2 ++ unit) 60) false

/-- Send a control word or a block; in Ethernet carriage mode in a frame of its own. -/
def Dev.tapSend (d : Dev) (unit : Bytes) : Dev := d.emit (.taper (if d.taper.eth then d.carried unit else unit))

/-! Credits (R461, R462). -/

def Dev.grantOf (d : Dev) (v : Nat) : Nat := tgetD d.taper.grants v 0

/-- Return credits of a VC to the peer: the cumulative count rises. -/
def Dev.giveBack (d : Dev) (v n : Nat) : Dev :=
  d.onTap (fun t => { t with grants := tput t.grants v 0 ((tgetD t.grants v 0 + n) % 65536) })

/-- Injects that no longer wait for cells return the credits they withheld. -/
def Dev.settleParked (d : Dev) : Dev :=
  let done := d.taper.parked.filter (fun e => !d.bm.waiting.any (fun w => w.1 == e.1))
  let d1 := d.onTap (fun t => { t with parked := t.parked.filter (fun e => !done.contains e) })
  done.foldl (fun d e => d.giveBack e.2.1 e.2.2) d1

/-- Send both CREDIT words. -/
def Dev.sendCredits (d : Dev) : Dev :=
  (d.tapSend (creditWord false ((List.range 8).map d.grantOf))).tapSend
    (creditWord true ((List.range 8).map (fun v => d.grantOf (8 + v))))

/-- CREDIT_SEND: the counts granted, after a rise or every 10 µs while up. -/
def creditSend (_ : Clock) (d : Dev) : Dev := if d.tapState = tapUp then d.settleParked.sendCredits else d

def execCreditSend (s : State) : Host.Outcome State Fault Refusal := onDev creditSend s

/-! Training (R471 to R473). -/

/-- MIN_WIDTH in lanes. -/
def Dev.tapMinWidth (d : Dev) : Nat := 2 ^ (1 + min 2 (d.get F.TAP_MIN_WIDTH))

/-- First lane of the lowest usable set of n lanes. -/
def laneSet (usable n : Nat) : Option Nat :=
  ((List.range (8 / n)).map (n * ·)).find? (fun o => (List.range n).all (fun i => bit usable (o + i)))

/-- WIDTH_OK of the lanes usable: bit w for a width of 2^w lanes. -/
def widthOk (usable : Nat) : Nat :=
  (List.range 4).foldl (fun m w => if (laneSet usable (2 ^ w)).isSome then m + 2 ^ w else m) 0

/-- Lanes of a mask that did not fail calibration (R551). -/
def Dev.tapLanes (d : Dev) (usable : Nat) : Nat :=
  usable % 256 - (usable % 256 &&& d.get (F.BT_LANE_FAILED 16) % 256)

/-- TRAIN words of LANE_ID on every lane. -/
def Dev.sendLaneId (d : Dev) : Dev :=
  if d.taper.eth then d
  else (List.range 8).foldl (fun d i =>
    d.tapSend (trainWord i 2 (widthOk d.taper.usable) d.taper.expected d.taper.firstUp)) d

/-- The TRAIN and CREDIT words of CONFIG. -/
def Dev.sendConfig (d : Dev) : Dev :=
  (d.tapSend (trainWord 0 4 (widthOk d.taper.usable) d.taper.expected d.taper.firstUp)).sendCredits

/-- Every count of the link afresh, with FIRST_UP set (R472). Messages that wait to be sent stay. -/
def Dev.tapFresh (d : Dev) : Dev :=
  let grants := (List.range 16).filterMap (fun v =>
    if d.get (F.TAP_CREDIT_INIT v) = 0 then none else some (v, d.get (F.TAP_CREDIT_INIT v)))
  let eth := d.flag F.TAP_ETH_MODE
  d.onTap (fun t => { t with
    seq := 0, unacked := [], again := [], lastAck := none, replays := 0, replayOf := none, granted := [], consumed := []
    expected := 0, nakAt := none, grants := grants, open_ := [], eth := eth, firstUp := true
    peerWidth := none, peerNext := none })

/-- Training starts from DOWN, unless the initial credits pass the buffer (R462). -/
def Dev.tapStart (d : Dev) (k : Clock) : Dev :=
  if ((List.range 16).map (fun v => d.get (F.TAP_CREDIT_INIT v))).foldl (· + ·) 0 > 8192 then
    (d.setBit F.TAP_STICKY 2).event k 642 (flcTap 3 0)
  else d.tapFresh.set F.TAP_STATE tapAdapt

/-- A step of training fails: training restarts at step 1. -/
def Dev.tapFail (d : Dev) (k : Clock) : Dev :=
  ((d.setBit F.TAP_STICKY 0).set F.TAP_STATE tapAdapt).event k 642 (flcTap 1 0)

/-- Injects that wait are discarded as the link goes DOWN (R473, R319). -/
def Dev.injectsDropped (d : Dev) (k : Clock) : Dev :=
  let waiting := d.bm.waiting.filter (fun e => d.taper.parked.any (fun p => p.1 == e.1))
  let drop := fun (d : Dev) (len : Nat) => ((d.count (cGlobal 72) len).setBit F.TAP_STICKY 6).event k 648 (flcTap 4 8)
  let d1 := waiting.foldl (fun d e =>
    let len := ((d.frame? e.1).map (fun f => f.bytes.length)).getD 0
    let lost := match e.2 with
      | .offer q c => d.tsLost k q c
      | _ => d
    drop { lost.unpark e.1 with frames := tdel lost.frames e.1 } len) d
  d1.taper.whole.foldl (fun d o =>
    if o.type = 0x20 then d
    else
      let q := leAt o.bytes 0 2
      let lost := if bit (leAt o.bytes 2 1) 0 then d.tsqDiscard k (q / 8) (leAt o.bytes 4 2) else d
      drop lost (o.bytes.length - 32)) d1

/-- The link goes DOWN (R473). -/
def Dev.tapDrop (d : Dev) (k : Clock) : Dev :=
  if d.tapState = tapDown then d
  else
    let wasUp := d.tapState == tapUp || d.flag F.TAP_RETRAINING
    let d1 := (d.injectsDropped k).onTap (fun t => { t with
      unacked := [], again := [], open_ := [], whole := t.whole.filter (fun o => o.type == 0x20), parked := [], msgs := [], pass := none })
    let d2 := d1.setAll [(F.TAP_STATE, 0), (F.TAP_WIDTH, 0), (F.TAP_RETRAINING, 0)]
    if wasUp then d2.event k 640 (flcTap 1 0) else d2

/-- A link that was UP retrains from step 2 (R472). -/
def Dev.tapRetrain (d : Dev) (k : Clock) : Dev :=
  if d.tapState != tapUp then d
  else
    let d1 := (d.setAll [(F.TAP_STATE, tapLaneId), (F.TAP_RETRAINING, 1)]).satInc F.TAP_RETRAINS
    let d2 := d1.onTap (fun t => { t with peerWidth := none, peerNext := none, firstUp := false })
    (d2.event k 643 (flcTap 1 0)).sendLaneId

/-- The width and first lane of R471: the widest both ends mark usable. -/
def Dev.tapChoose (d : Dev) (usable : Nat) : Option (Nat × Nat) :=
  match d.taper.peerWidth with
  | none => none
  | some peer => [3, 2, 1].findSome? (fun w =>
      if d.tapMinWidth ≤ 2 ^ w && bit peer w then (laneSet usable (2 ^ w)).map (fun o => (2 ^ w, o)) else none)

/-- LANE_ID ends: the width, reversal and polarity are fixed. In Ethernet carriage the eight lanes run (R474). -/
def Dev.tapWidthed (d : Dev) (k : Clock) (usable : Nat) (reversed : Bool) (polarity : Nat) : Dev :=
  let pick := if d.taper.eth then (if usable = 255 then some (8, 0) else none) else d.tapChoose usable
  match pick with
  | none => d.tapFail k
  | some (w, o) =>
    let d1 := (d.onTap (fun t => { t with usable := usable, lane0 := o })).setAll
      [(F.TAP_STATE, tapLock), (F.TAP_WIDTH, w), (F.TAP_REVERSED, b2n reversed), (F.TAP_POL_INV, polarity)]
    if w < 8 then (d1.setBit F.TAP_STICKY 1).event k 641 (flcTap 0 255) else d1

/-- CONFIG ends: the link is up, and what the peer does not expect next is sent again (R472). -/
def Dev.tapGoesUp (d : Dev) (k : Clock) : Dev :=
  match d.taper.peerNext with
  | none => d.tapFail k
  | some n =>
    let keep := d.taper.unacked.dropWhile (fun b => b.seq != n)
    let left := if d.taper.unacked.any (fun b => b.seq == n) then keep else []
    let d1 := d.onTap (fun t => { t with
      unacked := left, again := left.map TapBlock.seq, replays := 0, replayOf := none, firstUp := false })
    (d1.setAll [(F.TAP_STATE, tapUp), (F.TAP_RETRAINING, 0)]).event k 640 (flcTap 1 0)

/-- TAPER_TRAIN_STEP: the step under way completes, or fails. `usable` gives the lanes usable, `reversed` and `polarity`
what LANE_ID found. From DOWN, training starts. -/
def tapStep (ok : Bool) (usable : Nat) (reversed : Bool) (polarity : Nat) (k : Clock) (d : Dev) : Dev :=
  let lanes := d.tapLanes usable
  let s := d.tapState
  if !d.flag F.TAP_EN || d.isHeld 40 || s = tapUp then d
  else if s = tapDown then d.tapStart k
  else if !ok then d.tapFail k
  else if s = tapAdapt then
    ((d.onTap (fun t => { t with usable := lanes, peerWidth := none })).set F.TAP_STATE tapLaneId).sendLaneId
  else if s = tapLaneId then d.tapWidthed k lanes reversed polarity
  else if s = tapLock then ((d.onTap (fun t => { t with peerNext := none })).set F.TAP_STATE tapConfig).sendConfig
  else d.tapGoesUp k

def execTaperTrainStep (ok : Bool) (usable : Fin 256) (reversed : Bool) (polarity : Fin 256) (s : State) :
    Host.Outcome State Fault Refusal := onDev (tapStep ok usable reversed polarity) s

/-- TAPER_TRAIN_TIMEOUT: TRAIN_TIMEOUT has passed since step 1 began. -/
def tapTimeout (k : Clock) (d : Dev) : Dev :=
  if d.tapState = tapDown || d.tapState = tapUp || d.isHeld 40 then d else d.tapFail k

def execTaperTrainTimeout (s : State) : Host.Outcome State Fault Refusal := onDev tapTimeout s

/-- A write of the register that holds EN, ETH_MODE, MIN_WIDTH and TRAIN_TIMEOUT. -/
def Dev.tapCtrlWrite (d : Dev) (k : Clock) (w : Nat) : Dev :=
  let d1 := d.setAll [(F.TAP_EN, bits w 0 1), (F.TAP_ETH_MODE, bits w 1 1), (F.TAP_MIN_WIDTH, bits w 2 2), (F.TAP_TRAIN_TIMEOUT, bits w 8 8)]
  if !bit w 0 then d1.tapDrop k else if d.tapState = tapDown then d1.tapStart k else d1

def execTaperEnWrite (value : Word) (s : State) : Host.Outcome State Fault Refusal :=
  onDev (fun k d => if d.isHeld 40 || d.flag F.BT_FAILED then d else d.tapCtrlWrite k value.toNat) s

/-- CODEWORD_LOCK_LOSS: an active lane has lost lock for 16 codewords (R453). -/
def lockLoss (lane : Nat) (k : Clock) (d : Dev) : Dev :=
  if d.taper.eth || lane < d.taper.lane0 || d.taper.lane0 + d.get F.TAP_WIDTH ≤ lane then d else d.tapRetrain k

def execCodewordLockLoss (lane : Fin 8) (s : State) : Host.Outcome State Fault Refusal := onDev (lockLoss lane) s

/-! Control words received (R455, R459 to R461, R471). -/

/-- An ACK of s (R459, R460). -/
def Dev.gotAck (d : Dev) (s : Nat) : Dev :=
  let t := d.taper
  if t.unacked.any (fun b => b.seq == s) then
    let left := (t.unacked.dropWhile (fun b => b.seq != s)).drop 1
    d.onTap (fun t => { t with
      unacked := left, again := t.again.filter (fun x => left.any (fun b => b.seq == x)), lastAck := some s
      replays := 0, replayOf := none })
  else if t.lastAck = some s then d else d.count (cGlobal 67) 0

/-- A NAK of s (R459, R460): blocks before s are freed, the rest are sent again from s onward. -/
def Dev.gotNak (d : Dev) (s : Nat) : Dev :=
  let t := d.taper
  if t.unacked.any (fun b => b.seq == s) || t.lastAck = some s then
    let left := if t.unacked.any (fun b => b.seq == s) then t.unacked.dropWhile (fun b => b.seq != s) else t.unacked
    let freed := left.length < t.unacked.length
    d.onTap (fun t => { t with
      unacked := left, again := left.map TapBlock.seq
      lastAck := if freed then some ((s + 4095) % 4096) else t.lastAck
      replays := if freed then 0 else t.replays, replayOf := if freed then none else t.replayOf })
  else d.count (cGlobal 67) 0

/-- A CREDIT word: cumulative counts of eight VCs. -/
def Dev.gotCredit (d : Dev) (base : Nat) (w : Bytes) : Dev :=
  (List.range 8).foldl (fun d i =>
    d.onTap (fun t => { t with granted := tput t.granted (base + i) 0 (leAt w (4 + 2 * i) 2) })) d

/-- A TRAIN word: what the peer can use and expects. FIRST_UP during a retrain forces DOWN. -/
def Dev.gotTrain (d : Dev) (k : Clock) (w : Bytes) : Dev :=
  if bit (leAt w 10 1) 0 && d.flag F.TAP_RETRAINING then d.tapDrop k
  else if d.tapState = tapLaneId && !d.taper.eth then d.onTap (fun t => { t with peerWidth := some (leAt w 6 1) })
  else if d.tapState = tapConfig then d.onTap (fun t => { t with peerNext := some (leAt w 8 2 % 4096) })
  else d

/-- A control word other than BLOCK_START, by its KIND. -/
def Dev.gotWord (d : Dev) (k : Clock) (w : Bytes) : Dev :=
  let up := d.tapState == tapUp
  if !wordGood w then d
  else match (byteAt w 0).toNat with
    | 1 => d
    | 2 => d
    | 3 => if up then d.gotAck (leAt w 4 2 % 4096) else d
    | 4 => if up then d.gotNak (leAt w 4 2 % 4096) else d
    | 5 => if tapConfig ≤ d.tapState then d.gotCredit 0 w else d
    | 6 => if tapConfig ≤ d.tapState then d.gotCredit 8 w else d
    | 7 => d.gotTrain k w
    | _ => d.count (cGlobal 66) 0

/-- Does a bare word reach the link: not held, and not in Ethernet carriage mode. -/
def Dev.tapHears (d : Dev) : Bool := d.tapState != tapDown && !d.taper.eth && !d.isHeld 40

/-- A word whose row names its KIND; a word of a reserved KIND is counted, one of another KIND is that row's. -/
def wordOfKind (kind : Nat) (w : Bytes) (k : Clock) (d : Dev) : Dev :=
  let x := (byteAt w 0).toNat
  if d.tapHears && (x = kind || x = 0 || 7 < x) then d.gotWord k w else d

def execAck (word : Bytes) (s : State) : Host.Outcome State Fault Refusal := onDev (wordOfKind 3 word) s
def execNak (word : Bytes) (s : State) : Host.Outcome State Fault Refusal := onDev (wordOfKind 4 word) s
def execCreditLo (word : Bytes) (s : State) : Host.Outcome State Fault Refusal := onDev (wordOfKind 5 word) s
def execCreditHi (word : Bytes) (s : State) : Host.Outcome State Fault Refusal := onDev (wordOfKind 6 word) s
def execTrain (word : Bytes) (s : State) : Host.Outcome State Fault Refusal := onDev (wordOfKind 7 word) s

/-- REPLAY_TIMEOUT: the oldest unacknowledged block has not been acknowledged since it was last sent (R459). After
REPLAY_NUM replays of it the link retrains. -/
def replayTimeout (k : Clock) (d : Dev) : Dev :=
  match d.taper.unacked with
  | [] => d
  | b :: _ =>
    let n := if d.taper.replayOf = some b.seq then d.taper.replays else 0
    if d.tapState != tapUp || d.taper.again.contains b.seq || d.isHeld 40 then d
    else if max 1 (d.get F.TAP_REPLAY_NUM) ≤ n then
      ((d.setBit F.TAP_STICKY 3).event k 644 (flcTap 2 0)).tapRetrain k
    else d.onTap (fun t => { t with again := t.unacked.map TapBlock.seq, replays := n + 1, replayOf := some b.seq })

def execReplayTimeout (s : State) : Host.Outcome State Fault Refusal := onDev replayTimeout s

/-! Messages received (R457, R464, R466, R470). -/

/-- Does a queue identifier name a queue of a front port. -/
def Dev.frontQueue (d : Dev) (q : Nat) : Bool := q < 4096 && d.portExists (q / 8)

/-- INJECT metadata that breaks its rules (R466), on a VC or for FRAME_SEND on the class it names. -/
def Dev.injectBad (d : Dev) (seg : Bool) (b : Bytes) : Bool :=
  let len := leAt b 6 2
  !d.frontQueue (leAt b 0 2) || 4 ≤ leAt b 2 1 || 32 ≤ leAt b 3 1 ||
    (if seg then len = 0 || leAt b 8 2 = 0 || 16000 < leAt b 8 2 || leAt b 10 4 = 0 || 262144 < leAt b 10 4
     else len < 14 || 15996 < len || leAt b 8 2 != 0 || leAt b 10 4 != 0) ||
    (sliceZ b 14 18).any (· != 0)

/-- Bytes that an inject's metadata says follow it. -/
def injectLen (b : Bytes) : Nat := leAt b 6 2 + leAt b 10 4

/-- Bytes of the table-staging region (R380). -/
def Dev.stagingSize (d : Dev) : Nat := (d.region regStaging).length * 2 ^ 30

/-- Does a message, as far as it has come, break its type's rules. -/
def Dev.messageBad (d : Dev) (o : TapOpen) (last : Bool) : Bool :=
  let n := o.bytes.length
  let follows := fun (m want : Nat) => want + m < n || (last && n != want + m)
  match o.type with
  | 0x08 => 7 < o.vc || (last && n < 32) ||
      (32 ≤ n && (d.injectBad false o.bytes || leAt o.bytes 3 1 % 8 != o.vc || follows 32 (injectLen o.bytes)))
  | 0x09 => 7 < o.vc || (last && n < 32) ||
      (32 ≤ n && (d.injectBad true o.bytes || leAt o.bytes 3 1 % 8 != o.vc || follows 32 (injectLen o.bytes)))
  | 0x20 => o.vc != 10 || (last && n < 16) ||
      (16 ≤ n && (leAt o.bytes 0 8 % 64 != 0 || leAt o.bytes 8 4 = 0 || 1048576 < leAt o.bytes 8 4 ||
        d.stagingSize < leAt o.bytes 0 8 + leAt o.bytes 8 4 || (sliceZ o.bytes 12 4).any (· != 0) ||
        follows 16 (leAt o.bytes 8 4)))
  | _ => true

def Dev.setOpen (d : Dev) (v : Nat) (o : Option TapOpen) : Dev :=
  d.onTap (fun t => { t with open_ := match o with
    | some x => tset t.open_ v x
    | none => tdel t.open_ v })

/-- A message is discarded: its credits return and its remaining blocks are skipped. -/
def Dev.metaErr (d : Dev) (k : Clock) (o : TapOpen) (last : Bool) : Dev :=
  let d1 := ((d.count (cGlobal 70) 0).setBit F.TAP_STICKY 4).event k 645 (flcTap 4 o.type)
  let d2 := d1.giveBack o.vc o.credits
  d2.setOpen o.vc (if last then none else some { o with bytes := [], credits := 0, skip := true })

/-- A further part of a message. -/
def Dev.extend (d : Dev) (k : Clock) (o : TapOpen) (last : Bool) : Dev :=
  if d.messageBad o last then d.metaErr k o last
  else if last then (d.setOpen o.vc none).onTap (fun t => { t with whole := t.whole ++ [o] })
  else d.setOpen o.vc (some o)

/-- An accepted block's place in its VC's message. -/
def Dev.blockBody (d : Dev) (k : Clock) (b : TapBlock) : Dev :=
  let n := blockCredits b.body.length
  if b.first then
    let d1 := match tget? d.taper.open_ b.vc with
      | some o => if o.skip then d else (d.count (cGlobal 69) 0).giveBack b.vc o.credits
      | none => d
    d1.extend k ⟨b.type, b.vc, b.body, n, false⟩ b.last
  else match tget? d.taper.open_ b.vc with
    | none => (d.count (cGlobal 69) 0).giveBack b.vc n
    | some o =>
      if o.skip then (if b.last then d.setOpen b.vc none else d).giveBack b.vc n
      else d.extend k { o with bytes := o.bytes ++ b.body, credits := o.credits + n } b.last

/-! Blocks received (R458). -/

/-- Send a NAK of the block expected: one per error episode, again after 2 µs. -/
def Dev.tapNak (d : Dev) (k : Clock) : Dev :=
  let wait := match d.taper.nakAt with
    | some t => decide (tickNs t k.tick < 2000)
    | none => false
  if wait then d else (d.tapSend (nakWord d.taper.expected)).onTap (fun t => { t with nakAt := some k.tick })

/-- A block: its start word, its data words, and whether one of them is bad. -/
def Dev.gotBlock (d : Dev) (k : Clock) (u : Bytes) (bad : Bool) : Dev :=
  let h := u.take 32
  let len := leAt h 6 2
  let seq := leAt h 4 2 % 4096
  if d.tapState != tapUp then d
  else if !wordGood h || byteAt h 0 != 1 then d.tapNak k
  else
    let body := sliceZ u 32 len
    let good := !bad && 1 ≤ len && len ≤ 2048 && u.length == 32 * blockWords len &&
      crc32c (h.take 28 ++ body) == leAt u (u.length - 4) 4
    let ahead := (seq + 4096 - d.taper.expected) % 4096
    if !good then d.tapNak k
    else if ahead = 0 then
      let d1 := d.onTap (fun t => { t with expected := (t.expected + 1) % 4096, nakAt := none })
      let fl := leAt h 2 1
      (d1.blockBody k ⟨seq, leAt h 1 1, fl % 16, bit fl 4, bit fl 5, body⟩).tapSend (ackWord seq)
    else if ahead < 2048 then d.tapNak k
    else d.tapSend (ackWord ((d.taper.expected + 4095) % 4096))

/-- BLOCK_START: a block as received; whether a word of it is bad, and the codewords corrected and uncorrectable (R453). -/
def blockStart (block : Bytes) (bad : Bool) (corrected uncorrectable : Nat) (k : Clock) (d : Dev) : Dev :=
  if !d.tapHears then d
  else
    let d1 := (List.range corrected).foldl (fun d _ => d.count (cGlobal 64) 0) d
    let d2 := (List.range uncorrectable).foldl (fun d _ => d.count (cGlobal 65) 0) d1
    d2.gotBlock k block (bad || uncorrectable != 0)

def execBlockStart (block : Bytes) (bad : Bool) (corrected uncorrectable : Nat) (s : State) :
    Host.Outcome State Fault Refusal := onDev (blockStart block bad corrected uncorrectable) s

/-! Ethernet carriage (R474). -/

/-- The units of a frame, one after another; what is left over is padding. -/
def Dev.gotUnits (d : Dev) (k : Clock) : Nat → Bytes → Dev
  | 0, _ => d
  | n + 1, u =>
    if u.length < 32 then d
    else if byteAt u 0 = 1 then
      if wordGood (u.take 32) then
        let w := 32 * blockWords (leAt u 6 2)
        (d.gotBlock k (u.take w) false).gotUnits k n (u.drop w)
      else d.tapNak k
    else (d.gotWord k (u.take 32)).gotUnits k n (u.drop 32)

/-- ETH_CARRIAGE_FRAME: a frame received on the eight lanes in Ethernet carriage mode. -/
def ethFrame (f : Bytes) (k : Clock) (d : Dev) : Dev :=
  if !d.taper.eth || d.tapState < tapConfig || d.isHeld 40 then d
  else
    let n := f.length - 4
    let good := 64 ≤ f.length && fcs32 (f.take n) == leAt f n 4 &&
      f.take 6 == d.tapMac F.TAP_ETH_LOCAL_MAC_HI F.TAP_ETH_LOCAL_MAC_LO && beAt f 12 2 == 0x88B5 && beAt f 14 2 % 16 == 1
    if good then d.gotUnits k f.length ((f.take n).drop 16)
    else (d.count (cGlobal 73) f.length).setBit F.TAP_STICKY 7

def execEthCarriageFrame (frame : Bytes) (s : State) : Host.Outcome State Fault Refusal := onDev (ethFrame frame) s

/-! Acting on messages (R467, R138, R470). -/

/-- The frame and copy of an inject's metadata and bytes, by way of port 512 or 513. -/
def Dev.injectFrame (d : Dev) (k : Clock) (via : Nat) (seg : Bool) (m data : Bytes) : Frame × Copy :=
  let cls := leAt m 3 1 % 8
  let req : TsReq := ⟨if bit (leAt m 2 1) 0 then some (leAt m 4 2) else none, bit (leAt m 2 1) 1⟩
  let kind : CopyKind := if seg then .segmented (leAt m 6 2) (leAt m 8 2) 0 req else .inject req
  let f := { Frame.new via cls (d.poolOf via cls) 0 k.ts32 with
    bytes := data, ended := some .good, rxLen := data.length, headed := true, decided := true }
  (f, ⟨0, cls, leAt m 3 1 / 8 % 4, [], [], 0, 1, 0, kind, false, false, false, none, .keep, [], none, false⟩)

/-- A host frame asks for its cells, and is offered to its queue when it has them: what became of it, with its number. -/
def Dev.injectAsk (d : Dev) (k : Clock) (via : Nat) (seg : Bool) (m data : Bytes) : Ask × Option Admit × Nat × Dev :=
  let q := leAt m 0 2
  let fid := d.newFrame
  let (f, c0) := d.injectFrame k via seg m data
  let c := { c0 with fid := fid }
  match (d.setFrame fid f).askWhole k fid with
  | (.granted, d1) =>
    let (a, d2) := d1.offer k q fid c
    (.granted, some a, fid, d2)
  | (.waits, d1) => (.waits, none, fid, d1.park fid (.offer q c))
  | (.dropped, d1) => (.dropped, none, fid, d1.tsLost k q c)

/-- The oldest whole message of a type that nothing on its VC stands before. -/
def Dev.nextWhole (d : Dev) (type : Nat) : Option TapOpen :=
  let t := d.taper
  (t.whole.find? (fun o => o.type == type &&
    !t.parked.any (fun p => p.2.1 == o.vc) && t.whole.find? (fun x => x.vc == o.vc) == some o))

/-- A whole inject enters the forwarding path; its credits return once it has its cells or is lost (R462). -/
def tapInject (type : Nat) (k : Clock) (d0 : Dev) : Dev :=
  let d := d0.settleParked
  match d.nextWhole type with
  | none => d
  | some o =>
    if d.isHeld 33 || d.isHeld 40 then d
    else
      let d1 := d.onTap (fun t => { t with whole := t.whole.erase o })
      let (a, _, fid, d2) := d1.injectAsk k 512 (type == 9) (o.bytes.take 32) (o.bytes.drop 32)
      match a with
      | .waits => d2.onTap (fun t => { t with parked := t.parked ++ [(fid, o.vc, o.credits)] })
      | _ => (d2.giveBack o.vc o.credits).poolsUpdate k

def execInject (s : State) : Host.Outcome State Fault Refusal := onDev (tapInject 8) s
def execSegInject (s : State) : Host.Outcome State Fault Refusal := onDev (tapInject 9) s

/-- TABLE_IMAGE: a whole image goes to the table-staging region, and its credits return; `bad` is an uncorrectable DRAM
write error (R470). -/
def tableImage (bad : Bool) (m : Mach) : Mach :=
  match m.dev.nextWhole 0x20 with
  | none => m
  | some o =>
    let d := m.dev.onTap (fun t => { t with whole := t.whole.erase o })
    if bad then
      m.setDev ((((d.count (cGlobal 70) 0).setBit F.TAP_STICKY 4).event m.clk 645 (flcTap 4 0x20)).giveBack o.vc o.credits)
    else { m with
      dram := mwrite m.dram (regionBase regStaging + leAt o.bytes 0 8) (o.bytes.drop 16)
      dev := d.giveBack o.vc o.credits }

def execTableImage (bad : Bool) (s : State) : Host.Outcome State Fault Refusal := onMach (tableImage bad) s

/-! Streams (R468, R469). -/

def Dev.addMsg (d : Dev) (v type : Nat) (b : Bytes) : Dev :=
  d.onTap (fun t => { t with msgs := tset t.msgs v (tgetD t.msgs v [] ++ [⟨type, b, false⟩]) })

/-- The number of the tally period in progress. -/
def Dev.periodNo (d : Dev) : Nat := d.get64 F.CH_PERIOD_LO F.CH_PERIOD_HI

/-- The pass that is due begins, or is skipped while the one before still sends. -/
def Dev.passBegins (d : Dev) (k : Clock) : Dev :=
  let n := d.get F.TAP_CSTREAM_INTERVAL
  let busy := d.taper.pass.isSome || !(tgetD d.taper.msgs 8 []).isEmpty
  if n = 0 || d.periodNo < d.taper.passDue then d
  else
    let d1 := d.onTap (fun t => { t with passDue := d.periodNo + n })
    if busy then (d1.count (cGlobal 71) 0).event k 646 (flcTap 4 0x10)
    else
      let first := d.get F.TAP_CSTREAM_FIRST
      let stop := min counterCount (first + d.get F.TAP_CSTREAM_COUNT)
      d1.onTap (fun t => { t with pass := if first < stop then some ⟨first, stop⟩ else none, passNo := t.passNo + 1 })

/-- The next message of the pass in progress: up to 127 records, each read now. -/
def Dev.passMessage (d : Dev) (k : Clock) : Dev :=
  match d.taper.pass with
  | none => d
  | some p =>
    let n := min 127 (p.stop - p.next)
    let recs := (List.range n).map (fun i => (tgetD d.ctrs (p.next + i) Ctr.zero).bytes16)
    let head := toLE p.next 4 ++ toLE n 2 ++ toLE (d.taper.passNo - 1) 2 ++ toLE k.sec 4 ++ toLE k.ns 4
    (d.addMsg 8 0x10 (head ++ recs.flatten)).onTap (fun t => { t with
      pass := if p.next + n < p.stop then some ⟨p.next + n, p.stop⟩ else none })

/-- COUNTER_STREAM_PASS: a pass that is due begins, and the next message of the pass in progress is built. -/
def counterPass (k : Clock) (d : Dev) : Dev :=
  if d.isHeld 40 || d.tapState != tapUp then d else (d.passBegins k).passMessage k

def execCounterStreamPass (s : State) : Host.Outcome State Fault Refusal := onDev counterPass s

/-- The next message of the event stream, when it is on, none waits and records do. -/
def eventMessage (m : Mach) : Mach :=
  let d := m.dev
  if !d.flag F.TAP_ESTREAM_EN || !(tgetD d.taper.msgs 9 []).isEmpty || d.nextSeq ≤ d.taper.events then m
  else
    let gap := d.taper.events < d.oldestSeq
    let from_ := max d.taper.events d.oldestSeq
    let n := min 63 (d.nextSeq - from_)
    let recs := (List.range n).map (fun i => m.lampRead (from_ + i))
    let d1 := d.addMsg 9 0x11 (toLE from_ 8 ++ toLE n 2 ++ toLE (b2n gap) 1 ++ toLE 0 5 ++ recs.flatten)
    let d2 := d1.onTap (fun t => { t with events := from_ + n })
    m.setDev (if gap then (d2.setBit F.TAP_STICKY 5).event m.clk 647 (flcTap 4 0x11) else d2)

/-! Sending blocks (R459, R463). -/

/-- Bytes the retry buffer holds. -/
def Dev.retryBytes (d : Dev) : Nat := d.taper.unacked.foldl (fun n b => n + 32 * blockWords b.body.length) 0

/-- May the first message of a VC send its next block. -/
def Dev.vcReady (d : Dev) (v : Nat) : Bool :=
  match tgetD d.taper.msgs v [] with
  | [] => false
  | m :: _ =>
    let n := min 2048 m.bytes.length
    blockCredits n ≤ d.vcCredit v && d.retryBytes + 32 * blockWords n ≤ 2 ^ 20

/-- The VC whose turn it is. -/
def Dev.vcTurn (d : Dev) : Option Nat := ((List.range 16).map (fun i => (d.taper.turn + 1 + i) % 16)).find? d.vcReady

/-- Send the next block of a VC's first message. -/
def Dev.sendBlock (d : Dev) (v : Nat) : Dev :=
  match tgetD d.taper.msgs v [] with
  | [] => d
  | m :: rest =>
    let body := m.bytes.take 2048
    let left := m.bytes.drop 2048
    let b : TapBlock := ⟨d.taper.seq, m.type, v, !m.begun, left.isEmpty, body⟩
    let d1 := d.onTap (fun t => { t with
      seq := (t.seq + 1) % 4096
      unacked := t.unacked ++ [b]
      consumed := tput t.consumed v 0 ((tgetD t.consumed v 0 + blockCredits body.length) % 65536)
      msgs := tput t.msgs v [] (if left.isEmpty then rest else { m with bytes := left, begun := true } :: rest)
      turn := v })
    d1.tapSend b.bytes

/-- TAPER_BLOCK_SEND: a block to be sent again goes first, else one of the VC whose turn it is. -/
def blockSend (m0 : Mach) : Mach :=
  if m0.dev.tapState != tapUp || m0.dev.isHeld 40 then m0
  else
    let m := eventMessage m0
    let d := m.dev
    match d.taper.again with
    | s :: rest =>
      let d1 := (d.onTap (fun t => { t with again := rest })).count (cGlobal 68) 0
      m.setDev (match d.taper.unacked.find? (fun b => b.seq == s) with
        | some b => d1.tapSend b.bytes
        | none => d)
    | [] =>
      if 2047 ≤ d.taper.unacked.length then m
      else match d.vcTurn with
        | some v => m.setDev (d.sendBlock v)
        | none => m

def execTaperBlockSend (s : State) : Host.Outcome State Fault Refusal := onMach blockSend s

end Sys2Proof.Machine
end

