-- ==== Sys2Proof/Machine/Commit.lean ====
section
/-! DEFINITION. Staging and commit (R479 to R486), what a commit changes beside the fields, and the configuration
fingerprint (R494 to R498). -/

namespace Sys2Proof.Machine
open Sys2Proof

/-- FLCs of block 42 (R503). -/
def flcGlobal (unit : Nat) : Nat := flc 42 unit 0

/-- The field a key names. -/
def fldOfKey (key : Nat) : Option Fld := (fieldsAt (key / 32)).find? (fun f => f.lo == key % 32)

/-- Apply a staged value. -/
def Dev.applyStaged (d : Dev) (e : Nat × Nat) : Dev :=
  match fldOfKey e.1 with
  | some f => d.set f e.2
  | none => d

/-- Staged values of the named groups, in group order (R326, R480). -/
def Dev.stagedOf (d : Dev) (mask : Nat) : Tab Nat :=
  ((maskBits mask 16).map (fun g => d.staged.filter (fun e => d.groupOfKey e.1 == g))).flatten

/-- Is a key a pool field (R241, R267). -/
def isPoolKey (key : Nat) : Bool := 0x1C00100 ≤ key / 32 && key / 32 < 0x1C00300

/-- Do the pools as they stand break R241. -/
def Dev.poolsBad (d : Dev) : Bool :=
  (List.range 16).any (fun p => d.get (F.POOL_T2 p) < d.get (F.POOL_T1 p) || d.get (F.POOL_T3 p) < d.get (F.POOL_T2 p) ||
    d.get (F.POOL_SIZE p) < d.get (F.POOL_T3 p)) ||
  1048576 < (List.range 16).foldl (fun n p => n + d.get (F.POOL_RESERVE p)) 0

/-- A value WRED_SEED loads: 0 acts as 0xACE1. -/
def Dev.loadLfsr (d : Dev) : Dev :=
  { d with bm := { d.bm with lfsr := if d.get F.BM_WRED_SEED = 0 then 0xACE1 else d.get F.BM_WRED_SEED } }

/-- Lengths of a family's VRF lists, longest list (IPv6 VRFs stand from 4,096). -/
def Dev.longestSpan (d : Dev) (v6 : Bool) : Nat :=
  (d.tbl.span.filter (fun e => (4096 ≤ e.1) == v6)).foldl (fun n e => max n e.2.lens.length) 0

/-- DEPTH as it acts. -/
def depthActs (v : Nat) : Nat := min 8 (max 1 v)

/-- What the values applied change beside the fields, against the device before. -/
def Dev.commitEffects (d : Dev) (k : Clock) (before : Dev) (es : Tab Nat) : Dev :=
  let has := fun (f : Fld) => es.any (fun e => e.1 == f.key)
  let moved := fun (f : Fld) => has f && d.get f != before.get f
  -- the WRED generator is loaded at every commit of WRED_SEED (R252)
  let d1 := if has F.BM_WRED_SEED then d.loadLfsr else d
  -- a session's sample counter restarts when MODE or SAMPLE changes (R259)
  let d2 := (List.range 16).foldl (fun d s =>
    if moved (F.MIR_MODE s) || moved (F.MIR_SAMPLE s) then { d with bm := { d.bm with mirror := tdel d.bm.mirror s } } else d) d1
  -- a queue whose LEVEL changes loses its deficit and turn (R283)
  let levels := es.filter (fun e => 0x2100000 * 32 ≤ e.1 && e.1 < 0x2120000 * 32 && e.1 % 512 = 0)
  let d3 := levels.foldl (fun d e =>
    let q := (e.1 / 32 - 0x2100000) / 16
    if moved (F.EGQ_LEVEL q) then d.setAll [(F.EGQ_DEFICIT q, 0), (F.EGQ_IN_TURN q, 0)] else d) d2
  -- a change of FC_MODE ends the holds and what was signalled in the old mode (R131)
  let d4 := (List.range 512).foldl (fun d p =>
    if moved (F.FC_CFG_FC_MODE p) then (d.set (F.PORT_STATUS_HELD p) 0).signalNow p else d) d3
  -- a depth below the lengths of a VRF (R210)
  let over_ := fun (f : Fld) (v6 : Bool) => moved f && d.get f < before.get f && depthActs (d.get f) < d.longestSpan v6
  let d5 := if over_ F.SPAN_DEPTH_DEPTH_V4 false || over_ F.SPAN_DEPTH_DEPTH_V6 true then
    d4.setB F.BUSHEL_STICKY_SPAN_OVER true else d4
  -- the event stream begins with the next record written (R469)
  let d6 := if moved F.TAP_ESTREAM_EN && d.flag F.TAP_ESTREAM_EN then d5.onTap (fun t => { t with events := d.nextSeq }) else d5
  if es.any (fun e => isPoolKey e.1) then d6.poolsUpdate k else d6

/-- Apply the staged values of groups: whether any was applied. A commit that leaves the pools wrong is refused for every
pool field of it (R241, R483). -/
def Dev.applyGroups (d : Dev) (k : Clock) (mask : Nat) : Bool × Dev :=
  let es := d.stagedOf mask
  let d0 := { d with staged := d.staged.filter (fun e => !bit mask (d.groupOfKey e.1)) }
  let bad := es.any (fun e => isPoolKey e.1) && (es.foldl Dev.applyStaged d0).poolsBad
  let keep := if bad then es.filter (fun e => !isPoolKey e.1) else es
  let d1 := if bad then (d0.setBit F.BM_STICKY 5).event k 536 (flc 33 6 1) else d0
  (!keep.isEmpty, (keep.foldl Dev.applyStaged d1).commitEffects k d1 keep)

/-- A strobe of groups at the present tick (R481): fields, a held swap, one count of the generation (R492), LAST_COMMIT. -/
def Dev.commitNow (d : Dev) (k : Clock) (mask : Nat) (late : Bool) : Dev :=
  let (some_, d1) := d.applyGroups k mask
  let (swapped, d2) := d1.swapCommit k mask
  let d3 := if some_ || swapped then d2.bumpGen else d2
  let d4 := d3.setAll [(F.GL_LAST_COMMIT_LO, k.ns), (F.GL_LAST_COMMIT_HI, k.sec), (F.GL_LAST_COMMIT_GROUPS, mask), (F.GL_LAST_LATE, b2n late)]
  if late then (d4.setBit F.GL_GLOBAL_STICKY 2).event k 674 (flcGlobal 1) else d4

/-- An immediate strobe; while the time unit is held in reset it waits for the first tick after. -/
def Dev.strobe (d : Dev) (k : Clock) (mask : Nat) : Dev :=
  if d.isHeld 38 then { d with cfg := { d.cfg with strobe := d.cfg.strobe ||| mask } } else d.commitNow k mask false

/-! Armed commits (R484 to R486). -/

/-- Groups a wait arms. -/
def Wait.armMask (w : Wait) : Nat :=
  match w.kind with
  | .commit m _ _ => m
  | _ => 0

/-- ARMED_GROUPS. -/
def Dev.armedGroups (d : Dev) : Nat := d.smi.waits.foldl (fun m w => m ||| w.armMask) 0

/-- Does a command's generation check fail now. -/
def Dev.genStale (d : Dev) (q : Req) : Bool := q.genCheck && q.expectGen.toNat != d.get F.GL_CONFIG_GEN

/-- What an armed commit whose generation check fails records (R486). -/
def Dev.commitStale (d : Dev) (k : Clock) : Dev := (d.setBit F.GL_GLOBAL_STICKY 4).event k 676 (flcGlobal 1)

/-- The armed commits that network time has reached, applied at one tick; `detail` bit [0] marks a step (R325). -/
def Dev.armedCommits (d : Dev) (k : Clock) (detail : Nat) : Dev :=
  let due := d.smi.waits.filter (fun w => match w.kind with
    | .commit _ s n => k.reached s n
    | _ => false)
  if due.isEmpty then d
  else
    let (stale, good) := due.partition (fun w => d.genStale w.req)
    let gen := d.get F.GL_CONFIG_GEN
    let d1 := stale.foldl (fun d w => (d.commitStale k).finish k w ⟨stStale, gen, 0⟩) d
    if good.isEmpty then d1
    else
      let d2 := d1.commitNow k (good.foldl (fun m w => m ||| w.armMask) 0) false
      good.foldl (fun d w => d.finish k w ⟨stOk, detail, timeResult k⟩) d2

def execArmedCommitDue (s : State) : Host.Outcome State Fault Refusal :=
  onDev (fun k d => if d.isHeld 38 then d else d.armedCommits k 0) s

def execArmedSnapshotDue (s : State) : Host.Outcome State Fault Refusal :=
  onDev (fun k d => if d.isHeld 38 then d else d.armedSnapshot k 0) s

/-- DISARM: groups leave their arms; an arm that loses its last group ends with TIMEOUT (R485). -/
def Dev.disarm (d : Dev) (k : Clock) (mask : Nat) : Dev :=
  let strip := fun (w : Wait) => match w.kind with
    | .commit m s n => { w with kind := .commit (m - (m &&& mask)) s n }
    | _ => w
  let lost := d.smi.waits.filter (fun w => w.armMask != 0 && (strip w).armMask == 0)
  let d1 := { d with smi := { d.smi with waits := d.smi.waits.map strip } }
  lost.foldl (fun d w => d.finish k (strip w) ⟨stTimeout, 2, 0⟩) d1

/-- STAGE_DISCARD: staged values of groups are dropped, and a held swap withdrawn (R482). -/
def Dev.stageDiscard (d : Dev) (k : Clock) (mask : Nat) : Dev :=
  ({ d with staged := d.staged.filter (fun e => !bit mask (d.groupOfKey e.1)) }).swapDiscard k mask

def commitCheck (q : Req) (_ : Mach) : Option Nat :=
  badParam 14 [(0, 3), (4, 10)] [(2, 2 ≤ q.u 2 1), (10, q.flagAt 2 0 && 1000000000 ≤ q.u 10 4)] q.params

/-- COMMIT (R433, R481, R484). -/
def commit (q : Req) (m : Mach) : Res :=
  let d := m.dev
  let k := m.clk
  let mask := q.u 0 2
  let armed := q.flagAt 2 0
  if !armed then
    if d.isHeld 38 then .later m (.strobe mask)
    else .done (m.setDev (d.commitNow k mask false)) ⟨stOk, 0, timeResult k⟩
  else if mask &&& d.armedGroups != 0 then .done m ⟨stBusy, 0, 0⟩
  else if !k.reached (q.u 4 6) (q.u 10 4) then .later m (.commit mask (q.u 4 6) (q.u 10 4))
  else if d.genStale q then .done (m.setDev (d.commitStale k)) ⟨stStale, d.get F.GL_CONFIG_GEN, 0⟩
  else .done (m.setDev (d.commitNow k mask true)) ⟨stLate, 0, timeResult k⟩

def execCommit (q : Req) (s : State) : Host.Outcome State Fault Refusal :=
  onMach (smiem 0x0013 commitCheck (fun q => q.flagAt 2 0) commit q) s

/-! The fingerprint (R494 to R498). -/

/-- A section of the canonical stream. -/
def fpSection (n : Nat) (body : Bytes) : Bytes := toLE n 2 ++ toLE 0 2 ++ toLE body.length 4 ++ body

/-- Sections 1 and 2: every register that holds a field of an access code, in ascending offset. -/
def Dev.fpRegisters (d : Dev) (a : Acc) : Bytes :=
  ((List.range (bar0End / 4)).map (fun i =>
    let fs := (fieldsAt (4 * i)).filter (fun f => f.acc == a)
    if fs.isEmpty || !d.exists_ (4 * i) then []
    else toLE (4 * i) 4 ++ toLE (wordOf (fs.map (fun f => (f, d.get f)))) 4)).flatten

/-- A shaper's 12 bytes: INC, BURST, OVERHEAD and SHAPE_EN with two zero bytes. Their places are the model's. -/
def fpShaper (inc burst overhead en : Nat) : Bytes := toLE inc 4 ++ toLE burst 4 ++ toLE overhead 1 ++ toLE en 1 ++ toLE 0 2

/-- A gate's newest accepted list, with its kind (0 port, 1 stream: the model's) and number. -/
def fpGate (kind : Nat) (e : Nat × Gate) : Bytes :=
  match e.2.pend.orElse (fun _ => e.2.run) with
  | none => []
  | some l => toLE kind 2 ++ toLE e.1 2 ++ timeBytes l.base.1 l.base.2 ++ toLE l.cycle 4 ++ toLE l.ext 4 ++
      toLE l.entries.length 4 ++ timeBytes (l.change / 1000000000) (l.change % 1000000000) ++ l.entries.flatten

/-- Section 3: the state that commands set. -/
def Dev.fpCommands (d : Dev) : Bytes :=
  ((List.range 512).map (fun p => if d.portExists p then toLE p 2 ++ toLE (d.wordAt (F.PORT_CFG_PORT_TYPE p).off) 4 else [])).flatten ++
    ((List.range 4144).map (fun q => if d.queueExists q then
      fpShaper (d.get (F.EGQ_INC q)) (d.get (F.EGQ_BURST q)) (d.get (F.EGQ_OVERHEAD q)) (d.get (F.EGQ_SHAPE_EN q)) else [])).flatten ++
    ((List.range 518).map (fun p =>
      fpShaper (d.get (F.EGP_INC p)) (d.get (F.EGP_BURST p)) (d.get (F.EGP_OVERHEAD p)) (d.get (F.EGP_SHAPE_EN p)))).flatten ++
    (d.egr.gates.map (fpGate 0)).flatten ++ (d.egr.sgates.map (fpGate 1)).flatten ++
    ((List.range 8192).map (fun n => d.record 0x13 n 16)).flatten ++
    toLE (d.get F.HBM_SEG_ELIGIBLE) 2 ++ toLE (d.get F.HBM_SEG_LOSE) 2

/-- Sections 4 to 6, as the image holds them. -/
def Dev.fpImage (d : Dev) : Bytes :=
  fpSection 4 ((List.range 10240).map (fun i => d.record 0x20 (storeIndex (i / 512) (i % 512)) 64)).flatten ++
    fpSection 5 ((List.range 5080).map (fun i => d.record 0x21 (dispIndex d.activeBank (i / 254) (i % 254)) 2)).flatten ++
    fpSection 6 ((List.range 65536).map (fun i => d.record 0x14 (ternIndex (i / 2048) d.activeBank (i % 2048)) 96)).flatten

/-- The canonical stream of R495, with sections 4 to 6 as a pass read them when its copy differs from the image. -/
def Dev.fpStream (d : Dev) (read : Option Bytes) : Bytes :=
  fpSection 1 (d.fpRegisters .srw) ++ fpSection 2 (d.fpRegisters .krw) ++ fpSection 3 d.fpCommands ++ read.getD d.fpImage

/-- A published pass is judged against the reference (R498). -/
def Dev.fpJudge (d : Dev) (k : Clock) : Dev :=
  if !d.flag F.GL_REF_VALID then d
  else if d.get F.GL_CONFIG_GEN != d.get F.GL_FP_REF_GEN then d.setB F.GL_GEN_AHEAD true
  else
    let same := d.get64 F.GL_FP_RUNNING_LO F.GL_FP_RUNNING_HI == d.get64 F.GL_FP_REFERENCE_LO F.GL_FP_REFERENCE_HI
    let d1 := (d.setB F.GL_GEN_AHEAD false).setB F.GL_MATCH same
    let d2 := { d1 with cfg := { d1.cfg with fpFirst := false } }
    if !same && (d.flag F.GL_MATCH || d.cfg.fpFirst) then (d2.setBit F.GL_GLOBAL_STICKY 1).event k 672 (flcGlobal 2) else d2

/-- FINGERPRINT_PASS_COMPLETE: a pass publishes its value. `read` gives sections 4 to 6 when the copy it read is not as the
image is (R496). -/
def fpPass (read : Option Bytes) (k : Clock) (d : Dev) : Dev :=
  if !d.flag F.GL_FP_EN || d.isHeld 42 then d
  else
    let d1 := (d.set64 F.GL_FP_RUNNING_LO F.GL_FP_RUNNING_HI (crc64 (d.fpStream read))).set F.GL_FP_COPY (d.get F.GL_FP_PASSES)
    ((d1.inc F.GL_FP_PASSES).setB F.GL_STALE false).fpJudge k

def execFingerprintPassComplete (read : Option Bytes) (s : State) : Host.Outcome State Fault Refusal :=
  onDev (fpPass read) s

/-- FINGERPRINT_STALE: no pass has been published for 8 ms (R497). -/
def execFingerprintStale (s : State) : Host.Outcome State Fault Refusal :=
  onDev (fun k d => ((d.setB F.GL_STALE true).setBit F.GL_GLOBAL_STICKY 3).event k 675 (flcGlobal 2)) s

/-- FINGERPRINT_GET: the running fingerprint and the generation. -/
def fpGet (_ : Req) (_ : Clock) (d : Dev) : Dev × Rep :=
  (d, ⟨stOk, d.get F.GL_CONFIG_GEN, d.get64 F.GL_FP_RUNNING_LO F.GL_FP_RUNNING_HI⟩)

def execFingerprintGet (q : Req) (s : State) : Host.Outcome State Fault Refusal :=
  onMach (smiemDev 0x0014 (fun q _ => badParam 0 [] [] q.params) fpGet q) s

/-- FINGERPRINT_REFERENCE: the value to compare with, at the generation in force (R498). -/
def fpReference (q : Req) (_ : Clock) (d : Dev) : Dev × Rep :=
  let d1 := (d.set64 F.GL_FP_REFERENCE_LO F.GL_FP_REFERENCE_HI (q.u 0 8)).setAll
    [(F.GL_FP_REF_GEN, d.get F.GL_CONFIG_GEN), (F.GL_REF_VALID, 1)]
  ({ d1 with cfg := { d1.cfg with fpFirst := true } }, Rep.ok)

def execFingerprintReference (q : Req) (s : State) : Host.Outcome State Fault Refusal :=
  onMach (smiemDev 0x0015 (fun q _ => badParam 8 [(0, 8)] [] q.params) fpReference q) s

end Sys2Proof.Machine
end

