-- ==== Sys2Proof/Machine/Tally.lean ====
section
/-! DEFINITION. The end and the beginning of a tally period (R78, R79, R82 to R104). -/

namespace Sys2Proof.Machine
open Sys2Proof

/-- The length of the period in progress in 2⁻³² ns, by shaping time, which no step moves (R79, R270). -/
def Dev.periodLength (d : Dev) (k : Clock) : Nat := k.shape - d.chan.startShape

/-- The highest sensor reading of the period; without one, that of the period before. -/
def Dev.tjHighest (d : Dev) : Option Int :=
  match d.chan.tjs with
  | [] => d.chan.tjMax
  | t :: ts => some (ts.foldl max t)

/-- The counts of the period: class 1, the firings of other handshake stages, is not given by the manual for any
operation (free value, log entry 9). -/
def Dev.takeCounts (d : Dev) : Tab Nat × Dev :=
  let (n, d1) := d.draw 32
  (tset d1.energy 1 n, { d1 with energy := [] })

/-- Forget the readings and counts of a period. -/
def Chan.clearPeriod (c : Chan) (shape : Nat) : Chan :=
  { c with startShape := shape, stateAcc := [], vout := [], pout := [], poutFail := 0, tjs := [], ran := 0,
           ranForced := 0, bytes := 0, deferBytes := 0, segLast := c.segUse, segUse := 0, flags := 0 }

/-- Segments now in self-refresh. -/
def Dev.resting (d : Dev) : Nat := (maskBits (d.get F.HBM_SEG_RESTING) 16).length

/-- The report of the period in progress (R84, R104). -/
def Dev.periodRecord (d : Dev) (k : Clock) (m : Model) (energy : Nat) (short ok : Bool) (over_ : Bool) : EnergyRec where
  period := d.chan.begun - 1
  startNs := d.chan.start.2
  startS := d.chan.start.1
  energy := energy
  eDyn := toUJ m.dyn
  eLeak := toUJ m.leak
  eLanes := toUJ m.lanes
  eDram := toUJ m.dram
  eOther := toUJ m.other
  eTele := toUJ (d.telemetry (d.periodLength k))
  gain := d.get F.CH_GAIN
  setpoint := d.get F.CHANDLER_STATUS_SETPOINT
  budget := d.chan.effBudget
  floor := d.chan.floor
  tjMax := d.tjHighest.getD 0
  mode := d.chan.mode
  workRun := d.chan.ran
  workForced := d.chan.ranForced
  throttle := d.get F.CH_THROTTLE_LEVEL
  sr := d.resting
  flags := (d.chan.flags ||| (if short then 2 ^ 10 else 0) ||| (if ok then 0 else 2 ^ 9) |||
      (if over_ then 2 ^ 1 else 0)) % 2048 + 2048 * b2n d.poutMissing + 4096 * b2n (d.get F.CH_THROTTLE_LEVEL != 0)

/-- The period in progress ends and is reported (R78, R79, R84, R85, R87, R104). -/
def Dev.endPeriod (d : Dev) (k : Clock) (short ok : Bool) : Dev :=
  let d0 := d.integrate k
  let (n, d1) := d0.takeCounts
  if !d.chan.inPeriod then d1.onChan (fun c => c.clearPeriod k.shape)
  else
    let len := d1.periodLength k
    let m := d1.model n d1.chan.stateAcc d1.vMean d1.tjMean len
    let energy := reported (d1.get F.CH_GAIN) m d1.coverMask
    let over_ := d1.chan.budget != 0 && d1.chan.effBudget * len < energy * 1000 * 2 ^ 32
    let r := d1.periodRecord k m energy short ok over_
    let total := d1.get64 F.CH_ENERGY_TOTAL_LO F.CH_ENERGY_TOTAL_HI
    let d2 := d1.setAll [(F.CH_ENERGY_LAST, energy), (F.CH_FLOOR_LAST, d1.chan.floor), (F.CH_EFFECTIVE_BUDGET, d1.chan.effBudget)]
    let d3 := if ok then d2.set64 F.CH_ENERGY_TOTAL_LO F.CH_ENERGY_TOTAL_HI (total + energy) else d2.chFlag k 9
    let d4 := (if over_ then d3.chFlag k 1 else d3).correct k m len
    let cal : Option CalPhase := match d4.chan.cal with
      | some (.observing p f) => some (.observing (min 16 (p + 1)) (if d1.poutMissing && p < 16 then f + 1 else f))
      | c => c
    let d5 := d4.onChan (fun c => { (c.clearPeriod k.shape) with
      inPeriod := false
      records := r :: c.records.take 255
      hist := if ok then n :: c.hist.take 15 else c.hist
      share := (c.deferBytes, c.bytes)
      tjMax := d1.tjHighest
      cal := cal })
    if short then d5.chFlag k 10 else d5

/-- The slices of a period fall due (R96). -/
def Dev.dueNow (d : Dev) (period : Nat) : Dev :=
  (List.range 5).foldl (fun d w =>
    let ss := d.dueSlices w (period + 1)
    d.onChan (fun c => { c with
      owed := c.owed ++ ss
      nextDue := tset c.nextDue w (d.nextSlice w + ss.length * d.workInterval w) })) d

/-- A new period begins: darkenings and the planned lowering take place, the mode and budget in force are taken,
the throttle is set, the slices due are owed, and the next 16 periods are planned (R78, R89, R90, R93, R94). -/
def Dev.beginPeriod (d : Dev) (k : Clock) : Dev :=
  let d0 := d.darkenPlanned k
  let mode := d0.get F.CHANDLER_CTRL_MODE
  let budget := d0.get F.ENERGY_BUDGET_BUDGET
  let number := d0.chan.begun
  let planned := d0.flag F.CHANDLER_STATUS_CALIBRATED
  let changed := planned && (mode != d0.chan.planMode || budget != d0.chan.planBudget)
  let d1 := ((d0.segmentBoundary k d0.chan.srMask).set F.CHANDLER_STATUS_MODE_APPLIED mode).set64 F.CH_PERIOD_LO F.CH_PERIOD_HI number
  let d2 := d1.onChan (fun c => { c with
    inPeriod := true, begun := number + 1, start := (k.sec % 2 ^ 32, k.ns), mode := mode, budget := budget,
    effBudget := c.nextEff, floor := c.nextFloor })
  let sp := d2.get (F.PLAN_SETPOINT 0)
  let d3 := if planned && sp != 0 && d2.chan.avs.isNone && d2.chan.hold = 0 && sp < d2.chan.taken then d2.avsSend sp else d2
  let level := if planned && mode = 2 then d3.get (F.PLAN_THROTTLE 0) else 0
  let was := d3.get F.CH_THROTTLE_LEVEL
  let d4 := d3.set F.CH_THROTTLE_LEVEL level
  let d5 := if was = 0 && level != 0 then d4.chFlag k 2 else d4
  let d6 := if planned && budget != 0 && budget < d5.chan.floor then d5.chFlag k 0 else d5
  let d7 := d6.dueNow number
  if changed then d7.onChan (fun c => { c with rebuild := true }) else d7.makePlan k mode budget

/-- Does network time stand at a whole millisecond within the present tick (R78). -/
def Clock.atMs (k : Clock) : Bool := k.sub % (1000000 * 2 ^ 32) < k.inc

/-- TALLY_PERIOD_BOUNDARY. -/
def tallyBoundary (residueOk : Bool) (k : Clock) (d : Dev) : Dev :=
  if !k.atMs || d.chan.lastTick = some k.tick || d.isHeld 37 || d.isHeld 38 then d
  else ((d.endPeriod k false residueOk).beginPeriod k).onChan (fun c => { c with lastTick := some k.tick })

def execTallyPeriodBoundary (residueOk : Bool) (s : State) : Host.Outcome State Fault Refusal :=
  onDev (tallyBoundary residueOk) s

end Sys2Proof.Machine
end

