-- ==== Sys2Proof/Machine/TimeStep.lean ====
section
/-! DEFINITION. Network time as it moves: the tick (R302, R309), TIME_SET and TIME_ADJUST (R306 to R308, R325 to R327),
and what counts once a tick (R530 to R532). -/

namespace Sys2Proof.Machine
open Sys2Proof

/-! Steps. -/

/-- A step to the clock given. What was due before it has been applied at its own tick. Then, in the order of R326, armed
actions that the step passed are applied with bit [0] of their detail word set (R325), the period in progress ends (R79),
and gates and shapers follow (R297). -/
def Mach.stepTo (m : Mach) (k : Clock) : Mach :=
  let d0 := ((m.dev.armedCommits m.clk 0).armedSnapshot m.clk 0).stepSeen k
  let d1 := (d0.armedCommits k 1).armedSnapshot k 1
  let d2 := if d1.chan.inPeriod then d1.endPeriod k true true else d1
  { m with clk := k, dev := (d2.onChan (fun c => { c with lastTick := some k.tick })).gatesStep k }

/-- The increments R308 allows, in 2⁻³² ns: within ±1,000 ppm of nominal. -/
def incNominal : Nat := 0x147AE147B

def incBad (inc : Nat) : Bool := inc * 1000000 < incNominal * 999000 || incNominal * 1001000 < inc * 1000000

/-- What a time command does at its tick: TICK_COUNT of the tick is its RESULT (R441). -/
def timeApply (op : Nat) (q : Req) (m : Mach) : Mach × Rep :=
  let tick := m.clk.tick
  let m1 :=
    if op = 0x0070 then
      let n := m.stepTo (m.clk.setTime (q.u 0 6) (q.u 6 4))
      n.setDev (n.dev.setB F.TU_TIME_VALID true)
    else
      let n := if q.flagAt 0 0 then m.stepTo (m.clk.stepBy (q.s 8 8)) else m
      let inc := q.u 16 4 * 2 ^ 32 + q.u 20 4
      if q.flagAt 0 1 && !incBad inc then { n with clk := { n.clk with inc := inc } } else n
  (m1, ⟨stOk, 0, tick⟩)

/-- A time command acts at a tick; while the time unit is held in reset no tick comes, and it waits for the release. -/
def timeCommand (op : Nat) (q : Req) (m : Mach) : Res :=
  if m.dev.isHeld 38 then .later m .time
  else
    let r := timeApply op q m
    .done r.1 r.2

/-- The time commands that waited for a release are applied in the order accepted. -/
def Mach.timeLate (m : Mach) : Mach :=
  (m.dev.smi.waits.filter (fun w => w.kind == .time)).foldl (fun m w =>
    let r := timeApply w.op w.req m
    r.1.setDev (r.1.dev.finish r.1.clk w r.2)) m

def timeSetCheck (q : Req) (_ : Mach) : Option Nat := badParam 10 [(0, 10)] [(6, 1000000000 ≤ q.u 6 4)] q.params

/-- TIME_SET. -/
def execTimeSet (q : Req) (s : State) : Host.Outcome State Fault Refusal :=
  onMach (smiem 0x0070 timeSetCheck (fun _ => false) (timeCommand 0x0070) q) s

def timeAdjustCheck (q : Req) (_ : Mach) : Option Nat :=
  badParam 24 [(0, 1), (8, 16)]
    [(0, q.u 0 1 = 0 || 4 ≤ q.u 0 1), (8, q.flagAt 0 0 && 2 ^ 62 ≤ (q.s 8 8).natAbs),
     (16, q.flagAt 0 1 && incBad (q.u 16 4 * 2 ^ 32 + q.u 20 4))] q.params

/-- TIME_ADJUST: the step, then the rate from the next tick onward. -/
def execTimeAdjust (q : Req) (s : State) : Host.Outcome State Fault Refusal :=
  onMach (smiem 0x0071 timeAdjustCheck (fun _ => false) (timeCommand 0x0071) q) s

/-! State signals and the slot census at a tick. -/

/-- Does a header wait in a lantern for stage 0 of the chain next in turn. -/
def Dev.dealerWaits (d : Dev) (l : Nat) : Bool :=
  let x := d.lantern l
  x.nextDeal.isSome && (d.activeWick l).isSome && 24 ≤ (tgetD x.stages (x.chain * 20) []).length

/-- Does a request of a pseudo-channel stand at urgency 7. -/
def Dev.urgent (d : Dev) (k : Clock) : Bool := d.hbm.reqs.any (fun e => e.2.any (fun r => d.urgency k r == 7))

/-- Does a state signal of R531 hold. -/
def Dev.signalHolds (d : Dev) (k : Clock) (blk sig : Nat) : Bool :=
  if blk < 32 then
    (sig == 2 && 64 ≤ (d.lantern blk).fifo.length) || (sig == 3 && d.dealerWaits blk)
  else match blk, sig with
    | 32, 3 => !d.tbl.learnE.isEmpty || !d.tbl.learnW.isEmpty
    | 33, 4 => (List.range 16).any d.pressed
    | 35, 2 => d.urgent k
    | _, _ => false

/-- Level mode (R530): a tick in which its signal holds counts 1. -/
def Dev.perfLevels (d : Dev) (k : Clock) : Dev :=
  if d.flag F.PC_PERF_FREEZE then d
  else ((List.range 64).filter (fun j =>
    d.flag (F.PC_EN j) && d.get (F.PC_MODE j) == 1 && d.signalHolds k (d.get (F.PC_BLOCK j)) (d.get (F.PC_SIGNAL j)))).foldl
      Dev.perfAdd d

/-- The class a stage's time falls into: 0 LOOKUP, 1 BLOCKED, 2 EMPTY; none while the stage computes. -/
def slotClass (hs : List Header) : Option Nat :=
  match hs with
  | [] => some 2
  | h :: _ => match h.phase with
    | .fresh => none
    | .waiting false false => some 1
    | .waiting _ _ => some 0

/-- Add a tick's stage rates to what is left over of a class, in 1/100,000 slots: whole slots and the rest. A tick lasts
1.28 ns, so a stage at a rate of 1 MHz has 128/100,000 slots in it. -/
def slotPart (rest rates : Nat) : Nat × Nat :=
  let t := rest + rates * 128
  (t / 100000, t % 100000)

/-- The stage rates of the stages of one class, over the four chains, in MHz. -/
def Dev.slotTime (d : Dev) (l : Nat) (w : Wick) (cls : Nat) : Nat :=
  (List.range 4).foldl (fun n c =>
    let stages := (List.range 20).filter (fun s => slotClass (tgetD (d.lantern l).stages (c * 20 + s) []) == some cls)
    n + stages.length * d.get (F.SENTINEL_RATE_STAGE_RATE l (4 * w.num + c))) 0

/-- The census of one lantern at a tick (R532). -/
def Dev.census (d : Dev) (l : Nat) : Dev :=
  match d.activeWick l with
  | none => d
  | some w =>
    if !d.flag (F.SENTINEL_CTRL_SENTINEL_EN l) then d.setB F.PC_CENSUS_PARTIAL true
    else
      let x := d.lantern l
      let (a, ra) := slotPart x.slots.1 (d.slotTime l w 0)
      let (b, rb) := slotPart x.slots.2.1 (d.slotTime l w 1)
      let (c, rc) := slotPart x.slots.2.2 (d.slotTime l w 2)
      let d1 := d.setLantern l { x with slots := (ra, rb, rc) }
      ((d1.slots (F.PC_LOOKUP_LO l) (F.PC_LOOKUP_HI l) a).slots (F.PC_BLOCKED_LO l) (F.PC_BLOCKED_HI l) b).slots
        (F.PC_EMPTY_LO l) (F.PC_EMPTY_HI l) c

/-! The tick. -/

/-- TIME_CLK_TICK: none reaches any user while the time unit is held in reset (R310). When the addition's residue check
fails, the addition is discarded, TIME_RESIDUE is set and event 617 asserts (R309). -/
def clkTick (residueOk : Bool) (m : Mach) : Mach :=
  if m.dev.isHeld 38 then m
  else
    let k := if residueOk then m.clk.onTick else m.clk.lostTick
    let d0 := if residueOk then m.dev else (m.dev.setBit F.TU_TIME_STICKY 2).event k 617 flcAccumulator
    { m with clk := k, dev := (List.range 32).foldl Dev.census (d0.perfLevels k) }

def execTimeClkTick (residueOk : Bool) (s : State) : Host.Outcome State Fault Refusal := onMach (clkTick residueOk) s

end Sys2Proof.Machine
end

