-- ==== Sys2Proof/Machine/Domains.lean ====
section
/-! DEFINITION. Reset domains (R549, R310): what a domain's reset does when it is asserted and when it is released,
RESET_DOMAIN, and DOMAIN_RELEASE. -/

namespace Sys2Proof.Machine
open Sys2Proof

/-! Discarding everything not yet sent (R549). -/

/-- Timestamp requests of the frames that will not be sent (R319), and the commands that wait for their cells. -/
def Dev.dropRequests (d : Dev) (k : Clock) : Dev :=
  let queued := (d.bm.queues.map (fun e => e.2.map (fun c => (e.1, c)))).flatten
  let d1 := queued.foldl (fun d e => d.tsLost k e.1 e.2) d
  d.bm.waiting.foldl (fun d w => d.offerLost k w.1 w.2) d1

/-- A lantern holds no header and no frame. -/
def Lantern.emptied (x : Lantern) : Lantern :=
  { x with fifo := [], recirc := [], stages := [], reorder := [], learns := [], presented := [], extra := [] }

/-- Every queue, transmission, chain and reorder unit is emptied, and every request for a stream's answer. -/
def Dev.emptyAll (d : Dev) : Dev :=
  { d with
    bm := { d.bm with queues := [], waiting := [], chunks := [] }
    ports := (d.ports.map (fun e => (e.1, { e.2 with tx := none }))).filter (fun e => e.2 != Port.idle)
    lanterns := (d.lanterns.map (fun e => (e.1, e.2.emptied))).filter (fun e => e.2 != Lantern.idle)
    tbl := { d.tbl with recE := [], recW := [] }
    taper := { d.taper with parked := [] } }

/-- A frame no copy holds any longer is discarded, counted HALT_DISCARD. -/
def Dev.dropFrame (d : Dev) (k : Clock) (e : Nat × Frame) : Dev :=
  (d.setFrame e.1 { e.2 with later := 0, charges := [], drawn := none, parked := false }).dropUndecided k e.1
    (cPort e.2.ingress 13)

/-- Headers in chains and frames not yet sent are discarded and counted HALT_DISCARD (R549). -/
def Dev.discardAll (d : Dev) (k : Clock) : Dev :=
  let d1 := (d.dropRequests k).emptyAll
  let d2 := d1.frames.foldl (fun d e => d.dropFrame k e) d1
  (List.range 32).foldl (fun d l => (d.showFifo l).showReorder l) d2

/-! Fields (R15). -/

/-- Fields that stand for fuses keep what they hold through the reset of a domain. -/
def fuseFields : List Fld := [F.BT_SPARES_EAST, F.BT_SPARES_WEST, F.BT_OEM_FUSE_LO, F.BT_OEM_FUSE_HI]

/-- Every field of a domain takes its reset value. -/
def Dev.resetDomainFields (d : Dev) (n : Nat) : Dev :=
  let d1 := { d with fld := d.fld.filter (fun e => blockOf (e.1 / 32) != n) }
  d1.setAll (fuseFields.map (fun f => (f, d.get f)))

/-! Effects beyond reset values, when a domain's reset is asserted. -/

/-- VALID of a lantern's ternary entries becomes 0. -/
def Dev.invalidateTernary (d : Dev) (l : Nat) : Dev :=
  let lo := 0x14 * 2 ^ 24 + ternIndex l 0 0
  let hi := 0x14 * 2 ^ 24 + ternIndex (l + 1) 0 0
  { d with index := d.index.map (fun e =>
      if lo ≤ e.1 && e.1 < hi then (e.1, putBytes (padTo e.2 96) 84 [byteAt e.2 84 &&& 0xFE]) else e) }

/-- Domains 0 to 31: the lantern's ports are removed, its wicks are OFF, its headers and the frames that have not left
its dealer and reorder unit are discarded. -/
def Dev.resetLantern (d : Dev) (k : Clock) (l : Nat) : Dev :=
  let d1 := (d.portsOf l).foldl (fun d p => d.removePort k p) d
  let x := d1.lantern l
  let fids := (x.fifo ++ x.recirc ++ (x.headers ++ x.reorder).map Header.fid).eraseDups
  let d2 := { d1 with lanterns := tdel d1.lanterns l }
  let d3 := fids.foldl (fun d f => d.dropUndecided k f (cPort (((d.frame? f).map Frame.ingress).getD 0) 13)) d2
  let d4 := x.learns.foldl (fun d e => d.retire e.1) d3
  (d4.invalidateTernary l).resetDomainFields l

/-- Domain 32: the tables of the Bushel are empty. -/
def Dev.resetBushel (d : Dev) : Dev :=
  let keep := fun (e : Nat × Bytes) => !([0x06, 0x07, 0x09, 0x0A].contains (e.1 / 2 ^ 24))
  { d with tbl := { Tables.reset with shadows := d.tbl.shadows }, index := d.index.filter keep }

/-- Domain 33: quarantined cells are freed with the others. -/
def Dev.resetBuffers (d : Dev) : Dev :=
  ({ d with bm := { d.bm with cells := d.bm.cells.filter (fun c => !c.2.quarantined), avg := [], mirror := [], bank := 0, round := 0 } }).loadLfsr

/-- Domain 35: the allocation is released; what the regions held is no longer held. -/
def Dev.resetHbm (d : Dev) : Dev :=
  ({ d with hbm := ⟨[], [], [], [], 0, 0, 0, []⟩, arch := [], snap := none,
            lamp := { d.lamp with storeFrom := none, copied := d.oldestSeq },
            tbl := { d.tbl with shadows := d.tbl.shadows.filter (fun s => s.loc != 2 && s.loc != 1) } }).setB F.GL_SNAP_HELD false

/-- Domain 37: START_VSET is sent as a raise; the plan is discarded; lanes that were to darken still will. -/
def Dev.resetChandler (d : Dev) (k : Clock) : Dev :=
  let start := min 800 (max 750 (d.get F.BT_START_VSET))
  let d1 := d.integrate k
  let d2 := if d1.vTarget < start then d1.avsSend start else d1
  let c := d2.chan
  let shown := [F.CHANDLER_STATUS_SETPOINT, F.CHANDLER_STATUS_MOVING].map (fun f => (f, d2.get f))
  (({ d2 with chan := { Chan.reset with avs := c.avs, taken := c.taken, hold := c.hold, moved := c.moved, darken := c.darken } }).resetDomainFields
    37).setAll shown

/-- Domain 38: the period in progress ends with SHORT_PERIOD, PPS_OUT falls, the capture FIFOs and timestamp queues are
emptied (R310). -/
def Dev.resetTime (d : Dev) (k : Clock) : Dev :=
  let d1 := if d.chan.inPeriod then d.endPeriod k true true else d
  let d2 := if d1.timeU.pps then d1.emit (.pps false) else d1
  ({ d2 with timeU := ⟨[], [], [], false, none⟩ }).resetDomainFields 38

/-- Domain 42: staged values and arms are dropped. -/
def Dev.resetGlobal (d : Dev) (k : Clock) : Dev :=
  let d1 := d.disarm k 0xFFFF
  let d2 := d1.finishAll k (fun w => match w with
    | .snapshot _ _ => true
    | _ => false) ⟨stTimeout, 2, 0⟩
  ({ d2 with staged := [], cfg := ⟨[], 0, false⟩, snap := none }).resetDomainFields 42

/-- Domain 43: an AVSBus write in progress is abandoned and counts as one that did not settle. -/
def Dev.resetSideband (d : Dev) (k : Clock) : Dev :=
  let d1 := match d.chan.avs with
    | none => d
    | some w => avsTimeout k (d.onChan (fun c => { c with avs := some { w with resent := true } }))
  ({ d1 with boot := { d1.boot with jtag := ⟨.idcode, 0⟩ } }).resetDomainFields 43

/-- A domain's reset is asserted. -/
def Dev.domainBegin (d : Dev) (k : Clock) (n : Nat) : Dev :=
  let d0 := { d with boot := { d.boot with held := n :: d.boot.held.erase n, rstWait := d.boot.rstWait.erase n } }
  let d1 := if [32, 33, 34, 35, 38, 41].contains n then d0.discardAll k else d0
  if n < 32 then d1.resetLantern k n
  else match n with
    | 32 => d1.resetBushel.resetDomainFields 32
    | 33 => (d1.resetDomainFields 33).resetBuffers
    | 34 => ({ d1 with egr := ⟨[], [], [], [], []⟩ }).resetDomainFields 34
    | 35 => d1.resetHbm.resetDomainFields 35
    | 37 => d1.resetChandler k
    | 38 => d1.resetTime k
    | 40 => ({ d1.tapDrop k with taper := Taper.idle }).resetDomainFields 40
    | 41 => ({ d1 with arch := [] }).resetDomainFields 41
    | 42 => d1.resetGlobal k
    | _ => d1.resetSideband k

/-! Release. -/

/-- Stamps that count TICK_COUNT begin again with it. -/
def Dev.tickRestart (d : Dev) : Dev :=
  { d with
    lamp := { d.lamp with srcs := d.lamp.srcs.map (fun e => (e.1, { e.2 with at_ := 0 })) }
    cfg := { d.cfg with captures := [] }
    taper := { d.taper with nakAt := none }
    hbm := { d.hbm with reqs := d.hbm.reqs.map (fun e => (e.1, e.2.map (fun r => { r with at_ := 0 }))) }
    chan := { d.chan with lastTick := some 0 } }

/-- LAST_ACCEPT of every stream entry is older than RESET_MS (R310): it lies RESET_MS and 1 µs before 0. -/
def Dev.streamsOld (d : Dev) : Dev :=
  { d with index := d.index.map (fun e =>
      if e.1 / 2 ^ 24 = 9 then
        let r := padTo e.2 32
        (e.1, putLE r 20 6 (2 ^ 48 - 1 - leAt r 18 2 * 1000))
      else e) }

/-- Network time at the release of the time unit's domain (R310): 0, the nominal increment, TICK_COUNT 0; shaping time goes
on from the value it had. -/
def Clock.restart (k : Clock) : Clock := { Clock.reset with shape := k.shape }

/-- What waits for the first tick after the release: immediate strobes (R481). -/
def Dev.strobeLate (d : Dev) (k : Clock) : Dev :=
  let mask := d.smi.waits.foldl (fun m w => match w.kind with
    | .strobe x => m ||| x
    | _ => m) d.cfg.strobe
  if mask = 0 then d
  else
    let d1 := ({ d with cfg := { d.cfg with strobe := 0 } }).commitNow k mask false
    d1.finishAll k (fun w => match w with
      | .strobe _ => true
      | _ => false) ⟨stOk, 0, timeResult k⟩

/-- The release of the time unit's domain is a step of network time (R310). -/
def Dev.timeReleased (d : Dev) (k : Clock) : Dev :=
  (((d.tickRestart.streamsOld).stepSeen k).gatesStep k).strobeLate k

/-- A domain is released: the commands that asked for it are answered. -/
def Mach.domainEnd (m : Mach) (n : Nat) : Mach :=
  let d := { m.dev with boot := { m.dev.boot with held := m.dev.boot.held.erase n } }
  let k := if n = 38 then m.clk.restart else m.clk
  let d1 := if n = 38 then d.timeReleased k else if n = 37 then d.calBegin k else d
  let m1 : Mach := { m with clk := k, dev := d1.finishAll k (· == .domain n) Rep.ok }
  if n = 38 then m1.timeLate else m1

/-- Is a relight, trim or overlap window in progress in any lantern. -/
def Dev.wicksBusy (d : Dev) : Bool := d.lanterns.any (fun e => e.2.task != .none || e.2.overlap.isSome)

/-- A domain is to be reset: at once, or when the wicks are quiet (R549). -/
def Dev.domainAsk (d : Dev) (k : Clock) (n : Nat) : Dev :=
  if d.wicksBusy then { d with boot := { d.boot with rstWait := d.boot.rstWait.erase n ++ [n] } } else d.domainBegin k n

/-- Is a number no domain that may be reset. -/
def domainBad (n : Nat) : Bool := n == 36 || n == 39 || 43 < n

/-- DOMAIN_RELEASE: a held domain is released; one that waits is reset once the wicks are quiet. -/
def domainRelease (n : Nat) (m : Mach) : Mach :=
  if m.dev.isHeld n then m.domainEnd n
  else if m.dev.boot.rstWait.contains n && !m.dev.wicksBusy then m.onDev (fun k d => d.domainBegin k n)
  else m

def execDomainRelease (domain : Nat) (s : State) : Host.Outcome State Fault Refusal := onMach (domainRelease domain) s

/-! The unlock key (R487). -/

def unlockKey : Nat := 0xC4A1D1E5

/-- A failure of the lock: counted, KEY_FAIL, event 673. -/
def Dev.keyFail (d : Dev) (k : Clock) : Dev :=
  ((d.satInc F.GL_KEY_FAILS).setBit F.GL_GLOBAL_STICKY 0).event k 673 (flcGlobal 3)

/-- A write of UNLOCK. -/
def Dev.unlock (d : Dev) (k : Clock) (v : Nat) : Dev :=
  if v = unlockKey then d.setB F.GL_LOCKED false else (d.setB F.GL_LOCKED true).keyFail k

/-- RESET_DOMAIN: its own KEY guards it; a wrong one acts as a wrong key written to UNLOCK. -/
def resetDomain (q : Req) (m : Mach) : Res :=
  if q.u 4 4 != unlockKey then .done (m.onDev (fun k d => d.unlock k (q.u 4 4))) ⟨stKeyRequired, 0, 0⟩
  else .later (m.onDev (fun k d => d.domainAsk k (q.u 0 1))) (.domain (q.u 0 1))

def execResetDomain (q : Req) (s : State) : Host.Outcome State Fault Refusal :=
  onMach (smiem 0x00F1 (fun q _ => badParam 8 [(0, 1), (4, 4)] [(0, domainBad (q.u 0 1))] q.params) (fun _ => false)
    resetDomain q) s

end Sys2Proof.Machine
end

