-- ==== Sys2Proof/Machine/RegAccess.lean ====
section
/-! DEFINITION. BAR0 accesses: what a read returns (R13, R489, R541, R569), what a write does (R13, R479, R487, R488), the
registers whose write acts, and the Smiem commands that read and write registers (R433). -/

namespace Sys2Proof.Machine
open Sys2Proof

/-! Reading (R13, R14). -/

/-- Entries of a hashed table's stash. -/
def Dev.stashed (d : Dev) (t : Nat) : Nat :=
  match hspec? t with
  | none => 0
  | some h => (trange (d.ents t) h.slots (h.slots + h.stash)).length

/-- Entries used of a hashed table, and the default routes of a family. -/
def Dev.usedOf (d : Dev) (t : Nat) : Nat := ((hspec? t).map d.used).getD 0

def Dev.defaults (d : Dev) (v6 : Bool) : Nat :=
  (d.tbl.span.filter (fun e => (4096 ≤ e.1) == v6 && e.2.dflt.isSome)).length

/-- The Bushel's counts and levels (R227, R360). -/
def Dev.showBushel (d : Dev) : Dev :=
  d.setAll [(F.BSH_STA_COUNT, d.usedOf 1), (F.BSH_ROUTE4_COUNT, (d.ents 3).length + d.defaults false),
    (F.BSH_ROUTE6_COUNT, (d.ents 5).length + d.defaults true), (F.BSH_EM_COUNT, d.usedOf 8), (F.BSH_POOL_FREE, d.poolFree),
    (F.BSH_STASH_STA, d.stashed 1), (F.BSH_STASH_V4, d.stashed 3), (F.BSH_STASH_V6, d.stashed 5), (F.BSH_STASH_EM, d.stashed 8),
    (F.LEARN_STATUS_LEVEL_EAST, d.tbl.learnE.length), (F.LEARN_STATUS_LEVEL_WEST, d.tbl.learnW.length),
    (F.RECOVERY_STATUS_LEVEL_EAST, d.tbl.recE.length), (F.RECOVERY_STATUS_LEVEL_WEST, d.tbl.recW.length)]

/-- Fills of the buffer manager (R267). -/
def Dev.showBuffers (d : Dev) (off : Nat) : Dev :=
  if off < 0x1c00100 then d.setAll [(F.BM_FREE_CELLS, d.freeCells), (F.BM_DESC_FREE, d.descFree), (F.BM_HOG_FREE, d.hogFree)]
  else if off < 0x1c00300 then
    let p := (off - 0x1c00100) / 0x20
    d.setAll [(F.POOL_ING_FILL p, d.ingFill p), (F.POOL_EG_FILL p, d.egFill p)]
  else if 0x1c10000 ≤ off && off < 0x1c18000 then d.set (F.BMQ_FILL ((off - 0x1c10000) / 4)) (d.queueFill ((off - 0x1c10000) / 4))
  else if 0x1c18000 ≤ off && off < 0x1c20000 then
    d.set (F.BMQ_QUEUE_SPILL ((off - 0x1c18000) / 4)) (d.queueSpill ((off - 0x1c18000) / 4))
  else d

/-- What a queue's status register shows (R301): its head's eligibility, its shaper, its gate. -/
def Dev.showQueue (d : Dev) (k : Clock) (q : Nat) : Dev :=
  let ready := match d.queue q with
    | [] => false
    | c :: _ => d.eligible k q c (d.headLen q c).1
  let t := k.abs + d.get (F.EGP_TX_ADVANCE (q / 8))
  let gate := 4096 ≤ q || bit (d.gateStates (q / 8) t) (q % 8)
  d.setAll [(F.EGQ_ELIGIBLE q, b2n ready), (F.EGQ_SHAPER_DUE q, b2n (d.queueDue q)), (F.EGQ_GATE_OK q, b2n gate)]

/-- Egress scheduling (R301). Gate fields of ports 512 to 517 read 0. -/
def Dev.showEgress (d : Dev) (k : Clock) (off : Nat) : Dev :=
  if 0x2100000 ≤ off && off < 0x2120000 then d.showQueue k ((off - 0x2100000) / 16)
  else if 0x2200000 ≤ off && off < 0x2210300 then
    let p := (off - 0x2200000) / 128
    if p < 512 then d.gateShow k p
    else d.setAll [(F.EGP_LENGTH_AWARE p, 0), (F.EGP_GATE_EN p, 0), (F.EGP_ADMIN_GATE_STATES p, 0), (F.EGP_TX_ADVANCE p, 0),
      (F.EGP_OPER_GATE_STATES p, 0)]
  else if 0x2300000 ≤ off && off < 0x2310000 then d.sgateShow k ((off - 0x2300000) / 64)
  else d

/-- Network time, the capture FIFOs and the timestamp queues (R330). -/
def Dev.showTime (d : Dev) (k : Clock) : Dev :=
  let d1 := d.setAll [(F.TU_TIME_NOW_LO, k.ns), (F.TU_TIME_NOW_HI, k.sec), (F.TU_TIME_SEC_TOP, k.sec / 2 ^ 32),
    (F.TU_TIME_INC_NS, k.inc / 2 ^ 32), (F.TU_TIME_INC_FRAC, k.inc), (F.TU_TICK_COUNT_LO, k.tick), (F.TU_TICK_COUNT_HI, k.tick / 2 ^ 32),
    (F.TU_TSQ_SUMMARY, (List.range 32).foldl (fun n l => if (d.tsqOf l).isEmpty then n else n + 2 ^ l) 0)]
  let d2 := (List.range 5).foldl (fun d i =>
    let e := (d.fifoOf i).headD (0, 0)
    d.setAll [(F.TU_CAP_LO i, e.2), (F.TU_CAP_HI i, e.1), (F.TU_LEVEL i, (d.fifoOf i).length)]) d1
  (List.range 32).foldl (fun d l => d.set (F.TU_TSQ_LEVEL l) (d.tsqOf l).length) d2

/-- Commands in flight (R450), and the firmware's version once it runs (R534). -/
def Dev.showSconce (d : Dev) : Dev :=
  let ofRing := fun r => (d.smi.fetched.filter (fun e => e.req.ring.val == r)).length +
    (d.smi.waits.filter (fun w => w.req.ring.val == r && !w.answered)).length
  let d1 := (List.range 16).foldl (fun d r => d.set (F.SQ_INFLIGHT r) (ofRing r)) d
  d1.setAll [(F.SM_INFLIGHT_HW, d.smi.hwInFlight), (F.SM_INFLIGHT_FW, d.smi.fwInFlight),
    (F.SC_FW_VERSION, if 5 ≤ d.boot.step then Config.fwVersion ((d.boot.image.map Image.serial).getD 0) else 0)]

/-- The device with the fields of an offset that show other state brought up to date. -/
def Dev.shown (d : Dev) (k : Clock) (off : Nat) : Dev :=
  if off < 0x1000 then d.setAll [(F.GL_STAGED_PENDING, d.stagedPending), (F.GL_ARMED_GROUPS, d.armedGroups)]
  else if 0x200000 ≤ off && off < 0x300000 then d.showTime k
  else if 0x400000 ≤ off && off < 0x800000 then d.showSconce
  else if 0x800000 ≤ off && off < 0x1800000 then
    let l := (off - 0x800000) / 0x80000
    d.setAll [(F.RULESET_STATUS_GEN_APPLIED l, d.rules.gen), (F.RULESET_STATUS_OLD_RESIDENT l, b2n d.oldResident),
      (F.RULESET_STATUS_SWAP_HELD l, b2n d.rules.held.isSome), (F.RULESET_STATUS_COPY_BUSY l, b2n d.rules.copying)]
  else if 0x1800000 ≤ off && off < 0x1c00000 then d.showBushel
  else if 0x1c00000 ≤ off && off < 0x2000000 then d.showBuffers off
  else if 0x2000000 ≤ off && off < 0x2400000 then d.showEgress k off
  else if 0x2c00000 ≤ off && off < 0x3000000 then
    (List.range 16).foldl (fun d v => d.set (F.TAP_CREDIT_AVAIL v) (d.vcCredit v)) (d.set F.TAP_UNACKED d.taper.unacked.length)
  else d

/-- May an offset be accessed: after a fatal failure only those below 0x2000 (R541). -/
def Dev.answers (d : Dev) (off : Nat) : Bool := !d.flag F.BT_FAILED || off < 0x2000

/-- The present value of the register at an offset: write-only fields, registers of a port or queue that does not exist and
reserved offsets read 0 (R13, R14, R569). -/
def Dev.present (d : Dev) (k : Clock) (off : Nat) : Nat :=
  if !d.answers off || !d.exists_ off then 0
  else
    let s := d.shown k off
    wordOf (((fieldsAt off).filter (fun f => f.acc != .wo)).map (fun f => (f, s.get f)))

/-- The _HI registers of the pairs of R7: the _LO register stands 4 below. -/
def pairHis : List (Nat × List (Nat × Nat)) :=
  [(0xc, []), (0x58, []), (0x64, []), (0xac, []), (0xb4, []), (0xe8, []), (0x1008, []), (0x102c, []), (0x100034, []),
   (0x100044, []), (0x200014, []), (0x20002c, []), (0x200084, [(0x10, 5)]), (0x30000c, []), (0x300014, []),
   (0x408004, [(0x20, 16)]), (0x408404, [(0x20, 16)]), (0x800044, [(0x80000, 32), (0x1000, 16), (0x8, 8)]),
   (0x850018, [(0x80000, 32)]), (0x850020, [(0x80000, 32)]), (0x1800044, [(0x8, 8)]), (0x18000ac, []),
   (0x1801004, [(0x8, 256)]), (0x1c04008, [(0x40, 16)]), (0x1c04010, [(0x40, 16)]), (0x200000c, []),
   (0x2200014, [(0x80, 518)]), (0x2200024, [(0x80, 518)]), (0x230000c, [(0x40, 1024)]), (0x230001c, [(0x40, 1024)]),
   (0x280006c, []), (0x2c000c4, []), (0x2c000cc, []), (0x340001c, []), (0x3400204, [(0x8, 64)]),
   (0x3401004, [(0x40, 32)]), (0x340100c, [(0x40, 32)]), (0x3401014, [(0x40, 32)]), (0x340101c, [(0x40, 32)]),
   (0x3401024, [(0x40, 32)])]

def isPairHi (off : Nat) : Bool := pairHis.any (fun p => p.1 ≤ off && (dimsIndex p.2 (off - p.1)).isSome)

/-- Ticks within 1 µs. -/
def captureTicks : Nat := 781

/-- A read of a register by a requester (R489): a _HI register's read captures its pair; a _LO register's read by the same
requester within 1 µs receives what was captured. -/
def Dev.regRead (d : Dev) (k : Clock) (who : Requester) (off : Nat) : Nat × Dev :=
  let v := d.present k off
  if isPairHi off then
    let others := d.cfg.captures.filter (fun c => !(c.who == who && c.off == off))
    (v, { d with cfg := { d.cfg with captures := ⟨who, off, d.present k (off - 4), k.tick⟩ :: others } })
  else
    match d.cfg.captures.find? (fun c => c.who == who && c.off == off + 4) with
    | none => (v, d)
    | some c =>
      let d1 := { d with cfg := { d.cfg with captures := d.cfg.captures.erase c } }
      (if k.tick - c.tick ≤ captureTicks && d.answers off then c.low else v, d1)

/-! Writing (R13, R479, R488). -/

/-- The value a write stages for a field: the one whose bits the mask leaves out stay as staged, or as applied (R479). -/
def Dev.toStage (d : Dev) (f : Fld) : Nat := (tget? d.staged f.key).getD (d.get f)

/-- The word a masked write comes to: outside the mask the present values, and 0 for fields a 1 acts on (R433). -/
def Dev.mergedWord (d : Dev) (off w mask : Nat) : Nat :=
  wordOf ((fieldsAt off).map (fun f =>
    let old := match f.acc with
      | .srw => d.toStage f
      | .w1c | .wo => 0
      | _ => d.get f
    let m := f.take mask
    (f, (f.take w &&& m) ||| (old &&& (maskOf f.w ^^^ m)))))

/-- The fields a write carries (R488). -/
def carriedFields (off mask : Nat) : List Fld := (fieldsAt off).filter (fun f => f.take mask != 0)

/-- One field takes its part of a write. -/
def Dev.writeField (d : Dev) (f : Fld) (v : Nat) : Dev :=
  match f.acc with
  | .rw | .krw => d.set f v
  | .w1c => d.set f (d.get f &&& (maskOf f.w ^^^ v))
  | .srw => d.stage f v
  | .ro | .wo => d

/-- Every carried field takes its part of the word. -/
def Dev.writeFields (d : Dev) (fs : List Fld) (word : Nat) : Dev := fs.foldl (fun d f => d.writeField f (f.take word)) d

/-- CHANDLER_CTRL: MODE 0b11 is not staged, and flag 11 is set (R89). -/
def Dev.chandlerCtrl (d : Dev) (k : Clock) (fs : List Fld) (word : Nat) : Dev :=
  if F.CHANDLER_CTRL_MODE.take word = 3 && fs.contains F.CHANDLER_CTRL_MODE then
    (d.writeFields (fs.erase F.CHANDLER_CTRL_MODE) word).chFlag k 11
  else d.writeFields fs word

/-- SENTINEL_CTRL: when SENTINEL_EN is set, no window has been published since (R74). -/
def Dev.sentinelCtrl (d : Dev) (l : Nat) (fs : List Fld) (word : Nat) : Dev :=
  let d1 := d.writeFields fs word
  if d1.flag (F.SENTINEL_CTRL_SENTINEL_EN l) && !d.flag (F.SENTINEL_CTRL_SENTINEL_EN l) then
    (List.range 8).foldl (fun d i => d.setB (F.SENTINEL_RATE_VALID l i) false) (d1.setB (F.SENTINEL_MIN_VALID l) false)
  else d1

/-- HDR_FIFO_STATUS and REORDER_STATUS: PEAK_CLR sets PEAK to LEVEL (R74, R179). -/
def Dev.fifoPeak (d : Dev) (l word : Nat) : Dev :=
  if bit word 16 then d.set (F.HDR_FIFO_STATUS_PEAK l) (d.get (F.HDR_FIFO_STATUS_LEVEL l)) else d

def Dev.reorderPeak (d : Dev) (l word : Nat) : Dev :=
  if bit word 31 then d.set (F.REORDER_STATUS_PEAK l) (d.get (F.REORDER_STATUS_LEVEL l)) else d

/-- CONFIG_GEN_LOAD (R493, R497): a pass that runs is abandoned. -/
def Dev.genLoad (d : Dev) (k : Clock) (v : Nat) : Dev :=
  let d1 := (d.set F.GL_CONFIG_GEN v).set F.GL_CONFIG_GEN_LOAD v
  (if d.flag F.GL_FP_EN then d1.satInc F.GL_FP_ABANDONED else d1).event k 677 (flcGlobal 1)

/-- PUSH_LEN and PUSH_GO (R544): the ROM reads the image while step 4 waits for it. -/
def Dev.pushWrite (d : Dev) (word : Nat) : Dev :=
  let d1 := d.set F.BT_PUSH_LEN (bits word 0 24)
  if bit word 31 && d.boot.pushWait then { d1 with boot := { d1.boot with pushGo := true } } else d1

/-- RST_DOMAIN: a number that names no domain that may be reset is refused (R549). -/
def Dev.rstWrite (d : Dev) (k : Clock) (n : Nat) : Dev := if domainBad n then d else (d.set F.BT_RST_DOMAIN n).domainAsk k n

/-- An OEM fuse: writable while it reads 0 (R551). -/
def Dev.fuseWrite (d : Dev) (f : Fld) (v : Nat) : Dev := if d.get f = 0 then d.set f v else d

/-- A write in the global block (R502). -/
def Dev.writeGlobal (d : Dev) (k : Clock) (off : Nat) (fs : List Fld) (word : Nat) : Dev :=
  if off = 0x20 then d.unlock k word
  else if off = 0x40 then d.strobe k (word % 65536)
  else if off = 0x48 then d.stageDiscard k (word % 65536)
  else if off = 0x50 then d.disarm k (word % 65536)
  else if off = 0x84 then d.genLoad k word
  else d.writeFields fs word

/-- A write in the block of start-up (R551). -/
def Dev.writeBoot (d : Dev) (k : Clock) (off : Nat) (fs : List Fld) (word : Nat) : Dev :=
  if off = 0x100C then d.pushWrite word
  else if off = 0x1018 then (if bit word 0 then d.calBegin k else d)
  else if off = 0x1020 then d.rstWrite k (word % 64)
  else if off = 0x1024 then d
  else if off = 0x1028 then d.fuseWrite F.BT_OEM_FUSE_LO word
  else if off = 0x102C then d.fuseWrite F.BT_OEM_FUSE_HI word
  else d.writeFields fs word

/-- A write in a lantern's registers. -/
def Dev.writeLantern (d : Dev) (off : Nat) (fs : List Fld) (word : Nat) : Dev :=
  let l := (off - 0x800000) / 0x80000
  let r := (off - 0x800000) % 0x80000
  if r = 0x50000 then
    let d1 := d.writeFields (fs.filter (fun f => f.acc != .krw)) word
    if fs.any (fun f => f.acc == .krw) then d1.forceWrite l (word % 4) else d1
  else if r = 0x60064 then (d.writeFields fs word).reorderPeak l word
  else if r = 0x70000 then d.sentinelCtrl l fs word
  else if r = 0x70080 then (d.writeFields fs word).fifoPeak l word
  else d.writeFields fs word

/-- A write of the ring registers (R450). -/
def Dev.writeRings (d : Dev) (off : Nat) (fs : List Fld) (word : Nat) : Dev :=
  let r := (off - 0x408000) % 0x400 / 0x20
  match (off - 0x408000) % 0x20, decide (off < 0x408400) with
  | 8, true => d.sqCfgWrite r word
  | 8, false => d.cqCfgWrite r word
  | 0xC, true => if d.flag (F.SQ_EN r) then d else d.writeFields fs word
  | _, _ => d.writeFields fs word

/-- A write of the time unit's registers (R330). -/
def Dev.writeTime (d : Dev) (off : Nat) (fs : List Fld) (word : Nat) : Dev :=
  if 0x200080 ≤ off && off < 0x2000d0 && off % 16 = 12 then d.capPop ((off - 0x200080) / 16) word
  else if 0x200200 ≤ off && off < 0x200280 then d.tsqClear ((off - 0x200200) / 4) word
  else d.writeFields fs word

/-- What a write that is not turned away does. -/
def Dev.writeActs (d : Dev) (k : Clock) (off : Nat) (fs : List Fld) (word : Nat) : Dev :=
  if off < 0x1000 then d.writeGlobal k off fs word
  else if off < 0x2000 then d.writeBoot k off fs word
  else if off = 0x100000 then d.chandlerCtrl k fs word
  else if off = 0x100010 then d.writeFields fs (putBits word 7 1 0)
  else if 0x200000 ≤ off && off < 0x300000 then d.writeTime off fs word
  else if 0x408000 ≤ off && off < 0x408800 then d.writeRings off fs word
  else if 0x800000 ≤ off && off < 0x1800000 then d.writeLantern off fs word
  else if 0x1800020 ≤ off && off < 0x1800040 then d.writeSeed ((off - 0x1800020) / 4) word
  else if 0x2300000 ≤ off && off < 0x2310000 && off % 64 = 4 then d.sgateWrite k ((off - 0x2300000) / 64) word
  else if off = 0x2800004 then d.allocWrite k word
  else if off = 0x2c00000 then d.tapCtrlWrite k word
  else if off = 0x3400000 then d.perfWrite word
  else d.writeFields fs word

/-- Is a write ignored: after a fatal failure, of a register that does not exist, or of a domain held in reset. -/
def Dev.deaf (d : Dev) (off : Nat) : Bool := !d.answers off || !d.exists_ off || d.isHeld (blockOf off)

/-- A write to BAR0 (R488): false when the lock turns it away. A write that carries a KRW field takes the unlock and, but for
CONFIG_GEN_LOAD, counts in CONFIG_GEN (R492). -/
def Dev.regWrite (d : Dev) (k : Clock) (off w mask : Nat) : Bool × Dev :=
  let fs := carriedFields off mask
  if fs.isEmpty || d.deaf off then (true, d)
  else
    let word := d.mergedWord off w mask
    if fs.all (fun f => f.acc != .krw) then (true, d.writeActs k off fs word)
    else if d.flag F.GL_LOCKED then (false, d.keyFail k)
    else
      let d1 := d.setB F.GL_LOCKED true
      (true, (if off = 0x84 then d1 else d1.bumpGen).writeActs k off fs word)

/-- A write of a whole register. -/
def Dev.barWrite (d : Dev) (k : Clock) (off w : Nat) : Dev := (d.regWrite k off w (2 ^ 32 - 1)).2

/-! The commands of single registers. -/

/-- HI_READ_CAPTURE: a read of a BAR0 register, with what R489 captures or hands back. -/
def readBar (who : Requester) (off : Nat) (k : Clock) (d : Dev) : Dev :=
  let (v, d1) := d.regRead k who off
  d1.emit (.regRead who off v)

def execHiReadCapture (who : Requester) (off : Nat) (s : State) : Host.Outcome State Fault Refusal := onDev (readBar who off) s

/-- REGISTER_WRITE; a write of more than 32 bits is completed and discarded (R403). -/
def execRegisterWrite (who : Requester) (off : Nat) (value : Word) (wide : Bool) (s : State) :
    Host.Outcome State Fault Refusal :=
  onDev (fun k d => if wide then (if who = .host then d.setBit F.CXL_STICKY 6 else d) else d.barWrite k off value.toNat) s

def execUnlock (value : Word) (s : State) : Host.Outcome State Fault Refusal := onDev (fun k d => d.barWrite k 0x20 value.toNat) s

def execCommitStrobe (value : Word) (s : State) : Host.Outcome State Fault Refusal :=
  onDev (fun k d => d.barWrite k 0x40 value.toNat) s

def execStageDiscard (value : Word) (s : State) : Host.Outcome State Fault Refusal :=
  onDev (fun k d => d.barWrite k 0x48 value.toNat) s

def execDisarm (value : Word) (s : State) : Host.Outcome State Fault Refusal := onDev (fun k d => d.barWrite k 0x50 value.toNat) s

def execConfigGenLoad (value : Word) (s : State) : Host.Outcome State Fault Refusal :=
  onDev (fun k d => d.barWrite k 0x84 value.toNat) s

def execRstDomain (value : Word) (s : State) : Host.Outcome State Fault Refusal :=
  onDev (fun k d => d.barWrite k 0x1020 value.toNat) s

def execForce (lantern : Fin 32) (value : Word) (s : State) : Host.Outcome State Fault Refusal :=
  onDev (fun k d => d.barWrite k (F.WICK_CTRL_FORCE lantern).off value.toNat) s

def execPushGo (value : Word) (s : State) : Host.Outcome State Fault Refusal :=
  onDev (fun k d => d.barWrite k 0x100C value.toNat) s

def execCalStart (value : Word) (s : State) : Host.Outcome State Fault Refusal :=
  onDev (fun k d => d.barWrite k 0x1018 value.toNat) s

def execAllocGo (value : Word) (s : State) : Host.Outcome State Fault Refusal :=
  onDev (fun k d => d.barWrite k 0x2800004 value.toNat) s

def execPerfClear (value : Word) (s : State) : Host.Outcome State Fault Refusal :=
  onDev (fun k d => d.barWrite k 0x3400000 value.toNat) s

def execPerfFreeze (value : Word) (s : State) : Host.Outcome State Fault Refusal :=
  onDev (fun k d => d.barWrite k F.PC_PERF_FREEZE.off value.toNat) s

def execHdrFifoPeakClr (lantern : Fin 32) (value : Word) (s : State) : Host.Outcome State Fault Refusal :=
  onDev (fun k d => d.barWrite k (F.HDR_FIFO_STATUS_PEAK_CLR lantern).off value.toNat) s

def execReorderPeakClr (lantern : Fin 32) (value : Word) (s : State) : Host.Outcome State Fault Refusal :=
  onDev (fun k d => d.barWrite k (F.REORDER_STATUS_PEAK_CLR lantern).off value.toNat) s

def execCapPop (fifo : Fin 5) (value : Word) (s : State) : Host.Outcome State Fault Refusal :=
  onDev (fun k d => d.barWrite k (F.TU_CAP_POP fifo).off value.toNat) s

def execStreamGateReopen (gate : Fin 1024) (value : Word) (s : State) : Host.Outcome State Fault Refusal :=
  onDev (fun k d => if d.deaf (F.SG_CLOSED_INVALID gate).off then d else d.sgateWrite k gate value.toNat) s

def execTsqOverflowClear (lantern : Fin 32) (value : Word) (s : State) : Host.Outcome State Fault Refusal :=
  onDev (fun k d => d.barWrite k (F.TU_TSQ_OVERFLOW lantern).off value.toNat) s

def execTblSeed (table : Fin 8) (value : Word) (s : State) : Host.Outcome State Fault Refusal :=
  onDev (fun k d => d.barWrite k (F.TBL_SEED table).off value.toNat) s

def execOemFuse (high : Bool) (value : Word) (s : State) : Host.Outcome State Fault Refusal :=
  onDev (fun k d => d.barWrite k (if high then 0x102C else 0x1028) value.toNat) s

/-! REG_READ, REG_WRITE, REG_WRITE_KEYED (R433). -/

/-- Is ADDR refused: not a multiple of 4, or beyond 0x03FF_FFFF. -/
def addrBad (q : Req) : Bool := q.u 0 4 % 4 != 0 || bar0End ≤ q.u 0 4

def regRead (q : Req) (k : Clock) (d : Dev) : Dev × Rep :=
  let (a, d1) := d.regRead k .engine (q.u 0 4)
  if q.u 4 1 = 2 then
    let (b, d2) := d1.regRead k .engine (q.u 0 4 + 4)
    (d2, ⟨stOk, 0, a + b * 2 ^ 32⟩)
  else (d1, ⟨stOk, 0, a⟩)

def execRegRead (q : Req) (s : State) : Host.Outcome State Fault Refusal :=
  onMach (smiemDev 0x0010 (fun q _ => badParam 5 [(0, 5)] [(0, addrBad q), (4, q.u 4 1 = 0 || 2 < q.u 4 1)] q.params) regRead q) s

/-- Does a write name a domain for RST_DOMAIN that R549 refuses. -/
def rstBad (q : Req) : Bool :=
  q.u 0 4 == 0x1020 && F.BT_RST_DOMAIN.take (q.u 8 4) != 0 && domainBad (F.BT_RST_DOMAIN.take (q.u 4 4 &&& q.u 8 4))

/-- The register takes VALUE under MASK; RESULT is the register read after it. -/
def regWrite (q : Req) (k : Clock) (d : Dev) : Dev × Rep :=
  let (ok, d1) := d.regWrite k (q.u 0 4) (q.u 4 4) (q.u 8 4)
  if ok then (d1, ⟨stOk, 0, d1.present k (q.u 0 4)⟩) else (d1, ⟨stKeyRequired, 0, 0⟩)

def execRegWrite (q : Req) (s : State) : Host.Outcome State Fault Refusal :=
  onMach (smiemDev 0x0011 (fun q _ => badParam 12 [(0, 12)] [(0, addrBad q), (4, rstBad q)] q.params) regWrite q) s

/-- KEY is written to UNLOCK, then the register as REG_WRITE writes it. -/
def regWriteKeyed (q : Req) (k : Clock) (d : Dev) : Dev × Rep :=
  let d1 := d.unlock k (q.u 12 4)
  if q.u 12 4 = unlockKey then regWrite q k d1 else (d1, ⟨stKeyRequired, 0, 0⟩)

def execRegWriteKeyed (q : Req) (s : State) : Host.Outcome State Fault Refusal :=
  onMach (smiemDev 0x0012 (fun q _ => badParam 16 [(0, 16)]
    [(0, addrBad q || (fieldsAt (q.u 0 4)).all (fun f => f.acc != .krw)), (4, rstBad q)] q.params) regWriteKeyed q) s

end Sys2Proof.Machine
end

