-- ==== Sys2Proof/Machine/SmiemCtl.lean ====
section
/-! DEFINITION. Smiem's own commands ECHO and IDENTIFY (R433, R434), the frames of port 513 (R444), FIRMWARE_UPDATE (R443,
R543), reads of host memory that get no completion (R429, R446), and the slices that the firmware starts (R504). -/

namespace Sys2Proof.Machine
open Sys2Proof

/-! ECHO and IDENTIFY. -/

/-- ECHO returns its first 8 parameter bytes and its length. -/
def echo (q : Req) (_ : Clock) (d : Dev) : Dev × Rep := (d, ⟨stOk, q.params.length, leAt q.params 0 8⟩)

def execEcho (q : Req) (s : State) : Host.Outcome State Fault Refusal :=
  onMach (smiemDev 0x0001 (fun q _ => badParam 4064 [(0, 4064)] [] q.params) echo q) s

/-- The ordering code in ASCII: ZHV9102-A1-FB7744. -/
def orderingCode : Bytes :=
  [0x5A, 0x48, 0x56, 0x39, 0x31, 0x30, 0x32, 0x2D, 0x41, 0x31, 0x2D, 0x46, 0x42, 0x37, 0x37, 0x34, 0x34]

/-- The firmware's version (R434). -/
def Dev.fwVersion (d : Dev) : Nat := Config.fwVersion ((d.boot.image.map Image.serial).getD 0) % 2 ^ 32

/-- The identity record of R434. -/
def Dev.identity (d : Dev) : Bytes :=
  toLE 0x1F3A 2 ++ toLE 0x9102 2 ++ toLE 1 1 ++ toLE 0 1 ++ toLE 0x0100 2 ++ toLE d.fwVersion 4 ++ toLE Config.romVersion 4 ++
    toLE (d.get64 F.GL_DIE_ID_LO F.GL_DIE_ID_HI) 8 ++ toLE (d.get F.GL_CONFIG_GEN) 4 ++ toLE d.rules.gen 2 ++ toLE (d.get F.CXL_MODE) 1 ++
    toLE (d.get F.HBM_STACK_UP) 1 ++ padTo orderingCode 32

def identify (q : Req) (_ : Clock) (d : Dev) : Dev × Rep :=
  let (n, d1) := d.bufWrite (q.u 0 8) (q.u 8 4) 64 [d.identity]
  (d1, ⟨if n = 0 then stPartial else stOk, 0, 0⟩)

def execIdentify (q : Req) (s : State) : Host.Outcome State Fault Refusal :=
  onMach (smiemDev 0x0002 (fun q _ => badParam 12 [(0, 12)] [] q.params) identify q) s

/-! Port 513 (R444). -/

def frameSendCheck (q : Req) (m : Mach) : Option Nat :=
  let len := q.u 6 2
  badParam 48 [(0, 14), (32, 1), (40, 8)]
    [(0, !m.dev.frontQueue (q.u 0 2)), (2, 4 ≤ q.u 2 1), (3, 32 ≤ q.u 3 1), (6, len < 14 || 15996 < len), (8, q.u 8 2 != 0),
     (10, q.u 10 4 != 0), (32, m.dev.locBad (q.u 32 1) (q.u 40 8) len)] q.params

/-- FRAME_SEND: a frame from the host enters as a Sconce requester's, and is offered to its queue once it has its cells. -/
def frameSend (q : Req) (m : Mach) : Res :=
  let src := m.bulk q (q.u 32 1) (q.u 40 8) (q.u 6 2)
  if src.ended != .whole then .done m ⟨endStatus src.ended, 0, 0⟩
  else
    let (ask, adm, fid, d1) := m.dev.injectAsk m.clk 513 false (sliceZ q.params 0 32) src.bytes
    let m1 := m.setDev (d1.poolsUpdate m.clk)
    match ask, adm with
    | .waits, _ => .later m1 (.frameSend fid)
    | .granted, some (.refused off) => .done m1 ⟨stOk, 256 * off, 0⟩
    | .granted, _ => .done m1 ⟨stOk, 1, 0⟩
    | .dropped, _ => .done m1 ⟨stNoSpace, 1, 0⟩

def execFrameSend (q : Req) (s : State) : Host.Outcome State Fault Refusal :=
  onMach (smiem 0x00D0 frameSendCheck (fun _ => false) frameSend q) s

/-- The queue of port 513 a frame is taken from next: the highest class named whose head is a whole frame on-die. -/
def Dev.recvQueue (d : Dev) (mask : Nat) : Option (Nat × Copy) :=
  [7, 6, 5, 4, 3, 2, 1, 0].findSome? (fun c =>
    match d.queue (4104 + c) with
    | h :: _ => if bit mask c && !h.waitEof && !h.spilled then some (4104 + c, h) else none
    | [] => none)

/-- A frame as FRAME_RECV writes it: metadata and content, padded to a multiple of 64 bytes. -/
def Dev.recvRecord (d : Dev) (c : Copy) (f : Frame) : Bytes :=
  let b := d.content c f f.bytes
  let r := upMeta c f b.length ++ b
  padTo r (64 * ceilDiv r.length 64)

/-- A copy leaves the head of its queue of port 513 and gives up its frame. -/
def Dev.recvTake (d : Dev) (q : Nat) (c : Copy) (f : Frame) : Dev :=
  let d1 := (d.setQueue q ((d.queue q).drop 1)).spend 6 f.cells.length
  (d1.countQueue q 1 (d.content c f f.bytes).length).releaseFrom c 0

/-- A copy one of whose cells fails its CRC is discarded (R230). -/
def Dev.recvBad (d : Dev) (k : Clock) (q : Nat) (c : Copy) (f : Frame) : Dev :=
  let d1 := d.setQueue q ((d.queue q).drop 1)
  (((d1.countQueue q 9 (d.copyLen c)).setBit F.BM_STICKY 1).event k 532 (flcCell (f.cells.headD 0))).releaseFrom c 0

/-- Take frames until `most` are taken: the records, whether one did not fit, and the device. -/
def Dev.recvLoop (d : Dev) (k : Clock) (failing : List Nat) (mask most : Nat) :
    Nat → Nat → List Bytes → List Bytes × Bool × Dev
  | 0, _, acc => (acc, false, d)
  | fuel + 1, room, acc =>
    if most ≤ acc.length then (acc, false, d)
    else match d.recvQueue mask with
    | none => (acc, false, d)
    | some (q, c) => match d.frame? c.fid with
      | none => (acc, false, d)
      | some f =>
        if failing.contains c.fid then Dev.recvLoop (d.recvBad k q c f) k failing mask most fuel room acc
        else
          let r := d.recvRecord c f
          if room < r.length then (acc, true, d)
          else Dev.recvLoop (d.recvTake q c f) k failing mask most fuel (room - r.length) (acc ++ [r])

/-- FRAME_RECV. `failing` names the frames a cell of which fails its CRC as it is read. -/
def frameRecv (failing : List Nat) (q : Req) (k : Clock) (d : Dev) : Dev × Rep :=
  let (recs, more, d1) := d.recvLoop k failing (q.u 1 1) (q.u 0 1) (q.u 0 1 + failing.length) (q.u 16 4) []
  let d2 := if recs.isEmpty then d1 else d1.emit (.hostWrite (q.u 8 8) recs.flatten)
  (d2.poolsUpdate k, ⟨if more then stPartial else stOk, recs.length, 0⟩)

def execFrameRecv (q : Req) (failing : List Nat) (s : State) : Host.Outcome State Fault Refusal :=
  onMach (smiemDev 0x00D1 (fun q _ => badParam 20 [(0, 2), (8, 12)]
    [(0, q.u 0 1 = 0 || 64 < q.u 0 1)] q.params) (frameRecv failing) q) s

/-! FIRMWARE_UPDATE (R443, R543). -/

/-- An image area of the flash: its first byte and its size. -/
def areaBase (b : Bool) : Nat := if b then 0x1000000 else 0
def areaSize : Nat := 0x1000000

/-- SERIAL of an area. -/
def Dev.areaSerial (d : Dev) (b : Bool) : Nat := leNat (mread d.boot.flash (areaBase b + 4) 4)

/-- Is area B the inactive one: the other than that booted from; after a push the other than the one tried first. -/
def Dev.inactiveB (d : Dev) : Bool :=
  match (d.boot.image.map Image.source).getD 0 with
  | 1 => true
  | 2 => false
  | _ => d.areaSerial true ≤ d.areaSerial false

def fwUpdateCheck (q : Req) (m : Mach) : Option Nat :=
  let write := q.u 0 1 == 0
  badParam 28 [(0, 1), (4, 9), (16, 12)]
    [(0, 2 < q.u 0 1), (4, write && areaSize < q.u 4 4 + q.u 8 4), (12, write && m.dev.locBad (q.u 12 1) (q.u 16 8) (q.u 8 4))]
    q.params

/-- FIRMWARE_UPDATE: OP 0 writes bytes of the inactive area; OP 1 checks the CRC-32C of its whole image, header and signature
block included; OP 2, after a passing OP 1, gives it the active area's SERIAL plus one. -/
def fwUpdate (q : Req) (m : Mach) : Res :=
  let d := m.dev
  let b := d.inactiveB
  let base := areaBase b
  let put := fun (ok : Bool) (at_ : Nat) (bytes : Bytes) =>
    m.setDev { d with boot := { d.boot with verified := ok, flash := mwrite d.boot.flash at_ bytes } }
  match q.u 0 1 with
  | 0 =>
    let src := m.bulk q (q.u 12 1) (q.u 16 8) (q.u 8 4)
    if src.ended != .whole then .done m ⟨endStatus src.ended, 0, 0⟩
    else .done (put false (base + q.u 4 4) src.bytes) Rep.ok
  | 1 =>
    let len := leNat (mread d.boot.flash (base + 8) 4)
    let ok := len ≤ areaSize - 168 && crc32c (mread d.boot.flash base (64 + len + 104)) == q.u 24 4
    .done (put ok base []) ⟨if ok then stOk else stIntegrity, 0, 0⟩
  | _ =>
    if d.boot.verified then .done (put true (base + 4) (toLE (d.areaSerial (!b) + 1) 4)) Rep.ok
    else .done m ⟨stIntegrity, 0, 0⟩

def execFirmwareUpdate (q : Req) (s : State) : Host.Outcome State Fault Refusal :=
  onMach (smiem 0x00F0 fwUpdateCheck (fun _ => false) fwUpdate q) s

/-! Reads of host memory that get no completion (R429, R446). -/

/-- Does a command held read bulk data from host memory. -/
def Fetched.readsHost (e : Fetched) : Bool :=
  match e.op with
  | 0x0025 => e.req.u 12 1 == 0
  | 0x0030 | 0x0031 => e.req.u 8 1 == 0
  | 0x00F0 => e.req.u 0 1 == 0 && e.req.u 12 1 == 0
  | 0x00D0 => e.req.u 32 1 == 0
  | _ => false

/-- HOST_COMPLETION_TIMEOUT: with no tag, the read of a ring's slots; with a tag, the read that the held command with that
tag makes as it starts. -/
def hostTimeout (r : Fin 16) (tag : Option Nat) (m : Mach) : Mach :=
  match tag with
  | none => if m.dev.fetchTurn r then m.onDev (fun k d => d.ringStop k r 2) else m
  | some t =>
    match m.dev.smi.fetched.find? (fun e => e.req.ring == r && e.req.tag == t && e.readsHost && m.dev.smi.mayStart e.op e.req) with
    | none => m
    | some e =>
      let q : Req := { e.req with src := ⟨[], .timedOut⟩ }
      match e.op with
      | 0x0025 => smiem 0x0025 dmaWriteCheck (fun _ => false) dmaWrite q m
      | 0x0030 => smiem 0x0030 cstoreCheck (fun _ => false) cstoreLoad q m
      | 0x0031 => smiem 0x0031 dispatchCheck (fun _ => false) dispatchLoad q m
      | 0x00F0 => smiem 0x00F0 fwUpdateCheck (fun _ => false) fwUpdate q m
      | _ => smiem 0x00D0 frameSendCheck (fun _ => false) frameSend q m

def execHostCompletionTimeout (ring : Fin 16) (tag : Option Nat) (s : State) : Host.Outcome State Fault Refusal :=
  onMach (hostTimeout ring tag) s

/-! Slices that the firmware starts (R96, R504). -/

/-- SCRATCHPAD_TEST_SLICE (R514). -/
def execScratchpadTestSlice (s : State) : Host.Outcome State Fault Refusal :=
  onDev (fun k d => (testSlice k d).sliceRan 2 d.energy) s

/-- ARCHIVE_FLUSH_SLICE (R529). -/
def execArchiveFlushSlice (s : State) : Host.Outcome State Fault Refusal :=
  onDev (fun k d => if d.flag F.PC_ARCHIVE_EN && d.flag F.HBM_ALLOC_DONE then (archiveSlice k d).sliceRan 3 d.energy else d) s

/-- SCRUB_SLICE (R393). -/
def scrubRow (corrected bad : List Nat) (m : Mach) : Mach :=
  if !m.dev.flag F.HBM_SCRUB_EN || !m.dev.flag F.HBM_ALLOC_DONE || m.dev.isHeld 35 then m
  else
    let n := scrubSlice corrected bad m
    n.setDev (n.dev.sliceRan 4 m.dev.energy)

def execScrubSlice (corrected bad : List Nat) (s : State) : Host.Outcome State Fault Refusal := onMach (scrubRow corrected bad) s

end Sys2Proof.Machine
end

