-- ==== Sys2Proof/Machine/Startup.lean ====
section
/-! DEFINITION. Power-up and bring-up (R537 to R550): POR_N, the steps of R540, the boot image of R543 and R544, the
forwarding section (R546) and first lighting (R547). -/

namespace Sys2Proof.Machine
open Sys2Proof

/-- FLC of the boot sequencer, and of the SPI bus (R552). -/
def flcBoot : Nat := flc 43 5 0
def flcSpi : Nat := flc 43 0 0

/-! POR_N (R539). -/

/-- POR_N asserts: every domain is reset and every memory loses its contents. The flash and the fuses are kept, and what the
device has emitted has been emitted. -/
def porAssert (m : Mach) : Mach :=
  let d := m.dev
  let d0 : Dev := { Dev.reset with
    boot := { Dev.reset.boot with flash := d.boot.flash, perstN := d.boot.perstN }
    free := d.free
    out := d.out }
  ⟨Clock.reset, d0.setAll ([F.BT_OEM_FUSE_LO, F.BT_OEM_FUSE_HI].map (fun f => (f, d.get f))), []⟩

def execPorNAssert (s : State) : Host.Outcome State Fault Refusal := .next { s with m := porAssert s.m }

/-- A fatal failure with a code: FAULT_N is driven low (R541). -/
def Dev.fatal (d : Dev) (code : Nat) : Dev :=
  let d1 := d.setAll [(F.BT_FAILED, 1), (F.BT_FAIL_CODE, code)]
  { d1 with boot := { d1.boot with faultN := false } }

/-- A scratchpad bank whose columns cannot be repaired is never powered (R511). -/
def Dev.bankDead (d : Dev) (b : Nat) : Dev :=
  d.setAll [(F.SC_FAILED b, 1), (F.SC_POWERED b, 0), (F.SC_OWNER b, ownerNone)]

/-- Step 2: repair, with the spares each replica needs and the FAILED banks. -/
def Dev.repair (d : Dev) (spares : Nat × Nat) (failed : List Nat) : Dev :=
  let d1 := d.setAll [(F.BT_SPARES_EAST, spares.1), (F.BT_SPARES_WEST, spares.2)]
  let d2 := failed.foldl Dev.bankDead (d1.setAll ((List.range 64).map (fun b => (F.SC_FAILED b, 0))))
  if 17 < spares.1 || 17 < spares.2 then d2.fatal 2
  else if failed.any (· < 4) then d2.fatal 3
  else (if failed.isEmpty then d2 else d2.setB F.BT_DEGRADED true).setStep 2

/-- POR_N_RELEASE: t0. BOOT_SEL is sampled; fuse load and repair follow. -/
def porRelease (bootSel : Nat) (fuseOk : Bool) (spares : Nat × Nat) (failed : List Nat) (m : Mach) : Mach :=
  if m.dev.boot.porN then m
  else
    let d := m.dev
    let d1 := ({ d with boot := { d.boot with porN := true, pushWait := bootSel == 1 } }).set F.BT_BOOT_SEL bootSel
    m.setDev (if fuseOk then (d1.setStep 1).repair spares failed else d1.fatal 1)

def execPorNRelease (bootSel : Fin 4) (fuseCrcOk : Bool) (spares : Nat × Nat) (failedBanks : List (Fin 64)) (s : State) :
    Host.Outcome State Fault Refusal :=
  .next { s with m := porRelease bootSel fuseCrcOk spares (failedBanks.map Fin.val) s.m }

/-! The boot image (R543, R544). -/

/-- MAGIC, the bound on LEN and IMAGE_CRC check. -/
def imageGood (b : Bytes) : Bool :=
  let len := leAt b 8 4
  leAt b 0 4 == 0x5A485643 && len ≤ areaSize - 168 && 64 + len + 104 ≤ b.length && crc32c (sliceZ b 64 len) == leAt b 32 4

/-- What an accepted image gives: its board block and its forwarding section, at offsets from MAGIC. -/
def imageOf (source : Nat) (fallback : Bool) (b : Bytes) : Image where
  source := source
  fallback := fallback
  serial := leAt b 4 4
  board := (chunks (sliceZ b (leAt b 16 4) (leAt b 20 4)) 8 (leAt b 20 4 / 8)).map (fun r => (leAt r 0 4, leAt r 4 4))
  fwd := sliceZ b (leAt b 24 4) (leAt b 28 4)

/-- The areas in the order in which they are tried. -/
def Dev.areaOrder (d : Dev) : List Bool :=
  if d.areaSerial true ≤ d.areaSerial false then [false, true] else [true, false]

/-- An image is accepted: step 4 is completed. -/
def Dev.boots (d : Dev) (i : Image) : Dev :=
  ({ d with boot := { d.boot with image := some i, pushWait := false, pushGo := false } }.set F.BT_SOURCE i.source).setStep 4

/-- The flash areas are read and checked; `bad` says which fail, by a read error or their signature. -/
def Dev.bootFlash (d : Dev) (k : Clock) (unsigned unread : List Nat) : Dev :=
  let n := fun (b : Bool) => if b then 1 else 0
  let d1 := ([false, true].filter (fun b => unread.contains (n b))).foldl (fun d _ => d.event k 691 flcSpi) d
  let passes := fun b => !unread.contains (n b) && !unsigned.contains (n b) && imageGood (mread d.boot.flash (areaBase b) areaSize)
  match d.areaOrder.find? passes with
  | some b => d1.boots (imageOf (n b + 1) (d.areaOrder.head? != some b) (mread d.boot.flash (areaBase b) areaSize))
  | none =>
    if d.get F.BT_BOOT_SEL = 2 then { d1 with boot := { d1.boot with pushWait := true } } else d1.fatal 4

/-- A pushed image has been read from host memory (R544). -/
def Dev.bootPush (d : Dev) (push : HostRead) (unsigned : List Nat) : Dev :=
  let b := sliceZ push.bytes 0 (d.get F.BT_PUSH_LEN)
  if push.ended = .whole && !unsigned.contains 2 && imageGood b then d.boots (imageOf 3 false b)
  else ({ d with boot := { d.boot with pushGo := false } }).setB F.BT_PUSH_FAIL true

/-- BOOT_IMAGE_CHECK: step 4; step 3 has ended. -/
def bootCheck (push : HostRead) (unsigned unread : List Nat) (k : Clock) (d : Dev) : Dev :=
  if d.flag F.BT_FAILED || !([2, 3].contains d.boot.step) then d
  else
    let d1 := d.setStep 3
    if !d1.boot.pushWait then d1.bootFlash k unsigned unread
    else if d1.boot.pushGo then d1.bootPush push unsigned
    else d1

def execBootImageCheck (push : HostRead) (unsigned unread : List (Fin 3)) (s : State) : Host.Outcome State Fault Refusal :=
  onDev (bootCheck push (unsigned.map Fin.val) (unread.map Fin.val)) s

/-! Firmware (R540, step 5). -/

/-- One write of the board block. -/
def Dev.boardWrite (d : Dev) (k : Clock) (p : Nat × Nat) : Dev :=
  if bar0End ≤ p.1 then d.setB F.BT_DEGRADED true else d.barWrite k p.1 p.2

/-- FIRMWARE_START: Lampblack records from here on, both cores run, and the board block is applied. -/
def firmwareStart (k : Clock) (d : Dev) : Dev :=
  match d.boot.step, d.boot.image with
  | 4, some i =>
    let d1 := { d with lamp := { d.lamp with recording := true } }
    let d2 := ((d1.integrate k).setAll [(F.SC_CORE0_RUN, 1), (F.SC_CORE1_RUN, 1)]).setStep 5
    let d3 := if i.fallback then d2.event k 689 flcBoot else d2
    i.board.foldl (fun d p => d.boardWrite k p) d3
  | _, _ => d

def execFirmwareStart (s : State) : Host.Outcome State Fault Refusal := onDev firmwareStart s

/-! Step 6. -/

/-- Step 6 is completed when both its parts have ended; the calibration of step 7 follows. -/
def Dev.stepSix (d : Dev) (k : Clock) : Dev :=
  if d.boot.step = 5 && d.boot.serdes && d.trainingEnded then (d.setStep 6).calBegin k else d

/-- DRAM_TRAINING: the training of a stack ends at step 5, or fails at the step after `step` (R394). -/
def dramTraining (s : Nat) (up : Bool) (step repaired : Nat) (k : Clock) (d : Dev) : Dev :=
  if bit (d.get F.HBM_STACK_UP ||| d.get F.HBM_STACK_DOWN) s || d.isHeld 35 || d.boot.step < 5 then d
  else
    let d1 := d.setAll [(F.HBM_STEP s, if up then 5 else min 4 step), (F.HBM_FAILED s, b2n !up), (F.HBM_LANES_REPAIRED s, repaired)]
    let d2 := if up then d1.setBit F.HBM_STACK_UP s
      else (if d.boot.step = 5 then d1.setB F.BT_DEGRADED true else d1).stackDown k s flcScrub
    d2.stepSix k

def execDramTraining (stack : Fin 4) (up : Bool) (step repaired : Nat) (s : State) : Host.Outcome State Fault Refusal :=
  onDev (dramTraining stack up step repaired) s

/-- SERDES_CALIBRATION of lanes 0 to 519. -/
def serdesCal (failed : List Nat) (k : Clock) (d : Dev) : Dev :=
  if d.boot.step != 5 || d.boot.serdes then d
  else
    let d1 := failed.foldl (fun d n => d.setBit (F.BT_LANE_FAILED (n / 32)) (n % 32)) d
    let d2 := if failed.isEmpty then d1 else d1.setB F.BT_DEGRADED true
    ({ d2 with boot := { d2.boot with serdes := true } }).stepSix k

def execSerdesCalibration (failed : List (Fin 520)) (s : State) : Host.Outcome State Fault Refusal :=
  onDev (serdesCal (failed.map Fin.val)) s

/-! Step 8 (R546, R547). -/

/-- One stage's control store, as one CSTORE_LOAD: refused whole when a word breaks the rules of its layout. -/
def Dev.loadStore (d : Dev) (fwd : Bytes) (stage : Nat) : Dev :=
  let words := chunks (sliceZ fwd (stage * 32768) 32768) 64 512
  if words.all (fun w => wordOk (leNat w)) then
    ((List.range 512).foldl (fun d i => d.setRec 0x20 (storeIndex stage i) (words.getD i [])) d).bumpGen
  else d

/-- One stage's dispatch entries, as one DISPATCH_LOAD. -/
def Dev.loadDispatch (d : Dev) (fwd : Bytes) (stage : Nat) : Dev :=
  let es := chunks (sliceZ fwd (655360 + stage * 508) 508) 2 254
  ((List.range 254).foldl (fun d i =>
    d.setRec 0x21 (dispIndex d.standbyBank stage i) (toLE (leNat (es.getD i []) % 1024) 2)) d).bumpGen

/-- FORWARDING_LOAD: 40 loads, then a swap in group 0 that is committed at once. -/
def forwardingLoad (k : Clock) (d : Dev) : Dev :=
  match d.boot.step, d.boot.image with
  | 7, some i =>
    if i.fwd.isEmpty || d.rules.gen != 0 then d
    else
      let d1 := (List.range 20).foldl (fun d s => (d.loadStore i.fwd s).loadDispatch i.fwd s) d
      (d1.onRules (fun r => { r with held := some ⟨0, false, false⟩ })).commitNow k 1 false
  | _, _ => d

def execForwardingLoad (s : State) : Host.Outcome State Fault Refusal := onDev forwardingLoad s

/-- One wick is lit for the first time: READY beside an ACTIVE twin, else ACTIVE. A wick a word of which reads uncorrectable
stays OFF, and the fault is recorded as a relight's is (R345). -/
def Dev.lightFirst (d : Dev) (k : Clock) (bad : List (Fin 32 × Wick × Fin 4 × Fin 20 × Fin 3)) (w : Wick) (l : Nat) : Dev :=
  match bad.find? (fun b => b.1.val == l && b.2.1 == w) with
  | some (_, _, c, s, b) =>
    let f : WickFault := ⟨w, if b.val = 0 then 3 else 4, c, s, b.val - 1, 0, 0⟩
    let d1 := ((d.snuffRegs k l f).setB (F.WICK_STICKY_RELIGHT_FAIL l) true).setB F.BT_DEGRADED true
    d1.eventData k (16 * l + 11) 0 (f.flc l) f.cause
  | none => (d.setWick l w (if (d.activeWick l).isNone then wkActive else wkReady)).relit k l w

/-- FIRST_LIGHTING: Wick A of every lantern in order, then Wick B; FW_READY is set with it. -/
def firstLighting (bad : List (Fin 32 × Wick × Fin 4 × Fin 20 × Fin 3)) (k : Clock) (d : Dev) : Dev :=
  if d.boot.step != 7 || d.rules.gen = 0 then d
  else
    let d1 := (List.range 32).foldl (Dev.lightFirst · k bad .a) d
    ((List.range 32).foldl (Dev.lightFirst · k bad .b) d1).bootDone k

def execFirstLighting (bad : List (Fin 32 × Wick × Fin 4 × Fin 20 × Fin 3)) (s : State) : Host.Outcome State Fault Refusal :=
  onDev (firstLighting bad) s

end Sys2Proof.Machine
end

