-- ==== Sys2Proof/Machine/Package.lean ====
section
/-! DEFINITION. The package's serial ports (R551, R564): the SMBus target and the boundary-scan port. -/

namespace Sys2Proof.Machine
open Sys2Proof

/-- SMBUS_TRANSACTION: a Block Read or Block Write of one BAR0 register. A transaction whose PEC is wrong does nothing. -/
def smbus (write : Bool) (off value : Nat) (pecOk : Bool) (k : Clock) (d : Dev) : Dev :=
  if !pecOk || d.isHeld 43 then d
  else if write then d.barWrite k off value
  else readBar .smbus off k d

def execSmbusTransaction (write : Bool) (off : Nat) (value : Word) (pecOk : Bool) (s : State) :
    Host.Outcome State Fault Refusal := onDev (smbus write off value.toNat pecOk) s

/-! The boundary-scan port. -/

/-- The IDCODE. -/
def idcode : Nat := 0x1910274B

/-- Cells of the boundary register: one for each single-ended signal ball. -/
def scanCells : Nat := 29

/-- JTAG_INSTRUCTION: an instruction is loaded and one scan of the register it selects is made, with `scanIn` shifted in. The
balls' levels that SAMPLE and EXTEST capture are the board's (free values). -/
def jtagInstruction (op : JtagOp) (scanIn : Nat) (_ : Clock) (d : Dev) : Dev :=
  if d.isHeld 43 then d
  else
    let put := fun (d : Dev) (cells : Nat) => { d with boot := { d.boot with jtag := ⟨op, cells⟩ } }
    match op with
    | .idcode => (put d d.boot.jtag.cells).emit (.scan idcode)
    | .bypass | .other | .highz => (put d d.boot.jtag.cells).emit (.scan 0)
    | .sample =>
      let (v, d1) := d.draw scanCells
      (put d1 d.boot.jtag.cells).emit (.scan v)
    | .preload | .extest =>
      let (v, d1) := d.draw scanCells
      (put d1 (scanIn % 2 ^ scanCells)).emit (.scan v)

def execJtagInstruction (op : JtagOp) (scanIn : Nat) (s : State) : Host.Outcome State Fault Refusal :=
  onDev (jtagInstruction op scanIn) s

end Sys2Proof.Machine
end

