-- ==== Sys2Proof/Machine/Dispatch.lean ====
section
/-! DEFINITION. The dispatch: one arm per command, one direct call of its meaning. -/

namespace Sys2Proof.Machine
open Sys2Proof

/-- The effect of a command on everything but the queue. -/
def exec (i : Instr) (s : State) : Host.Outcome State Fault Refusal :=
  match i with
  | .echo q => Sys2Proof.Machine.execEcho q s
  | .identify q => Sys2Proof.Machine.execIdentify q s
  | .regRead q => Sys2Proof.Machine.execRegRead q s
  | .regWrite q => Sys2Proof.Machine.execRegWrite q s
  | .regWriteKeyed q => Sys2Proof.Machine.execRegWriteKeyed q s
  | .commit q => Sys2Proof.Machine.execCommit q s
  | .fingerprintGet q => Sys2Proof.Machine.execFingerprintGet q s
  | .fingerprintReference q => Sys2Proof.Machine.execFingerprintReference q s
  | .tableInsert q => Sys2Proof.Machine.execTableInsert q s
  | .tableDelete q => Sys2Proof.Machine.execTableDelete q s
  | .tableLookup q => Sys2Proof.Machine.execTableLookup q s
  | .tableLock q => Sys2Proof.Machine.execTableLock q s
  | .tableDmaRead q => Sys2Proof.Machine.execTableDmaRead q s
  | .tableDmaWrite q => Sys2Proof.Machine.execTableDmaWrite q s
  | .shadowBind q => Sys2Proof.Machine.execShadowBind q s
  | .cstoreLoad q => Sys2Proof.Machine.execCstoreLoad q s
  | .dispatchLoad q => Sys2Proof.Machine.execDispatchLoad q s
  | .rulesetSwap q => Sys2Proof.Machine.execRulesetSwap q s
  | .counterRead q uncorrectable => Sys2Proof.Machine.execCounterRead q uncorrectable s
  | .counterSnapshot q => Sys2Proof.Machine.execCounterSnapshot q s
  | .counterClear q => Sys2Proof.Machine.execCounterClear q s
  | .portConfig q => Sys2Proof.Machine.execPortConfig q s
  | .portState q => Sys2Proof.Machine.execPortState q s
  | .laneDark q => Sys2Proof.Machine.execLaneDark q s
  | .laneLight q => Sys2Proof.Machine.execLaneLight q s
  | .serdesTune q => Sys2Proof.Machine.execSerdesTune q s
  | .gateListLoad q => Sys2Proof.Machine.execGateListLoad q s
  | .shaperSet q => Sys2Proof.Machine.execShaperSet q s
  | .policerSet q => Sys2Proof.Machine.execPolicerSet q s
  | .timeSet q => Sys2Proof.Machine.execTimeSet q s
  | .timeAdjust q => Sys2Proof.Machine.execTimeAdjust q s
  | .tsqRead q => Sys2Proof.Machine.execTsqRead q s
  | .wickTrim q => Sys2Proof.Machine.execWickTrim q s
  | .wickRelight q => Sys2Proof.Machine.execWickRelight q s
  | .wickStatus q => Sys2Proof.Machine.execWickStatus q s
  | .energyBudget q => Sys2Proof.Machine.execEnergyBudget q s
  | .energyReport q => Sys2Proof.Machine.execEnergyReport q s
  | .hbmSegments q => Sys2Proof.Machine.execHbmSegments q s
  | .hbmStatus q => Sys2Proof.Machine.execHbmStatus q s
  | .eventRead q => Sys2Proof.Machine.execEventRead q s
  | .eventRate q => Sys2Proof.Machine.execEventRate q s
  | .bankAssign q => Sys2Proof.Machine.execBankAssign q s
  | .bankTest q => Sys2Proof.Machine.execBankTest q s
  | .firmwareUpdate q => Sys2Proof.Machine.execFirmwareUpdate q s
  | .resetDomain q => Sys2Proof.Machine.execResetDomain q s
  | .frameSend q => Sys2Proof.Machine.execFrameSend q s
  | .frameRecv q failing => Sys2Proof.Machine.execFrameRecv q failing s
  | .sqTail ring value => Sys2Proof.Machine.execSqTail ring value s
  | .cqHead ring value => Sys2Proof.Machine.execCqHead ring value s
  | .packetFetch ring data => Sys2Proof.Machine.execPacketFetch ring data s
  | .coalTimeExpiry ring => Sys2Proof.Machine.execCoalTimeExpiry ring s
  | .submissionRingEn ring value => Sys2Proof.Machine.execSubmissionRingEn ring value s
  | .completionRingEn ring value => Sys2Proof.Machine.execCompletionRingEn ring value s
  | .unlock value => Sys2Proof.Machine.execUnlock value s
  | .commitStrobe value => Sys2Proof.Machine.execCommitStrobe value s
  | .stageDiscard value => Sys2Proof.Machine.execStageDiscard value s
  | .disarm value => Sys2Proof.Machine.execDisarm value s
  | .configGenLoad value => Sys2Proof.Machine.execConfigGenLoad value s
  | .rstDomain value => Sys2Proof.Machine.execRstDomain value s
  | .force lantern value => Sys2Proof.Machine.execForce lantern value s
  | .pushGo value => Sys2Proof.Machine.execPushGo value s
  | .calStart value => Sys2Proof.Machine.execCalStart value s
  | .allocGo value => Sys2Proof.Machine.execAllocGo value s
  | .allocation => Sys2Proof.Machine.execAllocation s
  | .perfClear value => Sys2Proof.Machine.execPerfClear value s
  | .perfFreeze value => Sys2Proof.Machine.execPerfFreeze value s
  | .hdrFifoPeakClr lantern value => Sys2Proof.Machine.execHdrFifoPeakClr lantern value s
  | .reorderPeakClr lantern value => Sys2Proof.Machine.execReorderPeakClr lantern value s
  | .capPop fifo value => Sys2Proof.Machine.execCapPop fifo value s
  | .streamGateReopen gate value => Sys2Proof.Machine.execStreamGateReopen gate value s
  | .tsqOverflowClear lantern value => Sys2Proof.Machine.execTsqOverflowClear lantern value s
  | .tblSeed table value => Sys2Proof.Machine.execTblSeed table value s
  | .oemFuse high value => Sys2Proof.Machine.execOemFuse high value s
  | .taperEnWrite value => Sys2Proof.Machine.execTaperEnWrite value s
  | .hiReadCapture who off => Sys2Proof.Machine.execHiReadCapture who off s
  | .registerWrite who off value wide => Sys2Proof.Machine.execRegisterWrite who off value wide s
  | .perstN => Sys2Proof.Machine.execPerstN s
  | .functionLevelReset => Sys2Proof.Machine.execFunctionLevelReset s
  | .perstNRelease => Sys2Proof.Machine.execPerstNRelease s
  | .cxlLinkTrained hostModes gen width rate => Sys2Proof.Machine.execCxlLinkTrained hostModes gen width rate s
  | .cxlMemRequest write addr data poison error => Sys2Proof.Machine.execCxlMemRequest write addr data poison error s
  | .hdmDecoderCommit base size oneWay lock commit => Sys2Proof.Machine.execHdmDecoderCommit base size oneWay lock commit s
  | .ideKeyEstablish mem => Sys2Proof.Machine.execIdeKeyEstablish mem s
  | .ideFail mem => Sys2Proof.Machine.execIdeFail mem s
  | .linkRecovery uncorrectable failed => Sys2Proof.Machine.execLinkRecovery uncorrectable failed s
  | .h2dSnoop addr => Sys2Proof.Machine.execH2dSnoop addr s
  | .msixUnmask vector addr data => Sys2Proof.Machine.execMsixUnmask vector addr data s
  | .porNAssert => Sys2Proof.Machine.execPorNAssert s
  | .porNRelease bootSel fuseCrcOk spares failedBanks => Sys2Proof.Machine.execPorNRelease bootSel fuseCrcOk spares failedBanks s
  | .bootImageCheck push unsigned unread => Sys2Proof.Machine.execBootImageCheck push unsigned unread s
  | .firmwareStart => Sys2Proof.Machine.execFirmwareStart s
  | .dramTraining stack up step repaired => Sys2Proof.Machine.execDramTraining stack up step repaired s
  | .serdesCalibration failed => Sys2Proof.Machine.execSerdesCalibration failed s
  | .chandlerCalibration event => Sys2Proof.Machine.execChandlerCalibration event s
  | .forwardingLoad => Sys2Proof.Machine.execForwardingLoad s
  | .firstLighting bad => Sys2Proof.Machine.execFirstLighting bad s
  | .tallyPeriodBoundary residueOk => Sys2Proof.Machine.execTallyPeriodBoundary residueOk s
  | .planRebuild => Sys2Proof.Machine.execPlanRebuild s
  | .avsVdone => Sys2Proof.Machine.execAvsVdone s
  | .avsSettleTimeout => Sys2Proof.Machine.execAvsSettleTimeout s
  | .readVout sample reading => Sys2Proof.Machine.execReadVout sample reading s
  | .readPout slot reading => Sys2Proof.Machine.execReadPout slot reading s
  | .tjSample tj => Sys2Proof.Machine.execTjSample tj s
  | .agingSlice => Sys2Proof.Machine.execAgingSlice s
  | .compareSlice host => Sys2Proof.Machine.execCompareSlice host s
  | .scratchpadTestSlice => Sys2Proof.Machine.execScratchpadTestSlice s
  | .archiveFlushSlice => Sys2Proof.Machine.execArchiveFlushSlice s
  | .scrubSlice corrected bad => Sys2Proof.Machine.execScrubSlice corrected bad s
  | .sentinelWindowEnd lantern counts => Sys2Proof.Machine.execSentinelWindowEnd lantern counts s
  | .headerWindowComplete frame => Sys2Proof.Machine.execHeaderWindowComplete frame s
  | .cellWrite frame data => Sys2Proof.Machine.execCellWrite frame data s
  | .frameReceptionEnd frame rest fec status => Sys2Proof.Machine.execFrameReceptionEnd frame rest fec status s
  | .frameOversizeCut frame tail => Sys2Proof.Machine.execFrameOversizeCut frame tail s
  | .headerDeal lantern => Sys2Proof.Machine.execHeaderDeal lantern s
  | .stageExecute lantern chain stage faults fixed residueOk => Sys2Proof.Machine.execStageExecute lantern chain stage faults fixed residueOk s
  | .bushelReadComplete lantern chain stage place first second => Sys2Proof.Machine.execBushelReadComplete lantern chain stage place first second s
  | .ternarySearchComplete lantern chain stage place => Sys2Proof.Machine.execTernarySearchComplete lantern chain stage place s
  | .handshakeTimeout lantern chain stage wick => Sys2Proof.Machine.execHandshakeTimeout lantern chain stage wick s
  | .overlapWindowClose lantern => Sys2Proof.Machine.execOverlapWindowClose lantern s
  | .resultRelease lantern twice error cntBad => Sys2Proof.Machine.execResultRelease lantern twice error cntBad s
  | .puntPolicerRefill lantern => Sys2Proof.Machine.execPuntPolicerRefill lantern s
  | .recirculationEntry port => Sys2Proof.Machine.execRecirculationEntry port s
  | .recirculationLimit frame => Sys2Proof.Machine.execRecirculationLimit frame s
  | .trailingCharge frame residueOk => Sys2Proof.Machine.execTrailingCharge frame residueOk s
  | .learnRequest frame => Sys2Proof.Machine.execLearnRequest frame s
  | .learnApply uncorrectable => Sys2Proof.Machine.execLearnApply uncorrectable s
  | .freezeExpiry key uncorrectable => Sys2Proof.Machine.execFreezeExpiry key uncorrectable s
  | .agingVisit => Sys2Proof.Machine.execAgingVisit s
  | .streamRequestApply uncorrectable => Sys2Proof.Machine.execStreamRequestApply uncorrectable s
  | .compareConfirm still => Sys2Proof.Machine.execCompareConfirm still s
  | .poolSlotRelease group => Sys2Proof.Machine.execPoolSlotRelease group s
  | .rulesetSwapApply => Sys2Proof.Machine.execRulesetSwapApply s
  | .dispatchCopyComplete => Sys2Proof.Machine.execDispatchCopyComplete s
  | .trimComplete lantern => Sys2Proof.Machine.execTrimComplete lantern s
  | .automaticTrim lantern => Sys2Proof.Machine.execAutomaticTrim lantern s
  | .relightScrubComplete lantern bad => Sys2Proof.Machine.execRelightScrubComplete lantern bad s
  | .relightBubble lantern => Sys2Proof.Machine.execRelightBubble lantern s
  | .relightReady lantern => Sys2Proof.Machine.execRelightReady lantern s
  | .cellArbitrationRound requests => Sys2Proof.Machine.execCellArbitrationRound requests s
  | .spillWriteComplete frame read => Sys2Proof.Machine.execSpillWriteComplete frame read s
  | .hogsheadReturn frame bad => Sys2Proof.Machine.execHogsheadReturn frame bad s
  | .schedulerSelect port descBad residueBad => Sys2Proof.Machine.execSchedulerSelect port descBad residueBad s
  | .calendarSlot => Sys2Proof.Machine.execCalendarSlot s
  | .copyTransmit port residueOk => Sys2Proof.Machine.execCopyTransmit port residueOk s
  | .egressCellRead port read linkErr => Sys2Proof.Machine.execEgressCellRead port read linkErr s
  | .refillTick bad => Sys2Proof.Machine.execRefillTick bad s
  | .gateListStart stream id => Sys2Proof.Machine.execGateListStart stream id s
  | .gateEntryChange port => Sys2Proof.Machine.execGateEntryChange port s
  | .streamGateEntryChange gate => Sys2Proof.Machine.execStreamGateEntryChange gate s
  | .linkUp port => Sys2Proof.Machine.execLinkUp port s
  | .linkDown port localFault remoteFault => Sys2Proof.Machine.execLinkDown port localFault remoteFault s
  | .trainTimeout port => Sys2Proof.Machine.execTrainTimeout port s
  | .lightUp port => Sys2Proof.Machine.execLightUp port s
  | .wakePattern lane => Sys2Proof.Machine.execWakePattern lane s
  | .idleHoldExpiry port => Sys2Proof.Machine.execIdleHoldExpiry port s
  | .pauseExpiry port classes => Sys2Proof.Machine.execPauseExpiry port classes s
  | .wdTimeExpiry port cls => Sys2Proof.Machine.execWdTimeExpiry port cls s
  | .recTimeExpiry port cls => Sys2Proof.Machine.execRecTimeExpiry port cls s
  | .flowControlFrameSend port => Sys2Proof.Machine.execFlowControlFrameSend port s
  | .pauseRefresh port => Sys2Proof.Machine.execPauseRefresh port s
  | .armedCommitDue => Sys2Proof.Machine.execArmedCommitDue s
  | .armedSnapshotDue => Sys2Proof.Machine.execArmedSnapshotDue s
  | .snapshotCopyComplete => Sys2Proof.Machine.execSnapshotCopyComplete s
  | .referenceLost => Sys2Proof.Machine.execReferenceLost s
  | .referenceRestored => Sys2Proof.Machine.execReferenceRestored s
  | .timedInputEdge input width => Sys2Proof.Machine.execTimedInputEdge input width s
  | .ppsInTimeout => Sys2Proof.Machine.execPpsInTimeout s
  | .ppsOutRise => Sys2Proof.Machine.execPpsOutRise s
  | .ppsOutFall => Sys2Proof.Machine.execPpsOutFall s
  | .dramRequest client region addr len write => Sys2Proof.Machine.execDramRequest client region addr len write s
  | .dramRequestIssue pc error => Sys2Proof.Machine.execDramRequestIssue pc error s
  | .clientLate pc => Sys2Proof.Machine.execClientLate pc s
  | .refreshDue pc => Sys2Proof.Machine.execRefreshDue pc s
  | .stackTempRead stack reading => Sys2Proof.Machine.execStackTempRead stack reading s
  | .selfRefreshEntry segment => Sys2Proof.Machine.execSelfRefreshEntry segment s
  | .selfRefreshAbandon segment => Sys2Proof.Machine.execSelfRefreshAbandon segment s
  | .selfRefreshExit segment => Sys2Proof.Machine.execSelfRefreshExit segment s
  | .channelRetrain stack channel failed => Sys2Proof.Machine.execChannelRetrain stack channel failed s
  | .blockStart block bad corrected uncorrectable => Sys2Proof.Machine.execBlockStart block bad corrected uncorrectable s
  | .ack word => Sys2Proof.Machine.execAck word s
  | .nak word => Sys2Proof.Machine.execNak word s
  | .creditLo word => Sys2Proof.Machine.execCreditLo word s
  | .creditHi word => Sys2Proof.Machine.execCreditHi word s
  | .train word => Sys2Proof.Machine.execTrain word s
  | .creditSend => Sys2Proof.Machine.execCreditSend s
  | .replayTimeout => Sys2Proof.Machine.execReplayTimeout s
  | .codewordLockLoss lane => Sys2Proof.Machine.execCodewordLockLoss lane s
  | .taperTrainStep ok usable reversed polarity => Sys2Proof.Machine.execTaperTrainStep ok usable reversed polarity s
  | .taperTrainTimeout => Sys2Proof.Machine.execTaperTrainTimeout s
  | .taperBlockSend => Sys2Proof.Machine.execTaperBlockSend s
  | .inject => Sys2Proof.Machine.execInject s
  | .segInject => Sys2Proof.Machine.execSegInject s
  | .tableImage bad => Sys2Proof.Machine.execTableImage bad s
  | .counterStreamPass => Sys2Proof.Machine.execCounterStreamPass s
  | .ethCarriageFrame frame => Sys2Proof.Machine.execEthCarriageFrame frame s
  | .fingerprintPassComplete read => Sys2Proof.Machine.execFingerprintPassComplete read s
  | .fingerprintStale => Sys2Proof.Machine.execFingerprintStale s
  | .firmwareRestart error => Sys2Proof.Machine.execFirmwareRestart error s
  | .firmwareReady => Sys2Proof.Machine.execFirmwareReady s
  | .bankClearComplete bank => Sys2Proof.Machine.execBankClearComplete bank s
  | .testWordStep failing => Sys2Proof.Machine.execTestWordStep failing s
  | .eventStoreCopy => Sys2Proof.Machine.execEventStoreCopy s
  | .smbusTransaction write off value pecOk => Sys2Proof.Machine.execSmbusTransaction write off value pecOk s
  | .jtagInstruction op scanIn => Sys2Proof.Machine.execJtagInstruction op scanIn s
  | .timeClkTick residueOk => Sys2Proof.Machine.execTimeClkTick residueOk s
  | .domainRelease domain => Sys2Proof.Machine.execDomainRelease domain s
  | .hostCompletionTimeout ring tag => Sys2Proof.Machine.execHostCompletionTimeout ring tag s

end Sys2Proof.Machine
end

