-- ==== Sys2Proof/Safety.lean ====
section
/-! DEFINITION. What holds of a machine at every instant of a run: the bounds of network time and the canonical form of the
in-package DRAM's contents; and what it means that a run goes on. -/

namespace Sys2Proof.Machine
open Sys2Proof

/-- Network time lies in its fields' ranges (R302), TICK_COUNT in 64 bits (R305), and the increment is one that R308 allows. -/
def Clock.ok (k : Clock) : Prop :=
  k.sub < nsWrap ∧ k.sec < 2 ^ 48 ∧ k.tick < 2 ^ 64 ∧ incBad k.inc = false

/-- The invariant of the machine. -/
def Mach.ok (m : Mach) : Prop := m.clk.ok ∧ Memory.wf m.dram = true

/-- A field that no report changes: it lies in none of the registers of Lampblack (R535), is not CXL_STICKY, where MSI-X
records an unprogrammed vector (R412), and is no performance count (R536). -/
def Fld.still (f : Fld) : Bool :=
  decide (f.lo < 32) && !(decide (0x300000 ≤ f.off) && decide (f.off < 0x400000)) && f.off != 0x3000004 &&
    !(decide (0x3400200 ≤ f.off) && decide (f.off < 0x3400400))

/-- A field that neither a report nor a reply changes: it lies outside the completion rings' registers too (R450). -/
def Fld.quiet (f : Fld) : Bool := f.still && !(decide (0x408400 ≤ f.off) && decide (f.off < 0x408800))

/-- b is a but for what a report changes: Lampblack, its registers, MSI-X pending bits and messages, performance counts. -/
def Dev.alike (a b : Dev) : Prop :=
  b = { a with fld := b.fld, lamp := b.lamp, msixPend := b.msixPend, out := b.out } ∧
    ∀ f : Fld, f.still = true → b.get f = a.get f

/-! Commands by what they reach. -/

/-- The commands that may move network time, its increment or TICK_COUNT: TIME_SET, TIME_ADJUST, TIME_CLK_TICK, the release of
the time unit's reset domain, and POR_N. -/
def timeMovers : Instr → Bool
  | .timeSet _ | .timeAdjust _ | .timeClkTick _ | .domainRelease _ | .porNAssert => true
  | _ => false

/-- The commands that may write the in-package DRAM. -/
def dramWriters : Instr → Bool
  | .tableDmaRead _ | .eventStoreCopy | .cxlMemRequest .. | .scrubSlice .. | .tableImage _ | .spillWriteComplete .. | .porNAssert => true
  | _ => false

/-! Smiem commands. -/

/-- The Smiem commands: opcode (R433 to R444) and packet. -/
def smiemOf : Instr → Option (Nat × Req)
  | .echo q => some (0x0001, q)
  | .identify q => some (0x0002, q)
  | .regRead q => some (0x0010, q)
  | .regWrite q => some (0x0011, q)
  | .regWriteKeyed q => some (0x0012, q)
  | .commit q => some (0x0013, q)
  | .fingerprintGet q => some (0x0014, q)
  | .fingerprintReference q => some (0x0015, q)
  | .tableInsert q => some (0x0020, q)
  | .tableDelete q => some (0x0021, q)
  | .tableLookup q => some (0x0022, q)
  | .tableLock q => some (0x0023, q)
  | .tableDmaRead q => some (0x0024, q)
  | .tableDmaWrite q => some (0x0025, q)
  | .shadowBind q => some (0x0026, q)
  | .cstoreLoad q => some (0x0030, q)
  | .dispatchLoad q => some (0x0031, q)
  | .rulesetSwap q => some (0x0032, q)
  | .counterRead q _ => some (0x0040, q)
  | .counterSnapshot q => some (0x0041, q)
  | .counterClear q => some (0x0042, q)
  | .portConfig q => some (0x0050, q)
  | .portState q => some (0x0051, q)
  | .laneDark q => some (0x0052, q)
  | .laneLight q => some (0x0053, q)
  | .serdesTune q => some (0x0054, q)
  | .gateListLoad q => some (0x0060, q)
  | .shaperSet q => some (0x0061, q)
  | .policerSet q => some (0x0062, q)
  | .timeSet q => some (0x0070, q)
  | .timeAdjust q => some (0x0071, q)
  | .tsqRead q => some (0x0072, q)
  | .wickTrim q => some (0x0080, q)
  | .wickRelight q => some (0x0081, q)
  | .wickStatus q => some (0x0082, q)
  | .energyBudget q => some (0x0090, q)
  | .energyReport q => some (0x0091, q)
  | .hbmSegments q => some (0x00A0, q)
  | .hbmStatus q => some (0x00A1, q)
  | .eventRead q => some (0x00B0, q)
  | .eventRate q => some (0x00B1, q)
  | .bankAssign q => some (0x00C0, q)
  | .bankTest q => some (0x00C1, q)
  | .firmwareUpdate q => some (0x00F0, q)
  | .resetDomain q => some (0x00F1, q)
  | .frameSend q => some (0x00D0, q)
  | .frameRecv q _ => some (0x00D1, q)
  | _ => none

/-- A packet may be carried out now: the device runs (R539, R541), its ring and path let it start (R432), its path is ready
(R431, R550), and its generation check holds (R426). -/
def Mach.ready (m : Mach) (op : Nat) (q : Req) : Prop :=
  m.dev.boot.porN = true ∧ m.dev.flag F.BT_FAILED = false ∧ m.dev.smi.mayStart op q = true ∧
    (isHw op q.params = true → 3 ≤ m.dev.boot.step) ∧ (isHw op q.params = false → m.dev.flag F.SM_FW_READY = true) ∧
    (q.genCheck = true → q.expectGen.toNat = m.dev.get F.GL_CONFIG_GEN)

/-- The machine with a packet taken from those held. -/
def Mach.taken (m : Mach) (op : Nat) (q : Req) : Mach := m.setDev (m.dev.takeFetched op q).2

/-- What a command of m leaves, m', with its reply written (R422), unless a reset of R413 dropped the reply. -/
def Mach.answer (m : Mach) (op : Nat) (q : Req) (m' : Mach) (rep : Rep) : Mach :=
  m'.setDev (m'.dev.complete m'.clk op q (m.dev.takeFetched op q).1.cq (m.dev.takeFetched op q).1.noReply rep)

/-- A command that does nothing but reply. -/
def Mach.replied (m : Mach) (op : Nat) (q : Req) (rep : Rep) : Mach := m.answer op q (m.taken op q) rep

/-- A command that has begun and waits. -/
def Mach.begun (m : Mach) (op : Nat) (q : Req) (m' : Mach) (kind : WaitKind) : Mach :=
  m'.setDev { m'.dev with smi := { m'.dev.smi with
    waits := m'.dev.smi.waits ++ [⟨op, q, (m.dev.takeFetched op q).1.cq, (m.dev.takeFetched op q).1.noReply, false, kind⟩] } }

/-! How a command ends. -/

/-- The command completes on the device alone: network time, the DRAM and the queue are unchanged, and the device it leaves
satisfies a property. -/
def ends (c : Instr) (s : State) (p : Dev → Prop) : Prop := ∃ d, exec c s = .next { s with m := s.m.setDev d } ∧ p d

/-- The command completes; the queue is unchanged, and the machine it leaves satisfies a property. -/
def endsMach (c : Instr) (s : State) (p : Mach → Prop) : Prop := ∃ m, exec c s = .next { s with m := m } ∧ p m

/-- The Smiem command completes with a reply; what it leaves before the reply is written, and the reply, satisfy a property. -/
def answers (c : Instr) (op : Nat) (q : Req) (s : State) (p : Mach → Rep → Prop) : Prop :=
  ∃ m' rep, exec c s = .next { s with m := s.m.answer op q m' rep } ∧ p m' rep

/-- A packet follows its layout: it is no longer than its parameters, and every byte that no field uses is 0 (R425). -/
def laidOut (len : Nat) (used : List (Nat × Nat)) (p : Bytes) : Prop :=
  p.length ≤ len ∧ ∀ o < len, used.any (fun u => u.1 ≤ o && o < u.1 + u.2) = true ∨ byteAt p o = 0

/-- The Smiem command begins and waits: its reply comes later. -/
def begins (c : Instr) (op : Nat) (q : Req) (s : State) (p : Mach → WaitKind → Prop) : Prop :=
  ∃ m' kind, exec c s = .next { s with m := s.m.begun op q m' kind } ∧ p m' kind

/-- b is a but for the fields named and for what a report changes. -/
def Dev.alikeBut (fs : List Fld) (a b : Dev) : Prop :=
  b = { a with fld := b.fld, lamp := b.lamp, msixPend := b.msixPend, out := b.out } ∧
    ∀ f : Fld, f.still = true → (∀ g ∈ fs, f.key ≠ g.key) → b.get f = a.get f

/-- b is a but that the fields listed hold the values given with them. -/
def Dev.sets (l : List (Fld × Nat)) (a b : Dev) : Prop :=
  b = { a with fld := b.fld } ∧ (∀ p ∈ l, b.get p.1 = p.2 % 2 ^ p.1.w) ∧
    ∀ f : Fld, (∀ p ∈ l, f.key ≠ p.1.key) → b.get f = a.get f

/-- b is a with an event of the number given asserted at a, whatever location it reports. -/
def Dev.raises (k : Clock) (n : Nat) (a b : Dev) : Prop := ∃ code, b = a.event k n code

/-- A write of the register at an offset acts: POR_N is released, the device has not failed, the register exists and its
reset domain is not held (R13, R541, R549, R569). -/
def Dev.live (d : Dev) (off : Nat) : Prop := d.boot.porN = true ∧ d.deaf off = false

/-- A run goes on: the step answers a next state. -/
def State.goesOn (s : State) : Prop := ∃ t, step s = .next t

end Sys2Proof.Machine
end

