-- ==== Sys2Proof/Certificates/Slice0/Obligations.lean ====
section
/-! DEFINITION. The statements for the provers, from the rules of the spec. -/

open Sys2Proof Sys2Proof.Machine

/-! The machine as a whole. -/

/-- A step takes the command at the front of the queue and carries it out on the state with the queue's rest. An empty queue
leaves the block idle: the model's choice, log entry 5. -/
def Obligations.StepTakesFront : Prop :=
  (∀ (s : State) (c : Instr) (rest : List Instr), step { s with pending := c :: rest } = exec c { s with pending := rest }) ∧
    ∀ s : State, s.pending = [] → step s = .next s

/-- Every command leaves the queue as it is. -/
def Obligations.CommandsLeaveQueue : Prop :=
  ∀ (c : Instr) (s t : State), exec c s = .next t → t.pending = s.pending

/-- Every command answers a next state, but a READ_VOUT whose reading of an enabled rail and a TJ_SAMPLE whose reading lie
outside the operating range of R12: these stop, by name, once POR_N is released, and only these. -/
def Obligations.OnlyOutsideRangeStops : Prop :=
  (∀ (c : Instr) (s : State), (∀ a b, c ≠ .readVout a b) → (∀ a, c ≠ .tjSample a) → ∃ t, exec c s = .next t) ∧
    (∀ (c : Instr) (s : State) (r : Refusal), exec c s ≠ .refused r) ∧
    (∀ (tj : Int) (s : State), exec (.tjSample tj) s = .fault .outsideOperatingRange ↔
      s.m.dev.boot.porN = true ∧ (tj < -10 ∨ 105 < tj)) ∧
    ∀ (i : Fin 4) (v : Option Nat) (s : State), exec (.readVout i v) s = .fault .outsideOperatingRange ↔
      s.m.dev.boot.porN = true ∧ s.m.dev.flag (F.PMBUS_SLOT_EN 0) = true ∧ voutOutside s.m.dev v = true

/-- What reset leaves: POR_N asserted, no command waiting, network time 0 with the nominal increment, TIME_VALID 0, TICK_COUNT
0, LOCKED 1, CONFIG_GEN 0, the link down, no ring enabled, each submission ring bound to the completion ring of its number. -/
def Obligations.ResetLeaves : Prop :=
  State.reset.pending = [] ∧ State.reset.m.dev.boot.porN = false ∧ State.reset.m.dev.boot.faultN = true ∧
    State.reset.m.clk.sec = 0 ∧ State.reset.m.clk.sub = 0 ∧ State.reset.m.clk.tick = 0 ∧
    State.reset.m.clk.inc = 0x147AE147B ∧
    State.reset.m.dev.get F.TU_TIME_VALID = 0 ∧ State.reset.m.dev.get F.GL_LOCKED = 1 ∧
    State.reset.m.dev.get F.GL_CONFIG_GEN = 0 ∧ State.reset.m.dev.get F.GL_STAGE_MAP_LO = 0x76543210 ∧
    State.reset.m.dev.get F.CXL_MODE = 0 ∧ State.reset.m.dev.get F.SM_FW_READY = 0 ∧ State.reset.m.dev.get F.BT_STEP = 0 ∧
    ∀ r : Fin 16, State.reset.m.dev.get (F.SQ_EN r) = 0 ∧ State.reset.m.dev.get (F.CQ_EN r) = 0 ∧
      State.reset.m.dev.get (F.SQ_CQ r) = r ∧ State.reset.m.dev.get (F.CQ_PHASE r) = 1 ∧
      State.reset.m.dev.get (F.SQ_SIZE_LOG2 r) = 6

/-- Every step keeps network time within its fields (R302), the increment within ±1,000 ppm of nominal (R308), TICK_COUNT in 64
bits (R305), and the DRAM in its canonical form. -/
def Obligations.StepsKeepWellFormed : Prop :=
  ∀ s t : State, s.m.ok → step s = .next t → t.m.ok

/-- TICK_COUNT changes at a tick of TIME_CLK, at the release of the time unit's reset domain and when POR_N asserts, and at no
other command (R305). Network time changes by its increments, by TIME_SET and TIME_ADJUST, and by a reset of the time unit's
domain or of the device, and by no other command (R303). A release of the time unit's domain also carries out the time commands
that waited for it (DESIGN CHOICE, log entry 41). -/
def Obligations.TimeAndTicks : Prop :=
  (∀ (c : Instr) (s t : State), (∀ r, c ≠ .timeClkTick r) → (∀ n, c ≠ .domainRelease n) → c ≠ .porNAssert →
    exec c s = .next t → t.m.clk.tick = s.m.clk.tick) ∧
  (∀ (c : Instr) (s t : State), (∀ r, c ≠ .timeClkTick r) → (∀ q, c ≠ .timeSet q) → (∀ q, c ≠ .timeAdjust q) →
    (∀ n, c ≠ .domainRelease n) → c ≠ .porNAssert → exec c s = .next t → t.m.clk = s.m.clk)

/-- Every byte of the in-package DRAM keeps its value under every command but those that write it. -/
def Obligations.DramOnlyWritten : Prop :=
  ∀ (c : Instr) (s t : State), dramWriters c = false → exec c s = .next t → ∀ a, mget t.m.dram a = mget s.m.dram a

/-- While POR_N is asserted nothing acts but its release: every command but POR_N_ASSERT and POR_N_RELEASE leaves the state as
it is (R539). -/
def Obligations.PorHolds : Prop :=
  ∀ (c : Instr) (s : State), s.m.dev.boot.porN = false → c ≠ .porNAssert → (∀ a b d e, c ≠ .porNRelease a b d e) →
    exec c s = .next s

/-- After a fatal failure, until POR_N is next asserted: no Smiem command acts, the doorbells are ignored, and every BAR0
register at or beyond 0x2000 reads 0 and ignores writes (R541). -/
def Obligations.FatalHolds : Prop :=
  ∀ (s : State) (r : Fin 16) (v : Word) (who : Requester) (off : Nat),
    let d := s.m.dev
    d.boot.porN = true → d.flag F.BT_FAILED = true →
    (∀ c op q, smiemOf c = some (op, q) → exec c s = .next s) ∧
    ends (.sqTail r v) s (fun b => b = d) ∧ ends (.cqHead r v) s (fun b => b = d) ∧
    (0x2000 ≤ off → ends (.registerWrite who off v false) s (fun b => b = d) ∧
      ends (.hiReadCapture who off) s fun b => b = { d with cfg := b.cfg, out := d.out ++ [.regRead who off 0] })

/-! Smiem. -/

/-- A reply of 32 bytes holds TAG, STATUS, FLAGS, OPCODE, SQ, DETAIL, TS_NS, RESULT, SQ_HEAD and the CRC-32C of its first 28
bytes at the offsets of R427, each little-endian, and its reserved bytes are 0. What writing a reply does: it goes to the
completion ring's entry at the tail, with the packet's TAG, OPCODE and ring, the ring's PHASE, the path that ran it, network
time in the 32-bit form and the submission ring's head; the tail goes on by one and wraps, PHASE changes at the wrap, and one
more entry is unconsumed. Every field outside the completion rings' registers keeps its value, and so do time and DRAM. A reply
that a reset of R413 dropped is not written. -/
def Obligations.Replies : Prop :=
  (∀ r : Reply, r.bytes.length = 32 ∧ leAt r.bytes 0 2 = r.tag % 2 ^ 16 ∧ leAt r.bytes 2 1 = r.rep.status % 2 ^ 8 ∧
    leAt r.bytes 3 1 = r.phase % 2 + 2 * b2n r.hw ∧ leAt r.bytes 4 2 = r.opcode % 2 ^ 16 ∧ leAt r.bytes 6 1 = r.sq % 2 ^ 8 ∧
    leAt r.bytes 7 1 = 0 ∧ leAt r.bytes 8 4 = r.rep.detail % 2 ^ 32 ∧ leAt r.bytes 12 4 = r.tsNs % 2 ^ 32 ∧
    leAt r.bytes 16 8 = r.rep.result % 2 ^ 64 ∧ leAt r.bytes 24 2 = r.sqHead % 2 ^ 16 ∧ leAt r.bytes 26 2 = 0 ∧
    leAt r.bytes 28 4 = crc32c (r.bytes.take 28) % 2 ^ 32) ∧
  (∀ (m m' : Mach) (op : Nat) (q : Req) (rep : Rep),
    let e := (m.dev.takeFetched op q).1
    let d := m'.dev
    let d' := (m.answer op q m' rep).dev
    let tail := d.get (F.CQ_TAIL e.cq)
    (m.answer op q m' rep).clk = m'.clk ∧ (m.answer op q m' rep).dram = m'.dram ∧ (∀ f : Fld, f.quiet = true → d'.get f = d.get f) ∧
      (e.noReply = true → d'.out = d.out ∧ d'.smi = d.smi ∧ d'.get (F.CQ_TAIL e.cq) = tail) ∧
      (e.noReply = false →
        (∃ msgs, d'.out = d.out ++ .reply (d.get (F.CQ_BASE_LO e.cq) * 2 ^ 12 + d.get (F.CQ_BASE_HI e.cq) * 2 ^ 32 + 32 * tail)
          ⟨q.tag, rep, d.get (F.CQ_PHASE e.cq), isHw op q.params, op, q.ring, m'.clk.ts32, d.get (F.SQ_HEAD q.ring)⟩ :: msgs) ∧
        (tail + 1 < d.cqSize e.cq → d'.get (F.CQ_TAIL e.cq) = tail + 1 ∧ d'.get (F.CQ_PHASE e.cq) = d.get (F.CQ_PHASE e.cq)) ∧
        (d.cqSize e.cq ≤ tail + 1 → d'.get (F.CQ_TAIL e.cq) = 0 ∧ d'.get (F.CQ_PHASE e.cq) = (d.get (F.CQ_PHASE e.cq) + 1) % 2) ∧
        d'.unconsumed e.cq = d.unconsumed e.cq + 1 ∧ d'.smi.waits = d.smi.waits ∧ d'.smi.fetched = d.smi.fetched))

/-- A command whose turn has not come under R432 changes nothing but Smiem's own held packets, and is not replied to. While
FW_READY is 0 a firmware command completes with BUSY and DETAIL 1 and does nothing else (R431), unless it is one a firmware
restart keeps (R505). A hardware command completes with BUSY and DETAIL 2 before step 3 of bring-up (R550). -/
def Obligations.StartAndReadiness : Prop :=
  (∀ (c : Instr) (op : Nat) (q : Req) (s : State), smiemOf c = some (op, q) → s.m.dev.boot.porN = true →
    s.m.dev.smi.mayStart op q = false →
      ∃ held, exec c s = .next { s with m := s.m.setDev { s.m.dev with smi := { s.m.dev.smi with fetched := held } } } ∧
        ∀ e ∈ s.m.dev.smi.fetched, e ∈ held) ∧
  (∀ (c : Instr) (op : Nat) (q : Req) (s : State), smiemOf c = some (op, q) → s.m.dev.boot.porN = true →
    s.m.dev.flag F.BT_FAILED = false → s.m.dev.smi.mayStart op q = true →
      (isHw op q.params = false → s.m.dev.flag F.SM_FW_READY = false → (s.m.dev.takeFetched op q).1.kept = false →
        exec c s = .next { s with m := s.m.replied op q ⟨stBusy, 1, 0⟩ }) ∧
      (isHw op q.params = true → s.m.dev.boot.step < 3 → exec c s = .next { s with m := s.m.replied op q ⟨stBusy, 2, 0⟩ }))

/-- With GEN_CHECK set and EXPECT_GEN other than CONFIG_GEN, a command that may start changes nothing: when its parameters
pass, it completes with STALE_GENERATION and the device's generation (R425, R426). Said of ECHO, FINGERPRINT_GET,
FINGERPRINT_REFERENCE, COUNTER_CLEAR, EVENT_RATE, TSQ_READ, TIME_SET and BANK_TEST. A packet longer than its layout, and one
with a reserved byte that is not 0, changes nothing and completes with BAD_PARAM; DETAIL gives the byte, or 0xFFFF for the
length (R425). Said of commands of five families. -/
def Obligations.RefusedCommands : Prop :=
  (∀ (c : Instr) (op : Nat) (q : Req) (s : State), smiemOf c = some (op, q) → s.m.dev.boot.porN = true →
    s.m.dev.flag F.BT_FAILED = false → s.m.dev.smi.mayStart op q = true → 3 ≤ s.m.dev.boot.step → s.m.dev.flag F.SM_FW_READY = true →
    q.genCheck = true → q.expectGen.toNat ≠ s.m.dev.get F.GL_CONFIG_GEN →
    (c = .echo q ∧ q.params.length ≤ 4064 ∨ c = .fingerprintGet q ∧ q.params = [] ∨
      c = .fingerprintReference q ∧ q.params.length ≤ 8 ∨ c = .counterClear q ∧ counterClearCheck q s.m.dev = none ∨
      c = .eventRate q ∧ eventRateCheck q s.m.dev = none ∨ c = .tsqRead q ∧ tsqReadCheck q s.m.dev = none ∨
      c = .timeSet q ∧ timeSetCheck q s.m = none ∨ c = .bankTest q ∧ bankTestCheck q (s.m.taken op q) = none) →
    exec c s = .next { s with m := s.m.replied op q ⟨stStale, s.m.dev.get F.GL_CONFIG_GEN, 0⟩ }) ∧
  (∀ (op : Nat) (q : Req) (s : State), s.m.dev.boot.porN = true →
    s.m.dev.flag F.BT_FAILED = false → s.m.dev.smi.mayStart op q = true → 3 ≤ s.m.dev.boot.step → s.m.dev.flag F.SM_FW_READY = true →
    (op = 0x0001 → 4064 < q.params.length → exec (.echo q) s = .next { s with m := s.m.replied op q ⟨stBadParam, 0xFFFF, 0⟩ }) ∧
    (op = 0x0014 → q.params ≠ [] → exec (.fingerprintGet q) s = .next { s with m := s.m.replied op q ⟨stBadParam, 0xFFFF, 0⟩ }) ∧
    (op = 0x0072 → q.params.length ≤ 20 → 31 < q.u 0 1 →
      exec (.tsqRead q) s = .next { s with m := s.m.replied op q ⟨stBadParam, 0, 0⟩ }) ∧
    (op = 0x0051 → q.params.length ≤ 2 → 511 < q.u 0 2 →
      exec (.portState q) s = .next { s with m := s.m.replied op q ⟨stBadParam, 0, 0⟩ }) ∧
    (op = 0x0070 → q.params.length ≤ 10 → 1000000000 ≤ q.u 6 4 →
      exec (.timeSet q) s = .next { s with m := s.m.replied op q ⟨stBadParam, 0, 0⟩ }) ∧
    (op = 0x0010 → q.params.length ≤ 5 → q.u 0 4 % 4 ≠ 0 →
      exec (.regRead q) s = .next { s with m := s.m.replied op q ⟨stBadParam, 0, 0⟩ }) ∧
    (op = 0x00B1 → q.params.length ≤ 12 → q.u 0 2 ≤ 1023 → byteAt q.params 2 ≠ 0 →
      exec (.eventRate q) s = .next { s with m := s.m.replied op q ⟨stBadParam, 2, 0⟩ }))

/-! Registers. -/

/-- UNLOCK: 0xC4A1_D1E5 clears LOCKED. Any other value sets LOCKED, whether it was set or clear, counts KEY_FAILS, sets
KEY_FAIL and asserts event 673. Nothing else changes. A write of a KRW field while LOCKED is 1 changes no field but the key's
failure count and sticky bit, and asserts event 673 (R487, R488). Said of CONFIG_GEN_LOAD, RST_DOMAIN, FORCE and the two OEM
fuse registers. -/
def Obligations.LockAndKey : Prop :=
  (∀ (v : Word) (s : State), s.m.dev.live 0x20 →
    (v = 0xC4A1D1E5 → ends (.unlock v) s fun d => s.m.dev.sets [(F.GL_LOCKED, 0)] d) ∧
    (v ≠ 0xC4A1D1E5 → ends (.unlock v) s fun d => ∃ x,
      s.m.dev.sets [(F.GL_LOCKED, 1), (F.GL_KEY_FAILS, min 255 (s.m.dev.get F.GL_KEY_FAILS + 1)),
        (F.GL_GLOBAL_STICKY, s.m.dev.get F.GL_GLOBAL_STICKY ||| 1)] x ∧ x.raises s.m.clk 673 d)) ∧
  (∀ (c : Instr) (off : Nat) (s : State), s.m.dev.live off → s.m.dev.flag F.GL_LOCKED = true →
    ((∃ v, c = .configGenLoad v ∧ off = 0x84) ∨ (∃ v, c = .rstDomain v ∧ off = 0x1020) ∨
      (∃ v, c = .oemFuse false v ∧ off = 0x1028) ∨ (∃ v, c = .oemFuse true v ∧ off = 0x102C) ∨
      ∃ l v, c = .force l v ∧ off = (F.WICK_CTRL_FORCE l).off) →
    ends c s fun d => ∃ x, s.m.dev.sets [(F.GL_KEY_FAILS, min 255 (s.m.dev.get F.GL_KEY_FAILS + 1)),
      (F.GL_GLOBAL_STICKY, s.m.dev.get F.GL_GLOBAL_STICKY ||| 1)] x ∧ x.raises s.m.clk 673 d)

/-- A write to CONFIG_GEN_LOAD after the key sets CONFIG_GEN to the value written, adds nothing to it, takes the key, and event
677 asserts; a fingerprint pass that runs is counted as abandoned. A reset of the global configuration domain sets CONFIG_GEN
to 0. -/
def Obligations.ConfigGenLoad : Prop :=
  (∀ (v : Word) (s : State), s.m.dev.live 0x84 → s.m.dev.flag F.GL_LOCKED = false →
    ends (.configGenLoad v) s fun d => d.get F.GL_CONFIG_GEN = v.toNat ∧ ∃ x,
      s.m.dev.sets [(F.GL_LOCKED, 1), (F.GL_CONFIG_GEN, v.toNat), (F.GL_CONFIG_GEN_LOAD, v.toNat), (F.GL_FP_ABANDONED,
        if s.m.dev.flag F.GL_FP_EN then min (2 ^ 32 - 1) (s.m.dev.get F.GL_FP_ABANDONED + 1) else s.m.dev.get F.GL_FP_ABANDONED)] x ∧
      x.raises s.m.clk 677 d) ∧
    ∀ (d : Dev) (k : Clock), (d.domainBegin k 42).get F.GL_CONFIG_GEN = 0

/-- The other keyed writes, after the key: each takes the key and counts one configuration generation. An OEM fuse register
takes the value where it reads 0 and keeps what it holds elsewhere (R551). RST_DOMAIN with the number of a domain asks for its
reset (R549). A write of FORCE writes its register's other fields too; a FORCE during a relight waits for its end (R347, R348).
-/
def Obligations.KeyedWritesAct : Prop :=
  ∀ (v : Word) (s : State), s.m.dev.flag F.GL_LOCKED = false → s.m.dev.flag F.GL_FP_EN = false →
    let gen := (F.GL_CONFIG_GEN, s.m.dev.get F.GL_CONFIG_GEN + 1)
    (∀ high, s.m.dev.live (if high then 0x102C else 0x1028) →
      let f := if high then F.BT_OEM_FUSE_HI else F.BT_OEM_FUSE_LO
      ends (.oemFuse high v) s fun d => s.m.dev.sets [(F.GL_LOCKED, 1), gen,
        (f, if s.m.dev.get f = 0 then v.toNat else s.m.dev.get f)] d) ∧
    (s.m.dev.live 0x1020 → domainBad (v.toNat % 64) = false →
      ends (.rstDomain v) s fun d => ∃ x, s.m.dev.sets [(F.GL_LOCKED, 1), gen, (F.BT_RST_DOMAIN, v.toNat % 64)] x ∧
        d = x.domainAsk s.m.clk (v.toNat % 64)) ∧
    ∀ l : Fin 32, s.m.dev.live (F.WICK_CTRL_FORCE l).off →
      ends (.force l v) s fun d => ∃ x, s.m.dev.sets [(F.GL_LOCKED, 1), gen,
          (F.WICK_CTRL_TRIM_PERIOD l, v.toNat / 2 ^ 8), (F.WICK_CTRL_TRIM_OFFSET l, v.toNat / 2 ^ 16)] x ∧
        ((∃ h r n, (s.m.dev.lantern l).task = .relight h r n) →
          d = x.setLantern l { s.m.dev.lantern l with force := some (v.toNat % 4) }) ∧
        ((∀ h r n, (s.m.dev.lantern l).task ≠ .relight h r n) → d = x.forceNow l (v.toNat % 4))

/-- The reset of a domain returns every field of its block to its reset value, but the fuses and, of block 37, the set point
and MOVING (R15, R549). -/
def Obligations.DomainFieldsReset : Prop :=
  ∀ (d : Dev) (k : Clock) (n : Nat) (f : Fld), domainBad n = false → f.lo < 32 → blockOf f.off = n → (∀ g ∈ fuseFields, f.key ≠ g.key) →
    f.key ≠ F.CHANDLER_STATUS_SETPOINT.key → f.key ≠ F.CHANDLER_STATUS_MOVING.key →
    (d.domainBegin k n).get f = f.reset % 2 ^ f.w

/-- A commit strobe at the present tick, of staged values below BAR0 offset 0x800000 while no table swap is held: every staged
value of a named group is applied, and no other field changes but CONFIG_GEN, which counts one when a value was applied, the
count of abandoned fingerprint passes, and LAST_COMMIT with its groups; the values leave the staging area (R479, R481, R492).
-/
def Obligations.CommitApplies : Prop :=
  ∀ (v : Word) (s : State), s.m.dev.live 0x40 → s.m.dev.isHeld 38 = false → s.m.dev.rules.held = none →
    s.m.dev.staged.Pairwise (fun a b => a.1 < b.1) →
    (∀ e ∈ s.m.dev.staged, e.1 < 0x800000 * 32 ∧ ∃ f, fldOfKey e.1 = some f ∧ f.acc = .srw) →
    let mask := v.toNat % 65536
    let goes := fun (e : Nat × Nat) => bit mask (s.m.dev.groupOfKey e.1)
    ends (.commitStrobe v) s fun d =>
      (∀ e ∈ s.m.dev.staged, goes e = true → ∀ f, fldOfKey e.1 = some f → d.get f = e.2 % 2 ^ f.w) ∧
      d.staged = s.m.dev.staged.filter (fun e => !bit mask (s.m.dev.groupOfKey e.1)) ∧
      d.get F.GL_CONFIG_GEN = (s.m.dev.get F.GL_CONFIG_GEN + b2n (s.m.dev.staged.any goes)) % 2 ^ 32 ∧
      d.get F.GL_LAST_COMMIT_LO = s.m.clk.ns % 2 ^ 30 ∧ d.get F.GL_LAST_COMMIT_HI = s.m.clk.sec % 2 ^ 32 ∧
      d.get F.GL_LAST_COMMIT_GROUPS = mask ∧ d.get F.GL_LAST_LATE = 0 ∧
      (∀ f : Fld, f.lo < 32 → (∀ e ∈ s.m.dev.staged, goes e = true → f.key ≠ e.1) → (∀ g ∈ [F.GL_CONFIG_GEN, F.GL_FP_ABANDONED,
        F.GL_LAST_COMMIT_LO, F.GL_LAST_COMMIT_HI, F.GL_LAST_COMMIT_GROUPS, F.GL_LAST_LATE], f.key ≠ g.key) → d.get f = s.m.dev.get f) ∧
      d = { s.m.dev with fld := d.fld, staged := d.staged }

/-- STAGE_DISCARD drops the staged values of the groups named and changes nothing else, while no swap is held (R482). DISARM
takes the groups named from their arms; an armed COMMIT that loses its last group completes with TIMEOUT and DETAIL bit [1],
and one that keeps a group waits on (R485). -/
def Obligations.DiscardAndDisarm : Prop :=
  ∀ (v : Word) (s : State),
    (s.m.dev.live 0x48 → s.m.dev.rules.held = none → ends (.stageDiscard v) s fun d =>
      d = { s.m.dev with staged := s.m.dev.staged.filter (fun e => !bit (v.toNat % 65536) (s.m.dev.groupOfKey e.1)) }) ∧
    ∀ (w : Wait) (m sec ns : Nat), s.m.dev.live 0x50 → s.m.dev.smi.waits = [w] → w.kind = .commit m sec ns → m < 65536 →
      (m &&& v.toNat = m → m ≠ 0 → w.answered = false → ends (.disarm v) s fun d =>
        d = ({ s.m.dev with smi := { s.m.dev.smi with waits := [] } }).complete s.m.clk w.op w.req w.cq w.noReply ⟨stTimeout, 2, 0⟩) ∧
      (m &&& v.toNat ≠ m → ends (.disarm v) s fun d =>
        d = { s.m.dev with smi := { s.m.dev.smi with waits := [{ w with kind := .commit (m - (m &&& v.toNat)) sec ns }] } })

/-- A read of a _HI register captures its pair for the requester; that requester's read of the _LO register receives the
captured low half, and the capture ends. Any other read returns the present value. A read changes nothing else (R489). That the
capture counts for 781 ticks of TICK_COUNT is the model's reading of 1 µs. -/
def Obligations.HiReadCaptures : Prop :=
  ∀ (who : Requester) (off : Nat) (s : State), s.m.dev.boot.porN = true →
    (isPairHi off = true → ends (.hiReadCapture who off) s fun d => ∃ others,
      d = { s.m.dev with
        cfg := { s.m.dev.cfg with captures := ⟨who, off, s.m.dev.present s.m.clk (off - 4), s.m.clk.tick⟩ :: others }
        out := s.m.dev.out ++ [.regRead who off (s.m.dev.present s.m.clk off)] } ∧
      ∀ c, (c ∈ others ↔ c ∈ s.m.dev.cfg.captures ∧ ¬ (c.who = who ∧ c.off = off))) ∧
    (isPairHi off = false → (∀ c ∈ s.m.dev.cfg.captures, ¬ (c.who = who ∧ c.off = off + 4)) →
      ends (.hiReadCapture who off) s fun d =>
        d = { s.m.dev with out := s.m.dev.out ++ [.regRead who off (s.m.dev.present s.m.clk off)] }) ∧
    ∀ (c : Capture) (rest : List Capture), isPairHi off = false → s.m.dev.cfg.captures = c :: rest → c.who = who → c.off = off + 4 →
      s.m.dev.answers off = true →
      ends (.hiReadCapture who off) s fun d =>
        d = { s.m.dev with
          cfg := { s.m.dev.cfg with captures := rest }
          out := s.m.dev.out ++ [.regRead who off
            (if s.m.clk.tick ≤ c.tick + 781 then c.low else s.m.dev.present s.m.clk off)] }

/-- Writes by access code (R13): a RW field takes the value; a 1 clears a bit of a W1C field; a SRW field's value is staged; an
RO field keeps its value, and so does a reserved offset. A write of more than 32 bits changes nothing but, from the host, bit 6
of CXL_STICKY (R403). -/
def Obligations.RegisterWriteByCode : Prop :=
  ∀ (who : Requester) (v : Word) (s : State),
    (s.m.dev.live 0x200040 → ends (.registerWrite who 0x200040 v false) s fun d =>
      s.m.dev.sets [(F.TU_PPS_OUT_PERIOD, v.toNat)] d) ∧
    (s.m.dev.live 0xD0 → ends (.registerWrite who 0xD0 v false) s fun d =>
      s.m.dev.sets [(F.GL_GLOBAL_STICKY, s.m.dev.get F.GL_GLOBAL_STICKY &&& (31 ^^^ v.toNat % 32))] d) ∧
    (s.m.dev.live 0xA0 → ends (.registerWrite who 0xA0 v false) s fun d =>
      d = { s.m.dev with staged := tset s.m.dev.staged F.GL_FP_EN.key (v.toNat % 2) }) ∧
    (s.m.dev.boot.porN = true → ∀ off, (fieldsAt off = [] ∨ off = 0x80 ∨ off = 0x24) →
      ends (.registerWrite who off v false) s fun d => d = s.m.dev) ∧
    (s.m.dev.boot.porN = true → ∀ off, ends (.registerWrite who off v true) s fun d =>
      (who = .host → s.m.dev.sets [(F.CXL_STICKY, s.m.dev.get F.CXL_STICKY ||| 64)] d) ∧ (who ≠ .host → d = s.m.dev))

/-- The strobes of peaks, FIFOs, performance counters and seeds. PEAK_CLR sets PEAK to LEVEL (R74, R179), beside the register's
W1C bits. CAP_POP removes the oldest capture (R321). Writing 1 to a timestamp queue's OVERFLOW clears it and DROPPED (R330).
PERF_CLEAR sets all 64 counts to 0 and PERF_FREEZE takes its value (R530). A TBL_SEED is written while its table holds no
entry, and refused with SEED_REFUSED otherwise (R193). Nothing else changes. The strobes of single units. A stream gate's
closing flags are cleared by their 1s and its status follows (R280, R301). PUSH_GO takes the length, and starts the read while
step 4 waits for it (R544). CAL_START begins a calibration of an enabled rail (R86). ALLOC_GO before training has ended is
held; once ALLOC_DONE is 1 a write is ignored (R380). The Taper's enable, written 1 while the link is DOWN, starts training
with fresh counts, unless the initial credits pass the buffer; written 0 while DOWN it sets its fields alone (R453, R462). -/
def Obligations.Strobes : Prop :=
  (∀ (v : Word) (s : State),
    let a := s.m.dev
    (∀ l : Fin 32, a.live (F.HDR_FIFO_STATUS_PEAK_CLR l).off → ends (.hdrFifoPeakClr l v) s fun d => a.sets
      [(F.HDR_FIFO_STATUS_PEAK l, if bit v.toNat 16 then a.get (F.HDR_FIFO_STATUS_LEVEL l) else a.get (F.HDR_FIFO_STATUS_PEAK l)),
       (F.HDR_FIFO_STATUS_HDR_FIFO_DROP l, if bit v.toNat 17 then 0 else a.get (F.HDR_FIFO_STATUS_HDR_FIFO_DROP l)),
       (F.HDR_FIFO_STATUS_STORE_ERR l, if bit v.toNat 18 then 0 else a.get (F.HDR_FIFO_STATUS_STORE_ERR l))] d) ∧
    (∀ l : Fin 32, a.live (F.REORDER_STATUS_PEAK_CLR l).off → ends (.reorderPeakClr l v) s fun d => a.sets
      [(F.REORDER_STATUS_PEAK l, if bit v.toNat 31 then a.get (F.REORDER_STATUS_LEVEL l) else a.get (F.REORDER_STATUS_PEAK l))] d) ∧
    (∀ i : Fin 5, a.live (F.TU_CAP_POP i).off → ends (.capPop i v) s fun d => d = { a with timeU := d.timeU } ∧
      d.fifoOf i = (a.fifoOf i).drop (v.toNat % 2) ∧ (∀ j, j ≠ i.val → d.fifoOf j = a.fifoOf j) ∧
      d.timeU = { a.timeU with fifos := d.timeU.fifos }) ∧
    (∀ l : Fin 32, a.live (F.TU_TSQ_OVERFLOW l).off → ends (.tsqOverflowClear l v) s fun d => if bit v.toNat 7
      then a.sets [(F.TU_TSQ_OVERFLOW l, 0), (F.TU_TSQ_DROPPED l, 0)] d else d = a) ∧
    (∀ c ∈ [Instr.perfClear v, Instr.perfFreeze v], a.live 0x3400000 → ends c s fun d => d = { a with fld := d.fld } ∧
      d.get F.PC_PERF_FREEZE = v.toNat % 2 ∧
      (∀ j : Fin 64, d.get64 (F.PC_PERF_COUNT_LO j) (F.PC_PERF_COUNT_HI j) =
        if bit v.toNat 1 then 0 else a.get64 (F.PC_PERF_COUNT_LO j) (F.PC_PERF_COUNT_HI j)) ∧
      ∀ f : Fld, f.still = true → f.key ≠ F.PC_PERF_FREEZE.key → d.get f = a.get f) ∧
    ∀ t : Fin 8, a.live (F.TBL_SEED t).off → ends (.tblSeed t v) s fun d => if a.ents ([1, 3, 5, 8].getD (t / 2) 1) = []
      then a.sets [(F.TBL_SEED t, v.toNat)] d else a.sets [(F.BUSHEL_STICKY_SEED_REFUSED, 1)] d) ∧
  (∀ (v : Word) (s : State),
    let a := s.m.dev
    let n := v.toNat
    (∀ g : Fin 1024, a.live (F.SG_CLOSED_INVALID g).off → ends (.streamGateReopen g v) s fun d => d = { a with fld := d.fld } ∧
      d.get (F.SG_CLOSED_INVALID g) = (if bit n 5 then 0 else a.get (F.SG_CLOSED_INVALID g)) ∧
      d.get (F.SG_CLOSED_OCTETS g) = (if bit n 6 then 0 else a.get (F.SG_CLOSED_OCTETS g)) ∧
      d.get (F.SG_OPEN g) = b2n (d.sgateOpen s.m.clk g) ∧
      ∀ f : Fld, f.lo < 32 → f.off ≠ (F.SG_OPEN g).off → d.get f = a.get f) ∧
    (a.live 0x100C → ends (.pushGo v) s fun d => a.sets [(F.BT_PUSH_LEN, n)] { d with boot := a.boot } ∧
      d.boot = { a.boot with pushGo := a.boot.pushGo || bit n 31 && a.boot.pushWait }) ∧
    (a.live 0x1018 → a.flag (F.PMBUS_SLOT_EN 0) = true → ends (.calStart v) s fun d => if bit n 0
      then a.sets [(F.CHANDLER_STATUS_CALIBRATED, 0)] { d with chan := a.chan } ∧ d.chan = { a.chan with cal := some .awaitReadings }
      else d = a) ∧
    (a.live 0x2800004 → (a.flag F.HBM_ALLOC_DONE = true → ends (.allocGo v) s fun d => d = a) ∧
      (a.flag F.HBM_ALLOC_DONE = false → a.trainingEnded = false → ends (.allocGo v) s fun d => a.sets
        [(F.HBM_WINDOW_GIB, n % 2 ^ 5), (F.HBM_HOG_GIB, n / 2 ^ 8 % 2 ^ 7),
          (F.HBM_ALLOC_PENDING, if bit n 31 then 1 else a.get F.HBM_ALLOC_PENDING)] d)) ∧
    (a.boot.porN = true → a.isHeld 40 = false → a.flag F.BT_FAILED = false → a.get F.TAP_STATE = 0 →
      let fields := [(F.TAP_EN, n % 2), (F.TAP_ETH_MODE, n / 2 % 2), (F.TAP_MIN_WIDTH, n / 4 % 4), (F.TAP_TRAIN_TIMEOUT, n / 256 % 256)]
      let credits := ((List.range 16).map (fun v => a.get (F.TAP_CREDIT_INIT v))).foldl (· + ·) 0
      (bit n 0 = false → ends (.taperEnWrite v) s fun d => a.sets fields d) ∧
      (bit n 0 = true → credits ≤ 8192 → ends (.taperEnWrite v) s fun d =>
        a.sets (fields ++ [(F.TAP_STATE, 1)]) { d with taper := a.taper } ∧ d.taper.seq = 0 ∧ d.taper.expected = 0 ∧
        d.taper.unacked = [] ∧ d.taper.lastAck = none ∧ d.taper.replays = 0 ∧ d.taper.consumed = [] ∧ d.taper.granted = [] ∧
        ∀ p, p ∈ d.taper.grants ↔ p.1 < 16 ∧ p.2 = a.get (F.TAP_CREDIT_INIT p.1) ∧ p.2 ≠ 0) ∧
      (bit n 0 = true → 8192 < credits → ends (.taperEnWrite v) s fun d => ∃ x,
        a.sets (fields ++ [(F.TAP_STICKY, a.get F.TAP_STICKY ||| 4)]) x ∧ x.raises s.m.clk 642 d)))

/-! The commands of Smiem, once ready: what each does before its reply is written, and its reply. What a reply writes is the
statement ReplyWritten. -/

/-- ECHO replies with its first 8 parameter bytes and its length, and changes nothing else; FINGERPRINT_GET replies with the
running fingerprint and the generation; FINGERPRINT_REFERENCE sets the reference, at the generation in force, and nothing else
(R433, R498). IDENTIFY writes its record of 64 bytes to the result buffer, HBM_STATUS one of 128 bytes with the block's status
and the chunks of each segment; where the buffer has no room for the record, nothing is written and the status is PARTIAL
(R429, R433, R442). PORT_STATE replies with the status and sticky words of an existing port, and NOT_FOUND for another (R439).
-/
def Obligations.HostQueries : Prop :=
  (∀ (q : Req) (s : State),
    (s.m.ready 0x0001 q → q.params.length ≤ 4064 → answers (.echo q) 0x0001 q s fun m rep =>
      m = s.m.taken 0x0001 q ∧ rep = ⟨0, q.params.length, leAt q.params 0 8⟩) ∧
    (s.m.ready 0x0014 q → q.params = [] → answers (.fingerprintGet q) 0x0014 q s fun m rep => m = s.m.taken 0x0014 q ∧
      rep = ⟨0, s.m.dev.get F.GL_CONFIG_GEN, s.m.dev.get F.GL_FP_RUNNING_LO + 2 ^ 32 * s.m.dev.get F.GL_FP_RUNNING_HI⟩) ∧
    (s.m.ready 0x0015 q → q.params.length ≤ 8 → answers (.fingerprintReference q) 0x0015 q s fun m rep =>
      let a := s.m.taken 0x0015 q
      rep = ⟨0, 0, 0⟩ ∧ m = a.setDev m.dev ∧ m.dev.cfg = { a.dev.cfg with fpFirst := true } ∧
      a.dev.sets [(F.GL_FP_REFERENCE_LO, leAt q.params 0 4), (F.GL_FP_REFERENCE_HI, leAt q.params 4 4),
        (F.GL_FP_REF_GEN, s.m.dev.get F.GL_CONFIG_GEN), (F.GL_REF_VALID, 1)] { m.dev with cfg := a.dev.cfg })) ∧
  (∀ (q : Req) (s : State),
    (s.m.ready 0x0002 q → q.params.length ≤ 12 → leAt q.params 0 8 % 64 = 0 → answers (.identify q) 0x0002 q s fun m rep =>
      let a := s.m.taken 0x0002 q
      (64 ≤ leAt q.params 8 4 → rep = ⟨0, 0, 0⟩ ∧ m = a.setDev { a.dev with out := a.dev.out ++ [.hostWrite (leAt q.params 0 8) a.dev.identity] }) ∧
      (leAt q.params 8 4 < 64 → rep = ⟨stPartial, 0, 0⟩ ∧ m = a)) ∧
    (s.m.ready 0x00A1 q → q.params.length ≤ 12 → leAt q.params 0 8 % 64 = 0 → answers (.hbmStatus q) 0x00A1 q s fun m rep =>
      let a := s.m.taken 0x00A1 q
      (128 ≤ leAt q.params 8 4 → rep = ⟨0, 0, 0⟩ ∧ ∃ b : Bytes, b.length = 128 ∧ leAt b 0 4 = a.dev.wordAt 0x2800008 % 2 ^ 32 ∧
        (∀ i : Fin 16, leAt b (64 + 4 * i) 4 = a.dev.segmentChunks i % 2 ^ 32) ∧
        m = a.setDev { a.dev with out := a.dev.out ++ [.hostWrite (leAt q.params 0 8) b] }) ∧
      (leAt q.params 8 4 < 128 → rep = ⟨stPartial, 0, 0⟩ ∧ m = a)) ∧
    (s.m.ready 0x0051 q → q.params.length ≤ 2 → leAt q.params 0 2 ≤ 511 → answers (.portState q) 0x0051 q s fun m rep =>
      let p := leAt q.params 0 2
      m = s.m.taken 0x0051 q ∧
        (s.m.dev.get (F.PORT_CFG_PORT_TYPE p) = 0 → rep = ⟨stNotFound, 0, 0⟩) ∧
        (s.m.dev.get (F.PORT_CFG_PORT_TYPE p) ≠ 0 → rep = ⟨0, 0, s.m.dev.portStatusWord p + 2 ^ 32 * s.m.dev.macStickyWord p⟩)))

/-- The identity record is 64 bytes: vendor 0x1F3A, device 0x9102, stepping 1, Smiem version 0x0100, the versions of the
firmware and the ROM, the die identifier of the fuses, the configuration and rule-set generations, the link mode, STACK_UP, and
the ordering code ZHV9102-A1-FB7744 in ASCII, zero-filled. -/
def Obligations.IdentityRecord : Prop :=
  ∀ d : Dev, let b := d.identity
    b.length = 64 ∧ leAt b 0 2 = 0x1F3A ∧ leAt b 2 2 = 0x9102 ∧ leAt b 4 1 = 1 ∧ leAt b 6 2 = 0x0100 ∧
      leAt b 8 4 = Config.fwVersion ((d.boot.image.map Image.serial).getD 0) % 2 ^ 32 ∧ leAt b 12 4 = Config.romVersion % 2 ^ 32 ∧
      leAt b 16 4 = d.get F.GL_DIE_ID_LO ∧ leAt b 20 4 = d.get F.GL_DIE_ID_HI ∧ leAt b 24 4 = d.get F.GL_CONFIG_GEN ∧
      leAt b 28 2 = d.rules.gen % 2 ^ 16 ∧ leAt b 30 1 = d.get F.CXL_MODE ∧ leAt b 31 1 = d.get F.HBM_STACK_UP ∧
      b.drop 32 = [0x5A, 0x48, 0x56, 0x39, 0x31, 0x30, 0x32, 0x2D, 0x41, 0x31, 0x2D, 0x46, 0x42, 0x37, 0x37, 0x34, 0x34] ++
        List.replicate 15 0

/-- REG_READ replies with one register, or with two that follow each other, and what reading changes is done: a capture of a
register pair, or a cleared flag (R433, R489). REG_WRITE writes under its mask and replies with the register as it then reads;
when the lock turns it away, no register is written, a key failure is counted and the status is KEY_REQUIRED. REG_WRITE_KEYED
with a wrong key leaves the register and counts a key failure; with the key it writes as REG_WRITE does with LOCKED 0 (R433,
R487, R488). A masked write of a RW field takes the bits where the mask is 1 and keeps the others; of a W1C field clears only
bits written 1 under the mask; of a SRW field keeps, outside the mask, the value staged, or the applied one when none is (R433,
R479). -/
def Obligations.RegisterCommands : Prop :=
  (∀ (q : Req) (s : State), s.m.ready 0x0010 q → q.params.length ≤ 5 → leAt q.params 0 4 % 4 = 0 → leAt q.params 0 4 < 0x4000000 →
    let off := leAt q.params 0 4
    let a := s.m.taken 0x0010 q
    let one := a.dev.regRead s.m.clk .engine off
    let two := one.2.regRead s.m.clk .engine (off + 4)
    (leAt q.params 4 1 = 1 → answers (.regRead q) 0x0010 q s fun m rep => rep = ⟨0, 0, one.1⟩ ∧ m = a.setDev one.2) ∧
    (leAt q.params 4 1 = 2 → answers (.regRead q) 0x0010 q s fun m rep => rep = ⟨0, 0, one.1 + 2 ^ 32 * two.1⟩ ∧ m = a.setDev two.2)) ∧
  (∀ (q : Req) (s : State), leAt q.params 0 4 % 4 = 0 → leAt q.params 0 4 < 0x4000000 → leAt q.params 0 4 ≠ 0x1020 →
    let off := leAt q.params 0 4
    let value := leAt q.params 4 4
    let mask := leAt q.params 8 4
    (s.m.ready 0x0011 q → q.params.length ≤ 12 → answers (.regWrite q) 0x0011 q s fun m rep =>
      let a := s.m.taken 0x0011 q
      (carriedFields off mask ≠ [] → a.dev.deaf off = false → (∃ f ∈ carriedFields off mask, f.acc = .krw) →
        s.m.dev.flag F.GL_LOCKED = true → rep = ⟨stKeyRequired, 0, 0⟩ ∧ m = a.setDev (a.dev.keyFail s.m.clk)) ∧
      ((∀ f ∈ carriedFields off mask, f.acc ≠ .krw) → m = a.setDev (a.dev.regWrite s.m.clk off value mask).2 ∧
        rep = ⟨0, 0, m.dev.present s.m.clk off⟩)) ∧
    (s.m.ready 0x0012 q → q.params.length ≤ 16 → (∃ f ∈ fieldsAt off, f.acc = .krw) → answers (.regWriteKeyed q) 0x0012 q s fun m rep =>
      let a := s.m.taken 0x0012 q
      let open_ := a.dev.set F.GL_LOCKED 0
      (leAt q.params 12 4 = 0xC4A1D1E5 → m = a.setDev (open_.regWrite s.m.clk off value mask).2 ∧ rep = ⟨0, 0, m.dev.present s.m.clk off⟩) ∧
      (leAt q.params 12 4 ≠ 0xC4A1D1E5 → m = a.setDev ((a.dev.set F.GL_LOCKED 1).keyFail s.m.clk) ∧ rep = ⟨stKeyRequired, 0, 0⟩))) ∧
  (∀ (d : Dev) (k : Clock) (v mask : Nat), v < 2 ^ 32 → mask < 2 ^ 32 →
    (d.deaf 0x200040 = false → d.sets [(F.TU_PPS_OUT_PERIOD, v &&& mask ||| d.get F.TU_PPS_OUT_PERIOD &&& (mask ^^^ (2 ^ 32 - 1)))]
      (d.regWrite k 0x200040 v mask).2) ∧
    (d.deaf 0xD0 = false → d.sets [(F.GL_GLOBAL_STICKY, d.get F.GL_GLOBAL_STICKY &&& ((v &&& mask) % 32 ^^^ 31))]
      (d.regWrite k 0xD0 v mask).2) ∧
    (d.deaf 0xA0 = false → mask % 2 = 1 → (d.regWrite k 0xA0 v mask).2 = { d with staged := tset d.staged F.GL_FP_EN.key (v % 2) }) ∧
    (mask % 2 = 0 → (d.regWrite k 0xA0 v mask).2 = d))

/-- COMMIT: at once, it applies the groups it names at the present tick and replies with network time. Armed for a time to come
it waits, armed for a time reached it applies late with LATE, and naming a group already armed it is refused with BUSY and arms
none (R433, R481, R484, R485). -/
def Obligations.CommitCommand : Prop :=
  ∀ (q : Req) (s : State), s.m.ready 0x0013 q → s.m.dev.isHeld 38 = false → laidOut 14 [(0, 3), (4, 10)] q.params →
    leAt q.params 2 1 < 2 → (leAt q.params 2 1 = 1 → leAt q.params 10 4 < 1000000000) →
    let a := s.m.taken 0x0013 q
    let mask := leAt q.params 0 2
    let sec := leAt q.params 4 6
    let ns := leAt q.params 10 4
    let now := s.m.clk.ns + 2 ^ 32 * (s.m.clk.sec % 2 ^ 32)
    (leAt q.params 2 1 = 0 → answers (.commit q) 0x0013 q s fun m rep =>
      m = a.setDev (a.dev.commitNow s.m.clk mask false) ∧ rep = ⟨0, 0, now⟩) ∧
    (leAt q.params 2 1 = 1 → mask &&& a.dev.armedGroups ≠ 0 → answers (.commit q) 0x0013 q s fun m rep => m = a ∧ rep = ⟨stBusy, 0, 0⟩) ∧
    (leAt q.params 2 1 = 1 → mask &&& a.dev.armedGroups = 0 → s.m.clk.reached sec ns = false →
      begins (.commit q) 0x0013 q s fun m kind => m = a ∧ kind = .commit mask sec ns) ∧
    (leAt q.params 2 1 = 1 → mask &&& a.dev.armedGroups = 0 → s.m.clk.reached sec ns = true →
      answers (.commit q) 0x0013 q s fun m rep => m = a.setDev (a.dev.commitNow s.m.clk mask true) ∧ rep = ⟨stLate, 0, now⟩)

/-- The counter commands. COUNTER_READ of live counters, none of whose words fails, writes as many 16-byte records as fit, and
completes OK when it wrote all and none is invalid; a snapshot not held is NOT_FOUND. COUNTER_CLEAR clears the range it names
and no other counter. COUNTER_SNAPSHOT takes every counter at the present tick; armed for a time to come it waits, and while a
snapshot is being copied it is refused with BUSY (R438, R490, R491). -/
def Obligations.CounterCommands : Prop :=
  ∀ (q : Req) (s : State),
    (s.m.ready 0x0040 q → counterReadCheck q s.m = none → leAt q.params 8 1 = 0 → answers (.counterRead q []) 0x0040 q s fun m rep =>
      let a := s.m.taken 0x0040 q
      let first := leAt q.params 0 4
      let n := min (leAt q.params 4 4) (leAt q.params 24 4 / 16)
      let recs := (List.range n).map (fun i => tgetD s.m.dev.ctrs (first + i) Ctr.zero)
      m = (if n = 0 then a else a.setDev { a.dev with out := a.dev.out ++ [.hostWrite (leAt q.params 16 8) (recs.map Ctr.bytes16).flatten] }) ∧
      rep = ⟨if n < leAt q.params 4 4 || recs.any Ctr.invalid then stPartial else stOk, n, 0⟩) ∧
    (s.m.ready 0x0040 q → counterReadCheck q s.m = none → leAt q.params 8 1 = 1 → s.m.dev.snap = none →
      answers (.counterRead q []) 0x0040 q s fun m rep => m = s.m.taken 0x0040 q ∧ rep = ⟨stNotFound, 0, 0⟩) ∧
    (s.m.ready 0x0042 q → counterClearCheck q s.m.dev = none → answers (.counterClear q) 0x0042 q s fun m rep =>
      let a := s.m.taken 0x0042 q
      rep = ⟨0, 0, 0⟩ ∧ m = a.setDev { a.dev with ctrs := m.dev.ctrs } ∧
      ∀ i, tgetD m.dev.ctrs i Ctr.zero =
        if leAt q.params 0 4 ≤ i ∧ i < leAt q.params 0 4 + leAt q.params 4 4 then Ctr.zero else tgetD s.m.dev.ctrs i Ctr.zero) ∧
    (s.m.ready 0x0041 q → counterSnapshotCheck q s.m = none →
      let a := s.m.taken 0x0041 q
      let armed := bit (leAt q.params 0 1) 0
      let due := s.m.clk.reached (leAt q.params 4 6) (leAt q.params 10 4)
      (s.m.dev.flag F.GL_SNAP_COPYING = true → answers (.counterSnapshot q) 0x0041 q s fun m rep => m = a ∧ rep = ⟨stBusy, 0, 0⟩) ∧
      (s.m.dev.flag F.GL_SNAP_COPYING = false → armed = false ∨ s.m.dev.flag F.GL_SNAP_ARMED = false ∧ due = true →
        answers (.counterSnapshot q) 0x0041 q s fun m rep => m = a.setDev m.dev ∧ m.dev.snap = some s.m.dev.ctrs ∧
          a.dev.sets [(F.GL_SNAP_HELD, 1), (F.GL_SNAP_COPYING, 1), (F.GL_SNAP_TIME_LO, s.m.clk.ns), (F.GL_SNAP_TIME_HI, s.m.clk.sec)]
            { m.dev with snap := a.dev.snap } ∧
          rep = ⟨if armed then stLate else stOk, 0, s.m.clk.ns + 2 ^ 32 * (s.m.clk.sec % 2 ^ 32)⟩) ∧
      (s.m.dev.flag F.GL_SNAP_COPYING = false → armed = true → s.m.dev.flag F.GL_SNAP_ARMED = false → due = false →
        begins (.counterSnapshot q) 0x0041 q s fun m kind => kind = .snapshot (leAt q.params 4 6) (leAt q.params 10 4) ∧
          m = a.setDev m.dev ∧ a.dev.sets [(F.GL_SNAP_ARMED, 1)] m.dev))

/-- EVENT_READ writes the records that fit, from FROM_SEQ or from the oldest held, and replies with how many and the number
that follows (R443, R518). EVENT_RATE sets a source's RATE and BURST, and its credit becomes BURST (R519). Scratchpad banks.
BANK_ASSIGN of NONE powers the bank off; from NONE to table DMA it powers the bank and waits for its clearing; a bank lent to
the test, or being cleared, is BUSY. BANK_TEST lends the bank and waits for the pass; while a pass runs a second is BUSY, and a
stop of no pass changes nothing (R507, R508, R513). -/
def Obligations.EventAndBankCommands : Prop :=
  (∀ (q : Req) (s : State),
    (s.m.ready 0x00B0 q → eventReadCheck q s.m = none → answers (.eventRead q) 0x00B0 q s fun m rep =>
      let a := s.m.taken 0x00B0 q
      let start := max (leAt q.params 0 8) s.m.dev.oldestSeq
      let n := min (leAt q.params 8 4) (s.m.dev.nextSeq - start)
      let c := min n (leAt q.params 24 4 / 32)
      rep = ⟨if leAt q.params 0 8 < s.m.dev.oldestSeq || c < n then stPartial else stOk, c, start + c⟩ ∧
      m = if c = 0 then a else a.setDev { a.dev with
        out := a.dev.out ++ [.hostWrite (leAt q.params 16 8) ((List.range c).map (fun i => s.m.lampRead (start + i))).flatten] }) ∧
    (s.m.ready 0x00B1 q → laidOut 12 [(0, 2), (4, 8)] q.params → leAt q.params 0 2 ≤ 1023 → leAt q.params 4 4 ≤ 1000000 →
      1 ≤ leAt q.params 8 4 → leAt q.params 8 4 ≤ 65535 → answers (.eventRate q) 0x00B1 q s fun m rep =>
      let a := s.m.taken 0x00B1 q
      let src := leAt q.params 0 2
      rep = ⟨0, 0, 0⟩ ∧ m = a.setDev m.dev ∧ a.dev.sets [(F.LB_RATE src, leAt q.params 4 4), (F.LB_BURST src, leAt q.params 8 4)]
        { m.dev with lamp := a.dev.lamp } ∧ (m.dev.evtSrc s.m.clk src).credit = leAt q.params 8 4 * 781250000)) ∧
  (∀ (q : Req) (s : State),
    let b := leAt q.params 0 1
    (s.m.ready 0x00C0 q → bankAssignCheck q (s.m.taken 0x00C0 q) = none →
      let a := s.m.taken 0x00C0 q
      let clearing := a.dev.smi.waits.any (fun w => w.kind == .bankClear b)
      (a.dev.get (F.SC_OWNER b) = 4 ∨ clearing = true → answers (.bankAssign q) 0x00C0 q s fun m rep => m = a ∧ rep = ⟨stBusy, 0, 0⟩) ∧
      (a.dev.get (F.SC_OWNER b) ≠ 4 → clearing = false → leAt q.params 1 1 = 0 → answers (.bankAssign q) 0x00C0 q s fun m rep =>
        rep = ⟨0, 0, 0⟩ ∧ m = a.setDev m.dev ∧ m.dev = { a.dev with fld := m.dev.fld, sconce := m.dev.sconce } ∧
        m.dev.get (F.SC_OWNER b) = 0 ∧ m.dev.get (F.SC_POWERED b) = 0 ∧
        (∀ w, b * 32768 ≤ w → w < (b + 1) * 32768 → tget? m.dev.sconce.scratch w = none) ∧
        ∀ w, (w < b * 32768 ∨ (b + 1) * 32768 ≤ w) → tget? m.dev.sconce.scratch w = tget? a.dev.sconce.scratch w) ∧
      (a.dev.get (F.SC_OWNER b) = 0 → clearing = false → leAt q.params 1 1 = 2 → begins (.bankAssign q) 0x00C0 q s fun m kind =>
        kind = .bankClear b ∧ m = a.setDev m.dev ∧ a.dev.sets [(F.SC_POWERED b, 1)] m.dev)) ∧
    (s.m.ready 0x00C1 q → bankTestCheck q (s.m.taken 0x00C1 q) = none →
      let a := s.m.taken 0x00C1 q
      (leAt q.params 1 1 = 1 → a.dev.sconce.test = none → begins (.bankTest q) 0x00C1 q s fun m kind => kind = .bankTest b ∧
        m = a.setDev m.dev ∧ m.dev.sconce = { a.dev.sconce with test := some ⟨b, 0, 0, true⟩ } ∧
        a.dev.sets [(F.SC_LENT_FROM b, a.dev.get (F.SC_OWNER b)), (F.SC_OWNER b, 4)] { m.dev with sconce := a.dev.sconce }) ∧
      (leAt q.params 1 1 = 1 → a.dev.sconce.test ≠ none → answers (.bankTest q) 0x00C1 q s fun m rep => m = a ∧ rep = ⟨stBusy, 0, 0⟩) ∧
      (leAt q.params 1 1 = 0 → a.dev.sconce.test = none → answers (.bankTest q) 0x00C1 q s fun m rep => m = a ∧ rep = ⟨0, 0, 0⟩)))

/-- TABLE_INSERT, TABLE_DELETE and TABLE_LOCK of an entry that is no default, after the stream requests that wait (R201). A
locked entry is left alone unless LOCK is 1, with LOCKED. An insert of a key that is there replaces the entry's data and keeps
its hit and age bits; of a new key it places the record, or is refused with NO_SPACE, which changes no entry. A delete clears
the entry, a lock changes LOCK alone; of an absent key both answer NOT_FOUND (R207, R220, R436). -/
def Obligations.TableChanges : Prop :=
  ∀ (q : Req) (s : State) (h : HSpec), hspec? (leAt q.params 0 2) = some h →
    let k := s.m.clk
    let r := sliceZ q.params 4 (recSize h.id)
    let own := bit (leAt q.params 2 1) 0
    (isRoute h.id = true → recLen h.id r ≠ 0) →
    (s.m.ready 0x0020 q → tableRecordCheck q s.m = none →
      let a := s.m.taken 0x0020 q
      let b := (a.dev.streamsFirst k).setTurn 2
      (∀ i e, b.findKey h (recKey h.id r) = some (i, e) → e.lock = true → own = false →
        answers (.tableInsert q) 0x0020 q s fun m rep => rep = ⟨stLocked, 0, 0⟩ ∧ m = a.setDev b) ∧
      (∀ i e, b.findKey h (recKey h.id r) = some (i, e) → (e.lock = false ∨ own = true) →
        answers (.tableInsert q) 0x0020 q s fun m rep => rep = ⟨0, 2 ^ 31, i⟩ ∧ m = a.setDev m.dev ∧
          (let n := recEnt h.id r
           tget? (m.dev.ents h.id) i = some { e with data := n.data, static := n.static, lock := n.lock, opsel := n.opsel }) ∧
          ∀ j, j ≠ i → tget? (m.dev.ents h.id) j = tget? (b.ents h.id) j) ∧
      (b.findKey h (recKey h.id r) = none → answers (.tableInsert q) 0x0020 q s fun m rep =>
        (∃ i, rep = ⟨0, 0, i⟩ ∧ tget? (m.dev.ents h.id) i = some (recEnt h.id r)) ∨
        (∃ reason, rep = ⟨stNoSpace, reason, 0⟩ ∧ m.dev.tbl.hash = b.tbl.hash))) ∧
    (s.m.ready 0x0021 q → tableRecordCheck q s.m = none →
      let a := s.m.taken 0x0021 q
      let b := (a.dev.streamsFirst k).setTurn 2
      (b.purge h (recKey h.id r)).1 = [] →
      (∀ i e, b.findKey h (recKey h.id r) = some (i, e) → e.lock = true → own = false →
        answers (.tableDelete q) 0x0021 q s fun m rep => rep = ⟨stLocked, 0, 0⟩ ∧ m = a.setDev b) ∧
      (∀ i e, b.findKey h (recKey h.id r) = some (i, e) → (e.lock = false ∨ own = true) →
        answers (.tableDelete q) 0x0021 q s fun m rep => rep = ⟨0, 0, i⟩ ∧ m = a.setDev (b.remove h i e)) ∧
      (b.findKey h (recKey h.id r) = none → answers (.tableDelete q) 0x0021 q s fun m rep =>
        rep = ⟨stNotFound, 0, 0⟩ ∧ m = a.setDev b)) ∧
    (s.m.ready 0x0023 q → tableLockCheck q s.m = none →
      let a := s.m.taken 0x0023 q
      let b := (a.dev.streamsFirst k).setTurn 2
      (∀ i e, b.findKey h (recKey h.id r) = some (i, e) → answers (.tableLock q) 0x0023 q s fun m rep => rep = ⟨0, 0, 0⟩ ∧
        m = a.setDev m.dev ∧ tget? (m.dev.ents h.id) i = some { e with lock := own } ∧
        ∀ j, j ≠ i → tget? (m.dev.ents h.id) j = tget? (b.ents h.id) j) ∧
      (b.findKey h (recKey h.id r) = none → answers (.tableLock q) 0x0023 q s fun m rep =>
        rep = ⟨stNotFound, 0, 0⟩ ∧ m = a.setDev b))

/-- TABLE_LOOKUP writes the record of exactly the key, read in the replica named, and replies with its slot; of an absent key
it answers NOT_FOUND. TABLE_DMA_READ writes whole records from FIRST, as many as the length allows, and is PARTIAL when fewer
than COUNT. SHADOW_BIND binds the named table's shadow in place of an earlier one, or unbinds it, and no other (R220, R221,
R429, R436). TABLE_DMA_WRITE of one record whose source reads whole writes it as one turn of the serialiser and counts it as
written, skipped or refused; a source that ends early writes no record it does not hold and gives INTEGRITY or TIMEOUT (R221,
R429). -/
def Obligations.TableReading : Prop :=
  (∀ (q : Req) (s : State),
    (s.m.ready 0x0022 q → tableLookupCheck q s.m = none → ∀ h, hspec? (leAt q.params 0 2) = some h →
      let a := s.m.taken 0x0022 q
      let r := sliceZ q.params 16 (recSize h.id)
      (isRoute h.id = true → recLen h.id r ≠ 0) → ∀ bad hit d,
      a.dev.hashRead s.m.clk (bit (leAt q.params 2 1) 0) h (recKey h.id r) .clean .clean = (bad, hit, d) →
        (hit = none → answers (.tableLookup q) 0x0022 q s fun m rep => rep = ⟨stNotFound, 0, 0⟩ ∧ m = a.setDev d) ∧
        (∀ i e, hit = some (i, e) → recSize h.id ≤ leAt q.params 12 4 → answers (.tableLookup q) 0x0022 q s fun m rep =>
          rep = ⟨0, 0, i⟩ ∧ m = a.setDev { d with out := d.out ++ [.hostWrite (leAt q.params 4 8) (entRec h.id e)] })) ∧
    (s.m.ready 0x0024 q → dmaReadCheck q (s.m.taken 0x0024 q) = none → answers (.tableDmaRead q) 0x0024 q s fun m rep =>
      let a := s.m.taken 0x0024 q
      let t := leAt q.params 0 2
      let flags := leAt q.params 2 1
      let n := min (min (leAt q.params 8 4) (leAt q.params 24 4 / recSize t)) (tableLen t - leAt q.params 4 4)
      rep = ⟨if n < leAt q.params 8 4 then stPartial else stOk, n, 0⟩ ∧
      m = a.bulkWrite (leAt q.params 12 1) (leAt q.params 16 8)
        ((List.range n).map (fun i => a.dev.tableRec (bit flags 0) t (leAt q.params 3 1) (b2n (bit flags 1)) (leAt q.params 4 4 + i))).flatten) ∧
    (s.m.ready 0x0026 q → shadowBindCheck q (s.m.taken 0x0026 q) = none → answers (.shadowBind q) 0x0026 q s fun m rep =>
      let a := s.m.taken 0x0026 q
      let mine := fun (x : Shadow) => x.table == leAt q.params 0 2 && x.lantern == leAt q.params 3 1
      rep = ⟨0, 0, 0⟩ ∧ m = a.setDev { a.dev with tbl := { a.dev.tbl with shadows := m.dev.tbl.shadows } } ∧
      m.dev.tbl.shadows.filter (fun x => !mine x) = s.m.dev.tbl.shadows.filter (fun x => !mine x) ∧
      m.dev.tbl.shadows.filter mine = if bit (leAt q.params 2 1) 0 then []
        else [⟨leAt q.params 0 2, leAt q.params 3 1, leAt q.params 4 1, leAt q.params 8 8⟩])) ∧
  (∀ (q : Req) (s : State), s.m.ready 0x0025 q → dmaWriteCheck q (s.m.taken 0x0025 q) = none → leAt q.params 0 2 ≠ 0x14 →
    leAt q.params 8 4 = 1 → recSize (leAt q.params 0 2) ≤ leAt q.params 24 4 →
    let a := s.m.taken 0x0025 q
    let t := leAt q.params 0 2
    let src := a.bulk q (leAt q.params 12 1) (leAt q.params 16 8) (recSize t)
    let one := a.dev.writeRecord s.m.clk t (leAt q.params 3 1) (leAt q.params 4 4) (sliceZ src.bytes 0 (recSize t))
    (src.ended = .whole → answers (.tableDmaWrite q) 0x0025 q s fun m rep => m = a.setDev one.2 ∧
      (one.1 = .written → rep = ⟨0, 1, 0⟩) ∧ (one.1 = .skipped → rep = ⟨stPartial, 0, 1⟩) ∧
      (one.1 = .refused → rep = ⟨stPartial, 0, 2 ^ 32⟩)) ∧
    (src.ended = .poisoned → src.bytes.length < recSize t → answers (.tableDmaWrite q) 0x0025 q s fun m rep =>
      m = a ∧ rep = ⟨stIntegrity, 0, 0⟩) ∧
    (src.ended = .timedOut → src.bytes.length < recSize t → answers (.tableDmaWrite q) 0x0025 q s fun m rep =>
      m = a ∧ rep = ⟨stTimeout, 0, 0⟩))

/-- The rule-set commands. CSTORE_LOAD writes nothing when its source ends early or when one of its words breaks a rule of a
control word or is live, and says which; else it writes every word, counts one generation and replies with the count.
DISPATCH_LOAD writes the standby bank of its stage and is BUSY while that bank is. RULESET_SWAP is held for its group, one at a
time (R151, R175, R177, R429, R437). -/
def Obligations.RuleCommands : Prop :=
  ∀ (q : Req) (s : State),
    (s.m.ready 0x0030 q → cstoreCheck q (s.m.taken 0x0030 q) = none →
      let a := s.m.taken 0x0030 q
      let n := leAt q.params 4 2
      let stage := leAt q.params 0 1
      let first := leAt q.params 2 2
      let src := a.bulk q (leAt q.params 8 1) (leAt q.params 16 8) (64 * n)
      let word := fun i => sliceZ src.bytes (i * 64) 64
      (src.ended ≠ .whole → answers (.cstoreLoad q) 0x0030 q s fun m rep => m = a ∧ rep = ⟨endStatus src.ended, 0, 0⟩) ∧
      (src.ended = .whole → (∀ i < n, wordOk (leNat (word i)) = true) → ∀ j < n, a.dev.wordLive stage (first + j) = true →
        (∀ i < j, a.dev.wordLive stage (first + i) = false) →
        answers (.cstoreLoad q) 0x0030 q s fun m rep => m = a ∧ rep = ⟨stLocked, 2 ^ 31 + j, 0⟩) ∧
      (src.ended = .whole → ∀ j < n, wordOk (leNat (word j)) = false → (∀ i < j, wordOk (leNat (word i)) = true) →
        answers (.cstoreLoad q) 0x0030 q s fun m rep => m = a ∧ rep = ⟨stBadParam, 2 ^ 31 + j, 0⟩) ∧
      (src.ended = .whole → (∀ i < n, wordOk (leNat (word i)) = true) → (∀ i < n, a.dev.wordLive stage (first + i) = false) →
        answers (.cstoreLoad q) 0x0030 q s fun m rep => rep = ⟨0, n, 0⟩ ∧
          m = a.setDev ({ a.dev with index := m.dev.index }).bumpGen ∧
          (∀ i < n, m.dev.controlWord stage (first + i) = leNat (word i)) ∧
          ∀ j, (∀ i < n, j ≠ 0x20 * 2 ^ 24 + storeIndex stage (first + i)) → tget? m.dev.index j = tget? a.dev.index j)) ∧
    (s.m.ready 0x0031 q → dispatchCheck q (s.m.taken 0x0031 q) = none →
      let a := s.m.taken 0x0031 q
      let n := leAt q.params 4 2
      let src := a.bulk q (leAt q.params 8 1) (leAt q.params 16 8) (2 * n)
      (a.dev.standbyBusy = true → answers (.dispatchLoad q) 0x0031 q s fun m rep => m = a ∧ rep = ⟨stBusy, 0, 0⟩) ∧
      (a.dev.standbyBusy = false → src.ended = .whole → answers (.dispatchLoad q) 0x0031 q s fun m rep => rep = ⟨0, 0, 0⟩ ∧
        m = a.setDev ({ a.dev with index := m.dev.index }).bumpGen ∧
        ∀ i < n, leAt (m.dev.record 0x21 (dispIndex a.dev.standbyBank (leAt q.params 0 1) (leAt q.params 2 2 + i)) 2) 0 2 =
          leAt src.bytes (2 * i) 2 % 1024)) ∧
    (s.m.ready 0x0032 q → rulesetSwapCheck q s.m = none →
      let a := s.m.taken 0x0032 q
      (a.dev.rules.held ≠ none → answers (.rulesetSwap q) 0x0032 q s fun m rep => m = a ∧ rep = ⟨stBusy, 0, 0⟩) ∧
      (a.dev.rules.held = none → begins (.rulesetSwap q) 0x0032 q s fun m kind => kind = .swap (leAt q.params 0 1) a.dev.rules.gen ∧
        m = a.setDev { a.dev with rules := { a.dev.rules with held := some ⟨leAt q.params 0 1, bit (leAt q.params 1 1) 0, false⟩ } }))

/-- Port and lane commands. PORT_CONFIG of a type puts the port in LIGHTING with the type, lanes and training asked for, and
waits; removing a port that does not exist only counts a generation (the model's choice between R439 and R492, log entry 60).
LANE_DARK of lanes whose ports neither light nor rest plans their darkening and waits while one of them is lit. LANE_LIGHT of
the lanes of one dark port puts it in LIGHTING and waits. SERDES_TUNE of a lit lane reads its taps, or writes them, with the
eye height a free value; of a dark lane it is BUSY (R115, R132, R135, R439, R563). -/
def Obligations.PortCommands : Prop :=
  ∀ (q : Req) (s : State), let p := leAt q.params 0 2
    (s.m.ready 0x0050 q → portConfigCheck q (s.m.taken 0x0050 q) = none →
      let a := s.m.taken 0x0050 q
      (leAt q.params 2 1 = 0 → a.dev.get (F.PORT_CFG_PORT_TYPE p) = 0 →
        answers (.portConfig q) 0x0050 q s fun m rep => rep = ⟨0, 0, 0⟩ ∧ m = a.setDev a.dev.bumpGen) ∧
      (leAt q.params 2 1 ≠ 0 → begins (.portConfig q) 0x0050 q s fun m kind => kind = .portConfig p ∧ m = a.setDev m.dev ∧
        m.dev.get (F.PORT_CFG_PORT_TYPE p) = leAt q.params 2 1 ∧ m.dev.get (F.PORT_CFG_LANES p) = leAt q.params 3 1 ∧
        m.dev.get (F.PORT_CFG_TRAIN_EN p) = leAt q.params 5 1 ∧ m.dev.get (F.PORT_STATUS_STATE p) = stLighting)) ∧
    (s.m.ready 0x0052 q → lanesCheck q (s.m.taken 0x0052 q) = none →
      let a := s.m.taken 0x0052 q
      (∀ n ∈ a.dev.namedPorts q, a.dev.get (F.PORT_STATUS_STATE n) ≠ stLighting ∧ a.dev.get (F.PORT_STATUS_STATE n) ≠ stRest) →
      ((∃ n ∈ namedLanes q, a.dev.laneLit n = true) → begins (.laneDark q) 0x0052 q s fun m kind =>
        kind = .portDark (a.dev.namedPorts q) ∧ m = a.setDev { a.dev with chan := { a.dev.chan with darken := m.dev.chan.darken } } ∧
        ∀ n, n ∈ m.dev.chan.darken ↔ n ∈ a.dev.chan.darken ∨ (n ∈ namedLanes q ∧ a.dev.laneLit n = true)) ∧
      ((∀ n ∈ namedLanes q, a.dev.laneLit n = false) → answers (.laneDark q) 0x0052 q s fun m rep => m = a ∧ rep = ⟨0, 0, 0⟩)) ∧
    (s.m.ready 0x0053 q → lanesCheck q (s.m.taken 0x0053 q) = none →
      let a := s.m.taken 0x0053 q
      ∀ n, a.dev.namedPorts q = [n] → (∀ x ∈ namedLanes q, a.dev.portOf x = some n) → a.dev.get (F.PORT_STATUS_STATE n) = stDark →
        (∀ x ∈ a.dev.lanesOf n, x ∉ a.dev.chan.darken) →
        begins (.laneLight q) 0x0053 q s fun m kind => kind = .portUp [n] ∧ m = a.setDev m.dev ∧
          m.dev.get (F.PORT_STATUS_STATE n) = stLighting) ∧
    (s.m.ready 0x0054 q → serdesCheck q s.m.dev = none → p < 512 →
      let a := s.m.taken 0x0054 q
      let ln := (tget? a.dev.lanes p).getD ⟨false, [0, -8, 56, 0]⟩
      (a.dev.laneLit p = false → answers (.serdesTune q) 0x0054 q s fun m rep => m = a ∧ rep = ⟨stBusy, 0, 0⟩) ∧
      (a.dev.laneLit p = true → (∀ n, a.dev.portOf p = some n → a.dev.get (F.PORT_STATUS_STATE n) ≠ stLighting) →
        answers (.serdesTune q) 0x0054 q s fun m rep =>
        let taps := if leAt q.params 2 1 = 1 then [q.s 4 1, q.s 5 1, q.s 6 1, q.s 7 1] else ln.taps
        rep = ⟨0, 0, leNat (taps.map (fun t => byte (unsign 8 t))) + 2 ^ 32 * (Config.freeValue a.dev.free % 2 ^ 16)⟩ ∧
        m = a.setDev { a.dev with lanes := m.dev.lanes, free := a.dev.free + 1 } ∧ tget? m.dev.lanes p = some { ln with taps := taps } ∧
        ∀ n, n ≠ p → tget? m.dev.lanes n = tget? a.dev.lanes n))

/-- GATE_LIST_LOAD without CHANGE writes entries to the target's store and nothing else; with it, the list becomes pending, to
start at the least base + N × cycle that is at least 10 µs away, and the instant is the RESULT. SHAPER_SET sets a queue's or a
port's shaper and counts a generation. POLICER_SET waits for the refill of its policers (R276, R286, R291, R292, R440). -/
def Obligations.ScheduleCommands : Prop :=
  ∀ (q : Req) (s : State),
    (s.m.ready 0x0060 q → gateLoadCheck q (s.m.taken 0x0060 q) = none →
      let a := s.m.taken 0x0060 q
      let stream := leAt q.params 0 1 == 1
      let id := leAt q.params 2 2
      let g := a.dev.gateOf stream id
      (bit (leAt q.params 1 1) 0 = false → answers (.gateListLoad q) 0x0060 q s fun m rep => rep = ⟨0, 0, 0⟩ ∧
        m = a.setDev (a.dev.setGateOf stream id { g with store := gateStore q g })) ∧
      (bit (leAt q.params 1 1) 0 = true → answers (.gateListLoad q) 0x0060 q s fun m rep =>
        let base := leAt q.params 10 6 * 1000000000 + leAt q.params 16 4
        let cycle := leAt q.params 20 4
        m = a.setDev m.dev ∧ ∃ l start, (m.dev.gateOf stream id).pend = some l ∧ (m.dev.gateOf stream id).run = g.run ∧
          l.entries = (List.range (leAt q.params 8 2)).map (fun i => tgetD (gateStore q g) i []) ∧ l.cycle = cycle ∧
          l.ext = leAt q.params 24 4 ∧ l.change = start ∧ (∃ n, start = base + n * cycle) ∧
          (start = base ∨ start < s.m.clk.abs + 10000 + cycle) ∧ s.m.clk.abs + 10000 ≤ start ∧
          rep = ⟨0, start / 1000000000 / 2 ^ 32 % 65536, start % 1000000000 + start / 1000000000 % 2 ^ 32 * 2 ^ 32⟩)) ∧
    (s.m.ready 0x0061 q → shaperSetCheck q (s.m.taken 0x0061 q).dev = none → answers (.shaperSet q) 0x0061 q s fun m rep =>
      let a := s.m.taken 0x0061 q
      let id := leAt q.params 2 2
      let en := b2n (bit (leAt q.params 1 1) 0)
      let oh := leAt q.params 4 1 % 128
      rep = ⟨0, 0, 0⟩ ∧ ∃ d, m = a.setDev d.bumpGen ∧
        (leAt q.params 0 1 = 0 → a.dev.sets [(F.EGQ_SHAPE_EN id, en), (F.EGQ_OVERHEAD id, oh), (F.EGQ_INC id, leAt q.params 8 4),
          (F.EGQ_BURST id, leAt q.params 12 4)] d) ∧
        (leAt q.params 0 1 = 1 → a.dev.sets [(F.EGP_SHAPE_EN id, en), (F.EGP_OVERHEAD id, oh), (F.EGP_INC id, leAt q.params 8 4),
          (F.EGP_BURST id, leAt q.params 12 4)] d)) ∧
    (s.m.ready 0x0062 q → policerSetCheck q s.m = none →
      let a := s.m.taken 0x0062 q
      let next := a.dev.get F.EG_REFILL_NUM_LO + 2 ^ 32 * a.dev.get F.EG_REFILL_NUM_HI + 1
      (leAt q.params 0 1 = 1 → begins (.policerSet q) 0x0062 q s fun m kind => m = a ∧ kind = .policer next) ∧
      (leAt q.params 0 1 = 0 → begins (.policerSet q) 0x0062 q s fun m kind => kind = .policer next ∧ m = a.setDev m.dev ∧
        m.dev.record 0x13 (8192 + leAt q.params 4 4) 16 = sliceZ q.params 8 16))

/-- TIME_SET and TIME_ADJUST, while the time unit runs, act at once and reply with TICK_COUNT, which they do not change.
TIME_SET sets network time and TIME_VALID; TIME_ADJUST moves it by a signed number of nanoseconds, keeping its fraction, or
sets the increment, or both. TSQ_READ writes the oldest entries of a lantern's queue and removes what it wrote (R307, R308,
R319, R441). -/
def Obligations.TimeCommands : Prop :=
  ∀ (q : Req) (s : State),
    (s.m.ready 0x0070 q → timeSetCheck q s.m = none → s.m.dev.isHeld 38 = false → answers (.timeSet q) 0x0070 q s fun m rep =>
      rep = ⟨0, 0, s.m.clk.tick⟩ ∧ m.clk = { s.m.clk with sec := leAt q.params 0 6, sub := leAt q.params 6 4 * 2 ^ 32 } ∧
      m.dev.get F.TU_TIME_VALID = 1) ∧
    (s.m.ready 0x0071 q → timeAdjustCheck q s.m = none → s.m.dev.isHeld 38 = false → answers (.timeAdjust q) 0x0071 q s fun m rep =>
      let step := bit (leAt q.params 0 1) 0
      let rate := bit (leAt q.params 0 1) 1
      rep = ⟨0, 0, s.m.clk.tick⟩ ∧ m.clk.tick = s.m.clk.tick ∧ m.clk.sub % 2 ^ 32 = s.m.clk.sub % 2 ^ 32 ∧
      (step = true → (m.clk.abs : Int) = (s.m.clk.abs + q.s 8 8) % (2 ^ 48 * 1000000000)) ∧
      (step = false → m.clk.sec = s.m.clk.sec ∧ m.clk.sub = s.m.clk.sub ∧ m.dev = (s.m.taken 0x0071 q).dev) ∧
      m.clk.inc = if rate then leAt q.params 16 4 * 2 ^ 32 + leAt q.params 20 4 else s.m.clk.inc) ∧
    (s.m.ready 0x0072 q → tsqReadCheck q s.m.dev = none → answers (.tsqRead q) 0x0072 q s fun m rep =>
      let a := s.m.taken 0x0072 q
      let l := leAt q.params 0 1
      let es := (a.dev.tsqOf l).take (leAt q.params 1 1)
      let n := min es.length (leAt q.params 16 4 / 16)
      rep = ⟨if n < es.length then stPartial else stOk, n, 0⟩ ∧ m.dev.tsqOf l = (a.dev.tsqOf l).drop n ∧
      (∀ j, j ≠ l → m.dev.tsqOf j = a.dev.tsqOf j) ∧
      m.dev.out = a.dev.out ++ if n = 0 then [] else [.hostWrite (leAt q.params 8 8) ((es.take n).map TsqEntry.bytes).flatten])

/-- WICK_TRIM and WICK_RELIGHT begin when the lantern can take them and are BUSY when it cannot; WICK_STATUS writes a record of
64 bytes that begins with the lantern's roles and states. ENERGY_BUDGET stages BUDGET, and MODE when SET_MODE is 1.
ENERGY_REPORT writes the records held of the periods asked for, oldest first. HBM_SEGMENTS waits for the tally period boundary
(R344, R346, R389, R442, R443). -/
def Obligations.WickAndEnergyCommands : Prop :=
  ∀ (q : Req) (s : State),
    (s.m.ready 0x0080 q → q.params.length ≤ 1 → leAt q.params 0 1 < 32 →
      let a := s.m.taken 0x0080 q
      let l := leAt q.params 0 1
      (a.dev.trimFree l = true → begins (.wickTrim q) 0x0080 q s fun m kind => kind = .trim l ∧ m = a.setDev m.dev ∧
        (m.dev.lantern l).task = .trim none none ∧ m.dev.get (F.WICK_ROLE_BUSY l) = 1) ∧
      (a.dev.trimFree l = false → answers (.wickTrim q) 0x0080 q s fun m rep => m = a ∧ rep = ⟨stBusy, 0, 0⟩)) ∧
    (s.m.ready 0x0081 q → wickRelightCheck q (s.m.taken 0x0081 q) = none →
      let a := s.m.taken 0x0081 q
      let l := leAt q.params 0 1
      ((a.dev.lantern l).task = .none → (a.dev.lantern l).overlap = none → begins (.wickRelight q) 0x0081 q s fun m kind =>
        kind = .relight l (wickOf q) ∧ m = a.setDev m.dev ∧ (m.dev.lantern l).task = .relight (wickOf q) 1 0) ∧
      ((a.dev.lantern l).task ≠ .none ∨ (a.dev.lantern l).overlap ≠ none → answers (.wickRelight q) 0x0081 q s fun m rep =>
        m = a ∧ rep = ⟨stBusy, 0, 0⟩)) ∧
    (s.m.ready 0x0082 q → wickStatusCheck q s.m.dev = none → 64 ≤ leAt q.params 16 4 → answers (.wickStatus q) 0x0082 q s fun m rep =>
      let a := s.m.taken 0x0082 q
      rep = ⟨0, 1, 0⟩ ∧ ∃ b : Bytes, b.length = 64 ∧
        leAt b 0 4 = a.dev.regWord (F.WICK_ROLE_STATE_A (leAt q.params 0 1)).off % 2 ^ 32 ∧
        m = a.setDev { a.dev with out := a.dev.out ++ [.hostWrite (leAt q.params 8 8) b] }) ∧
    (s.m.ready 0x0090 q → energyBudgetCheck q s.m.dev = none → answers (.energyBudget q) 0x0090 q s fun m rep =>
      let a := s.m.taken 0x0090 q
      rep = ⟨0, 0, 0⟩ ∧ m = a.setDev { a.dev with staged := m.dev.staged } ∧
      tget? m.dev.staged F.ENERGY_BUDGET_BUDGET.key = some (leAt q.params 0 2) ∧
      (tget? m.dev.staged F.CHANDLER_CTRL_MODE.key =
        if bit (leAt q.params 3 1) 0 then some (leAt q.params 2 1) else tget? a.dev.staged F.CHANDLER_CTRL_MODE.key) ∧
      ∀ i, i ≠ F.ENERGY_BUDGET_BUDGET.key → i ≠ F.CHANDLER_CTRL_MODE.key → tget? m.dev.staged i = tget? a.dev.staged i) ∧
    (s.m.ready 0x0091 q → energyReportCheck q s.m.dev = none → answers (.energyReport q) 0x0091 q s fun m rep =>
      let a := s.m.taken 0x0091 q
      let first := leAt q.params 0 8
      let n := leAt q.params 8 2
      let held := (s.m.dev.chan.records.reverse).filter (fun r => first ≤ r.period && r.period < first + n)
      let c := min held.length (leAt q.params 24 4 / 64)
      rep = ⟨if c < n then stPartial else stOk, c, 0⟩ ∧ m = a.setDev { a.dev with out := m.dev.out } ∧
      m.dev.out = a.dev.out ++ if c = 0 then [] else [.hostWrite (leAt q.params 16 8) ((held.take c).map EnergyRec.bytes).flatten]) ∧
    (s.m.ready 0x00A0 q → hbmSegmentsCheck q (s.m.taken 0x00A0 q) = none → begins (.hbmSegments q) 0x00A0 q s fun m kind =>
      m = s.m.taken 0x00A0 q ∧ kind = .segments)

/-- FIRMWARE_UPDATE OP 0 writes the bytes read at their offset in the inactive area and clears the verified flag; OP 2 without
a check that passed is INTEGRITY and writes nothing. RESET_DOMAIN with the key begins the reset and waits for the release; with
another it acts as a wrong key written to UNLOCK. FRAME_SEND whose frame has its cells and its place replies that one was sent.
FRAME_RECV of one frame that waits and fits writes it and replies 1, and with none waiting replies 0 (R444, R543, R549). -/
def Obligations.SystemCommands : Prop :=
  ∀ (q : Req) (s : State),
    (s.m.ready 0x00F0 q → fwUpdateCheck q (s.m.taken 0x00F0 q) = none →
      let a := s.m.taken 0x00F0 q
      let src := a.bulk q (leAt q.params 12 1) (leAt q.params 16 8) (leAt q.params 8 4)
      (leAt q.params 0 1 = 0 → src.ended = .whole → answers (.firmwareUpdate q) 0x00F0 q s fun m rep => rep = ⟨0, 0, 0⟩ ∧
        m = a.setDev { a.dev with boot := { a.dev.boot with
          verified := false, flash := mwrite a.dev.boot.flash (areaBase a.dev.inactiveB + leAt q.params 4 4) src.bytes } }) ∧
      (leAt q.params 0 1 = 0 → src.ended ≠ .whole → answers (.firmwareUpdate q) 0x00F0 q s fun m rep =>
        m = a ∧ rep = ⟨endStatus src.ended, 0, 0⟩) ∧
      (leAt q.params 0 1 = 2 → a.dev.boot.verified = false → answers (.firmwareUpdate q) 0x00F0 q s fun m rep =>
        m = a ∧ rep = ⟨stIntegrity, 0, 0⟩)) ∧
    (s.m.ready 0x00F1 q → q.params.length ≤ 8 → leAt q.params 1 3 = 0 → domainBad (leAt q.params 0 1) = false →
      let a := s.m.taken 0x00F1 q
      let n := leAt q.params 0 1
      (leAt q.params 4 4 = 0xC4A1D1E5 → begins (.resetDomain q) 0x00F1 q s fun m kind => kind = .domain n ∧ m = a.setDev m.dev ∧
        (a.dev.wicksBusy = true → m.dev = { a.dev with boot := m.dev.boot } ∧ n ∈ m.dev.boot.rstWait)) ∧
      (leAt q.params 4 4 ≠ 0xC4A1D1E5 → answers (.resetDomain q) 0x00F1 q s fun m rep => rep = ⟨stKeyRequired, 0, 0⟩ ∧
        m = a.setDev ((a.dev.set F.GL_LOCKED 1).keyFail s.m.clk))) ∧
    (s.m.ready 0x00D0 q → frameSendCheck q (s.m.taken 0x00D0 q) = none →
      let a := s.m.taken 0x00D0 q
      let src := a.bulk q (leAt q.params 32 1) (leAt q.params 40 8) (leAt q.params 6 2)
      (src.ended ≠ .whole → answers (.frameSend q) 0x00D0 q s fun m rep => m = a ∧ rep = ⟨endStatus src.ended, 0, 0⟩) ∧
      (src.ended = .whole → ∀ fid d, a.dev.injectAsk s.m.clk 513 false (sliceZ q.params 0 32) src.bytes = (.granted, some .accepted, fid, d) →
        answers (.frameSend q) 0x00D0 q s fun m rep => m = a.setDev (d.poolsUpdate s.m.clk) ∧ rep = ⟨0, 1, 0⟩)) ∧
    (s.m.ready 0x00D1 q → laidOut 20 [(0, 2), (8, 12)] q.params → leAt q.params 0 1 = 1 → leAt q.params 8 8 % 64 = 0 →
      let a := s.m.taken 0x00D1 q
      (a.dev.recvQueue (leAt q.params 1 1) = none → answers (.frameRecv q []) 0x00D1 q s fun m rep =>
        rep = ⟨0, 0, 0⟩ ∧ m = a.setDev (a.dev.poolsUpdate s.m.clk)) ∧
      (∀ n c f, a.dev.recvQueue (leAt q.params 1 1) = some (n, c) → a.dev.frame? c.fid = some f →
        (a.dev.recvRecord c f).length ≤ leAt q.params 16 4 → answers (.frameRecv q []) 0x00D1 q s fun m rep => rep = ⟨0, 1, 0⟩ ∧
          m = a.setDev (((a.dev.recvTake n c f).emit (.hostWrite (leAt q.params 8 8) (a.dev.recvRecord c f))).poolsUpdate s.m.clk)))

/-! The rings, as the host works them. -/

/-- SQ_TAIL and CQ_HEAD take a value inside the ring, CQ_HEAD one that frees no more entries than are written and not consumed
(in a ring none of whose replies is consumed the value last taken frees all: the model's choice, log entry 68); any other leaves
them and records the error with event 588. When IDE is required and CXL.io is not secure a doorbell is refused
and counted. COAL_TIME's expiry sends the ring's message when a reply waits. Setting a submission ring's EN clears STOPPED and
ERR; setting a completion ring's EN restarts PHASE at 1 and the tail at 0 (R410, R421, R422, R450). PACKET_FETCH of the ring
whose turn it is. A read that fails stops the ring with ERR 2, as a read with no completion does; a wrong CRC or length stops
it with ERR 1 and is answered INTEGRITY with opcode 0. Else the head passes the packet's slots, and the packet is held for its
command, or, with an opcode that is none, answered BAD_OPCODE (R420, R423, R424, R425, R446). -/
def Obligations.RingsAndPackets : Prop :=
  (∀ (r : Fin 16) (v : Word) (s : State), s.m.dev.boot.porN = true → s.m.dev.flag F.BT_FAILED = false →
    let d := s.m.dev
    let n := v.toNat % 2 ^ 16
    let ahead := (n + d.cqSize r - d.get (F.CQ_HEAD_SEEN r) % d.cqSize r) % d.cqSize r
    let freed := if ahead = 0 ∧ d.unconsumed r = d.cqSize r then d.cqSize r else ahead
    (d.ideRefuses F.CXL_IDE_IO_SECURE = true →
      ∀ c, c = Instr.sqTail r v ∨ c = Instr.cqHead r v → ends c s fun b =>
        d.sets [(F.CXL_IDE_REFUSED, min (d.get F.CXL_IDE_REFUSED + 1) (2 ^ F.CXL_IDE_REFUSED.w - 1))] b) ∧
    (d.ideRefuses F.CXL_IDE_IO_SECURE = false →
      (n < d.sqSize r → ends (.sqTail r v) s fun b => d.sets [(F.SQ_TAIL r, n)] b) ∧
      (d.sqSize r ≤ n → ends (.sqTail r v) s fun b => (d.set (F.SQ_DB_ERR r) 1).raises s.m.clk 588 b) ∧
      (n < d.cqSize r → freed ≤ d.unconsumed r → ends (.cqHead r v) s fun b =>
        b.unconsumed r = d.unconsumed r - freed ∧ (∀ c, c ≠ r.val → b.unconsumed c = d.unconsumed c) ∧
        d.sets [(F.CQ_HEAD_SEEN r, n)] { b with smi := d.smi } ∧ b.smi = { d.smi with written := b.smi.written }) ∧
      (d.cqSize r ≤ n ∨ d.unconsumed r < freed → ends (.cqHead r v) s fun b => (d.set (F.CQ_DB_ERR r) 1).raises s.m.clk 588 b)) ∧
    ((tgetD d.smi.coal r ⟨0, false⟩).timer = true → ends (.coalTimeExpiry r) s fun b =>
      b = (({ d with smi := { d.smi with coal := b.smi.coal } }).sendMsix (d.get (F.CQ_VECTOR r))) ∧
      tgetD b.smi.coal r ⟨0, false⟩ = ⟨0, false⟩) ∧
    ((tgetD d.smi.coal r ⟨0, false⟩).timer = false → ends (.coalTimeExpiry r) s fun b => b = d) ∧
    (let cfg := [(F.SQ_EN r, bits v.toNat 0 1), (F.SQ_SIZE_LOG2 r, bits v.toNat 1 5), (F.SQ_CQ r, bits v.toNat 8 4)]
     ends (.submissionRingEn r v) s fun b =>
      d.sets (if bit v.toNat 0 && !d.flag (F.SQ_EN r) then cfg ++ [(F.SQ_STOPPED r, 0), (F.SQ_ERR r, 0)] else cfg) b) ∧
    (let cfg := [(F.CQ_EN r, bits v.toNat 0 1), (F.CQ_SIZE_LOG2 r, bits v.toNat 1 5), (F.CQ_VECTOR r, bits v.toNat 8 6),
       (F.CQ_COAL_COUNT r, bits v.toNat 16 8), (F.CQ_COAL_TIME r, bits v.toNat 24 8)]
     (bit v.toNat 0 = true → d.flag (F.CQ_EN r) = false → ends (.completionRingEn r v) s fun b =>
        d.sets (cfg ++ [(F.CQ_PHASE r, 1), (F.CQ_TAIL r, 0), (F.CQ_HEAD_SEEN r, 0)]) { b with smi := d.smi } ∧
        b.smi = { d.smi with written := b.smi.written, coal := b.smi.coal } ∧ b.unconsumed r = 0 ∧
        tgetD b.smi.coal r ⟨0, false⟩ = ⟨0, false⟩) ∧
     (bit v.toNat 0 = false ∨ d.flag (F.CQ_EN r) = true → ends (.completionRingEn r v) s fun b => d.sets cfg b))) ∧
  (∀ (r : Fin 16) (data : HostRead) (s : State), s.m.dev.boot.porN = true → s.m.dev.fetchTurn r = true →
    let d := s.m.dev
    let k := s.m.clk
    let p := data.bytes
    let op := leAt p 0 2
    let q := packetReq r p
    let c := d.sqRing r
    let head := (d.get (F.SQ_HEAD r) + ceilDiv (32 + packetLen p) 64) % d.sqSize r
    let stopped := fun (err : Nat) (b : Dev) => ((d.set (F.SQ_STOPPED r) 1).set (F.SQ_ERR r) err).raises k 588 b
    ends (.hostCompletionTimeout r none) s (stopped 2) ∧
    (data.ended ≠ .whole → ends (.packetFetch r data) s (stopped 2)) ∧
    (data.ended = .whole → 4064 < packetLen p ∨ packetCrc p ≠ leAt p 28 4 → ends (.packetFetch r data) s fun b =>
      ∃ e, stopped 1 e ∧ b = e.reply k 0 q c false ⟨stIntegrity, 0, 0⟩) ∧
    (data.ended = .whole → packetLen p ≤ 4064 → packetCrc p = leAt p 28 4 → isHw op q.params = true ∨ d.smi.fwInFlight < 64 →
      leAt p 3 1 = r → leAt p 2 1 < 8 → (∀ i < 16, byteAt p (12 + i) = 0) →
      (op ∈ opcodes → ends (.packetFetch r data) s fun b => b.get (F.SQ_HEAD r) = head ∧ b.out = d.out ∧
        b.smi = { d.smi with rotate := (r.val + 1) % 16, fetched := d.smi.fetched ++ [⟨op, q, c, false, false⟩] }) ∧
      (op ∉ opcodes → ends (.packetFetch r data) s fun b => ∃ e : Dev, e.get (F.SQ_HEAD r) = head ∧ e.smi.fetched = d.smi.fetched ∧
        b = e.reply k op q c false ⟨stBadOpcode, 0, 0⟩)))

/-! The attachment to the host. -/

/-- CXL_LINK_TRAINED, once PERST_N is released and the link is down: the mode is the first of the CXL modes, in their order,
that the host allows and CXL_MODE_MASK does not bar, or PCIe when there is none; width and rate are as trained, a reduced link
sets its flag, and event 624 asserts (R399, R401, R414). A reset of the link, by PERST_N, by a function-level reset while it is
trained, or by a Recovery that fails: the decoder and IDE return to their reset values and every message of MSI-X is masked; EN
of every ring is 0 and its other settings stay; the replies of commands in flight are not written; the window keeps its
contents and its poison. PERST_N and a failed Recovery take the link down; a function-level reset keeps it. A Recovery that
succeeds counts and changes no other setting (R413, R415, R447). -/
def Obligations.LinkStates : Prop :=
  (∀ (host gen width rate : Nat) (s : State),
    let d := s.m.dev
    d.boot.porN = true → d.boot.perstN = true → d.get F.CXL_MODE = 0 → d.isHeld 39 = false → width ∈ [1, 2, 4, 8, 16] →
    ∀ mode, ((mode = 5 ∧ ∀ n < 4, bit host n = false ∨ bit (d.get F.CXL_MODE_MASK) n = true) ∨
      (∃ n < 4, mode = n + 1 ∧ bit host n = true ∧ bit (d.get F.CXL_MODE_MASK) n = false ∧
        ∀ j < n, bit host j = false ∨ bit (d.get F.CXL_MODE_MASK) j = true)) →
    let top := if mode ≤ 2 then 6 else if mode ≤ 4 then 5 else gen
    3 ≤ rate → rate ≤ top → top ≤ 6 → ends (.cxlLinkTrained host gen width rate) s fun b =>
      b.get F.CXL_MODE = mode ∧ b.get F.CXL_PCIE_GEN = (if mode = 5 then gen else 0) ∧ b.get F.CXL_WIDTH = width ∧
      b.get F.CXL_RATE = rate ∧ d.alikeBut [F.CXL_MODE, F.CXL_PCIE_GEN, F.CXL_WIDTH, F.CXL_RATE] b ∧
      (width < 16 ∨ rate < top → bit (b.get F.CXL_STICKY) 1 = true)) ∧
  (∀ (s : State) (u : Bool),
    let d := s.m.dev
    let gone := fun (b : Dev) =>
      (∀ r : Fin 16, b.get (F.SQ_EN r) = 0 ∧ b.get (F.CQ_EN r) = 0 ∧ b.get (F.SQ_SIZE_LOG2 r) = d.get (F.SQ_SIZE_LOG2 r) ∧
        b.get (F.SQ_CQ r) = d.get (F.SQ_CQ r) ∧ b.get (F.SQ_HEAD r) = d.get (F.SQ_HEAD r) ∧ b.get (F.SQ_TAIL r) = d.get (F.SQ_TAIL r) ∧
        b.get (F.CQ_SIZE_LOG2 r) = d.get (F.CQ_SIZE_LOG2 r) ∧ b.get (F.CQ_TAIL r) = d.get (F.CQ_TAIL r)) ∧
      b.smi = { d.smi with fetched := d.smi.fetched.map (fun e => { e with noReply := true }),
                           waits := d.smi.waits.map (fun w => { w with noReply := true }) } ∧
      b.get F.CXL_HDM_COMMITTED = 0 ∧ b.get F.CXL_IDE_IO_SECURE = 0 ∧ b.get F.CXL_IDE_MEM_SECURE = 0 ∧ b.msix = [] ∧
      b.cxl.poison = d.cxl.poison ∧ b.ctrs = d.ctrs ∧ b.index = d.index ∧ b.frames = d.frames
    d.boot.porN = true →
    ends .perstN s (fun b => gone b ∧ b.get F.CXL_MODE = 0 ∧ b.boot.perstN = false) ∧
    (d.get F.CXL_MODE ≠ 0 → ends .functionLevelReset s (fun b => gone b ∧ b.get F.CXL_MODE = d.get F.CXL_MODE ∧
        b.get F.CXL_WIDTH = d.get F.CXL_WIDTH ∧ b.boot = d.boot) ∧
      ends (.linkRecovery u true) s (fun b => gone b ∧ b.get F.CXL_MODE = 0 ∧ b.boot = d.boot) ∧
      ends (.linkRecovery u false) s (fun b => d.alikeBut [F.CXL_LINK_RECOVERIES] b ∧
        b.get F.CXL_LINK_RECOVERIES = min (d.get F.CXL_LINK_RECOVERIES + 1) (2 ^ F.CXL_LINK_RECOVERIES.w - 1))) ∧
    ends .perstNRelease s (fun b => b = { d with boot := { d.boot with perstN := true } }))

/-- Requests of the host on its window. A read of a line, while the window is committed and its memory active, answers the
line's 64 bytes and whether it is poisoned; a write of a whole line writes exactly those 64 bytes and makes the line's poison
what the write says; without active memory a read answers a free value as poison. A decoder is committed when its size is the
window's and it has one way, else refused with event 627. A snoop in a CXL mode is answered with RspIHitI (R404, R405, R406,
R408). IDE keys make their stream secure in CXL modes 1 to 3, and nothing else changes; a failed integrity check ends that with
event 626. A vector unmasked while its message is pending sends the message, and otherwise only takes its entry (R410, R411,
R412). -/
def Obligations.WindowAndInterrupts : Prop :=
  (∀ (addr a : Nat) (data : Bytes) (p lock : Bool) (size base : Nat) (s : State),
    let d := s.m.dev
    d.boot.porN = true → d.inCxl = true →
    (d.isHeld 39 = false → d.ideRefuses F.CXL_IDE_MEM_SECURE = false → d.decode addr = some a → d.memoryActive = true →
      ends (.cxlMemRequest false addr data p .clean) s (fun b => b = { d with
        out := d.out ++ [.memRead addr (mread s.m.dram (regionBase regWindow + 64 * (a / 64)) 64) (d.cxl.poison.contains (a / 64))] }) ∧
      (a % 64 = 0 → data.length = 64 → endsMach (.cxlMemRequest true addr data p .clean) s fun m =>
        m.clk = s.m.clk ∧ m.dev = { d with cxl := { d.cxl with poison := m.dev.cxl.poison } } ∧
        (∀ l, l ∈ m.dev.cxl.poison ↔ if l = a / 64 then p = true else l ∈ d.cxl.poison) ∧
        ∀ i, mget m.dram i = if regionBase regWindow + a ≤ i ∧ i < regionBase regWindow + a + 64
          then byteAt data (i - (regionBase regWindow + a)) else mget s.m.dram i)) ∧
    (d.isHeld 39 = false → d.ideRefuses F.CXL_IDE_MEM_SECURE = false → d.decode addr = some a → d.memoryActive = false →
      ends (.cxlMemRequest false addr data p .clean) s fun b =>
        b.out = d.out ++ [.memRead addr (toLE (Config.freeValue d.free % 2 ^ 512) 64) true] ∧ bit (b.get F.CXL_STICKY) 4 = true) ∧
    (d.isHeld 39 = false → d.flag F.CXL_HDM_COMMITTED = false ∨ d.cxl.lock = false →
      (d.flag F.HBM_ALLOC_DONE = true → size = d.windowSize → ends (.hdmDecoderCommit base size true lock true) s fun b =>
        b.cxl = { d.cxl with base := base - base % 2 ^ 28, size := size, lock := lock, refused := false } ∧
        d.sets [(F.CXL_HDM_COMMITTED, 1)] { b with cxl := d.cxl }) ∧
      (d.flag F.HBM_ALLOC_DONE = false ∨ size ≠ d.windowSize → ends (.hdmDecoderCommit base size true lock true) s fun b =>
        b.get F.CXL_HDM_COMMITTED = 0 ∧ b.cxl.refused = true ∧ bit (b.get F.CXL_STICKY) 3 = true ∧
        d.alikeBut [F.CXL_HDM_COMMITTED] { b with cxl := d.cxl })) ∧
    ends (.h2dSnoop addr) s fun b => b = { d with out := d.out ++ [.snoopRsp addr] }) ∧
  (∀ (mem : Bool) (v : Fin 64) (addr data : Nat) (s : State),
    let d := s.m.dev
    let stream := if mem then F.CXL_IDE_MEM_SECURE else F.CXL_IDE_IO_SECURE
    d.boot.porN = true →
    (1 ≤ d.get F.CXL_MODE → d.get F.CXL_MODE ≤ 3 → d.isHeld 39 = false → ends (.ideKeyEstablish mem) s fun b => d.sets [(stream, 1)] b) ∧
    (d.flag stream = true → ends (.ideFail mem) s fun b => b.get stream = 0 ∧ bit (b.get F.CXL_STICKY) 2 = true ∧ d.alikeBut [stream] b) ∧
    (v.val ∈ d.msixPend → addr ≠ 0 → ends (.msixUnmask v addr data) s fun b => b = { d with
      msix := tset d.msix v ⟨addr, data⟩, msixPend := d.msixPend.filter (· != v.val), out := d.out ++ [.msix addr data] }) ∧
    (v.val ∉ d.msixPend → ends (.msixUnmask v addr data) s fun b => b = { d with msix := tset d.msix v ⟨addr, data⟩ }))

/-! Power-up and bring-up. -/

/-- POR_N, asserted, returns every register but the OEM fuses to its reset value and empties every memory but the flash.
Released, the fuses load and the replicas and banks are repaired: step 2 is completed with the spares used and BOOT_SEL as
sampled; bad fuses, a replica that needs more than 17 spares and a bank of the firmware's that cannot be repaired are the fatal
failures 1, 2 and 3; another failed bank is never powered, and DEGRADED is set (R511, R539, R540, R541). The steps after the
image: FIRMWARE_START runs both cores, lets Lampblack record and applies the board block; a stack's training shows its outcome,
and a failure in bring-up sets DEGRADED, as a lane that fails does; FORWARDING_LOAD puts the image's rules in force as
generation 1; FIRST_LIGHTING makes Wick A of every lantern ACTIVE and Wick B READY and sets FW_READY (R394, R540, R546, R547).
-/
def Obligations.PowerAndBringUp : Prop :=
  (∀ (s : State) (sel : Fin 4) (ok : Bool) (east west : Nat) (banks : List (Fin 64)),
    let d := s.m.dev
    let dead := fun (code : Nat) (b : Dev) =>
      b.get F.BT_FAILED = 1 ∧ b.get F.BT_FAIL_CODE = code ∧ b.boot.faultN = false ∧ b.boot.porN = true
    endsMach .porNAssert s (fun m => m.clk = Clock.reset ∧ m.dram = [] ∧ m.dev.boot.porN = false ∧ m.dev.boot.flash = d.boot.flash ∧
      m.dev.get F.BT_OEM_FUSE_LO = d.get F.BT_OEM_FUSE_LO ∧ m.dev.get F.BT_OEM_FUSE_HI = d.get F.BT_OEM_FUSE_HI ∧
      ∀ f : Fld, f.key ≠ F.BT_OEM_FUSE_LO.key → f.key ≠ F.BT_OEM_FUSE_HI.key → m.dev.get f = Dev.reset.get f) ∧
    (d.boot.porN = false →
      (ok = false → ends (.porNRelease sel ok (east, west) banks) s (dead 1)) ∧
      (ok = true → 17 < east ∨ 17 < west → ends (.porNRelease sel ok (east, west) banks) s (dead 2)) ∧
      (ok = true → east ≤ 17 → west ≤ 17 → (∃ b ∈ banks, b.val < 4) → ends (.porNRelease sel ok (east, west) banks) s (dead 3)) ∧
      (ok = true → east ≤ 17 → west ≤ 17 → (∀ b ∈ banks, 4 ≤ b.val) → ends (.porNRelease sel ok (east, west) banks) s fun b =>
        b.boot.porN = true ∧ b.boot.step = 2 ∧ b.get F.BT_STEP = 2 ∧ b.get F.BT_BOOT_SEL = sel.val ∧ b.get F.BT_SPARES_EAST = east ∧
        b.get F.BT_SPARES_WEST = west ∧ (banks ≠ [] → b.get F.BT_DEGRADED = 1) ∧
        ∀ x : Fin 64, b.get (F.SC_FAILED x) = (if x ∈ banks then 1 else 0) ∧ (x ∈ banks → b.get (F.SC_OWNER x) = 0 ∧ b.get (F.SC_POWERED x) = 0)))) ∧
  (∀ (s : State) (st : Fin 4) (up : Bool) (at_ lanes : Nat) (bad : List (Fin 520)),
    let d := s.m.dev
    let k := s.m.clk
    d.boot.porN = true →
    (∀ i, d.boot.step = 4 → d.boot.image = some i → ends .firmwareStart s fun b => ∃ e : Dev,
      b = i.board.foldl (fun d p => d.boardWrite k p) e ∧ e.lamp.recording = true ∧ e.boot.step = 5 ∧
      e.get F.SC_CORE0_RUN = 1 ∧ e.get F.SC_CORE1_RUN = 1) ∧
    (bit (d.get F.HBM_STACK_UP ||| d.get F.HBM_STACK_DOWN) st = false → d.isHeld 35 = false → 5 ≤ d.boot.step → lanes < 64 →
      ends (.dramTraining st up at_ lanes) s fun b => b.get (F.HBM_STEP st) = (if up then 5 else min 4 at_) ∧
        b.get (F.HBM_FAILED st) = b2n !up ∧ b.get (F.HBM_LANES_REPAIRED st) = lanes ∧ (up = true → bit (b.get F.HBM_STACK_UP) st = true) ∧
        (up = false → d.boot.step = 5 → b.get F.BT_DEGRADED = 1)) ∧
    (d.boot.step = 5 → d.boot.serdes = false → ends (.serdesCalibration bad) s fun b => b.boot.serdes = true ∧
      (bad ≠ [] → b.get F.BT_DEGRADED = 1) ∧
      ∀ n : Fin 520, bit (b.get (F.BT_LANE_FAILED (n / 32))) (n % 32) = (decide (n ∈ bad) || bit (d.get (F.BT_LANE_FAILED (n / 32))) (n % 32))) ∧
    (∀ i, d.boot.step = 7 → d.boot.image = some i → i.fwd ≠ [] → d.rules.gen = 0 → d.standbyBusy = false →
      (∀ w ∈ d.smi.waits, isSwap w.kind = false) → ends .forwardingLoad s fun b =>
        b.rules.gen = 1 ∧ b.rules.held = none ∧ b.get F.GL_LAST_COMMIT_GROUPS = 1) ∧
    (d.boot.step = 7 → d.rules.gen ≠ 0 → (∀ l : Fin 32, d.wick l .a = wkOff ∧ d.wick l .b = wkOff ∧
        (d.lantern l).overlap = none ∧ (d.lantern l).force = none) →
      ends (.firstLighting []) s fun b => (∀ l : Fin 32, b.wick l .a = wkActive ∧ b.wick l .b = wkReady) ∧
        b.get F.SM_FW_READY = 1 ∧ b.boot.step = 9))

/-- BOOT_IMAGE_CHECK in step 4 of bring-up: the flash image with the higher SERIAL, area A at a tie, boots when it is good;
with neither good, and no push to fall back on, the failure is fatal, code 4; a pushed image boots when it is good and else is
refused with PUSH_FAIL (R540, R541, R543, R544). -/
def Obligations.ImageBoots : Prop :=
  ∀ (push : HostRead) (s : State),
    let d := s.m.dev
    d.boot.porN = true → d.flag F.BT_FAILED = false → d.boot.step = 2 ∨ d.boot.step = 3 →
    let a := mread d.boot.flash 0 0x1000000
    let b := mread d.boot.flash 0x1000000 0x1000000
    let second := decide (leAt a 4 4 < leAt b 4 4)
    let first := if second then b else a
    let img := sliceZ push.bytes 0 (d.get F.BT_PUSH_LEN)
    let boots := fun (i : Image) (e : Dev) => e.boot.step = 4 ∧ e.get F.BT_STEP = 4 ∧ e.boot.image = some i ∧ e.get F.BT_SOURCE = i.source
    (d.boot.pushWait = false →
      (imageGood first = true → ends (.bootImageCheck push [] []) s (boots (imageOf (if second then 2 else 1) false first))) ∧
      (imageGood a = false → imageGood b = false → d.get F.BT_BOOT_SEL ≠ 2 → ends (.bootImageCheck push [] []) s fun e =>
        e.get F.BT_FAILED = 1 ∧ e.get F.BT_FAIL_CODE = 4 ∧ e.boot.faultN = false)) ∧
    (d.boot.pushWait = true → d.boot.pushGo = true →
      (push.ended = .whole → imageGood img = true → ends (.bootImageCheck push [] []) s (boots (imageOf 3 false img))) ∧
      (push.ended ≠ .whole ∨ imageGood img = false → ends (.bootImageCheck push [] []) s fun e =>
        e.get F.BT_PUSH_FAIL = 1 ∧ e.boot.pushGo = false ∧ e.boot.step = 3))

/-! Chandler. -/

/-- A tally period boundary comes once in a tick, at a whole millisecond of network time, while neither Chandler nor the time
unit is held: the period in progress is reported, the next begins with its number, and takes the mode and budget then applied.
PLAN_REBUILD plans all 16 periods at the setpoint the mode and the forecast column ask for (R78, R79, R90, R91, R94). The
slices of the five maintenance works count as run in the period. A slice of aging owes 1/64 of the station slots' visits; one
of the compare adds the records found to differ, each once, and moves both positions; one of the scratchpad test lends the next
testable bank in turn; one of the archive adds 1/16 of the counters to the generation in progress; one of the scrub moves to
the next 64 MiB (R95, R96, R205, R222, R393, R513, R529). -/
def Obligations.PeriodsAndSlices : Prop :=
  (∀ (s : State) (ok : Bool),
    let d := s.m.dev
    let k := s.m.clk
    d.boot.porN = true →
    (k.atMs = true → d.chan.lastTick ≠ some k.tick → d.isHeld 37 = false → d.isHeld 38 = false →
      ends (.tallyPeriodBoundary ok) s fun b => b.chan.inPeriod = true ∧ b.chan.begun = d.chan.begun + 1 ∧ b.chan.lastTick = some k.tick ∧
        b.chan.start = (k.sec % 2 ^ 32, k.ns) ∧ b.chan.mode = d.get F.CHANDLER_CTRL_MODE ∧ b.chan.budget = d.get F.ENERGY_BUDGET_BUDGET ∧
        b.get F.CHANDLER_STATUS_MODE_APPLIED = d.get F.CHANDLER_CTRL_MODE ∧ b.get F.CH_PERIOD_LO = d.chan.begun % 2 ^ 32 ∧
        (d.chan.inPeriod = true → ∃ r, b.chan.records = r :: d.chan.records.take 255 ∧ r.period = d.chan.begun - 1 ∧
          r.startNs = d.chan.start.2 ∧ r.mode = d.chan.mode ∧ r.setpoint = d.get F.CHANDLER_STATUS_SETPOINT ∧ r.gain = d.get F.CH_GAIN)) ∧
    (d.chan.lastTick = some k.tick → ends (.tallyPeriodBoundary ok) s fun b => b = d) ∧
    (d.chan.rebuild = true → d.flag F.CHANDLER_STATUS_CALIBRATED = true → ends .planRebuild s fun b => b.chan.rebuild = false ∧
      b.chan.planMode = d.chan.mode ∧ b.chan.planBudget = d.chan.budget ∧
      ∀ q < 16, b.get (F.PLAN_SETPOINT q) = d.setpointIn d.chan.mode d.forecastColumn) ∧
    (d.chan.rebuild = false → ends .planRebuild s fun b => b = d)) ∧
  (∀ (s : State) (host : List (Nat × Nat × Nat)),
    let d := s.m.dev
    let ran := fun (w : Nat) (b : Dev) => b.chan.ran = d.chan.ran ||| 2 ^ w
    d.boot.porN = true →
    (d.flag F.BUSHEL_CTRL_AGE_EN = true → ends .agingSlice s fun b => ran 0 b ∧ b.tbl = { d.tbl with owed := d.tbl.owed + sliceVisits }) ∧
    (d.flag F.BUSHEL_CTRL_COMPARE_EN = true → ends (.compareSlice host) s fun b => ran 1 b ∧
      b.tbl = { d.tbl with diffs := b.tbl.diffs, ternAt := (d.tbl.ternAt + 1) % 8, otherAt := (d.tbl.otherAt + 1) % 256 } ∧
      ∃ new, b.tbl.diffs = d.tbl.diffs ++ new ∧ ∀ x ∈ new, x ∉ d.tbl.diffs) ∧
    (∀ n, d.sconce.test = none → d.nextTestBank = some n → ends .scratchpadTestSlice s fun b => ran 2 b ∧
      b.sconce.test = some ⟨n, 0, 0, false⟩ ∧ b.get (F.SC_OWNER n) = 4 ∧ b.get (F.SC_LENT_FROM n) = d.get (F.SC_OWNER n)) ∧
    (d.flag F.PC_ARCHIVE_EN = true → d.flag F.HBM_ALLOC_DONE = true →
      (∀ g ∈ d.arch, g.number = d.archGen → g.complete = true) → ends .archiveFlushSlice s fun b => ran 3 b ∧
        ∃ g ∈ b.arch, g.number = d.archGen ∧ g.complete = false ∧ g.slices = 1 ∧ g.recs = trange d.ctrs 0 131072) ∧
    (d.flag F.HBM_SCRUB_EN = true → d.flag F.HBM_ALLOC_DONE = true → d.isHeld 35 = false →
      ∀ e o, d.scrubAt = some (e, o) → ends (.scrubSlice [] []) s fun b => ran 4 b ∧
        b.get F.HBM_SCRUB_NEXT = if d.get F.HBM_SCRUB_NEXT + 1 < 16 * d.allocated.length then d.get F.HBM_SCRUB_NEXT + 1 else 0))

/-- AVSBus: VDONE makes the voltage written the one in force and, before calibration, ends the movement and every wait for it;
a write that does not settle is sent once more, and after that the lower of the two values is taken, with flag 6; in a
calibration with CAL_CODE 4. A calibration whose readings come and agree within 15 mV moves VDD_CORE to START_VSET, held
between 750 and 800 mV; a missing AVSBus reading ends it with code 2, a missing or disagreeing READ_VOUT with code 3, and after
its 16 periods it ends with code 5 when 8 or more failed, else 0, and CALIBRATED shows code 0 (R93, R545). -/
def Obligations.AvsAndCalibration : Prop :=
  ∀ (s : State),
    let d := s.m.dev
    d.boot.porN = true →
    (∀ w, d.chan.avs = some w →
      (ends .avsVdone s fun b => b.chan.taken = w.mv ∧ b.chan.hold = 0 ∧ (d.flag F.CHANDLER_STATUS_CALIBRATED = false →
        b.chan.avs = none ∧ b.get F.CHANDLER_STATUS_MOVING = 0 ∧ ∀ p, (b.port p).waitVolt = false)) ∧
      (w.resent = false → ends .avsSettleTimeout s fun b => b = { d with
        chan := { d.chan with avs := some { w with resent := true } }, out := d.out ++ [.avs (d.get F.AVS_CTRL_AVS_RAIL) w.mv] }) ∧
      (w.resent = true → ends .avsSettleTimeout s fun b => b.chan.avs = none ∧ b.chan.taken = min w.old w.mv ∧ b.chan.hold = w.old ∧
        b.get F.CHANDLER_STATUS_MOVING = 0 ∧ bit (b.get F.CHANDLER_FLAGS_FLAGS) 6 = true ∧
        (d.chan.cal = some .awaitVDone → b.get F.BT_CAL_CODE = 4 ∧ b.chan.cal = none))) ∧
    (∀ mode avs vout, d.chan.cal = some .awaitReadings →
      (avs = none → ends (.chandlerCalibration (.readings mode avs vout)) s fun b => b.get F.BT_CAL_CODE = 2 ∧
        b.get F.CHANDLER_STATUS_CALIBRATED = 0 ∧ b.chan.cal = none) ∧
      (avs ≠ none → vout = none → ends (.chandlerCalibration (.readings mode avs vout)) s fun b => b.get F.BT_CAL_CODE = 3 ∧
        b.get F.CHANDLER_STATUS_CALIBRATED = 0 ∧ b.chan.cal = none) ∧
      (∀ a v, avs = some a → vout = some v → ((a : Int) * 65536 - linear16 mode v * 1000).natAbs ≤ 15 * 65536 →
        ends (.chandlerCalibration (.readings mode avs vout)) s fun b =>
          let mv := min 800 (max 750 (d.get F.BT_START_VSET))
          b.chan.cal = some .awaitVDone ∧ b.chan.avs = some ⟨mv, d.chan.taken, false⟩ ∧ b.get F.CHANDLER_STATUS_SETPOINT = mv ∧
          b.out = d.out ++ [.avs (d.get F.AVS_CTRL_AVS_RAIL) mv]) ∧
      (∀ a v, avs = some a → vout = some v → 15 * 65536 < ((a : Int) * 65536 - linear16 mode v * 1000).natAbs →
        ends (.chandlerCalibration (.readings mode avs vout)) s fun b => b.get F.BT_CAL_CODE = 3 ∧ b.chan.cal = none)) ∧
    (∀ failed, d.chan.cal = some (.observing 16 failed) → ends (.chandlerCalibration .observed) s fun b =>
      b.get F.BT_CAL_CODE = (if 8 ≤ failed then 5 else 0) ∧ b.get F.CHANDLER_STATUS_CALIBRATED = b2n (failed < 8) ∧ b.chan.cal = none)

/-- Readings. READ_VOUT of slot 0, within the range of R12, is one sample of the period's voltage; a failed one gives none.
READ_POUT of an enabled slot is its power, a failed one is noted. A sensor's reading within the range is kept, and above the
bound of the column in use it brings the 105 °C column and flag 7 at once. A reading outside the range has no specified
behaviour: the model stops (R12, R86, R87, R103). A sentinel window's end publishes the eight counts and stage rates together,
and the lowest rate with its ring, the first of equals; SENTINEL_LOW is set when it lies below the floor (R72, R73, R74). -/
def Obligations.ReadingsAndSentinels : Prop :=
  (∀ (s : State) (i : Fin 4) (r : Nat) (tj : Int),
    let d := s.m.dev
    d.boot.porN = true →
    (d.flag (F.PMBUS_SLOT_EN 0) = true →
      (vddLow ≤ linear16 d.chan.voutMode r → linear16 d.chan.voutMode r ≤ vddHigh → ends (.readVout i (some r)) s fun b =>
        b = { d with chan := { d.chan with vout := d.chan.vout ++ [linear16 d.chan.voutMode r] } }) ∧
      (linear16 d.chan.voutMode r < vddLow ∨ vddHigh < linear16 d.chan.voutMode r →
        exec (.readVout i (some r)) s = .fault .outsideOperatingRange)) ∧
    ends (.readVout i none) s (fun b => b = d) ∧
    (d.flag (F.PMBUS_SLOT_EN i) = true →
      ends (.readPout i (some r)) s (fun b => b = { d with chan := { d.chan with pout := tset d.chan.pout i (linear11 r) } }) ∧
      ends (.readPout i none) s (fun b => b = { d with chan := { d.chan with poutFail := d.chan.poutFail ||| 2 ^ i.val } })) ∧
    (-10 ≤ tj → tj ≤ 105 →
      (d.flag F.CHANDLER_STATUS_CALIBRATED = false ∨ tj ≤ d.chan.column → ends (.tjSample tj) s fun b =>
        b = { d with chan := { d.chan with tjs := d.chan.tjs ++ [tj] } }) ∧
      (d.flag F.CHANDLER_STATUS_CALIBRATED = true → (d.chan.column : Int) < tj → ends (.tjSample tj) s fun b =>
        b.chan.tjs = d.chan.tjs ++ [tj] ∧ b.chan.column = 105 ∧ bit (b.get F.CHANDLER_FLAGS_FLAGS) 7 = true)) ∧
    (tj < -10 ∨ 105 < tj → exec (.tjSample tj) s = .fault .outsideOperatingRange)) ∧
  (∀ (s : State) (l : Fin 32) (counts : List Nat),
    let d := s.m.dev
    let n := fun (i : Nat) => counts.getD i 0 % 2 ^ 24
    let ticks := 256 * 4 ^ d.get (F.SENTINEL_CTRL_WINDOW_SEL l)
    let rate := fun (i : Nat) => n i * d.get (F.SENTINEL_RATIO_RATIO l i) * 100000 / (4096 * ticks * 128) % 65536
    d.boot.porN = true → d.flag (F.SENTINEL_CTRL_SENTINEL_EN l) = true → d.isHeld l = false →
    ends (.sentinelWindowEnd l counts) s fun b =>
      (∀ i < 8, b.get (F.SENTINEL_COUNT_COUNT l i) = n i ∧ b.get (F.SENTINEL_RATE_STAGE_RATE l i) = rate i ∧
        b.get (F.SENTINEL_RATE_VALID l i) = 1) ∧
      (∃ j < 8, b.get (F.SENTINEL_MIN_MIN_RATE l) = rate j ∧ b.get (F.SENTINEL_MIN_MIN_INDEX l) = j ∧ (∀ i < 8, rate j ≤ rate i) ∧
        (∀ i < j, rate j < rate i) ∧ (rate j < d.get (F.SENTINEL_FLOOR l) → b.get (F.SENTINEL_MIN_SENTINEL_LOW l) = 1)) ∧
      b.get (F.SENTINEL_MIN_VALID l) = 1 ∧ b.frames = d.frames ∧ b.lanterns = d.lanterns)

/-! Ingress and the chains. -/

/-- Frames as they are received. A cell write appends up to the end of the present cell; the MAC cuts an oversize frame 4 bytes
short of MAX_FRAME; a reception that ends takes the outcome jabber, oversize, runt, FCS or good, in that order, and frees the
port's receiver. A header whose window is complete joins its lantern's FIFO, or is dropped when that holds 128 (R60, R119,
R122, R123, R229). -/
def Obligations.FrameReception : Prop :=
  ∀ (s : State) (fid : Nat) (f : Frame) (data : Bytes),
    let d := s.m.dev
    let l := f.ingress / 16
    d.boot.porN = true → d.frame? fid = some f →
    (f.ended = none → f.cut = false → f.refused = false → data ≠ [] → f.bytes.length / 256 < f.cells.length →
      ends (.cellWrite fid data) s fun b =>
        b.frame? fid = some { f with bytes := f.bytes ++ data.take (256 - f.bytes.length % 256) } ∧
        (f.decided = false → (tget? b.bm.cells (f.cells.getD (f.bytes.length / 256) 0)).map CellRec.data =
          some (f.bytes.drop (256 * (f.bytes.length / 256)) ++ data.take (256 - f.bytes.length % 256)))) ∧
    (f.ended = none → f.cut = false → f.refused = false → f.maxFrame - 4 ≤ f.bytes.length + data.length →
      ends (.frameOversizeCut fid data) s fun b => ∃ g, b.frame? fid = some g ∧ g.cut = true ∧
        g.bytes = ((f.bytes ++ data).take (f.maxFrame - 4)).take (256 * g.cells.length) ∧
        g.cells = f.cells.take (ceilDiv ((f.bytes ++ data).take (f.maxFrame - 4)).length 256)) ∧
    ((d.port f.via).rx = some fid → f.via < 512 → f.refused = false →
      let o := rxOutcome f.bytes.length f.maxFrame (fcsGood f.bytes)
      ends (.frameReceptionEnd fid [] false false) s fun b => (b.port f.via).rx = none ∧
        (o = .good → etherType f.bytes ≠ 0x8808 → ∃ g, b.frame? fid = some g ∧ g.ended = some .good ∧ g.rxLen = f.bytes.length ∧
          g.bytes = f.bytes) ∧
        (o = .runt → b.get (F.MAC_STICKY_RUNT_SEEN f.via) = 1) ∧ (o = .fcs → b.get (F.MAC_STICKY_FCS_ERR_SEEN f.via) = 1) ∧
        (o = .oversize → b.get (F.MAC_STICKY_OVERSIZE_SEEN f.via) = 1) ∧ (o = .jabber → b.get (F.MAC_STICKY_JABBER_SEEN f.via) = 1)) ∧
    (f.via < 512 → f.ingress < 512 → f.pass = 1 → f.headed = false → f.refused = false → f.decided = false →
      512 ≤ f.bytes.length ∨ f.ended = some .good → etherType f.bytes ≠ 0x8808 → d.isHeld l = false →
      ((d.lantern l).fifo.length < 128 → ends (.headerWindowComplete fid) s fun b =>
        (b.lantern l).fifo = (d.lantern l).fifo ++ [fid] ∧ b.get (F.HDR_FIFO_STATUS_LEVEL l) = (d.lantern l).fifo.length + 1 ∧
        b.frame? fid = some { f with headed := true, staMatch := d.staMatch f.ingress (beAt f.bytes 0 6) }) ∧
      (128 ≤ (d.lantern l).fifo.length → ends (.headerWindowComplete fid) s fun b => b.get (F.HDR_FIFO_STATUS_HDR_FIFO_DROP l) = 1 ∧
        (b.lantern l).fifo = (d.lantern l).fifo))

/-- The chains. The dealer gives the next header the next position and chain, at stage 0. A stage begins a fresh header's word:
the key is gathered and the lookups asked for are awaited; a header whose opcode is built in passes through unchanged, into the
next stage. The Bushel's and the ternary array's results are written into the header's vector (R36, R58, R147, R159, R160,
R161). -/
def Obligations.ChainSteps : Prop :=
  ∀ (s : State) (l : Fin 32) (c : Fin 4) (st : Fin 20) (pl : Fin 24) (h : Header) (hs : List Header) (w fid : Nat) (f : Frame) (front t : Bool),
    let d := s.m.dev
    let i := c.val * 20 + st.val
    let x := d.lantern l
    d.boot.porN = true → d.isHeld l = false →
    (x.nextDeal = some (fid, front) → d.activeWick l ≠ none → d.dealersHeld = false → d.frame? fid = some f →
      (tgetD x.stages (x.chain * 20) []).length < 24 → front = true ∨ s.m.clk.tick ≤ f.passStart + 15625 →
      ends (.headerDeal l) s fun b => ∃ g, (b.lantern l).nextPos = x.nextPos + 1 ∧ (b.lantern l).chain = (x.chain + 1) % 4 ∧
        tgetD (b.lantern l).stages (x.chain * 20) [] = tgetD x.stages (x.chain * 20) [] ++ [g] ∧ g.pos = x.nextPos ∧ g.fid = fid ∧
        g.chain = x.chain ∧ g.window = f.bytes.take 512 ∧ g.phase = .fresh ∧
        (f.pass = 1 → g.op = (if 0xFE ≤ d.get (F.ENTRY_OP f.ingress) then 0xFE else d.get (F.ENTRY_OP f.ingress)))) ∧
    (d.stageList l i = h :: hs → h.phase = .fresh → (∀ y ∈ hs, y.pos ≠ h.pos) → d.select h st h.op = .word w →
      h.outOfRange w = false → bit w 1 = true ∨ bit w 2 = true → ends (.stageExecute l c st [] none true) s fun b =>
        b.stageList l i = { h.parse w with disp := h.op, key := (h.parse w).keyOf w, phase := .waiting (bit w 1) (bit w 2) } :: hs) ∧
    (d.stageList l i = h :: hs → h.phase = .waiting false false → (∀ y ∈ hs, y.pos ≠ h.pos) → 0xFE ≤ h.op → st.val < 19 →
      d.activeWick l ≠ none → (d.stageList l (i + 1)).length < 24 → ends (.stageExecute l c st [] none true) s fun b =>
        b.stageList l i = hs ∧ b.stageList l (i + 1) = d.stageList l (i + 1) ++ [{ h with phase := .fresh }]) ∧
    ((d.stageList l i)[pl.val]? = some h → h.phase = .waiting true t → d.select h st h.op = .word w →
      ends (.bushelReadComplete l c st pl .clean .clean) s fun b =>
        let learns := bit w 3 && (wordActs w).any (fun a => bits a 26 6 == 0x10)
        let read := d.bushelRead s.m.clk (decide (16 ≤ l.val)) learns (bits w 264 8) h.key h.resultB .clean .clean
        (b.stageList l i)[pl.val]? = some { h with phase := .waiting false t, hv := putBytes h.hv (256 + 48) read.1 }) ∧
    ((d.stageList l i)[pl.val]? = some h → h.phase = .waiting t true → ends (.ternarySearchComplete l c st pl) s fun b =>
      b = { d with lanterns := b.lanterns } ∧ (b.stageList l i)[pl.val]? = some { h with
        phase := .waiting t false, hv := putBytes h.hv (256 + 42) (d.ternary l (h.gen % 2) h.key) })

/-- Snuffs and releases. A handshake that times out snuffs its wick: a READY wick that is not active at once, the active one
with a READY twin by a takeover, which ends with the twin ACTIVE. The reorder unit releases results in dealing order. A punt
policer's refill adds its rate up to its burst. What lies beyond 512 bytes is charged once (R36, R145, R169, R274, R335, R336,
R338). -/
def Obligations.ReleasesAndSnuffs : Prop :=
  ∀ (s : State) (l : Fin 32) (c : Fin 4) (st : Fin 20) (w : Wick) (h : Header) (hs : List Header) (fid : Nat) (f : Frame),
    let d := s.m.dev
    let x := d.lantern l
    d.boot.porN = true →
    (d.stageList l (c.val * 20 + st.val) = h :: hs → h.has w = true → h.phase = .fresh → d.inService l w = true → x.overlap = none →
      x.task = .none →
      (d.activeWick l ≠ some w → d.wick l w = wkReady → ends (.handshakeTimeout l c st w) s fun b => b.wick l w = wkSnuffed ∧
        b.wick l w.other = d.wick l w.other ∧ b.get (F.WICK_STICKY_STANDBY_SNUFF_SEEN l) = 1) ∧
      (d.activeWick l = some w → d.wick l w.other = wkReady → ends (.handshakeTimeout l c st w) s fun b =>
        (b.lantern l).overlap = some w ∧ b.get (F.WICK_ROLE_OVERLAP l) = 1 ∧ b.get (F.SNUFF_INFO_CAUSE l) = 5 ∧
        b.get (F.SNUFF_INFO_WICK l) = w.num)) ∧
    (x.overlap = some w → ends (.overlapWindowClose l) s fun b => b.wick l w = wkSnuffed ∧ b.wick l w.other = wkActive ∧
      (b.lantern l).overlap = none ∧ b.get (F.WICK_ROLE_OVERLAP l) = 0 ∧ b.get (F.WICK_STICKY_TAKEOVER_SEEN l) = 1) ∧
    (x.nextResult = some h → d.isHeld l = false → ends (.resultRelease l false false []) s fun b =>
      (b.lantern l).reorder = x.reorder.filter (fun y => y.pos != h.pos)) ∧
    (x.nextResult = none → ends (.resultRelease l false false []) s fun b => b = d) ∧
    (d.isHeld l = false → ends (.puntPolicerRefill l) s fun b => b = d.setLantern l { x with
      credit0 := min (x.credit0 + max 1 (d.get (F.PUNT_RATE_RATE_0 l))) (min 4096 (max 1 (d.get (F.PUNT_BURST_BURST_0 l))) * 1000)
      credit1 := min (x.credit1 + max 1 (d.get (F.PUNT_RATE_RATE_1 l))) (min 4096 (max 1 (d.get (F.PUNT_BURST_BURST_1 l))) * 1000) }) ∧
    (d.frame? fid = some f → f.ended ≠ none → ends (.trailingCharge fid true) s fun b => ∀ g, b.frame? fid = some g → g.charges = []) ∧
    (d.frame? fid = some f → f.ended = none → ends (.trailingCharge fid true) s fun b => b = d)

/-! The Bushel's own work, the rule-set swap and the wicks. -/

/-- Stations. A learn request whose frame ended well waits in its replica's queue; applied, it sets the hit bit of a station
that is where it was, changes no static, locked or frozen station, and enters a new station with both hit bits set or changes
no entry. A freeze ends at its time. A visit of the sweep clears hit bits, or sets AGED when there are none, and passes static
and locked stations (R200, R201, R202, R203, R205, R206). -/
def Obligations.StationLearning : Prop :=
  ∀ (s : State) (fid : Nat) (f : Frame) (key : Bytes) (r : LearnReq) (n : Dev) (t : Track),
    let d := s.m.dev
    let l := f.ingress / 16
    let queue := if 16 ≤ l then d.tbl.learnW else d.tbl.learnE
    d.boot.porN = true →
    (d.frame? fid = some f → f.ended = some .good → (d.lantern l).learns.find? (fun e => e.1 == fid) = some (fid, key) →
      d.flag F.BUSHEL_CTRL_LEARN_EN = true → (∀ x ∈ queue, x.key ≠ key ∨ x.port ≠ f.ingress) → queue.length < 4096 →
      ends (.learnRequest fid) s fun b => (b.lantern l).learns = (d.lantern l).learns.erase (fid, key) ∧
        (if 16 ≤ l then b.tbl.learnW else b.tbl.learnE) = queue ++ [⟨key, f.ingress, l⟩]) ∧
    (d.noStreams = true → d.nextLearn = some (r, n) →
      (∀ i e, d.findKey stations r.key = some (i, e) →
        (e.static = true ∨ e.lock = true ∨ e.frozen = true → ends (.learnApply false) s fun b => b.tbl = n.tbl) ∧
        (e.static = false → e.lock = false → e.frozen = false → leNat e.data = r.port → ends (.learnApply false) s fun b =>
          tget? (b.ents 1) i = some (if 16 ≤ r.lantern then { e with hitW := true } else { e with hitE := true }))) ∧
      (d.findKey stations r.key = none → ends (.learnApply false) s fun b => b.tbl.learnE = n.tbl.learnE ∧ b.tbl.learnW = n.tbl.learnW ∧
        (b.tbl.hash = d.tbl.hash ∨ ∃ i, tget? (b.ents 1) i = some ⟨r.key, toLE r.port 2, false, false, false, false, 0, true, true⟩))) ∧
    (d.tbl.track.find? (fun t => t.key == key) = some t → ∀ at_, t.frozen = some at_ →
      (at_ ≤ s.m.clk.abs → ends (.freezeExpiry key false) s fun b => b.tbl.track = d.tbl.track.erase t ∧
        ∀ i e, d.findKey stations t.key = some (i, e) → tget? (b.ents 1) i = some { e with frozen := false }) ∧
      (s.m.clk.abs < at_ → ends (.freezeExpiry key false) s fun b => b = d)) ∧
    (d.flag F.BUSHEL_CTRL_AGE_EN = true → d.tbl.owed ≠ 0 → d.noStreams = true → ends .agingVisit s fun b =>
      b.tbl.sweep = (d.tbl.sweep + 1) % stationSlots ∧ b.tbl.owed = d.tbl.owed - 1 ∧
      ∀ e, tget? (d.ents 1) d.tbl.sweep = some e → d.slotDead stations d.tbl.sweep = false →
        (e.static = true ∨ e.lock = true → b.tbl.hash = d.tbl.hash) ∧
        (e.static = false → e.lock = false → e.hitE = true ∨ e.hitW = true →
          tget? (b.ents 1) d.tbl.sweep = some { e with hitE := false, hitW := false, aged := false }) ∧
        (e.static = false → e.lock = false → e.hitE = false → e.hitW = false → e.aged = false →
          tget? (b.ents 1) d.tbl.sweep = some { e with aged := true }))

/-- Streams, shadows, the pool and the rule-set swap. A stream request takes the next number of a generating stream, or makes
the entry what the recovery function says. A difference that is gone at the second reading is forgotten, one still there sets
COMPARE_DIFF. Slots a group gave up become free. A committed swap is applied once the standby bank is free; then the standby
bank takes a copy of the active dispatch entries (R176, R177, R218, R223, R352, R355, R356). -/
def Obligations.SerialisedWork : Prop :=
  ∀ (s : State) (q : StreamReq) (n : Dev) (f : Frame) (x : Diff) (rest : List Diff) (sh : Shadow) (g st op seq : Nat) (p : Nat × Nat × Nat)
    (h : SwapHeld),
    let d := s.m.dev
    let k := s.m.clk
    d.boot.porN = true →
    (d.nextStream = none → ends (.streamRequestApply false) s fun b => b = d) ∧
    (d.nextStream = some (q, n) → d.frame? q.fid = some f → d.streamValid q.stream = true →
      (stFlag (d.stream q.stream) 1 = true → ends (.streamRequestApply false) s fun b =>
        leAt (b.stream q.stream) 0 2 = (leAt (d.stream q.stream) 0 2 + 1) % 65536) ∧
      (stFlag (d.stream q.stream) 1 = false → rtagSeq f.bytes = some seq → ends (.streamRequestApply false) s fun b =>
        b.stream q.stream = (recover (d.stream q.stream) k.us seq).entry)) ∧
    (d.tbl.diffs = x :: rest → d.tbl.shadows.find? (fun y => y.table == x.table && y.lantern == x.lantern) = some sh → sh.loc = 0 →
      ends (.compareConfirm false) s (fun b => b = { d with tbl := { d.tbl with diffs := rest } }) ∧
      ends (.compareConfirm true) s (fun b => b.tbl = { d.tbl with diffs := rest } ∧ b.get F.BUSHEL_STICKY_COMPARE_DIFF = 1)) ∧
    (d.tbl.released.find? (fun r => r.1 == g) = some p → ends (.poolSlotRelease g) s fun b =>
      b = { d with tbl := { d.tbl with released := d.tbl.released.erase p } }) ∧
    (d.rules.held = some h → h.committed = true → d.standbyBusy = false → (∀ w ∈ d.smi.waits, isSwap w.kind = true → w.req.genCheck = false) →
      ends .rulesetSwapApply s fun b => b.rules = ⟨(d.rules.gen + 1) % 65536, none, h.copy⟩) ∧
    (d.rules.copying = true → d.oldResident = false → d.index.Pairwise (fun a b => a.1 < b.1) → st < 20 → op < 256 →
      ends .dispatchCopyComplete s fun b => b.rules = { d.rules with copying := false } ∧
        tget? b.index (0x21 * 2 ^ 24 + dispIndex d.activeBank st op) = tget? d.index (0x21 * 2 ^ 24 + dispIndex d.activeBank st op) ∧
        leAt (b.record 0x21 (dispIndex d.standbyBank st op) 2) 0 2 = leAt (d.record 0x21 (dispIndex d.activeBank st op) 2) 0 2)

/-- Trims and relights of a lantern without an open overlap window or a FORCE that waits. A trim ends when no result dealt
before its marker is left: the roles change. At an instant of its period a trim begins, or is tried again a second later. A
relight goes from its scrub to its bubble, where the wick enters LIGHTING, or ACTIVE in a halted lantern, and to READY once the
headers dealt before have gone; a bad word ends it (R343, R344, R345, R346). -/
def Obligations.WickProcedures : Prop :=
  ∀ (s : State) (l : Fin 32) (w : Wick) (mk n : Nat) (c : Fin 4) (st : Fin 20) (bk : Fin 3),
    let d := s.m.dev
    let x := d.lantern l
    d.boot.porN = true → x.overlap = none → x.force = none →
    (x.task = .trim (some mk) none → d.activeWick l = some w → (∀ h ∈ x.headers ++ x.reorder, mk ≤ h.pos) →
      ends (.trimComplete l) s fun b => b.wick l w = wkReady ∧ b.wick l w.other = wkActive ∧ (b.lantern l).task = .none ∧
        b.get (F.WK_TRIM_COUNT l) = (d.get (F.WK_TRIM_COUNT l) + 1) % 2 ^ (F.WK_TRIM_COUNT l).w ∧ b.get (F.WICK_STICKY_TRIM_DONE l) = 1) ∧
    (d.flag F.SM_FW_READY = true → x.retry ≠ some s.m.clk.sec → d.trimInstant s.m.clk l = true → x.served ≠ some s.m.clk.sec →
      (d.trimFree l = true → ends (.automaticTrim l) s fun b => (b.lantern l).task = .trim none none ∧
        (b.lantern l).served = some s.m.clk.sec ∧ b.get (F.WICK_ROLE_BUSY l) = 1) ∧
      (d.trimFree l = false → ends (.automaticTrim l) s fun b => b = d.setLantern l { x with
        served := some s.m.clk.sec, retry := some (s.m.clk.sec + 1) })) ∧
    (x.task = .relight w 1 n →
      (ends (.relightScrubComplete l none) s fun b => (b.lantern l).task = .relight w 2 0) ∧
      (ends (.relightScrubComplete l (some (c, st, bk))) s fun b => b.wick l w = wkSnuffed ∧ (b.lantern l).task = .none ∧
        b.get (F.WICK_STICKY_RELIGHT_FAIL l) = 1)) ∧
    (x.task = .relight w 2 n →
      (d.activeWick l = none → ends (.relightBubble l) s fun b => b.wick l w = wkActive ∧ (b.lantern l).task = .none) ∧
      (d.activeWick l ≠ none → ends (.relightBubble l) s fun b => b.wick l w = wkLighting ∧ (b.lantern l).task = .relight w 3 x.nextPos)) ∧
    (x.task = .relight w 3 n → (∀ h ∈ x.headers, n ≤ h.pos) → ends (.relightReady l) s fun b =>
      b.wick l w = wkReady ∧ (b.lantern l).task = .none)

/-! Egress. -/

/-- The buffer. A front port's request is granted the next cell of the free store; the round moves on. A cell read whose CRC
holds is appended to the copy sent; one whose CRC fails discards a copy not begun and stomps one begun. A spilling frame's next
cell is written to its chunk, and with the last one the frame is spilled and holds no cell. A spilled frame returns on-die when
it has its cells, or waits for them. A frame that waits for a further pass 20 µs after its first is given up (R49, R230, R233,
R235, R263, R264, R265). -/
def Obligations.BufferCommands : Prop :=
  ∀ (s : State) (p fid n q : Nat) (f : Frame) (head : Bytes) (t : Tx) (x : CellRec) (c : Copy),
    let d := s.m.dev
    let k := s.m.clk
    d.boot.porN = true → d.frame? fid = some f → d.isHeld 33 = false →
    (d.bm.waiting = [] → ends (.cellArbitrationRound []) s fun b => b.bm.round = (d.bm.round + 1) % 32) ∧
    (d.bm.waiting = [] → p < 512 → (d.port p).rx = some fid → f.refused = false → f.cut = false → f.ended = none →
      f.bytes ≠ [] → f.cells.length ≤ f.written → d.mayTake f.pool = true → d.nextCell = some n →
      ends (.cellArbitrationRound [⟨fid, p, head⟩]) s fun b => b.frame? fid = some { f with cells := f.cells ++ [n] } ∧
        tget? b.bm.cells n = some ⟨[], 0, f.later, f.pool, false⟩ ∧ b.bm.round = (d.bm.round + 1) % 32) ∧
    (∀ i, (d.port p).tx = some t → t.copy.fid = fid → t.over_ = false → (t.copy.reads f)[t.read]? = some i → f.available i = true →
      tget? d.bm.cells (f.cells.getD i 0) = some x →
      (crc32c x.data = x.crc → ends (.egressCellRead p none false) s fun b =>
        (b.port p).tx = some { t with read := t.read + 1, bytes := t.bytes ++ x.data }) ∧
      (∀ data, crc32c data ≠ x.crc → ends (.egressCellRead p (some data) false) s fun b => bit (b.get F.BM_STICKY) 1 = true ∧
        (b.port p).tx = if t.read = 0 then none else some { t with stomp := true, over_ := true })) ∧
    (∀ i, d.spillOf fid = some (q, c) → c.spilling = some i → i < f.cells.length → tget? d.bm.cells (f.cells.getD i 0) = some x →
      crc32c x.data = x.crc → x.data.length ≤ 256 → c.chunks.getD (i / 8) 0 < 2 ^ 24 →
      endsMach (.spillWriteComplete fid none) s fun m =>
        mread m.dram (chunkAt (c.chunks.getD (i / 8) 0) + 256 * (i % 8)) 256 = padTo x.data 256 ∧
        (i + 1 < f.cells.length → m.dev.queue q = (d.queue q).map fun y => if y = c then { c with spilling := some (i + 1) } else y) ∧
        (i + 1 = f.cells.length → m.dev.frame? fid = some { f with cells := [], later := 1 } ∧
          m.dev.queue q = (d.queue q).map fun y => if y = c then { c with spilling := none, spilled := true } else y)) ∧
    (d.returnable fid = some (q, c) → d.bm.waiting.any (fun e => e.1 == fid) = false →
      (∀ at_, ends (.hogsheadReturn fid (some at_)) s fun b => bit (b.get F.BM_STICKY) 7 = true ∧ b.queue q = (d.queue q).erase c) ∧
      let bytes := (c.chunks.map (fun ch => mread s.m.dram (chunkAt ch) 2048)).flatten.take f.bytes.length
      let f1 : Frame := { f with bytes := bytes, cells := [], later := 0, pool := d.get (F.BMQ_POOL q), parked := true }
      (∀ d1, (d.setFrame fid f1).takeBack f1 fid = some d1 → ends (.hogsheadReturn fid none) s fun b =>
        b.queue q = (d.queue q).map (fun y => if y.fid = fid then { y with spilled := false, chunks := [] } else y) ∧
        ∃ g, b.frame? fid = some g ∧ g.bytes = bytes ∧ g.later = 1) ∧
      ((d.setFrame fid f1).takeBack f1 fid = none → ends (.hogsheadReturn fid none) s fun b =>
        b.bm.waiting = d.bm.waiting ++ [(fid, .back q)] ∧ b.frame? fid = some f1)) ∧
    (1 < f.pass → f.passStart + passLimit ≤ k.tick →
      (d.bm.waiting.any (fun e => e.1 == fid) = true → ends (.recirculationLimit fid) s fun b => b.frame? fid = none ∧
        b.bm.waiting = d.bm.waiting.filter fun e => e.1 != fid) ∧
      ((d.lantern (f.ingress / 16)).recirc.contains fid = true → d.bm.waiting.any (fun e => e.1 == fid) = false →
        ends (.recirculationLimit fid) s fun b =>
          (b.lantern (f.ingress / 16)).recirc = (d.lantern (f.ingress / 16)).recirc.filter (· != fid)))

/-- Transmission. The copy chosen is an eligible head of the highest strict level that has one, and begins to be sent; one
whose descriptor reads uncorrectable is discarded. A copy read leaves by a front port as one frame with its FCS, stomped when
its frame did not end well or a cell failed, by port 512 as a Taper message, by a recirculation port as its frame's next pass.
The calendar's entries that shaping time has passed become due or are filed again (R48, R121, R122, R282, R283, R285, R365,
R464). -/
def Obligations.Transmission : Prop :=
  ∀ (s : State) (p : Nat) (h : Nat × Copy × Nat) (hs : List (Nat × Copy × Nat)) (d1 d2 : Dev) (bad : List (Fin 3)) (t : Tx) (f : Frame) (ok : Bool),
    let d := s.m.dev
    let k := s.m.clk
    let body := d.content t.copy f t.bytes
    d.boot.porN = true →
    (p < 518 → p ≠ 513 → d.portExists p = true → d.isHeld 34 = false → d.isHeld 33 = false → (d.port p).tx = none → d.portDue p = true →
      (d.portDrops k p).heads k p = (hs, d1) → (∀ c < 8, c ∈ d.rotation p) →
      (d1.pick p hs 64 7 = (some h, d2) → h ∈ hs ∧ (∀ e ∈ hs, d.get (F.EGQ_LEVEL (8 * p + e.1)) ≤ d.get (F.EGQ_LEVEL (8 * p + h.1))) ∧
        (ends (.schedulerSelect p false bad) s fun b => ∃ u, (b.port p).tx = some u ∧ u.q = 8 * p + h.1 ∧ u.copy.fid = h.2.1.fid ∧
          u.read = 0 ∧ u.bytes = []) ∧
        (ends (.schedulerSelect p true bad) s fun b => (b.port p).tx = none ∧ bit (b.get F.BM_STICKY) 2 = true)) ∧
      (d1.pick p hs 64 7 = (none, d2) → ends (.schedulerSelect p false bad) s fun b => (b.port p).tx = none)) ∧
    (d.isHeld 34 = false → d.egr.filed.Pairwise (fun a b => a.1 < b.1) → ends .calendarSlot s fun b =>
      ∀ key slot, tget? d.egr.filed key = some slot →
        (k.shaping < (slot + 1) * slotWidth → tget? b.egr.filed key = some slot) ∧
        ((slot + 1) * slotWidth ≤ k.shaping → let next := tgetD d.egr.next key 0
          tget? b.egr.filed key = if next ≤ k.shaping then none else some (min (next / slotWidth) (k.shaping / slotWidth + 65535)))) ∧
    ((d.port p).tx = some t → d.frame? t.copy.fid = some f → t.done f = true →
      (p < 512 → (∃ o, t.copy.kind = .forward o) → d.get (F.PTP_TC_MODE p) = 0 → body.length + 4 ≤ d.maxFrame p →
        ends (.copyTransmit p ok) s fun b => (b.port p).tx = none ∧ b.chan.bytes = d.chan.bytes + t.bytes.length ∧ ∃ l,
          b.out = d.out ++ .frame p (withFcs (padTo body 60)
            (t.stomp || f.cut || f.refused || (f.ended.isSome && f.ended != some .good))) :: l) ∧
      (p = 512 → t.stomp = false → (∃ o, t.copy.kind = .forward o) → ends (.copyTransmit p ok) s fun b =>
        (b.port p).tx = none ∧ tgetD b.taper.msgs t.copy.cls [] = tgetD d.taper.msgs t.copy.cls [] ++
          [⟨1, upMeta t.copy f body.length ++ body, false⟩]) ∧
      (514 ≤ p → t.stomp = false → t.over_ = false → f.pass < 4 → ∀ op, t.copy.kind = .forward (some op) →
        let d3 := ((d.countQueue t.q 1 (max 64 (body.length + 4))).tallyBytes t.copy t.bytes.length).afterSend p t f
        let g := (d3.nextPass p t.copy f body).1
        let d4 := (d3.nextPass p t.copy f body).2
        ((d4.setFrame d4.newFrame g).askWhole k d4.newFrame).1 = .granted → ends (.recirculationEntry p) s fun b =>
          (b.port p).tx = none ∧ (b.lantern (f.ingress / 16)).recirc = (d.lantern (f.ingress / 16)).recirc ++ [d4.newFrame] ∧
          ∃ e, b.frame? d4.newFrame = some e ∧ e.pass = f.pass + 1 ∧ e.entryOp = op ∧ e.ingress = f.ingress ∧
            e.bytes = withFcs (padTo body 60) false))

/-- Gates and refill. A pending list starts when network time reaches its CONFIG_CHANGE_TIME; an entry boundary brings the
status registers to what the list says, and a stream gate's octet counts to 0. The refill tick comes every 8,192 ns of shaping
time: pending profiles become active, and a policer due in the tick is credited, up to its burst sizes (R275, R279, R292, R293,
R294, R301). -/
def Obligations.GatesAndRefill : Prop :=
  ∀ (s : State) (p : Fin 512) (g : Fin 1024) (l : GList) (n j : Nat) (r : Bytes) (bad : List Nat),
    let d := s.m.dev
    let k := s.m.clk
    let tick := d.get64 F.EG_REFILL_NUM_LO F.EG_REFILL_NUM_HI + 1
    d.boot.porN = true → d.isHeld 34 = false →
    ((d.gate p).pend = some l →
      (l.change ≤ k.abs → ends (.gateListStart false p) s fun b => (b.gate p).run = some l ∧ (b.gate p).pend = none ∧
        b.get (F.EGP_PENDING p) = 0 ∧ b.get (F.EGP_OPER_VALID p) = 1 ∧ b.get (F.EGP_OPER_LEN p) = l.entries.length % 2048 ∧
        b.get (F.EGP_OPER_GATE_STATES p) = b.gateStates p (k.abs + d.get (F.EGP_TX_ADVANCE p))) ∧
      (k.abs < l.change → ends (.gateListStart false p) s fun b => b = d)) ∧
    ((d.sgate g).pend = some l →
      (l.change ≤ k.abs → ends (.gateListStart true g) s fun b => (b.sgate g).run = some l ∧ (b.sgate g).pend = none ∧
        b.get (F.SG_PENDING g) = 0 ∧ b.get (F.SG_OPEN g) = b2n (b.sgateOpen k g)) ∧
      (k.abs < l.change → ends (.gateListStart true g) s fun b => b = d)) ∧
    (d.portExists p = true → ends (.gateEntryChange p) s (d.sets [
      (F.EGP_OPER_GATE_STATES p, d.gateStates p (k.abs + d.get (F.EGP_TX_ADVANCE p))),
      (F.EGP_ENTRY p, (((d.gate p).pos (k.abs + d.get (F.EGP_TX_ADVANCE p))).map GatePos.entry).getD 0)])) ∧
    (ends (.streamGateEntryChange g) s fun b => b.get (F.SG_OPEN g) = b2n (d.sgateOpen k g) ∧
      b.get (F.SG_ENTRY g) = (((d.sgate g).pos k.abs).map GatePos.entry).getD 0 % 64 ∧
      ∀ start west, (d.sgateSays k g).start = some start → (d.sgate g).at_ ≠ start → b.octets g west start = 0) ∧
    (k.shape < tick * 8192 * 2 ^ 32 → ends (.refillTick bad) s fun b => b = d) ∧
    (tick * 8192 * 2 ^ 32 ≤ k.shape → (∀ w ∈ d.smi.waits, ∀ n, w.kind ≠ .policer n) → d.index.Pairwise (fun a b => a.1 < b.1) →
      ends (.refillTick bad) s fun b => b.get64 F.EG_REFILL_NUM_LO F.EG_REFILL_NUM_HI = tick % 2 ^ 64 ∧
        b.get F.EG_PROFILE_PENDING = 0 ∧
        (j < 8192 → r.length ≤ 16 → tget? d.index (0x13 * 2 ^ 24 + 8192 + j) = some r → b.record 0x13 j 16 = padTo r 16) ∧
        ((∀ i < 8192, tget? d.index (0x13 * 2 ^ 24 + 8192 + i) = none) → n < 262144 → n ∉ bad → r.length ≤ 8 →
          tget? d.index (0x12 * 2 ^ 24 + n) = some r →
          let w := d.policer n
          let f := d.profile w.prof
          let w1 : PolWord := if w.init then { w with c := f.cbs, e := f.ebs, init := false } else w
          leNat (b.record 0x12 n 8) = (if tick % 2 ^ f.div = 0 then w1.credit f else w1).word % 2 ^ 64))

/-! Ports and time. -/

/-- The link of a port. LINK_UP makes a lit port that is down or lighting UP; LINK_DOWN records the faults and takes an UP port
DOWN, ending its holds; TRAIN_TIMEOUT is reported and the port stays. LIGHT_UP lights every lane of a port; a wake pattern on a
dark lane is reported and lights a port at rest, or a dark one with WAKE_EN. A quiet port with IDLE_EN enters REST, and its
lanes darken at the boundary (R114, R116, R117, R118, R133, R134, R135, R136). -/
def Obligations.PortLinks : Prop :=
  ∀ (s : State) (p : Fin 512) (n : Fin 512) (lf rf : Bool),
    let d := s.m.dev
    let st := d.get (F.PORT_STATUS_STATE p)
    let x := d.port p
    d.boot.porN = true →
    (d.portExists p = true → st = stDown ∨ st = stLighting → x.lit = true → d.isHeld (p / 16) = false → ends (.linkUp p) s fun b =>
      b.get (F.PORT_STATUS_STATE p) = stUp ∧ b.get (F.PORT_STATUS_LOCAL_FAULT p) = 0 ∧ b.get (F.PORT_STATUS_REMOTE_FAULT p) = 0 ∧
      b.port p = { x with fromRest := false }) ∧
    (d.portExists p = true → ends (.linkDown p lf rf) s fun b => b.get (F.PORT_STATUS_LOCAL_FAULT p) = b2n lf ∧
      b.get (F.PORT_STATUS_REMOTE_FAULT p) = b2n rf ∧
      (st ≠ stUp → b.get (F.PORT_STATUS_STATE p) = st) ∧
      (st = stUp → b.get (F.PORT_STATUS_STATE p) = stDown ∧ b.get (F.PORT_STATUS_HELD p) = 0 ∧
        b.get (F.MAC_STICKY_LINK_DOWN_SEEN p) = 1 ∧ (b.port p).signal = 0)) ∧
    (d.flag (F.PORT_CFG_TRAIN_EN p) = true → x.lit = true → st = stDown ∨ st = stLighting → ends (.trainTimeout p) s fun b =>
      b.get (F.MAC_STICKY_TRAIN_FAIL p) = 1 ∧ b.get (F.PORT_STATUS_STATE p) = st ∧ b.ports = d.ports) ∧
    (st = stLighting → x.waitVolt = false → x.lit = false → ends (.lightUp p) s fun b => b.port p = { x with lit := true } ∧
      (∀ i < d.portLanes p, b.laneLit (p + i) = true) ∧
      b.get (F.PORT_STATUS_STATE p) = if x.fromRest then stLighting else stDown) ∧
    (d.laneLit n = false → d.portOf n = some p.val → ends (.wakePattern n) s fun b => b.get (F.MAC_STICKY_WAKE_SEEN p) = 1 ∧
      (st = stRest ∨ st = stDark ∧ d.flag (F.LINK_CFG_WAKE_EN p) = true → b.get (F.PORT_STATUS_STATE p) = stLighting ∧
        ((b.port p).fromRest = true ↔ st = stRest)) ∧
      (st = stDark → d.flag (F.LINK_CFG_WAKE_EN p) = false → b.get (F.PORT_STATUS_STATE p) = stDark ∧ b.ports = d.ports)) ∧
    (d.portExists p = true → d.flag (F.LINK_CFG_IDLE_EN p) = true → st = stUp ∨ st = stDown →
      (∀ c < 8, d.queue (8 * p + c) = []) → x.tx = none → x.signal = 0 → d.wantSignal p = 0 → ends (.idleHoldExpiry p) s fun b =>
        b.get (F.PORT_STATUS_STATE p) = stRest ∧ (b.port p).lit = false ∧
        b.chan.darken = d.chan.darken ++ (d.lanesOf p).filter fun i => d.laneLit i && !d.chan.darken.contains i)

/-- Flow control. With pause, the change of what the pools ask for is sent as one PAUSE frame, of PAUSE_QUANTA or 0; with
priority flow control, as one frame of the priorities that begin and end; what is signalled already is sent again at a refresh.
Pause times run out and release their classes; the watchdog releases a class held for WD_TIME and ignores pause for it until
REC_TIME has passed (R128, R129, R130). The frames' source address is the model's free value (log entry 8). -/
def Obligations.FlowControl : Prop :=
  ∀ (s : State) (p : Fin 512) (c : Fin 8) (m : Fin 256),
    let d := s.m.dev
    let x := d.port p
    let want := d.wantSignal p
    let up := d.get (F.PORT_STATUS_STATE p) = stUp
    let held := d.get (F.PORT_STATUS_HELD p)
    let quanta := d.get (F.PAUSE_TX_PAUSE_QUANTA p)
    let sent := fun (body : Bytes) (b : Dev) => ∃ sa < 2 ^ 48, b.out = d.out ++ [.frame p (controlFrame sa body)]
    d.boot.porN = true →
    (up → x.signal = 0 → want = 256 → ends (.flowControlFrameSend p) s fun b => sent (toBE 1 2 ++ toBE quanta 2) b ∧
      b.port p = { x with signal := 256 }) ∧
    (up → x.signal = 256 → want = 0 → ends (.flowControlFrameSend p) s fun b => sent (toBE 1 2 ++ toBE 0 2) b ∧
      b.port p = { x with signal := 0 }) ∧
    (up → x.signal < 256 → want < 256 → x.signal ≠ want → ends (.flowControlFrameSend p) s fun b => b.port p = { x with signal := want } ∧
      let on := want &&& (255 - x.signal)
      let off := x.signal &&& (255 - want)
      sent (toBE 0x0101 2 ++ toBE (on ||| off) 2 ++ ((List.range 8).map fun i => toBE (if bit on i then quanta else 0) 2).flatten) b) ∧
    (¬up ∨ x.signal = want → ends (.flowControlFrameSend p) s fun b => b = d) ∧
    (up → x.signal = 256 → want = 256 → ends (.pauseRefresh p) s (sent (toBE 1 2 ++ toBE quanta 2))) ∧
    (¬up ∨ want = 0 → ends (.pauseRefresh p) s fun b => b = d) ∧
    (ends (.pauseExpiry p m) s fun b => d.sets [(F.PORT_STATUS_HELD p, held &&& (255 - m.val))] b) ∧
    (d.flag (F.WD_CFG_WD_EN p) = true → bit held c = true → ends (.wdTimeExpiry p c) s fun b =>
      b.get (F.PORT_STATUS_HELD p) = held &&& (255 - 2 ^ c.val) ∧ b.get (F.MAC_STICKY_PAUSE_WD_FIRED p) = 1 ∧
      b.get (F.PORT_STATUS_WD_RECOVERY p) = d.get (F.PORT_STATUS_WD_RECOVERY p) ||| 2 ^ c.val) ∧
    ends (.recTimeExpiry p c) s fun b => b = { d with fld := b.fld } ∧ bit (b.get (F.PORT_STATUS_WD_RECOVERY p)) c = false ∧
      ∀ i : Fin 8, i ≠ c → bit (b.get (F.PORT_STATUS_WD_RECOVERY p)) i = bit (d.get (F.PORT_STATUS_WD_RECOVERY p)) i

/-- The time unit's pins and what waits for network time. The reference lost and restored; a timed input's edge captured,
dropped at 16, or merged when its pulse is under 8 ns or it follows the last by less than 40 ns; PPS_IN's timeout; PPS_OUT's
rise at its grid, skipped when less than half a period after the last, and its fall. An armed COMMIT applies its groups at its
time, an armed snapshot is taken at its time (R303, R320, R321, R322, R323, R484, R490). -/
def Obligations.TimeEvents : Prop :=
  ∀ (s : State) (i : Fin 5) (width mask sec ns : Nat) (w : Wait),
    let d := s.m.dev
    let k := s.m.clk
    let far := ∀ t, tget? d.timeU.lastEdge i = some t → 40 ≤ tickNs t k.tick
    let soon := ∃ t, d.timeU.lastRise = some t ∧ 2 * tickNs t k.tick < d.ppsPeriod
    d.boot.porN = true → d.isHeld 38 = false →
    (ends .referenceLost s fun b => b.get F.TU_HOLDOVER = 1 ∧ b.get F.TU_REF_LOCKED = 0 ∧
      d.alikeBut [F.TU_HOLDOVER, F.TU_REF_LOCKED, F.TU_TIME_STICKY] b) ∧
    (ends .referenceRestored s fun b => b.get F.TU_HOLDOVER = 0 ∧ b.get F.TU_REF_LOCKED = 1 ∧
      d.alikeBut [F.TU_HOLDOVER, F.TU_REF_LOCKED] b) ∧
    (d.inputOn i = true →
      (8 ≤ width → far → (d.fifoOf i).length < 16 → ends (.timedInputEdge i width) s fun b =>
        b.fifoOf i = d.fifoOf i ++ [(k.sec, k.ns)] ∧ tget? b.timeU.lastEdge i = some k.tick ∧ (i = 0 → b.get F.TU_PPS_PRESENT = 1)) ∧
      (8 ≤ width → far → 16 ≤ (d.fifoOf i).length → ends (.timedInputEdge i width) s fun b => b.fifoOf i = d.fifoOf i ∧
        b.get (F.TU_OVERFLOW i) = 1 ∧ tget? b.timeU.lastEdge i = some k.tick) ∧
      (width < 8 ∨ ¬far → ends (.timedInputEdge i width) s fun b => b.get (F.TU_OVERRUN i) = 1 ∧ b.timeU = d.timeU)) ∧
    (d.inputOn i = false → ends (.timedInputEdge i width) s fun b => b = d) ∧
    (d.flag F.TU_PPS_IN_EN = true → ends .ppsInTimeout s fun b => b.get F.TU_PPS_PRESENT = 0 ∧ bit (b.get F.TU_TIME_STICKY) 1 = true ∧
      d.alikeBut [F.TU_PPS_PRESENT, F.TU_TIME_STICKY] b) ∧
    (d.flag F.TU_PPS_OUT_EN = true → d.flag F.TU_TIME_VALID = true → d.ppsDue k = true →
      (¬soon → ends .ppsOutRise s fun b => b = { d with
        timeU := { d.timeU with pps := true, lastRise := some k.tick }, out := d.out ++ [.pps true] }) ∧
      (soon → ends .ppsOutRise s fun b => bit (b.get F.TU_TIME_STICKY) 5 = true ∧ d.alikeBut [F.TU_TIME_STICKY] b)) ∧
    (d.timeU.pps = true → ends .ppsOutFall s fun b => b = { d with timeU := { d.timeU with pps := false }, out := d.out ++ [.pps false] }) ∧
    (d.smi.waits = [w] → w.kind = .commit mask sec ns → k.reached sec ns = true → w.req.genCheck = false → d.rules.held = none →
      d.staged.Pairwise (fun a b => a.1 < b.1) → (∀ e ∈ d.staged, e.1 < 0x800000 * 32 ∧ ∃ f, fldOfKey e.1 = some f ∧ f.acc = .srw) →
      ends .armedCommitDue s fun b => b.smi.waits = [] ∧ b.staged = d.staged.filter (fun e => !bit mask (d.groupOfKey e.1)) ∧
        b.get F.GL_LAST_COMMIT_LO = k.ns % 2 ^ 30 ∧ b.get F.GL_LAST_COMMIT_HI = k.sec % 2 ^ 32 ∧
        b.get F.GL_LAST_COMMIT_GROUPS = mask % 65536 ∧
        ∀ e ∈ d.staged, bit mask (d.groupOfKey e.1) = true → ∀ f, fldOfKey e.1 = some f → f.quiet = true → b.get f = e.2 % 2 ^ f.w) ∧
    (d.snapDue k = some w → ends .armedSnapshotDue s fun b => b.snap = some d.ctrs ∧ b.get F.GL_SNAP_HELD = 1 ∧
      b.get F.GL_SNAP_COPYING = 1 ∧ b.get F.GL_SNAP_ARMED = 0 ∧ b.smi.waits = d.smi.waits.erase w) ∧
    ends .snapshotCopyComplete s (d.sets [(F.GL_SNAP_COPYING, 0)])

/-! The HBM. -/

/-- Requests of the HBM controller. An accepted request joins its pseudo-channel and keeps its segment awake. The request
issued is one of those the order rules let issue, of the highest urgency; an uncorrectable read is recorded. The first late
request is counted once. A refresh due adds to the debt, which is issued when no request presses, and kept within its limit
when one does. The rows carry no data: the bytes move in the clients' own commands, which is the model's choice (log entry 80)
(R383, R384, R387, R392). -/
def Obligations.DramRequests : Prop :=
  ∀ (s : State) (c r : Fin 7) (addr len : Nat) (wr : Bool) (x : DramAt) (pc : Fin 128) (q : DramReq) (e : ReadErr) (n : Nat),
    let d := s.m.dev
    let k := s.m.clk
    let limit := if d.flag (F.HBM_DOUBLED (pc / 32)) then 4 else 8
    d.boot.porN = true → d.isHeld 35 = false →
    (locate (d.region r) addr = some x → ends (.dramRequest c r addr len wr) s fun b =>
      b.pcReqs x.pc = d.pcReqs x.pc ++ [⟨c, x.bank, x.row, x.burst, wr, wr && (len < 64 || addr % 64 != 0), k.tick, false⟩] ∧
      bit b.hbm.entering (segmentOfPc x.pc) = false) ∧
    (locate (d.region r) addr = none → ends (.dramRequest c r addr len wr) s fun b => b = d) ∧
    (d.stackUp (pc / 32) = true → d.segResting (segmentOfPc pc) = false →
      (d.chooseReq k pc = some q → q ∈ d.pcReqs pc ∧ (∀ a ∈ issuable (d.pcReqs pc) [] (d.pcReqs pc), d.urgency k a ≤ d.urgency k q) ∧
        (ends (.dramRequestIssue pc e) s fun b => b.pcReqs pc = (d.pcReqs pc).erase q ∧
          (q.write = false → e = .uncorrectable n → bit (b.get F.HBM_STICKY) 1 = true ∧
            b.get64 F.HBM_LAST_ERR_FLC_LO F.HBM_LAST_ERR_FLC_HI = flcDram pc q.bank q.row n % 2 ^ 64))) ∧
      (d.chooseReq k pc = none → ends (.dramRequestIssue pc e) s fun b => b = d) ∧
      ends (.refreshDue pc) s fun b => (∀ p, p ≠ pc.val → b.pcDebt p = d.pcDebt p) ∧
        b.pcDebt pc = if d.pressing k pc then min limit (d.pcDebt pc + 1) else 0) ∧
    ((d.pcReqs pc).find? (fun a => !a.late && d.dramTarget a.client ≤ tickNs a.at_ k.tick) = some q → ends (.clientLate pc) s fun b =>
      (b.pcReqs pc).length = (d.pcReqs pc).length ∧ { q with late := true } ∈ b.pcReqs pc ∧ bit (b.get F.HBM_STICKY) 2 = true) ∧
    ((d.pcReqs pc).find? (fun a => !a.late && d.dramTarget a.client ≤ tickNs a.at_ k.tick) = none → ends (.clientLate pc) s fun b => b = d)

/-- Stacks and segments of the HBM. From 85 °C a stack's refresh doubles, with its debts issued, and stays doubled down to 82
°C. A segment planned to rest enters self-refresh once its pseudo-channels are empty, or gives the entry up while they hold a
request; a request or the loss of eligibility wakes it. A retraining that fails takes its stack down. A held ALLOC_GO gives
each region its extents once training has ended, or refuses with HBM_STICKY bit 9 when they do not fit (R380, R388, R389, R390,
R395). -/
def Obligations.DramStacks : Prop :=
  ∀ (s : State) (st : Fin 4) (t : Int) (g : Fin 16) (ch : Fin 16),
    let d := s.m.dev
    let busy := (segmentPcs g).any fun p => !(d.pcReqs p).isEmpty
    let w := d.get F.HBM_WINDOW_GIB
    let h := d.get F.HBM_HOG_GIB
    let free := (List.range 96).filter fun e => !bit (d.get F.HBM_STACK_DOWN) (e / 24)
    d.boot.porN = true → d.isHeld 35 = false →
    (ends (.stackTempRead st t) s fun b => b.get (F.HBM_TEMP st) = unsign 8 t ∧
      b.get (F.HBM_DOUBLED st) = (if t < 82 then 0 else if t < 85 then d.get (F.HBM_DOUBLED st) else 1) ∧
      (95 ≤ t → bit (b.get F.HBM_STICKY) 5 = true) ∧
      (85 ≤ t → d.flag (F.HBM_DOUBLED st) = false → bit (b.get F.HBM_STICKY) 4 = true ∧ ∀ p ∈ stackPcs st, b.pcDebt p = 0)) ∧
    (bit d.hbm.entering g = true → busy = false → bit (d.get F.HBM_SEG_LOSE) g = false ∨ d.segmentChunks g = 0 →
      ends (.selfRefreshEntry g) s fun b => b.segResting g = true ∧ bit b.hbm.entering g = false ∧ (∀ p ∈ segmentPcs g, b.pcDebt p = 0) ∧
        (bit (d.get F.HBM_SEG_LOSE) g = true → bit b.hbm.lost g = true)) ∧
    (bit d.hbm.entering g = true → busy = true → ends (.selfRefreshAbandon g) s fun b => bit b.hbm.entering g = false ∧
      b.segResting g = d.segResting g ∧ bit (b.get F.HBM_STICKY) 6 = true) ∧
    (busy = false → ends (.selfRefreshAbandon g) s fun b => b = d) ∧
    (d.segResting g = true → d.stackUp (g / 4) = true → busy = true ∨ bit (d.get F.HBM_SEG_ELIGIBLE) g = false →
      ends (.selfRefreshExit g) s fun b => b.segResting g = false ∧ bit b.hbm.lost g = false ∧ (∀ p ∈ segmentPcs g, b.pcDebt p = 0) ∧
        bit (b.get F.HBM_STICKY) 7 = true) ∧
    (busy = false → bit (d.get F.HBM_SEG_ELIGIBLE) g = true → ends (.selfRefreshExit g) s fun b => b = d) ∧
    (d.stackUp st = true → ends (.channelRetrain st ch true) s fun b => b.stackUp st = false ∧ bit (b.get F.HBM_STACK_DOWN) st = true ∧
      (∀ i < 4, b.segResting (4 * st + i) = true) ∧ bit (b.get F.HBM_STICKY) 8 = true) ∧
    (ends (.channelRetrain st ch false) s fun b => b = d) ∧
    (d.flag F.HBM_ALLOC_PENDING = true → d.trainingEnded = true → d.get F.CXL_MODE = 0 → w = 0 ∨ 4 ≤ w ∧ w ≤ 16 → h ≤ 64 →
      (((regionSizes w h).map (·.2)).sum ≤ free.length → ends .allocation s fun b => b.flag F.HBM_ALLOC_DONE = true ∧
        b.flag F.HBM_ALLOC_PENDING = false ∧ ∀ e ∈ regionSizes w h, (b.region e.1).length = e.2 ∧ ∀ x ∈ b.region e.1, x ∈ free) ∧
      (free.length < ((regionSizes w h).map (·.2)).sum → ends .allocation s fun b => b.flag F.HBM_ALLOC_PENDING = false ∧
        b.hbm = d.hbm ∧ bit (b.get F.HBM_STICKY) 9 = true))

/-! Taper. -/

/-- The Taper link. Training goes from ADAPT by LANE_ID, LOCK and CONFIG to UP, a step that fails or a timeout going back to
ADAPT; it does not start with initial credits beyond the buffer. Lock lost on a lane in use, and REPLAY_NUM replays of one
block, retrain from LANE_ID. An ACK frees the blocks up to its own, a NAK sends again from its own on, a CREDIT word sets the
peer's counts, a TRAIN word tells what the peer can use; a word whose CRC fails is ignored (R455, R459, R460, R461, R462, R471,
R472, R473). -/
def Obligations.TaperLink : Prop :=
  ∀ (s : State) (ok rev : Bool) (us pol : Fin 256) (lane : Fin 8) (w : Bytes) (x : TapBlock) (rest : List TapBlock) (n wd o : Nat),
    let d := s.m.dev
    let t := d.taper
    let st := d.get F.TAP_STATE
    let step := Instr.taperTrainStep
    let seq := leAt w 4 2 % 4096
    let back := fun (b : Dev) => b.get F.TAP_STATE = 1 ∧ bit (b.get F.TAP_STICKY) 0 = true ∧ b.taper = t
    d.boot.porN = true → d.isHeld 40 = false → t.eth = false →
    (d.flag F.TAP_EN = true →
      (st = 0 → ((List.range 16).map (fun v => d.get (F.TAP_CREDIT_INIT v))).foldl (· + ·) 0 ≤ 8192 → ends (step ok us rev pol) s fun b =>
        b.get F.TAP_STATE = 1 ∧ b.taper.seq = 0 ∧ b.taper.expected = 0 ∧ b.taper.unacked = [] ∧ b.taper.firstUp = true ∧
        ∀ v < 16, b.grantOf v = d.get (F.TAP_CREDIT_INIT v)) ∧
      (st = 0 → 8192 < ((List.range 16).map (fun v => d.get (F.TAP_CREDIT_INIT v))).foldl (· + ·) 0 → ends (step ok us rev pol) s fun b =>
        b.get F.TAP_STATE = 0 ∧ bit (b.get F.TAP_STICKY) 2 = true ∧ b.taper = t) ∧
      (1 ≤ st → st ≤ 4 → ends (step false us rev pol) s back) ∧
      (st = 1 → ends (step true us rev pol) s fun b => b.get F.TAP_STATE = 2 ∧ b.taper = { t with usable := d.tapLanes us, peerWidth := none } ∧
        b.out = d.out ++ (List.range 8).map fun i => .taper (trainWord i 2 (widthOk (d.tapLanes us)) t.expected t.firstUp)) ∧
      (st = 2 → d.tapChoose (d.tapLanes us) = some (wd, o) → ends (step true us rev pol) s fun b => b.get F.TAP_STATE = 3 ∧
        b.get F.TAP_WIDTH = wd ∧ b.get F.TAP_REVERSED = b2n rev ∧ b.get F.TAP_POL_INV = pol ∧ b.taper.lane0 = o) ∧
      (st = 2 → d.tapChoose (d.tapLanes us) = none → ends (step true us rev pol) s back) ∧
      (st = 3 → ends (step true us rev pol) s fun b => b.get F.TAP_STATE = 4 ∧ b.taper = { t with peerNext := none }) ∧
      (st = 4 → t.peerNext = some n → ends (step true us rev pol) s fun b => b.get F.TAP_STATE = 5 ∧ b.get F.TAP_RETRAINING = 0 ∧
        b.taper.again = b.taper.unacked.map TapBlock.seq ∧
        b.taper.unacked = if t.unacked.any (fun y => y.seq == n) then t.unacked.dropWhile (fun y => y.seq != n) else [])) ∧
    (1 ≤ st → st ≤ 4 → ends .taperTrainTimeout s back) ∧
    (st = 5 → t.lane0 ≤ lane → lane < t.lane0 + d.get F.TAP_WIDTH → ends (.codewordLockLoss lane) s fun b => b.get F.TAP_STATE = 2 ∧
      b.get F.TAP_RETRAINING = 1 ∧ b.get F.TAP_RETRAINS = min 65535 (d.get F.TAP_RETRAINS + 1) ∧ b.taper.unacked = t.unacked) ∧
    (lane < t.lane0 ∨ t.lane0 + d.get F.TAP_WIDTH ≤ lane → ends (.codewordLockLoss lane) s fun b => b = d) ∧
    (st = 5 → t.unacked = x :: rest → x.seq ∉ t.again →
      let sent := if t.replayOf = some x.seq then t.replays else 0
      (sent < max 1 (d.get F.TAP_REPLAY_NUM) → ends .replayTimeout s fun b => b = { d with
        taper := { t with again := t.unacked.map TapBlock.seq, replays := sent + 1, replayOf := some x.seq } }) ∧
      (max 1 (d.get F.TAP_REPLAY_NUM) ≤ sent → ends .replayTimeout s fun b => b.get F.TAP_STATE = 2 ∧ bit (b.get F.TAP_STICKY) 3 = true)) ∧
    (d.tapHears = true → wordGood w = true →
      (byteAt w 0 = 3 → st = 5 → t.unacked.any (fun y => y.seq == seq) = true → ends (.ack w) s fun b =>
        b.taper.unacked = (t.unacked.dropWhile fun y => y.seq != seq).drop 1 ∧ b.taper.lastAck = some seq ∧ b.taper.replays = 0) ∧
      (byteAt w 0 = 4 → st = 5 → t.unacked.any (fun y => y.seq == seq) = true → ends (.nak w) s fun b =>
        b.taper.unacked = t.unacked.dropWhile (fun y => y.seq != seq) ∧ b.taper.again = b.taper.unacked.map TapBlock.seq) ∧
      (byteAt w 0 = 5 → 4 ≤ st → ends (.creditLo w) s fun b => ∀ i < 8, tgetD b.taper.granted i 0 = leAt w (4 + 2 * i) 2) ∧
      (byteAt w 0 = 6 → 4 ≤ st → ends (.creditHi w) s fun b => ∀ i < 8, tgetD b.taper.granted (8 + i) 0 = leAt w (4 + 2 * i) 2) ∧
      (byteAt w 0 = 7 → bit (leAt w 10 1) 0 = false →
        (st = 2 → ends (.train w) s fun b => b = { d with taper := { t with peerWidth := some (leAt w 6 1) } }) ∧
        (st = 4 → ends (.train w) s fun b => b = { d with taper := { t with peerNext := some (leAt w 8 2 % 4096) } }))) ∧
    (wordGood w = false → ends (.ack w) s (fun b => b = d) ∧ ends (.nak w) s (fun b => b = d) ∧ ends (.creditLo w) s (fun b => b = d) ∧
      ends (.creditHi w) s (fun b => b = d) ∧ ends (.train w) s (fun b => b = d))

/-- Taper's traffic. A block expected next is acknowledged and its message kept once whole; one ahead is answered with one NAK,
one before with an ACK again. A VC whose turn it is sends its first message's next 2,048 bytes, kept until acknowledged.
CREDIT_SEND sends both words. A whole inject enters the forwarding path and returns its credits, or waits for its cells; a
table image is written to the staging region. The counter stream's next message reads its records now. In Ethernet carriage a
frame's words count as received, a bad frame is counted (R456, R457, R458, R459, R461, R462, R463, R466, R467, R468, R470,
R474). -/
def Obligations.TaperTraffic : Prop :=
  ∀ (s : State) (x : TapBlock) (m : TapMsg) (rest : List TapMsg) (v : Nat) (o : TapOpen) (p : CPass) (seq : Nat) (f : Bytes),
    let d := s.m.dev
    let k := s.m.clk
    let t := d.taper
    let whole : TapOpen := ⟨x.type, x.vc, x.body, blockCredits x.body.length, false⟩
    let gives := fun (b : Dev) => b.grantOf o.vc = (d.grantOf o.vc + o.credits) % 65536
    d.boot.porN = true → d.isHeld 40 = false → d.isHeld 33 = false → d.get F.TAP_STATE = 5 →
    (d.tapHears = true → x.body ≠ [] → x.body.length ≤ 2048 → x.vc < 16 → x.type < 256 → x.seq < 4096 → t.expected < 4096 →
      (x.seq = t.expected → x.first = true → x.last = true → tget? t.open_ x.vc = none → d.messageBad whole true = false →
        ends (.blockStart x.bytes false 0 0) s fun b => b.taper.expected = (x.seq + 1) % 4096 ∧ b.taper.whole = t.whole ++ [whole] ∧
          b.out = d.out ++ [.taper (ackWord x.seq)]) ∧
      (1 ≤ (x.seq + 4096 - t.expected) % 4096 → (x.seq + 4096 - t.expected) % 4096 < 2048 → t.nakAt = none →
        ends (.blockStart x.bytes false 0 0) s fun b => b = { d with
          out := d.out ++ [.taper (nakWord t.expected)], taper := { t with nakAt := some k.tick } }) ∧
      (2048 ≤ (x.seq + 4096 - t.expected) % 4096 → ends (.blockStart x.bytes false 0 0) s fun b => b = { d with
        out := d.out ++ [.taper (ackWord ((t.expected + 4095) % 4096))] })) ∧
    (t.eth = false → d.flag F.TAP_ESTREAM_EN = false → t.again = [] → t.unacked.length < 2047 → d.vcTurn = some v →
      tgetD t.msgs v [] = m :: rest → ends .taperBlockSend s fun b =>
        let y : TapBlock := ⟨t.seq, m.type, v, !m.begun, (m.bytes.drop 2048).isEmpty, m.bytes.take 2048⟩
        b.out = d.out ++ [.taper y.bytes] ∧ b.taper.unacked = t.unacked ++ [y] ∧ b.taper.seq = (t.seq + 1) % 4096 ∧
        tgetD b.taper.msgs v [] = if m.bytes.length ≤ 2048 then rest else { m with bytes := m.bytes.drop 2048, begun := true } :: rest) ∧
    (t.eth = false → t.parked = [] → ends .creditSend s fun b => b = { d with out := d.out ++
      [.taper (creditWord false ((List.range 8).map d.grantOf)), .taper (creditWord true ((List.range 8).map fun i => d.grantOf (8 + i)))] }) ∧
    (∀ seg : Bool, t.parked = [] → d.nextWhole (if seg then 9 else 8) = some o →
      let d1 := { d with taper := { t with whole := t.whole.erase o } }
      let a := d1.injectAsk k 512 seg (o.bytes.take 32) (o.bytes.drop 32)
      ends (if seg then .segInject else .inject) s fun b => b.taper.whole = t.whole.erase o ∧ (a.1 ≠ .waits → gives b) ∧
        (a.1 = .waits → b.taper.parked = [(a.2.2.1, o.vc, o.credits)])) ∧
    (d.nextWhole 0x20 = some o → endsMach (.tableImage false) s fun n =>
      mread n.dram (regionBase regStaging + leAt o.bytes 0 8) (o.bytes.length - 16) = o.bytes.drop 16 ∧
      n.dev.taper.whole = t.whole.erase o ∧ gives n.dev) ∧
    (t.pass = some p → d.get F.TAP_CSTREAM_INTERVAL = 0 → ends .counterStreamPass s fun b =>
      let n := min 127 (p.stop - p.next)
      tgetD b.taper.msgs 8 [] = tgetD t.msgs 8 [] ++ [⟨0x10, toLE p.next 4 ++ toLE n 2 ++ toLE (t.passNo - 1) 2 ++ toLE k.sec 4 ++
        toLE k.ns 4 ++ ((List.range n).map fun i => (tgetD d.ctrs (p.next + i) Ctr.zero).bytes16).flatten, false⟩] ∧
      b.taper.pass = if p.next + n < p.stop then some ⟨p.next + n, p.stop⟩ else none) ∧
    (t.eth = true →
      (seq < 4096 → t.unacked.any (fun y => y.seq == seq) = true → ends (.ethCarriageFrame (withFcs (padTo
        (d.tapMac F.TAP_ETH_LOCAL_MAC_HI F.TAP_ETH_LOCAL_MAC_LO ++ d.tapMac F.TAP_ETH_PEER_MAC_HI F.TAP_ETH_PEER_MAC_LO ++
          toBE 0x88B5 2 ++ toBE 1 2 ++ ackWord seq) 60) false)) s fun b =>
        b.taper.unacked = (t.unacked.dropWhile fun y => y.seq != seq).drop 1) ∧
      (f.length < 64 → ends (.ethCarriageFrame f) s fun b => bit (b.get F.TAP_STICKY) 7 = true ∧ b.taper = t))

/-! Configuration, Sconce and the package's ports. -/

/-- Fingerprint, firmware and scratchpad. A completed pass publishes the CRC-64 of what it read, is counted, clears STALE, and
with a reference of the same generation judges MATCH. A firmware restart ends every begun firmware command's answer and clears
FW_READY until the firmware is ready, which is counted. A bank's clear gives it to the DMA; the test walks a lent bank word by
word and gives it back. The event store takes the next record of the ring (R496, R497, R498, R505, R512, R513, R518). The
package's ports. An SMBus transaction with a right PEC reads or writes a BAR0 register as any requester does; one with a wrong
PEC does nothing. The boundary-scan port takes each instruction: IDCODE shifts out 0x1910274B, SAMPLE, PRELOAD and EXTEST the
balls' levels (free values), and PRELOAD and EXTEST load the cells (R551, R564). What BYPASS and HIGHZ shift out and the number
of cells are the model's choices, in its log. -/
def Obligations.SconceAndPackage : Prop :=
  (∀ (s : State) (bank : Fin 64) (bad : Option (Fin 72)) (t : TestPass) (r : LampRec) (i : Nat),
    let d := s.m.dev
    let crc := crc64 (d.fpStream none) % 2 ^ 64
    let t1 : TestPass := { t with word := t.word + 1, faulty := t.faulty + b2n bad.isSome }
    d.boot.porN = true →
    (d.flag F.GL_FP_EN = true → d.isHeld 42 = false → ends (.fingerprintPassComplete none) s fun b =>
      b.get64 F.GL_FP_RUNNING_LO F.GL_FP_RUNNING_HI = crc ∧ b.get F.GL_FP_PASSES = (d.get F.GL_FP_PASSES + 1) % 2 ^ 32 ∧
      b.get F.GL_STALE = 0 ∧ b.get F.GL_FP_COPY = d.get F.GL_FP_PASSES % 256 ∧
      (d.flag F.GL_REF_VALID = true → d.get F.GL_CONFIG_GEN = d.get F.GL_FP_REF_GEN → b.get F.GL_GEN_AHEAD = 0 ∧
        b.get F.GL_MATCH = b2n (crc == d.get64 F.GL_FP_REFERENCE_LO F.GL_FP_REFERENCE_HI)) ∧
      (d.flag F.GL_REF_VALID = true → d.get F.GL_CONFIG_GEN ≠ d.get F.GL_FP_REF_GEN → b.get F.GL_GEN_AHEAD = 1 ∧
        b.get F.GL_MATCH = d.get F.GL_MATCH)) ∧
    (d.flag F.GL_FP_EN = false → ends (.fingerprintPassComplete none) s fun b => b = d) ∧
    (ends .fingerprintStale s fun b => b.get F.GL_STALE = 1 ∧ bit (b.get F.GL_GLOBAL_STICKY) 3 = true ∧
      d.alikeBut [F.GL_STALE, F.GL_GLOBAL_STICKY] b) ∧
    (d.flag F.SM_FW_READY = true → ends (.firmwareRestart none) s fun b => b.flag F.SM_FW_READY = false ∧ b.sconce.restarting = true ∧
      ∀ w ∈ b.smi.waits, w.hw = false → w.answered = true) ∧
    (d.flag F.SM_FW_READY = false → ends (.firmwareRestart none) s fun b => b = d) ∧
    (d.sconce.restarting = true → ends .firmwareReady s fun b => b.flag F.SM_FW_READY = true ∧ b.sconce.restarting = false ∧
      b.get F.SC_FW_RESTARTS = satInc (2 ^ (F.SC_FW_RESTARTS).w - 1) (d.get F.SC_FW_RESTARTS) ∧
      bit (b.get F.SC_SCONCE_STICKY) 4 = true) ∧
    (d.sconce.restarting = false → ends .firmwareReady s fun b => b = d) ∧
    (d.smi.waits.any (fun w => w.kind == .bankClear bank) = true → ends (.bankClearComplete bank) s fun b =>
      b.get (F.SC_OWNER bank) = 2 ∧ (∀ w ∈ b.smi.waits, w.kind ≠ .bankClear bank) ∧
      (bank * 32768 ≤ i → i < (bank + 1) * 32768 → tget? b.sconce.scratch i = none)) ∧
    (d.smi.waits.any (fun w => w.kind == .bankClear bank) = false → ends (.bankClearComplete bank) s fun b => b = d) ∧
    (d.sconce.test = some t → t.word ≠ 32767 → ends (.testWordStep bad) s fun b => b.sconce.test = some t1 ∧
      (bad.isSome = true → bit (b.get F.SC_SCONCE_STICKY) 3 = true)) ∧
    (d.sconce.test = some t → t.word = 32767 → t.bank < 64 → d.sconce.waiting = false → ends (.testWordStep bad) s fun b =>
      b.sconce.test = none ∧ b.get (F.SC_OWNER t.bank) = d.get (F.SC_LENT_FROM t.bank) ∧ b.get (F.SC_LENT_FROM t.bank) = 0) ∧
    (d.sconce.test = none → ends (.testWordStep bad) s fun b => b = d) ∧
    (d.flag F.HBM_ALLOC_DONE = true → d.lamp.copied < d.nextSeq → tget? d.lamp.ring d.lamp.copied = some r →
      endsMach .eventStoreCopy s fun m => m.dev = { d with lamp := { d.lamp with copied := d.lamp.copied + 1 } } ∧
        mread m.dram (regionBase regEvents + d.lamp.copied % 33554432 * 32) r.bytes.length = r.bytes) ∧
    (d.nextSeq ≤ d.lamp.copied → endsMach .eventStoreCopy s fun m => m = s.m)) ∧
  (∀ (s : State) (off scanIn : Nat) (v : Word) (wr : Bool),
    let d := s.m.dev
    d.boot.porN = true → d.isHeld 43 = false →
    (∃ t, exec (.smbusTransaction true off v true) s = .next t ∧ exec (.registerWrite .smbus off v false) s = .next t) ∧
    (∃ t, exec (.smbusTransaction false off v true) s = .next t ∧ exec (.hiReadCapture .smbus off) s = .next t) ∧
    ends (.smbusTransaction wr off v false) s (fun b => b = d) ∧
    (∀ op, ends (.jtagInstruction op scanIn) s fun b => b.boot.jtag.inst = op ∧ (∃ x, b.out = d.out ++ [.scan x]) ∧
      b = { d with boot := { d.boot with jtag := b.boot.jtag }, out := b.out, free := b.free } ∧
      (b.boot.jtag.cells = if op = .preload ∨ op = .extest then scanIn % 2 ^ 29 else d.boot.jtag.cells)) ∧
    ends (.jtagInstruction .idcode scanIn) s fun b => b.out = d.out ++ [.scan 0x1910274B])
end

