-- ==== Sys2Proof/Laws/Tab.lean ====
section
/-! SUPPORT. Laws of the sparse tables and of memory: a read after a write, and the canonical form. -/

namespace Sys2Proof.Machine
open Sys2Proof

variable {α : Type}

/-! Reading after writing. -/

@[simp] theorem tget?_nil (k : Nat) : tget? ([] : Tab α) k = none := rfl

theorem tget?_cons (j : Nat) (x : α) (t : Tab α) (k : Nat) :
    tget? ((j, x) :: t) k = if j = k then some x else tget? t k := rfl

@[simp] theorem tget?_tset_self (t : Tab α) (k : Nat) (x : α) : tget? (tset t k x) k = some x := by
  induction t with
  | nil => simp [tset, tget?]
  | cons e t ih =>
    obtain ⟨j, y⟩ := e
    unfold tset
    split
    · simp [tget?]
    · split
      · simp [tget?]
      · rename_i h1 h2
        simp only [tget?, ih]
        rw [if_neg (fun h => h2 h.symm)]

theorem tget?_tset_of_ne (t : Tab α) {k i : Nat} (x : α) (h : i ≠ k) : tget? (tset t k x) i = tget? t i := by
  induction t with
  | nil => simp [tset, tget?, Ne.symm h]
  | cons e t ih =>
    obtain ⟨j, y⟩ := e
    unfold tset
    split
    · simp [tget?, Ne.symm h]
    · split
      · rename_i h1 h2
        subst h2
        simp [tget?, Ne.symm h]
      · simp only [tget?, ih]

@[simp] theorem tget?_tdel_self (t : Tab α) (k : Nat) : tget? (tdel t k) k = none := by
  induction t with
  | nil => rfl
  | cons e t ih =>
    obtain ⟨j, y⟩ := e
    by_cases h : j = k
    · subst h
      simpa [tdel] using ih
    · simp only [tdel, List.filter_cons, bne_iff_ne, ne_eq, h, not_false_eq_true, if_true, tget?, if_false]
      simpa [tdel] using ih

theorem tget?_tdel_of_ne (t : Tab α) {k i : Nat} (h : i ≠ k) : tget? (tdel t k) i = tget? t i := by
  induction t with
  | nil => rfl
  | cons e t ih =>
    obtain ⟨j, y⟩ := e
    by_cases hj : j = k
    · subst hj
      simp only [tdel, List.filter_cons, bne_self_eq_false, if_false, Bool.false_eq_true, tget?, if_neg (Ne.symm h)]
      simpa [tdel] using ih
    · simp only [tdel, List.filter_cons, bne_iff_ne, ne_eq, hj, not_false_eq_true, if_true, tget?]
      split
      · rfl
      · simpa [tdel] using ih

@[simp] theorem tgetD_tset_self (t : Tab α) (k : Nat) (x d : α) : tgetD (tset t k x) k d = x := by simp [tgetD]

theorem tgetD_tset_of_ne (t : Tab α) {k i : Nat} (x d : α) (h : i ≠ k) : tgetD (tset t k x) i d = tgetD t i d := by
  simp [tgetD, tget?_tset_of_ne t x h]

@[simp] theorem tgetD_tput_self [DecidableEq α] (t : Tab α) (k : Nat) (d x : α) : tgetD (tput t k d x) k d = x := by
  unfold tput
  split
  · rename_i h
    simp [tgetD, h]
  · simp

theorem tgetD_tput_of_ne [DecidableEq α] (t : Tab α) {k i : Nat} (d x d' : α) (h : i ≠ k) :
    tgetD (tput t k d x) i d' = tgetD t i d' := by
  unfold tput
  split
  · simp [tgetD, tget?_tdel_of_ne t h]
  · exact tgetD_tset_of_ne t x d' h

/-! Memory. -/

/-- A byte written reads back. -/
@[simp] theorem mget_mset_self (m : Memory) (a : Nat) (b : Byte) : mget (mset m a b) a = b :=
  tgetD_tput_self m a 0 b

/-- A write leaves every other byte alone. -/
theorem mget_mset_of_ne (m : Memory) {a i : Nat} (b : Byte) (h : i ≠ a) : mget (mset m a b) i = mget m i :=
  tgetD_tput_of_ne m 0 b 0 h

/-- A byte string written leaves every byte outside it alone. -/
theorem mget_mwrite_outside (bs : Bytes) (m : Memory) (a i : Nat) (h : i < a ∨ a + bs.length ≤ i) :
    mget (mwrite m a bs) i = mget m i := by
  induction bs generalizing m a with
  | nil => rfl
  | cons b bs ih =>
    have hl : (b :: bs).length = bs.length + 1 := rfl
    rw [mwrite, ih (mset m a b) (a + 1) (by omega), mget_mset_of_ne m b (by omega)]

/-- A byte string written reads back. -/
theorem mget_mwrite_inside (bs : Bytes) (m : Memory) (a j : Nat) (h : j < bs.length) :
    mget (mwrite m a bs) (a + j) = bs.getD j 0 := by
  induction bs generalizing m a j with
  | nil => simp at h
  | cons b bs ih =>
    rw [mwrite]
    cases j with
    | zero =>
      rw [mget_mwrite_outside bs (mset m a b) (a + 1) (a + 0) (by omega), Nat.add_zero]
      simp
    | succ j =>
      have e : a + (j + 1) = (a + 1) + j := by omega
      rw [e, ih (mset m a b) (a + 1) j (by simpa using h)]
      simp

/-! The canonical form. -/

theorem Memory.wf_iff (m : Memory) :
    Memory.wf m = true ↔ (m.Pairwise (fun x y => x.1 < y.1)) ∧ ∀ e ∈ m, e.2 ≠ 0 := by
  induction m with
  | nil => simp [Memory.wf]
  | cons e m ih =>
    obtain ⟨a, b⟩ := e
    cases m with
    | nil => simp [Memory.wf]
    | cons e' t =>
      obtain ⟨a', b'⟩ := e'
      simp only [Memory.wf, Bool.and_eq_true, bne_iff_ne, decide_eq_true_eq, ih, List.pairwise_cons,
        List.mem_cons, forall_eq_or_imp]
      constructor
      · rintro ⟨⟨hb, ha⟩, ⟨h1, h2⟩, hb', h3⟩
        exact ⟨⟨⟨ha, fun e he => Nat.lt_trans ha (h1 e he)⟩, h1, h2⟩, hb, hb', h3⟩
      · rintro ⟨⟨⟨ha, -⟩, h1, h2⟩, hb, hb', h3⟩
        exact ⟨⟨hb, ha⟩, ⟨h1, h2⟩, hb', h3⟩

theorem tset_mem {t : Tab α} {k : Nat} {x : α} {e : Nat × α} (h : e ∈ tset t k x) : e = (k, x) ∨ e ∈ t := by
  induction t with
  | nil => simpa [tset] using h
  | cons f t ih =>
    obtain ⟨j, y⟩ := f
    unfold tset at h
    split at h
    · simpa using h
    · split at h
      · rcases List.mem_cons.mp h with h | h
        · exact .inl h
        · exact .inr (List.mem_cons_of_mem _ h)
      · rcases List.mem_cons.mp h with h | h
        · exact .inr (by simp [h])
        · rcases ih h with h | h
          · exact .inl h
          · exact .inr (List.mem_cons_of_mem _ h)

/-- Indices stay strictly rising when an entry is written. -/
theorem tset_sorted {t : Tab α} (k : Nat) (x : α) (h : t.Pairwise (fun a b => a.1 < b.1)) :
    (tset t k x).Pairwise (fun a b => a.1 < b.1) := by
  induction t with
  | nil => simp [tset]
  | cons f t ih =>
    obtain ⟨j, y⟩ := f
    rw [List.pairwise_cons] at h
    unfold tset
    split
    · rename_i hk
      refine List.pairwise_cons.mpr ⟨fun e he => ?_, List.pairwise_cons.mpr h⟩
      rcases List.mem_cons.mp he with rfl | he
      · exact hk
      · exact Nat.lt_trans hk (h.1 e he)
    · split
      · rename_i hk
        subst hk
        exact List.pairwise_cons.mpr h
      · refine List.pairwise_cons.mpr ⟨fun e he => ?_, ih h.2⟩
        rcases tset_mem he with rfl | he
        · show j < k
          omega
        · exact h.1 e he

/-- Writing a byte keeps the canonical form. -/
theorem mset_wf {m : Memory} (a : Nat) (b : Byte) (h : Memory.wf m = true) : Memory.wf (mset m a b) = true := by
  rw [Memory.wf_iff] at h ⊢
  unfold mset tput
  split
  · exact ⟨h.1.filter _, fun e he => h.2 e (List.mem_filter.mp he).1⟩
  · rename_i hb
    refine ⟨tset_sorted a b h.1, fun e he => ?_⟩
    rcases tset_mem he with rfl | he
    · exact hb
    · exact h.2 e he

/-- Writing a byte string keeps the canonical form. -/
theorem mwrite_wf (bs : Bytes) {m : Memory} (a : Nat) (h : Memory.wf m = true) : Memory.wf (mwrite m a bs) = true := by
  induction bs generalizing m a with
  | nil => exact h
  | cons b bs ih => exact ih (a + 1) (mset_wf a b h)

end Sys2Proof.Machine
end

