-- ==== Sys2Proof/Laws/State.lean ====
section
/-! SUPPORT. Laws of the state's fields under the named operations: what each leaves unchanged, and what a register field
reads after a write. -/

namespace Sys2Proof.Machine
open Sys2Proof

/-! The machine and the queue. -/

@[simp] theorem Mach.setDev_dev (m : Mach) (d : Dev) : (m.setDev d).dev = d := rfl
@[simp] theorem Mach.setDev_clk (m : Mach) (d : Dev) : (m.setDev d).clk = m.clk := rfl
@[simp] theorem Mach.setDev_dram (m : Mach) (d : Dev) : (m.setDev d).dram = m.dram := rfl
@[simp] theorem Mach.onDev_dev (m : Mach) (f : Clock → Dev → Dev) : (m.onDev f).dev = f m.clk m.dev := rfl
@[simp] theorem Mach.onDev_clk (m : Mach) (f : Clock → Dev → Dev) : (m.onDev f).clk = m.clk := rfl
@[simp] theorem Mach.onDev_dram (m : Mach) (f : Clock → Dev → Dev) : (m.onDev f).dram = m.dram := rfl

/-- What a command on the device alone answers once POR_N is released. -/
theorem onDev_run {s : State} (f : Clock → Dev → Dev) (h : s.m.dev.boot.porN = true) :
    onDev f s = .next { s with m := s.m.onDev f } := by simp [onDev, h]

/-- While POR_N is asserted it leaves the state as it is. -/
theorem onDev_held {s : State} (f : Clock → Dev → Dev) (h : s.m.dev.boot.porN = false) : onDev f s = .next s := by
  simp [onDev, h]

theorem onMach_run {s : State} (f : Mach → Mach) (h : s.m.dev.boot.porN = true) :
    onMach f s = .next { s with m := f s.m } := by simp [onMach, h]

theorem onMach_held {s : State} (f : Mach → Mach) (h : s.m.dev.boot.porN = false) : onMach f s = .next s := by
  simp [onMach, h]

/-! Fields that the writers of a register field leave unchanged. -/

@[simp] theorem Dev.set_staged (d : Dev) (g : Fld) (v : Nat) : (d.set g v).staged = d.staged := rfl
@[simp] theorem Dev.set_lamp (d : Dev) (g : Fld) (v : Nat) : (d.set g v).lamp = d.lamp := rfl
@[simp] theorem Dev.set_ctrs (d : Dev) (g : Fld) (v : Nat) : (d.set g v).ctrs = d.ctrs := rfl
@[simp] theorem Dev.set_energy (d : Dev) (g : Fld) (v : Nat) : (d.set g v).energy = d.energy := rfl
@[simp] theorem Dev.set_snap (d : Dev) (g : Fld) (v : Nat) : (d.set g v).snap = d.snap := rfl
@[simp] theorem Dev.set_arch (d : Dev) (g : Fld) (v : Nat) : (d.set g v).arch = d.arch := rfl
@[simp] theorem Dev.set_smi (d : Dev) (g : Fld) (v : Nat) : (d.set g v).smi = d.smi := rfl
@[simp] theorem Dev.set_msix (d : Dev) (g : Fld) (v : Nat) : (d.set g v).msix = d.msix := rfl
@[simp] theorem Dev.set_msixPend (d : Dev) (g : Fld) (v : Nat) : (d.set g v).msixPend = d.msixPend := rfl
@[simp] theorem Dev.set_cfg (d : Dev) (g : Fld) (v : Nat) : (d.set g v).cfg = d.cfg := rfl
@[simp] theorem Dev.set_timeU (d : Dev) (g : Fld) (v : Nat) : (d.set g v).timeU = d.timeU := rfl
@[simp] theorem Dev.set_sconce (d : Dev) (g : Fld) (v : Nat) : (d.set g v).sconce = d.sconce := rfl
@[simp] theorem Dev.set_boot (d : Dev) (g : Fld) (v : Nat) : (d.set g v).boot = d.boot := rfl
@[simp] theorem Dev.set_bm (d : Dev) (g : Fld) (v : Nat) : (d.set g v).bm = d.bm := rfl
@[simp] theorem Dev.set_frames (d : Dev) (g : Fld) (v : Nat) : (d.set g v).frames = d.frames := rfl
@[simp] theorem Dev.set_ports (d : Dev) (g : Fld) (v : Nat) : (d.set g v).ports = d.ports := rfl
@[simp] theorem Dev.set_lanes (d : Dev) (g : Fld) (v : Nat) : (d.set g v).lanes = d.lanes := rfl
@[simp] theorem Dev.set_index (d : Dev) (g : Fld) (v : Nat) : (d.set g v).index = d.index := rfl
@[simp] theorem Dev.set_tbl (d : Dev) (g : Fld) (v : Nat) : (d.set g v).tbl = d.tbl := rfl
@[simp] theorem Dev.set_lanterns (d : Dev) (g : Fld) (v : Nat) : (d.set g v).lanterns = d.lanterns := rfl
@[simp] theorem Dev.set_rules (d : Dev) (g : Fld) (v : Nat) : (d.set g v).rules = d.rules := rfl
@[simp] theorem Dev.set_egr (d : Dev) (g : Fld) (v : Nat) : (d.set g v).egr = d.egr := rfl
@[simp] theorem Dev.set_taper (d : Dev) (g : Fld) (v : Nat) : (d.set g v).taper = d.taper := rfl
@[simp] theorem Dev.set_hbm (d : Dev) (g : Fld) (v : Nat) : (d.set g v).hbm = d.hbm := rfl
@[simp] theorem Dev.set_cxl (d : Dev) (g : Fld) (v : Nat) : (d.set g v).cxl = d.cxl := rfl
@[simp] theorem Dev.set_chan (d : Dev) (g : Fld) (v : Nat) : (d.set g v).chan = d.chan := rfl
@[simp] theorem Dev.set_free (d : Dev) (g : Fld) (v : Nat) : (d.set g v).free = d.free := rfl
@[simp] theorem Dev.set_out (d : Dev) (g : Fld) (v : Nat) : (d.set g v).out = d.out := rfl

@[simp] theorem Dev.emit_fld (d : Dev) (o : Out) : (d.emit o).fld = d.fld := rfl
@[simp] theorem Dev.emit_staged (d : Dev) (o : Out) : (d.emit o).staged = d.staged := rfl
@[simp] theorem Dev.emit_lamp (d : Dev) (o : Out) : (d.emit o).lamp = d.lamp := rfl
@[simp] theorem Dev.emit_ctrs (d : Dev) (o : Out) : (d.emit o).ctrs = d.ctrs := rfl
@[simp] theorem Dev.emit_energy (d : Dev) (o : Out) : (d.emit o).energy = d.energy := rfl
@[simp] theorem Dev.emit_snap (d : Dev) (o : Out) : (d.emit o).snap = d.snap := rfl
@[simp] theorem Dev.emit_arch (d : Dev) (o : Out) : (d.emit o).arch = d.arch := rfl
@[simp] theorem Dev.emit_smi (d : Dev) (o : Out) : (d.emit o).smi = d.smi := rfl
@[simp] theorem Dev.emit_msix (d : Dev) (o : Out) : (d.emit o).msix = d.msix := rfl
@[simp] theorem Dev.emit_msixPend (d : Dev) (o : Out) : (d.emit o).msixPend = d.msixPend := rfl
@[simp] theorem Dev.emit_cfg (d : Dev) (o : Out) : (d.emit o).cfg = d.cfg := rfl
@[simp] theorem Dev.emit_timeU (d : Dev) (o : Out) : (d.emit o).timeU = d.timeU := rfl
@[simp] theorem Dev.emit_sconce (d : Dev) (o : Out) : (d.emit o).sconce = d.sconce := rfl
@[simp] theorem Dev.emit_boot (d : Dev) (o : Out) : (d.emit o).boot = d.boot := rfl
@[simp] theorem Dev.emit_bm (d : Dev) (o : Out) : (d.emit o).bm = d.bm := rfl
@[simp] theorem Dev.emit_frames (d : Dev) (o : Out) : (d.emit o).frames = d.frames := rfl
@[simp] theorem Dev.emit_ports (d : Dev) (o : Out) : (d.emit o).ports = d.ports := rfl
@[simp] theorem Dev.emit_lanes (d : Dev) (o : Out) : (d.emit o).lanes = d.lanes := rfl
@[simp] theorem Dev.emit_index (d : Dev) (o : Out) : (d.emit o).index = d.index := rfl
@[simp] theorem Dev.emit_tbl (d : Dev) (o : Out) : (d.emit o).tbl = d.tbl := rfl
@[simp] theorem Dev.emit_lanterns (d : Dev) (o : Out) : (d.emit o).lanterns = d.lanterns := rfl
@[simp] theorem Dev.emit_rules (d : Dev) (o : Out) : (d.emit o).rules = d.rules := rfl
@[simp] theorem Dev.emit_egr (d : Dev) (o : Out) : (d.emit o).egr = d.egr := rfl
@[simp] theorem Dev.emit_taper (d : Dev) (o : Out) : (d.emit o).taper = d.taper := rfl
@[simp] theorem Dev.emit_hbm (d : Dev) (o : Out) : (d.emit o).hbm = d.hbm := rfl
@[simp] theorem Dev.emit_cxl (d : Dev) (o : Out) : (d.emit o).cxl = d.cxl := rfl
@[simp] theorem Dev.emit_chan (d : Dev) (o : Out) : (d.emit o).chan = d.chan := rfl
@[simp] theorem Dev.emit_free (d : Dev) (o : Out) : (d.emit o).free = d.free := rfl

@[simp] theorem Dev.count_fld (d : Dev) (i len : Nat) : (d.count i len).fld = d.fld := rfl
@[simp] theorem Dev.count_staged (d : Dev) (i len : Nat) : (d.count i len).staged = d.staged := rfl
@[simp] theorem Dev.count_lamp (d : Dev) (i len : Nat) : (d.count i len).lamp = d.lamp := rfl
@[simp] theorem Dev.count_energy (d : Dev) (i len : Nat) : (d.count i len).energy = d.energy := rfl
@[simp] theorem Dev.count_snap (d : Dev) (i len : Nat) : (d.count i len).snap = d.snap := rfl
@[simp] theorem Dev.count_arch (d : Dev) (i len : Nat) : (d.count i len).arch = d.arch := rfl
@[simp] theorem Dev.count_smi (d : Dev) (i len : Nat) : (d.count i len).smi = d.smi := rfl
@[simp] theorem Dev.count_msix (d : Dev) (i len : Nat) : (d.count i len).msix = d.msix := rfl
@[simp] theorem Dev.count_msixPend (d : Dev) (i len : Nat) : (d.count i len).msixPend = d.msixPend := rfl
@[simp] theorem Dev.count_cfg (d : Dev) (i len : Nat) : (d.count i len).cfg = d.cfg := rfl
@[simp] theorem Dev.count_timeU (d : Dev) (i len : Nat) : (d.count i len).timeU = d.timeU := rfl
@[simp] theorem Dev.count_sconce (d : Dev) (i len : Nat) : (d.count i len).sconce = d.sconce := rfl
@[simp] theorem Dev.count_boot (d : Dev) (i len : Nat) : (d.count i len).boot = d.boot := rfl
@[simp] theorem Dev.count_bm (d : Dev) (i len : Nat) : (d.count i len).bm = d.bm := rfl
@[simp] theorem Dev.count_frames (d : Dev) (i len : Nat) : (d.count i len).frames = d.frames := rfl
@[simp] theorem Dev.count_ports (d : Dev) (i len : Nat) : (d.count i len).ports = d.ports := rfl
@[simp] theorem Dev.count_lanes (d : Dev) (i len : Nat) : (d.count i len).lanes = d.lanes := rfl
@[simp] theorem Dev.count_index (d : Dev) (i len : Nat) : (d.count i len).index = d.index := rfl
@[simp] theorem Dev.count_tbl (d : Dev) (i len : Nat) : (d.count i len).tbl = d.tbl := rfl
@[simp] theorem Dev.count_lanterns (d : Dev) (i len : Nat) : (d.count i len).lanterns = d.lanterns := rfl
@[simp] theorem Dev.count_rules (d : Dev) (i len : Nat) : (d.count i len).rules = d.rules := rfl
@[simp] theorem Dev.count_egr (d : Dev) (i len : Nat) : (d.count i len).egr = d.egr := rfl
@[simp] theorem Dev.count_taper (d : Dev) (i len : Nat) : (d.count i len).taper = d.taper := rfl
@[simp] theorem Dev.count_hbm (d : Dev) (i len : Nat) : (d.count i len).hbm = d.hbm := rfl
@[simp] theorem Dev.count_cxl (d : Dev) (i len : Nat) : (d.count i len).cxl = d.cxl := rfl
@[simp] theorem Dev.count_chan (d : Dev) (i len : Nat) : (d.count i len).chan = d.chan := rfl
@[simp] theorem Dev.count_free (d : Dev) (i len : Nat) : (d.count i len).free = d.free := rfl
@[simp] theorem Dev.count_out (d : Dev) (i len : Nat) : (d.count i len).out = d.out := rfl

@[simp] theorem Dev.spend_fld (d : Dev) (c n : Nat) : (d.spend c n).fld = d.fld := rfl
@[simp] theorem Dev.spend_staged (d : Dev) (c n : Nat) : (d.spend c n).staged = d.staged := rfl
@[simp] theorem Dev.spend_lamp (d : Dev) (c n : Nat) : (d.spend c n).lamp = d.lamp := rfl
@[simp] theorem Dev.spend_ctrs (d : Dev) (c n : Nat) : (d.spend c n).ctrs = d.ctrs := rfl
@[simp] theorem Dev.spend_snap (d : Dev) (c n : Nat) : (d.spend c n).snap = d.snap := rfl
@[simp] theorem Dev.spend_arch (d : Dev) (c n : Nat) : (d.spend c n).arch = d.arch := rfl
@[simp] theorem Dev.spend_smi (d : Dev) (c n : Nat) : (d.spend c n).smi = d.smi := rfl
@[simp] theorem Dev.spend_msix (d : Dev) (c n : Nat) : (d.spend c n).msix = d.msix := rfl
@[simp] theorem Dev.spend_msixPend (d : Dev) (c n : Nat) : (d.spend c n).msixPend = d.msixPend := rfl
@[simp] theorem Dev.spend_cfg (d : Dev) (c n : Nat) : (d.spend c n).cfg = d.cfg := rfl
@[simp] theorem Dev.spend_timeU (d : Dev) (c n : Nat) : (d.spend c n).timeU = d.timeU := rfl
@[simp] theorem Dev.spend_sconce (d : Dev) (c n : Nat) : (d.spend c n).sconce = d.sconce := rfl
@[simp] theorem Dev.spend_boot (d : Dev) (c n : Nat) : (d.spend c n).boot = d.boot := rfl
@[simp] theorem Dev.spend_bm (d : Dev) (c n : Nat) : (d.spend c n).bm = d.bm := rfl
@[simp] theorem Dev.spend_frames (d : Dev) (c n : Nat) : (d.spend c n).frames = d.frames := rfl
@[simp] theorem Dev.spend_ports (d : Dev) (c n : Nat) : (d.spend c n).ports = d.ports := rfl
@[simp] theorem Dev.spend_lanes (d : Dev) (c n : Nat) : (d.spend c n).lanes = d.lanes := rfl
@[simp] theorem Dev.spend_index (d : Dev) (c n : Nat) : (d.spend c n).index = d.index := rfl
@[simp] theorem Dev.spend_tbl (d : Dev) (c n : Nat) : (d.spend c n).tbl = d.tbl := rfl
@[simp] theorem Dev.spend_lanterns (d : Dev) (c n : Nat) : (d.spend c n).lanterns = d.lanterns := rfl
@[simp] theorem Dev.spend_rules (d : Dev) (c n : Nat) : (d.spend c n).rules = d.rules := rfl
@[simp] theorem Dev.spend_egr (d : Dev) (c n : Nat) : (d.spend c n).egr = d.egr := rfl
@[simp] theorem Dev.spend_taper (d : Dev) (c n : Nat) : (d.spend c n).taper = d.taper := rfl
@[simp] theorem Dev.spend_hbm (d : Dev) (c n : Nat) : (d.spend c n).hbm = d.hbm := rfl
@[simp] theorem Dev.spend_cxl (d : Dev) (c n : Nat) : (d.spend c n).cxl = d.cxl := rfl
@[simp] theorem Dev.spend_chan (d : Dev) (c n : Nat) : (d.spend c n).chan = d.chan := rfl
@[simp] theorem Dev.spend_free (d : Dev) (c n : Nat) : (d.spend c n).free = d.free := rfl
@[simp] theorem Dev.spend_out (d : Dev) (c n : Nat) : (d.spend c n).out = d.out := rfl

@[simp] theorem Dev.emit_out (d : Dev) (o : Out) : (d.emit o).out = d.out ++ [o] := rfl

/-! Reading a field after a write. -/

@[simp] theorem Dev.get_set_self (d : Dev) (f : Fld) (v : Nat) : (d.set f v).get f = v % 2 ^ f.w := by
  unfold Dev.get Dev.set
  rw [tgetD_tput_self, Nat.mod_mod]

/-- A field's value fits its width. -/
theorem Dev.get_lt (d : Dev) (f : Fld) : d.get f < 2 ^ f.w := Nat.mod_lt _ (Nat.two_pow_pos _)

theorem Dev.get_set_of_ne (d : Dev) {f g : Fld} (v : Nat) (h : g.key ≠ f.key) : (d.set f v).get g = d.get g := by
  unfold Dev.get Dev.set
  rw [tgetD_tput_of_ne d.fld f.reset (v % 2 ^ f.w) g.reset h]

/-- A field reads alike in devices that hold the same values. -/
theorem Dev.get_congr {a b : Dev} (h : a.fld = b.fld) (f : Fld) : a.get f = b.get f := by simp [Dev.get, h]

@[simp] theorem Dev.get_emit (d : Dev) (o : Out) (f : Fld) : (d.emit o).get f = d.get f := rfl
@[simp] theorem Dev.get_count (d : Dev) (i n : Nat) (f : Fld) : (d.count i n).get f = d.get f := rfl
@[simp] theorem Dev.get_spend (d : Dev) (c n : Nat) (f : Fld) : (d.spend c n).get f = d.get f := rfl

theorem Dev.setB_eq (d : Dev) (f : Fld) (b : Bool) : d.setB f b = d.set f (b2n b) := rfl
theorem Dev.inc_eq (d : Dev) (f : Fld) : d.inc f = d.set f (d.get f + 1) := rfl
theorem Dev.setBit_eq (d : Dev) (f : Fld) (n : Nat) : d.setBit f n = d.set f (d.get f ||| 2 ^ n) := rfl
theorem Dev.satInc_eq (d : Dev) (f : Fld) : d.satInc f = d.set f (Sys2Proof.Machine.satInc (maskOf f.w) (d.get f)) := rfl
theorem Dev.set64_eq (d : Dev) (lo hi : Fld) (v : Nat) : d.set64 lo hi v = (d.set lo v).set hi (v / 2 ^ 32) := rfl

end Sys2Proof.Machine
end

