-- ==== Sys2Proof/Laws/Reports.lean ====
section
/-! SUPPORT. Laws of reports: an event, an MSI-X message and a performance count change nothing but what Dev.alike leaves
open. -/

namespace Sys2Proof.Machine
open Sys2Proof

/-! The relation. -/

theorem Dev.alike_refl (a : Dev) : a.alike a := ⟨rfl, fun _ _ => rfl⟩

theorem Dev.alike.trans {a b c : Dev} (h : a.alike b) (g : b.alike c) : a.alike c := by
  refine ⟨?_, fun f hf => (g.2 f hf).trans (h.2 f hf)⟩
  have hb := h.1
  have hc := g.1
  rw [hb] at hc
  exact hc

/-- A write of a field that is not still. -/
theorem Dev.alike_set (d : Dev) (f : Fld) (v : Nat) (h : f.still = false) (hl : f.lo < 32) : d.alike (d.set f v) := by
  refine ⟨rfl, fun g hg => Dev.get_set_of_ne d v fun e => ?_⟩
  have hgl : g.lo < 32 := by simp only [Fld.still, Bool.and_eq_true, decide_eq_true_eq] at hg; exact hg.1.1.1
  have ho : g.off = f.off := by simp only [Fld.key] at e; omega
  simp only [Fld.still, ho, hgl, hl, decide_true, Bool.true_and] at h hg
  rw [h] at hg
  exact absurd hg (by decide)

theorem Dev.alike_emit (d : Dev) (o : Out) : d.alike (d.emit o) := ⟨rfl, fun _ _ => rfl⟩

/-! Reports. -/

theorem Dev.alike_sendMsix (d : Dev) (v : Nat) : d.alike (d.sendMsix v) := by
  unfold Dev.sendMsix
  split
  · split
    · exact d.alike_refl
    · exact ⟨rfl, fun _ _ => rfl⟩
  · split
    · exact d.alike_set _ _ (by decide) (by decide)
    · exact d.alike_emit _

theorem Dev.alike_pend (d : Dev) (s : Nat) (h : s < 1024) : d.alike (d.pend s) := by
  have hs : (F.LB_EVT_PENDING (s / 32)).still = false := by
    have h1 : 0x300000 ≤ 0x300100 + s / 32 * 4 := by omega
    have h2 : 0x300100 + s / 32 * 4 < 0x400000 := by omega
    simp [Fld.still, F.LB_EVT_PENDING, h1, h2]
  unfold Dev.pend
  dsimp only
  split
  · exact d.alike_refl
  · split
    · exact (d.alike_set _ _ hs (by simp [F.LB_EVT_PENDING])).trans (Dev.alike_sendMsix _ _)
    · exact d.alike_set _ _ hs (by simp [F.LB_EVT_PENDING])

theorem Dev.alike_set64 (d : Dev) (lo hi : Fld) (v : Nat) (h : lo.still = false) (h' : hi.still = false)
    (hl : lo.lo < 32) (hl' : hi.lo < 32) : d.alike (d.set64 lo hi v) :=
  (d.alike_set lo v h hl).trans (Dev.alike_set _ hi _ h' hl')

theorem Dev.alike_lampWrite (d : Dev) (r : LampRec) (h : r.source < 1024) : d.alike (d.lampWrite r) := by
  unfold Dev.lampWrite
  dsimp only
  have base : ∀ rg : Tab LampRec, d.alike { d with lamp := { d.lamp with ring := rg } } := fun _ => ⟨rfl, fun _ _ => rfl⟩
  refine Dev.alike.trans ?_ (Dev.alike_pend _ _ h)
  have step := fun rg (v w : Nat) => ((base rg).trans (Dev.alike_set64 _ F.LB_NEXT_SEQ_LO F.LB_NEXT_SEQ_HI v (by decide)
    (by decide) (by decide) (by decide))).trans (Dev.alike_set64 _ F.LB_OLDEST_SEQ_LO F.LB_OLDEST_SEQ_HI w (by decide)
    (by decide) (by decide) (by decide))
  split
  · exact (step _ _ _).trans (Dev.alike_set _ _ _ (by decide) (by decide))
  · exact step _ _ _

/-- An event assertion is a report. -/
theorem Dev.alike_eventData (d : Dev) (k : Clock) (s form a b : Nat) (h : s < 1024) :
    d.alike (d.eventData k s form a b) := by
  have lamp : ∀ l : Lamp, d.alike { d with lamp := l } := fun _ => ⟨rfl, fun _ _ => rfl⟩
  unfold Dev.eventData
  dsimp only
  split
  · exact d.alike_refl
  · split
    · split
      · exact d.alike_refl
      · split
        · exact lamp _
        · exact (lamp _).trans (Dev.alike_lampWrite _ _ h)
    · split
      · split
        · exact (lamp _).trans (Dev.alike_pend _ _ h)
        · exact Dev.alike_lampWrite _ _ h
      · exact Dev.alike_lampWrite _ _ h

theorem Dev.alike_event (d : Dev) (k : Clock) (s c : Nat) (h : s < 1024) : d.alike (d.event k s c) :=
  Dev.alike_eventData d k s 0 c 0 h

theorem Dev.alike_eventOf (d : Dev) (k : Clock) (b i u : Nat) (h : 16 * b + i < 1024) : d.alike (d.eventOf k b i u) :=
  Dev.alike_event d k _ _ h

/-- A fold of steps each of which is a report is a report. -/
theorem Dev.alike_foldl {β : Type} (f : Dev → β → Dev) (h : ∀ d x, Dev.alike d (f d x)) (l : List β) (d : Dev) :
    d.alike (l.foldl f d) := by
  induction l generalizing d with
  | nil => exact d.alike_refl
  | cons x l ih => exact (h d x).trans (ih (f d x))

theorem Dev.alike_perfAdd (d : Dev) (j : Nat) (h : j < 64) : d.alike (d.perfAdd j) := by
  have lo : (F.PC_PERF_COUNT_LO j).still = false := by
    have h1 : 0x3400200 ≤ 0x3400200 + j * 8 := by omega
    have h2 : 0x3400200 + j * 8 < 0x3400400 := by omega
    simp [Fld.still, F.PC_PERF_COUNT_LO, h2]
  have hi : (F.PC_PERF_COUNT_HI j).still = false := by
    have h1 : 0x3400200 ≤ 0x3400204 + j * 8 := by omega
    have h2 : 0x3400204 + j * 8 < 0x3400400 := by omega
    simp [Fld.still, F.PC_PERF_COUNT_HI, h1, h2]
  exact Dev.alike_set64 d _ _ _ lo hi (by simp [F.PC_PERF_COUNT_LO]) (by simp [F.PC_PERF_COUNT_HI])

/-- Counting a performance signal is a report. -/
theorem Dev.alike_perf (d : Dev) (b s : Nat) : d.alike (d.perf b s) := by
  unfold Dev.perf
  split
  · exact d.alike_refl
  · have key : ∀ l : List Nat, (∀ j ∈ l, j < 64) → ∀ d : Dev, d.alike (l.foldl Dev.perfAdd d) := by
      intro l
      induction l with
      | nil => exact fun _ d => d.alike_refl
      | cons j l ih =>
        intro hl d
        exact (Dev.alike_perfAdd d j (hl j (by simp))).trans (ih (fun i hi => hl i (by simp [hi])) _)
    exact key _ (fun j hj => List.mem_range.mp (List.mem_filter.mp hj).1) d

/-! What alike devices share. -/

theorem Dev.alike.staged_eq {a b : Dev} (h : a.alike b) : b.staged = a.staged := (congrArg Dev.staged h.1).trans rfl
theorem Dev.alike.ctrs_eq {a b : Dev} (h : a.alike b) : b.ctrs = a.ctrs := (congrArg Dev.ctrs h.1).trans rfl
theorem Dev.alike.energy_eq {a b : Dev} (h : a.alike b) : b.energy = a.energy := (congrArg Dev.energy h.1).trans rfl
theorem Dev.alike.snap_eq {a b : Dev} (h : a.alike b) : b.snap = a.snap := (congrArg Dev.snap h.1).trans rfl
theorem Dev.alike.arch_eq {a b : Dev} (h : a.alike b) : b.arch = a.arch := (congrArg Dev.arch h.1).trans rfl
theorem Dev.alike.smi_eq {a b : Dev} (h : a.alike b) : b.smi = a.smi := (congrArg Dev.smi h.1).trans rfl
theorem Dev.alike.msix_eq {a b : Dev} (h : a.alike b) : b.msix = a.msix := (congrArg Dev.msix h.1).trans rfl
theorem Dev.alike.cfg_eq {a b : Dev} (h : a.alike b) : b.cfg = a.cfg := (congrArg Dev.cfg h.1).trans rfl
theorem Dev.alike.timeU_eq {a b : Dev} (h : a.alike b) : b.timeU = a.timeU := (congrArg Dev.timeU h.1).trans rfl
theorem Dev.alike.sconce_eq {a b : Dev} (h : a.alike b) : b.sconce = a.sconce := (congrArg Dev.sconce h.1).trans rfl
theorem Dev.alike.boot_eq {a b : Dev} (h : a.alike b) : b.boot = a.boot := (congrArg Dev.boot h.1).trans rfl
theorem Dev.alike.bm_eq {a b : Dev} (h : a.alike b) : b.bm = a.bm := (congrArg Dev.bm h.1).trans rfl
theorem Dev.alike.frames_eq {a b : Dev} (h : a.alike b) : b.frames = a.frames := (congrArg Dev.frames h.1).trans rfl
theorem Dev.alike.ports_eq {a b : Dev} (h : a.alike b) : b.ports = a.ports := (congrArg Dev.ports h.1).trans rfl
theorem Dev.alike.lanes_eq {a b : Dev} (h : a.alike b) : b.lanes = a.lanes := (congrArg Dev.lanes h.1).trans rfl
theorem Dev.alike.index_eq {a b : Dev} (h : a.alike b) : b.index = a.index := (congrArg Dev.index h.1).trans rfl
theorem Dev.alike.tbl_eq {a b : Dev} (h : a.alike b) : b.tbl = a.tbl := (congrArg Dev.tbl h.1).trans rfl
theorem Dev.alike.lanterns_eq {a b : Dev} (h : a.alike b) : b.lanterns = a.lanterns := (congrArg Dev.lanterns h.1).trans rfl
theorem Dev.alike.rules_eq {a b : Dev} (h : a.alike b) : b.rules = a.rules := (congrArg Dev.rules h.1).trans rfl
theorem Dev.alike.egr_eq {a b : Dev} (h : a.alike b) : b.egr = a.egr := (congrArg Dev.egr h.1).trans rfl
theorem Dev.alike.taper_eq {a b : Dev} (h : a.alike b) : b.taper = a.taper := (congrArg Dev.taper h.1).trans rfl
theorem Dev.alike.hbm_eq {a b : Dev} (h : a.alike b) : b.hbm = a.hbm := (congrArg Dev.hbm h.1).trans rfl
theorem Dev.alike.cxl_eq {a b : Dev} (h : a.alike b) : b.cxl = a.cxl := (congrArg Dev.cxl h.1).trans rfl
theorem Dev.alike.chan_eq {a b : Dev} (h : a.alike b) : b.chan = a.chan := (congrArg Dev.chan h.1).trans rfl
theorem Dev.alike.free_eq {a b : Dev} (h : a.alike b) : b.free = a.free := (congrArg Dev.free h.1).trans rfl

theorem Dev.alike.get_eq {a b : Dev} (h : a.alike b) (f : Fld) (hf : f.still = true) : b.get f = a.get f := h.2 f hf

end Sys2Proof.Machine
end

