-- ==== Sys2Proof/Laws/Smiem.lean ====
section
/-! SUPPORT. Laws of Smiem: what carrying out a command comes to, given what its body answers; the frame of taking a packet
and of writing a reply. -/

namespace Sys2Proof.Machine
open Sys2Proof

/-! A ready command. -/

theorem smiem_eq {m : Mach} {op : Nat} {q : Req} (h : m.ready op q) (check : Req → Mach → Option Nat)
    (later : Req → Bool) (body : Req → Mach → Res) (hc : check q (m.taken op q) = none) :
    smiem op check later body q m =
      match body q (m.taken op q) with
      | .done m' rep => m.answer op q m' rep
      | .later m' kind => m.begun op q m' kind := by
  obtain ⟨h1, h2, h3, h4, h5, h6⟩ := h
  have hg : (q.genCheck && !later q && q.expectGen.toNat != m.dev.get F.GL_CONFIG_GEN) = false := by
    cases hq : q.genCheck
    · rfl
    · simp [h6 hq]
  unfold smiem smiemOr
  simp only [h1, h2, h3, Bool.not_true, Bool.or_self, Bool.false_eq_true, if_false]
  cases hw : isHw op q.params
  · simp only [Mach.taken] at hc
    simp only [h5 hw, Bool.not_true, Bool.and_false, Bool.false_and, Bool.false_eq_true, if_false, hc, hg]
    rfl
  · have := h4 hw
    simp only [Mach.taken] at hc
    simp only [Bool.not_true, Bool.false_and, Bool.false_eq_true, if_false, Bool.true_and, decide_eq_true_eq,
      Nat.not_lt.mpr this, hc, hg]
    rfl

/-- A ready command whose body replies at once. -/
theorem smiem_done {m m' : Mach} {op : Nat} {q : Req} {rep : Rep} (h : m.ready op q) {check : Req → Mach → Option Nat}
    {later : Req → Bool} {body : Req → Mach → Res} (hc : check q (m.taken op q) = none)
    (hb : body q (m.taken op q) = .done m' rep) : smiem op check later body q m = m.answer op q m' rep := by
  rw [smiem_eq h check later body hc, hb]

/-- A ready command whose body waits. -/
theorem smiem_later {m m' : Mach} {op : Nat} {q : Req} {kind : WaitKind} (h : m.ready op q)
    {check : Req → Mach → Option Nat} {later : Req → Bool} {body : Req → Mach → Res}
    (hc : check q (m.taken op q) = none) (hb : body q (m.taken op q) = .later m' kind) :
    smiem op check later body q m = m.begun op q m' kind := by
  rw [smiem_eq h check later body hc, hb]

/-- A ready command whose body works on the device alone. -/
theorem smiemDev_done {m : Mach} {op : Nat} {q : Req} (h : m.ready op q) {check : Req → Dev → Option Nat}
    {body : Req → Clock → Dev → Dev × Rep} (hc : check q (m.taken op q).dev = none) :
    smiemDev op check body q m =
      m.answer op q ((m.taken op q).setDev (body q m.clk (m.taken op q).dev).1) (body q m.clk (m.taken op q).dev).2 :=
  smiem_done h hc rfl

/-! Taking a packet. -/

theorem takeFetched_dev (d : Dev) (op : Nat) (q : Req) :
    ∃ fs, (d.takeFetched op q).2 = { d with smi := { d.smi with fetched := fs } } := by
  unfold Dev.takeFetched
  split
  · exact ⟨_, rfl⟩
  · exact ⟨d.smi.fetched, rfl⟩

@[simp] theorem Mach.taken_clk (m : Mach) (op : Nat) (q : Req) : (m.taken op q).clk = m.clk := rfl
@[simp] theorem Mach.taken_dram (m : Mach) (op : Nat) (q : Req) : (m.taken op q).dram = m.dram := rfl

@[simp] theorem Mach.taken_get (m : Mach) (op : Nat) (q : Req) (f : Fld) : (m.taken op q).dev.get f = m.dev.get f := by
  obtain ⟨fs, h⟩ := takeFetched_dev m.dev op q
  simp only [Mach.taken, Mach.setDev_dev, h]
  rfl

@[simp] theorem Mach.taken_fld (m : Mach) (op : Nat) (q : Req) : (m.taken op q).dev.fld = m.dev.fld := by
  obtain ⟨fs, h⟩ := takeFetched_dev m.dev op q
  simp only [Mach.taken, Mach.setDev_dev, h]

@[simp] theorem Mach.taken_staged (m : Mach) (op : Nat) (q : Req) : (m.taken op q).dev.staged = m.dev.staged := by
  obtain ⟨fs, h⟩ := takeFetched_dev m.dev op q
  simp only [Mach.taken, Mach.setDev_dev, h]

@[simp] theorem Mach.taken_lamp (m : Mach) (op : Nat) (q : Req) : (m.taken op q).dev.lamp = m.dev.lamp := by
  obtain ⟨fs, h⟩ := takeFetched_dev m.dev op q
  simp only [Mach.taken, Mach.setDev_dev, h]

@[simp] theorem Mach.taken_ctrs (m : Mach) (op : Nat) (q : Req) : (m.taken op q).dev.ctrs = m.dev.ctrs := by
  obtain ⟨fs, h⟩ := takeFetched_dev m.dev op q
  simp only [Mach.taken, Mach.setDev_dev, h]

@[simp] theorem Mach.taken_energy (m : Mach) (op : Nat) (q : Req) : (m.taken op q).dev.energy = m.dev.energy := by
  obtain ⟨fs, h⟩ := takeFetched_dev m.dev op q
  simp only [Mach.taken, Mach.setDev_dev, h]

@[simp] theorem Mach.taken_snap (m : Mach) (op : Nat) (q : Req) : (m.taken op q).dev.snap = m.dev.snap := by
  obtain ⟨fs, h⟩ := takeFetched_dev m.dev op q
  simp only [Mach.taken, Mach.setDev_dev, h]

@[simp] theorem Mach.taken_arch (m : Mach) (op : Nat) (q : Req) : (m.taken op q).dev.arch = m.dev.arch := by
  obtain ⟨fs, h⟩ := takeFetched_dev m.dev op q
  simp only [Mach.taken, Mach.setDev_dev, h]

@[simp] theorem Mach.taken_msix (m : Mach) (op : Nat) (q : Req) : (m.taken op q).dev.msix = m.dev.msix := by
  obtain ⟨fs, h⟩ := takeFetched_dev m.dev op q
  simp only [Mach.taken, Mach.setDev_dev, h]

@[simp] theorem Mach.taken_msixPend (m : Mach) (op : Nat) (q : Req) : (m.taken op q).dev.msixPend = m.dev.msixPend := by
  obtain ⟨fs, h⟩ := takeFetched_dev m.dev op q
  simp only [Mach.taken, Mach.setDev_dev, h]

@[simp] theorem Mach.taken_cfg (m : Mach) (op : Nat) (q : Req) : (m.taken op q).dev.cfg = m.dev.cfg := by
  obtain ⟨fs, h⟩ := takeFetched_dev m.dev op q
  simp only [Mach.taken, Mach.setDev_dev, h]

@[simp] theorem Mach.taken_timeU (m : Mach) (op : Nat) (q : Req) : (m.taken op q).dev.timeU = m.dev.timeU := by
  obtain ⟨fs, h⟩ := takeFetched_dev m.dev op q
  simp only [Mach.taken, Mach.setDev_dev, h]

@[simp] theorem Mach.taken_sconce (m : Mach) (op : Nat) (q : Req) : (m.taken op q).dev.sconce = m.dev.sconce := by
  obtain ⟨fs, h⟩ := takeFetched_dev m.dev op q
  simp only [Mach.taken, Mach.setDev_dev, h]

@[simp] theorem Mach.taken_boot (m : Mach) (op : Nat) (q : Req) : (m.taken op q).dev.boot = m.dev.boot := by
  obtain ⟨fs, h⟩ := takeFetched_dev m.dev op q
  simp only [Mach.taken, Mach.setDev_dev, h]

@[simp] theorem Mach.taken_bm (m : Mach) (op : Nat) (q : Req) : (m.taken op q).dev.bm = m.dev.bm := by
  obtain ⟨fs, h⟩ := takeFetched_dev m.dev op q
  simp only [Mach.taken, Mach.setDev_dev, h]

@[simp] theorem Mach.taken_frames (m : Mach) (op : Nat) (q : Req) : (m.taken op q).dev.frames = m.dev.frames := by
  obtain ⟨fs, h⟩ := takeFetched_dev m.dev op q
  simp only [Mach.taken, Mach.setDev_dev, h]

@[simp] theorem Mach.taken_ports (m : Mach) (op : Nat) (q : Req) : (m.taken op q).dev.ports = m.dev.ports := by
  obtain ⟨fs, h⟩ := takeFetched_dev m.dev op q
  simp only [Mach.taken, Mach.setDev_dev, h]

@[simp] theorem Mach.taken_lanes (m : Mach) (op : Nat) (q : Req) : (m.taken op q).dev.lanes = m.dev.lanes := by
  obtain ⟨fs, h⟩ := takeFetched_dev m.dev op q
  simp only [Mach.taken, Mach.setDev_dev, h]

@[simp] theorem Mach.taken_index (m : Mach) (op : Nat) (q : Req) : (m.taken op q).dev.index = m.dev.index := by
  obtain ⟨fs, h⟩ := takeFetched_dev m.dev op q
  simp only [Mach.taken, Mach.setDev_dev, h]

@[simp] theorem Mach.taken_tbl (m : Mach) (op : Nat) (q : Req) : (m.taken op q).dev.tbl = m.dev.tbl := by
  obtain ⟨fs, h⟩ := takeFetched_dev m.dev op q
  simp only [Mach.taken, Mach.setDev_dev, h]

@[simp] theorem Mach.taken_lanterns (m : Mach) (op : Nat) (q : Req) : (m.taken op q).dev.lanterns = m.dev.lanterns := by
  obtain ⟨fs, h⟩ := takeFetched_dev m.dev op q
  simp only [Mach.taken, Mach.setDev_dev, h]

@[simp] theorem Mach.taken_rules (m : Mach) (op : Nat) (q : Req) : (m.taken op q).dev.rules = m.dev.rules := by
  obtain ⟨fs, h⟩ := takeFetched_dev m.dev op q
  simp only [Mach.taken, Mach.setDev_dev, h]

@[simp] theorem Mach.taken_egr (m : Mach) (op : Nat) (q : Req) : (m.taken op q).dev.egr = m.dev.egr := by
  obtain ⟨fs, h⟩ := takeFetched_dev m.dev op q
  simp only [Mach.taken, Mach.setDev_dev, h]

@[simp] theorem Mach.taken_taper (m : Mach) (op : Nat) (q : Req) : (m.taken op q).dev.taper = m.dev.taper := by
  obtain ⟨fs, h⟩ := takeFetched_dev m.dev op q
  simp only [Mach.taken, Mach.setDev_dev, h]

@[simp] theorem Mach.taken_hbm (m : Mach) (op : Nat) (q : Req) : (m.taken op q).dev.hbm = m.dev.hbm := by
  obtain ⟨fs, h⟩ := takeFetched_dev m.dev op q
  simp only [Mach.taken, Mach.setDev_dev, h]

@[simp] theorem Mach.taken_cxl (m : Mach) (op : Nat) (q : Req) : (m.taken op q).dev.cxl = m.dev.cxl := by
  obtain ⟨fs, h⟩ := takeFetched_dev m.dev op q
  simp only [Mach.taken, Mach.setDev_dev, h]

@[simp] theorem Mach.taken_chan (m : Mach) (op : Nat) (q : Req) : (m.taken op q).dev.chan = m.dev.chan := by
  obtain ⟨fs, h⟩ := takeFetched_dev m.dev op q
  simp only [Mach.taken, Mach.setDev_dev, h]

@[simp] theorem Mach.taken_free (m : Mach) (op : Nat) (q : Req) : (m.taken op q).dev.free = m.dev.free := by
  obtain ⟨fs, h⟩ := takeFetched_dev m.dev op q
  simp only [Mach.taken, Mach.setDev_dev, h]

@[simp] theorem Mach.taken_out (m : Mach) (op : Nat) (q : Req) : (m.taken op q).dev.out = m.dev.out := by
  obtain ⟨fs, h⟩ := takeFetched_dev m.dev op q
  simp only [Mach.taken, Mach.setDev_dev, h]

/-! Writing a reply. -/

/-- b is a but for what a reply changes: the completion rings, Smiem's state, MSI-X and what the device has emitted. -/
def Dev.repliesTo (a b : Dev) : Prop :=
  b = { a with fld := b.fld, smi := b.smi, msixPend := b.msixPend, out := b.out } ∧
    ∀ f : Fld, f.quiet = true → b.get f = a.get f

theorem Dev.repliesTo_refl (a : Dev) : a.repliesTo a := ⟨rfl, fun _ _ => rfl⟩

theorem Dev.repliesTo.trans {a b c : Dev} (h : a.repliesTo b) (g : b.repliesTo c) : a.repliesTo c := by
  refine ⟨?_, fun f hf => (g.2 f hf).trans (h.2 f hf)⟩
  have hb := h.1
  have hc := g.1
  rw [hb] at hc
  exact hc

theorem Fld.still_of_quiet {f : Fld} (h : f.quiet = true) : f.still = true := by
  simp only [Fld.quiet, Bool.and_eq_true] at h
  exact h.1

theorem Dev.repliesTo_set (d : Dev) (f : Fld) (v : Nat) (h : f.quiet = false) (hl : f.lo < 32) : d.repliesTo (d.set f v) := by
  refine ⟨rfl, fun g hg => Dev.get_set_of_ne d v fun e => ?_⟩
  have hgl : g.lo < 32 := by
    have := Fld.still_of_quiet hg
    simp only [Fld.still, Bool.and_eq_true, decide_eq_true_eq] at this
    exact this.1.1.1
  have ho : g.off = f.off := by simp only [Fld.key] at e; omega
  simp only [Fld.quiet, Fld.still, ho, hgl, hl, decide_true, Bool.true_and] at h hg
  rw [h] at hg
  exact absurd hg (by decide)

theorem Dev.repliesTo_smi (d : Dev) (x : Smi) : d.repliesTo { d with smi := x } := ⟨rfl, fun _ _ => rfl⟩
theorem Dev.repliesTo_emit (d : Dev) (o : Out) : d.repliesTo (d.emit o) := ⟨rfl, fun _ _ => rfl⟩

theorem Dev.repliesTo_sendMsix (d : Dev) (v : Nat) : d.repliesTo (d.sendMsix v) := by
  unfold Dev.sendMsix
  split
  · split
    · exact d.repliesTo_refl
    · exact ⟨rfl, fun _ _ => rfl⟩
  · split
    · exact d.repliesTo_set _ _ (by decide) (by decide)
    · exact d.repliesTo_emit _

theorem cq_off {f : Fld} (h1 : 0x408400 ≤ f.off) (h2 : f.off < 0x408800) : f.quiet = false := by
  simp [Fld.quiet, h1, h2]

theorem Dev.repliesTo_coalesce (d : Dev) (c : Nat) (quiet : Bool) : d.repliesTo (d.coalesce c quiet) := by
  unfold Dev.coalesce
  dsimp only
  split
  · exact (d.repliesTo_smi _).trans (Dev.repliesTo_sendMsix _ _)
  · exact d.repliesTo_smi _

/-- A count is a report that no reply's frame sees. -/
theorem Dev.repliesTo_perf (d : Dev) (b s : Nat) : d.repliesTo (d.perf b s) := by
  have hfld : ∃ fl, d.perf b s = { d with fld := fl } := by
    unfold Dev.perf
    split
    · exact ⟨d.fld, rfl⟩
    · have key : ∀ (l : List Nat) (d : Dev), ∃ fl, l.foldl Dev.perfAdd d = { d with fld := fl } := by
        intro l
        induction l with
        | nil => exact fun d => ⟨d.fld, rfl⟩
        | cons j l ih =>
          intro d
          obtain ⟨fl, h⟩ := ih (d.perfAdd j)
          exact ⟨fl, h⟩
      exact key _ d
  obtain ⟨fl, h⟩ := hfld
  refine ⟨by rw [h], fun f hf => (Dev.alike_perf d b s).2 f (Fld.still_of_quiet hf)⟩

/-- What a reply changes (R422). -/
theorem Dev.repliesTo_reply (d : Dev) (k : Clock) (op : Nat) (q : Req) (c : Fin 16) (hw : Bool) (rep : Rep) :
    d.repliesTo (d.reply k op q c hw rep) := by
  have ht : ∀ (x : Dev) (v : Nat), x.repliesTo (x.set (F.CQ_TAIL c) v) := fun x v =>
    x.repliesTo_set _ v (cq_off (by simp only [F.CQ_TAIL]; omega) (by simp only [F.CQ_TAIL]; omega)) (by simp [F.CQ_TAIL])
  have hp : ∀ (x : Dev) (v : Nat), x.repliesTo (x.set (F.CQ_PHASE c) v) := fun x v =>
    x.repliesTo_set _ v (cq_off (by simp only [F.CQ_PHASE]; omega) (by simp only [F.CQ_PHASE]; omega)) (by simp [F.CQ_PHASE])
  unfold Dev.reply
  dsimp only
  refine Dev.repliesTo.trans ?_ (Dev.repliesTo_perf _ _ _)
  refine Dev.repliesTo.trans ?_ (Dev.repliesTo_coalesce _ _ _)
  refine Dev.repliesTo.trans ?_ (Dev.repliesTo_smi _ _)
  split
  · exact ((d.repliesTo_emit _).trans (ht _ _)).trans (hp _ _)
  · exact (d.repliesTo_emit _).trans (ht _ _)

theorem Dev.repliesTo_complete (d : Dev) (k : Clock) (op : Nat) (q : Req) (c : Fin 16) (noReply : Bool) (rep : Rep) :
    d.repliesTo (d.complete k op q c noReply rep) := by
  unfold Dev.complete
  split
  · exact d.repliesTo_perf _ _
  · exact d.repliesTo_reply k op q c _ rep

@[simp] theorem Mach.answer_clk (m : Mach) (op : Nat) (q : Req) (m' : Mach) (rep : Rep) :
    (m.answer op q m' rep).clk = m'.clk := rfl
@[simp] theorem Mach.answer_dram (m : Mach) (op : Nat) (q : Req) (m' : Mach) (rep : Rep) :
    (m.answer op q m' rep).dram = m'.dram := rfl

/-- A reply leaves every quiet field as the command's body left it. -/
theorem Mach.answer_get (m : Mach) (op : Nat) (q : Req) (m' : Mach) (rep : Rep) {f : Fld} (hf : f.quiet = true) :
    (m.answer op q m' rep).dev.get f = m'.dev.get f := (Dev.repliesTo_complete _ _ _ _ _ _ _).2 f hf

@[simp] theorem Mach.answer_staged (m : Mach) (op : Nat) (q : Req) (m' : Mach) (rep : Rep) :
    (m.answer op q m' rep).dev.staged = m'.dev.staged :=
  (congrArg Dev.staged (Dev.repliesTo_complete _ _ _ _ _ _ _).1).trans rfl
@[simp] theorem Mach.answer_ctrs (m : Mach) (op : Nat) (q : Req) (m' : Mach) (rep : Rep) :
    (m.answer op q m' rep).dev.ctrs = m'.dev.ctrs :=
  (congrArg Dev.ctrs (Dev.repliesTo_complete _ _ _ _ _ _ _).1).trans rfl
@[simp] theorem Mach.answer_energy (m : Mach) (op : Nat) (q : Req) (m' : Mach) (rep : Rep) :
    (m.answer op q m' rep).dev.energy = m'.dev.energy :=
  (congrArg Dev.energy (Dev.repliesTo_complete _ _ _ _ _ _ _).1).trans rfl
@[simp] theorem Mach.answer_snap (m : Mach) (op : Nat) (q : Req) (m' : Mach) (rep : Rep) :
    (m.answer op q m' rep).dev.snap = m'.dev.snap :=
  (congrArg Dev.snap (Dev.repliesTo_complete _ _ _ _ _ _ _).1).trans rfl
@[simp] theorem Mach.answer_arch (m : Mach) (op : Nat) (q : Req) (m' : Mach) (rep : Rep) :
    (m.answer op q m' rep).dev.arch = m'.dev.arch :=
  (congrArg Dev.arch (Dev.repliesTo_complete _ _ _ _ _ _ _).1).trans rfl
@[simp] theorem Mach.answer_msix (m : Mach) (op : Nat) (q : Req) (m' : Mach) (rep : Rep) :
    (m.answer op q m' rep).dev.msix = m'.dev.msix :=
  (congrArg Dev.msix (Dev.repliesTo_complete _ _ _ _ _ _ _).1).trans rfl
@[simp] theorem Mach.answer_cfg (m : Mach) (op : Nat) (q : Req) (m' : Mach) (rep : Rep) :
    (m.answer op q m' rep).dev.cfg = m'.dev.cfg :=
  (congrArg Dev.cfg (Dev.repliesTo_complete _ _ _ _ _ _ _).1).trans rfl
@[simp] theorem Mach.answer_timeU (m : Mach) (op : Nat) (q : Req) (m' : Mach) (rep : Rep) :
    (m.answer op q m' rep).dev.timeU = m'.dev.timeU :=
  (congrArg Dev.timeU (Dev.repliesTo_complete _ _ _ _ _ _ _).1).trans rfl
@[simp] theorem Mach.answer_sconce (m : Mach) (op : Nat) (q : Req) (m' : Mach) (rep : Rep) :
    (m.answer op q m' rep).dev.sconce = m'.dev.sconce :=
  (congrArg Dev.sconce (Dev.repliesTo_complete _ _ _ _ _ _ _).1).trans rfl
@[simp] theorem Mach.answer_boot (m : Mach) (op : Nat) (q : Req) (m' : Mach) (rep : Rep) :
    (m.answer op q m' rep).dev.boot = m'.dev.boot :=
  (congrArg Dev.boot (Dev.repliesTo_complete _ _ _ _ _ _ _).1).trans rfl
@[simp] theorem Mach.answer_bm (m : Mach) (op : Nat) (q : Req) (m' : Mach) (rep : Rep) :
    (m.answer op q m' rep).dev.bm = m'.dev.bm :=
  (congrArg Dev.bm (Dev.repliesTo_complete _ _ _ _ _ _ _).1).trans rfl
@[simp] theorem Mach.answer_frames (m : Mach) (op : Nat) (q : Req) (m' : Mach) (rep : Rep) :
    (m.answer op q m' rep).dev.frames = m'.dev.frames :=
  (congrArg Dev.frames (Dev.repliesTo_complete _ _ _ _ _ _ _).1).trans rfl
@[simp] theorem Mach.answer_ports (m : Mach) (op : Nat) (q : Req) (m' : Mach) (rep : Rep) :
    (m.answer op q m' rep).dev.ports = m'.dev.ports :=
  (congrArg Dev.ports (Dev.repliesTo_complete _ _ _ _ _ _ _).1).trans rfl
@[simp] theorem Mach.answer_lanes (m : Mach) (op : Nat) (q : Req) (m' : Mach) (rep : Rep) :
    (m.answer op q m' rep).dev.lanes = m'.dev.lanes :=
  (congrArg Dev.lanes (Dev.repliesTo_complete _ _ _ _ _ _ _).1).trans rfl
@[simp] theorem Mach.answer_index (m : Mach) (op : Nat) (q : Req) (m' : Mach) (rep : Rep) :
    (m.answer op q m' rep).dev.index = m'.dev.index :=
  (congrArg Dev.index (Dev.repliesTo_complete _ _ _ _ _ _ _).1).trans rfl
@[simp] theorem Mach.answer_tbl (m : Mach) (op : Nat) (q : Req) (m' : Mach) (rep : Rep) :
    (m.answer op q m' rep).dev.tbl = m'.dev.tbl :=
  (congrArg Dev.tbl (Dev.repliesTo_complete _ _ _ _ _ _ _).1).trans rfl
@[simp] theorem Mach.answer_lanterns (m : Mach) (op : Nat) (q : Req) (m' : Mach) (rep : Rep) :
    (m.answer op q m' rep).dev.lanterns = m'.dev.lanterns :=
  (congrArg Dev.lanterns (Dev.repliesTo_complete _ _ _ _ _ _ _).1).trans rfl
@[simp] theorem Mach.answer_rules (m : Mach) (op : Nat) (q : Req) (m' : Mach) (rep : Rep) :
    (m.answer op q m' rep).dev.rules = m'.dev.rules :=
  (congrArg Dev.rules (Dev.repliesTo_complete _ _ _ _ _ _ _).1).trans rfl
@[simp] theorem Mach.answer_egr (m : Mach) (op : Nat) (q : Req) (m' : Mach) (rep : Rep) :
    (m.answer op q m' rep).dev.egr = m'.dev.egr :=
  (congrArg Dev.egr (Dev.repliesTo_complete _ _ _ _ _ _ _).1).trans rfl
@[simp] theorem Mach.answer_taper (m : Mach) (op : Nat) (q : Req) (m' : Mach) (rep : Rep) :
    (m.answer op q m' rep).dev.taper = m'.dev.taper :=
  (congrArg Dev.taper (Dev.repliesTo_complete _ _ _ _ _ _ _).1).trans rfl
@[simp] theorem Mach.answer_hbm (m : Mach) (op : Nat) (q : Req) (m' : Mach) (rep : Rep) :
    (m.answer op q m' rep).dev.hbm = m'.dev.hbm :=
  (congrArg Dev.hbm (Dev.repliesTo_complete _ _ _ _ _ _ _).1).trans rfl
@[simp] theorem Mach.answer_cxl (m : Mach) (op : Nat) (q : Req) (m' : Mach) (rep : Rep) :
    (m.answer op q m' rep).dev.cxl = m'.dev.cxl :=
  (congrArg Dev.cxl (Dev.repliesTo_complete _ _ _ _ _ _ _).1).trans rfl
@[simp] theorem Mach.answer_chan (m : Mach) (op : Nat) (q : Req) (m' : Mach) (rep : Rep) :
    (m.answer op q m' rep).dev.chan = m'.dev.chan :=
  (congrArg Dev.chan (Dev.repliesTo_complete _ _ _ _ _ _ _).1).trans rfl
@[simp] theorem Mach.answer_free (m : Mach) (op : Nat) (q : Req) (m' : Mach) (rep : Rep) :
    (m.answer op q m' rep).dev.free = m'.dev.free :=
  (congrArg Dev.free (Dev.repliesTo_complete _ _ _ _ _ _ _).1).trans rfl
@[simp] theorem Mach.answer_lamp (m : Mach) (op : Nat) (q : Req) (m' : Mach) (rep : Rep) :
    (m.answer op q m' rep).dev.lamp = m'.dev.lamp :=
  (congrArg Dev.lamp (Dev.repliesTo_complete _ _ _ _ _ _ _).1).trans rfl

end Sys2Proof.Machine
end

