-- ==== Sys2Proof/Laws/Machine.lean ====
section
/-! SUPPORT. Laws of the whole machine: which commands reach network time or the DRAM, and how. -/

namespace Sys2Proof.Machine
open Sys2Proof

set_option linter.unusedTactic false
set_option linter.unreachableTactic false

/-! The Smiem engine. -/

theorem smiemDev_exec {op : Nat} {check : Req → Dev → Option Nat} {body : Req → Clock → Dev → Dev × Rep} {q : Req} :
    ∃ onBad check' later body', ∀ s, onMach (smiemDev op check body q) s = onMach (smiemOr onBad op check' later body' q) s :=
  ⟨id, fun q m => check q m.dev, fun _ => false, fun q m => .done (m.setDev (body q m.clk m.dev).1) (body q m.clk m.dev).2,
    fun _ => rfl⟩

/-- A Smiem command is one run of the Smiem engine. -/
theorem smiem_exec {c : Instr} {op : Nat} {q : Req} (h : smiemOf c = some (op, q)) :
    ∃ onBad check later body, ∀ s, exec c s = onMach (smiemOr onBad op check later body q) s := by
  cases c <;> first
    | (cases h; done)
    | (cases h; exact ⟨_, _, _, _, fun _ => rfl⟩)
    | (cases h; exact smiemDev_exec)

theorem smiemOr_waits {onBad : Mach → Mach} {op : Nat} {check : Req → Mach → Option Nat} {later : Req → Bool}
    {body : Req → Mach → Res} {q : Req} {m : Mach} (h : m.dev.smi.mayStart op q = false) :
    ∃ held, smiemOr onBad op check later body q m = m.setDev { m.dev with smi := { m.dev.smi with fetched := held } } ∧
      ∀ e ∈ m.dev.smi.fetched, e ∈ held := by
  unfold smiemOr
  dsimp only
  split
  · exact ⟨_, rfl, fun e he => he⟩
  · simp only [h, Bool.not_false, if_true]
    split
    · exact ⟨_, rfl, fun e he => he⟩
    · exact ⟨_, rfl, fun e he => List.mem_append_left _ he⟩

theorem smiemOr_stale {onBad : Mach → Mach} {op : Nat} {check : Req → Mach → Option Nat} {later : Req → Bool}
    {body : Req → Mach → Res} {q : Req} {m : Mach} (hp : m.dev.boot.porN = true) (hf : m.dev.flag F.BT_FAILED = false)
    (hm : m.dev.smi.mayStart op q = true) (hs : 3 ≤ m.dev.boot.step) (hw : m.dev.flag F.SM_FW_READY = true)
    (hg : q.genCheck = true) (hx : q.expectGen.toNat ≠ m.dev.get F.GL_CONFIG_GEN) (hl : later q = false)
    (hc : check q (m.taken op q) = none) :
    smiemOr onBad op check later body q m = m.replied op q ⟨stStale, m.dev.get F.GL_CONFIG_GEN, 0⟩ := by
  unfold smiemOr
  simp only [Mach.taken] at hc
  simp only [hp, hf, hm, hw, hg, hl, hc, Bool.not_true, Bool.or_self, Bool.false_eq_true, if_false, Bool.not_false,
    Bool.and_self, if_true, Bool.and_false, Nat.not_lt.mpr hs, decide_false, bne_iff_ne, ne_eq, hx, not_false_eq_true,
    Bool.true_and]
  rfl

theorem smiemOr_bad {op : Nat} {check : Req → Mach → Option Nat} {later : Req → Bool}
    {body : Req → Mach → Res} {q : Req} {m : Mach} {o : Nat} (hp : m.dev.boot.porN = true) (hf : m.dev.flag F.BT_FAILED = false)
    (hm : m.dev.smi.mayStart op q = true) (hs : 3 ≤ m.dev.boot.step) (hw : m.dev.flag F.SM_FW_READY = true)
    (hc : check q (m.taken op q) = some o) :
    smiemOr id op check later body q m = m.replied op q ⟨stBadParam, o, 0⟩ := by
  unfold smiemOr
  simp only [Mach.taken] at hc
  simp only [hp, hf, hm, hw, hc, Bool.not_true, Bool.or_self, Bool.false_eq_true, if_false, Bool.and_false,
    Nat.not_lt.mpr hs, decide_false]
  rfl

theorem smiemDev_stale {op : Nat} {check : Req → Dev → Option Nat} {body : Req → Clock → Dev → Dev × Rep} {q : Req} {m : Mach}
    (hp : m.dev.boot.porN = true) (hf : m.dev.flag F.BT_FAILED = false)
    (hm : m.dev.smi.mayStart op q = true) (hs : 3 ≤ m.dev.boot.step) (hw : m.dev.flag F.SM_FW_READY = true)
    (hg : q.genCheck = true) (hx : q.expectGen.toNat ≠ m.dev.get F.GL_CONFIG_GEN) (hc : check q (m.taken op q).dev = none) :
    smiemDev op check body q m = m.replied op q ⟨stStale, m.dev.get F.GL_CONFIG_GEN, 0⟩ :=
  smiemOr_stale (check := fun q m => check q m.dev) (later := fun _ => false)
    (body := fun q m => .done (m.setDev (body q m.clk m.dev).1) (body q m.clk m.dev).2) hp hf hm hs hw hg hx rfl hc

theorem smiemDev_bad {op : Nat} {check : Req → Dev → Option Nat} {body : Req → Clock → Dev → Dev × Rep} {q : Req} {m : Mach}
    {o : Nat} (hp : m.dev.boot.porN = true) (hf : m.dev.flag F.BT_FAILED = false)
    (hm : m.dev.smi.mayStart op q = true) (hs : 3 ≤ m.dev.boot.step) (hw : m.dev.flag F.SM_FW_READY = true)
    (hc : check q (m.taken op q).dev = some o) :
    smiemDev op check body q m = m.replied op q ⟨stBadParam, o, 0⟩ :=
  smiemOr_bad (check := fun q m => check q m.dev) (later := fun _ => false)
    (body := fun q m => .done (m.setDev (body q m.clk m.dev).1) (body q m.clk m.dev).2) hp hf hm hs hw hc

/-! Parameter checks (R425). -/

theorem badParam_none {len : Nat} {used : List (Nat × Nat)} {bad : List (Nat × Bool)} {p : Bytes} (h1 : p.length ≤ len)
    (h2 : ∀ o < len, (used.any (fun u => u.1 ≤ o && o < u.1 + u.2) = true ∨ byteAt p o = 0)) (h3 : ∀ b ∈ bad, b.2 = false) :
    badParam len used bad p = none := by
  unfold badParam
  rw [if_neg (by omega)]
  rw [List.head?_eq_none_iff, List.filter_eq_nil_iff]
  intro o ho
  rw [List.mem_range] at ho
  simp only [Bool.or_eq_true, Bool.and_eq_true, not_or, not_and, Bool.not_eq_true]
  refine ⟨fun hu => ?_, ?_⟩
  · rcases h2 o ho with h | h
    · simp [h] at hu
    · simp [h]
  · rw [List.any_eq_false]
    intro b hb
    simp [h3 b hb]

theorem badParam_long {len : Nat} {used : List (Nat × Nat)} {bad : List (Nat × Bool)} {p : Bytes} (h1 : len < p.length) :
    badParam len used bad p = some 0xFFFF := by
  unfold badParam
  rw [if_pos h1]

theorem badParam_first {len o : Nat} {used : List (Nat × Nat)} {bad : List (Nat × Bool)} {p : Bytes} (h1 : p.length ≤ len)
    (ho : o < len) (h : (!used.any (fun u => u.1 ≤ o && o < u.1 + u.2) && byteAt p o != 0 || bad.any (fun b => b.1 == o && b.2)) = true)
    (h2 : ∀ i < o, (used.any (fun u => u.1 ≤ i && i < u.1 + u.2) = true ∨ byteAt p i = 0) ∧ ∀ b ∈ bad, b.1 = i → b.2 = false) :
    badParam len used bad p = some o := by
  unfold badParam
  rw [if_neg (by omega), List.head?_filter, List.find?_eq_some_iff_append]
  refine ⟨h, List.range o, (List.range (len - o - 1)).map (· + (o + 1)), ?_, ?_⟩
  · apply List.ext_getElem
    · simp; omega
    · intro i a b
      simp only [List.getElem_range, List.getElem_append, List.length_range, List.getElem_cons, List.getElem_map]
      split
      · rfl
      · split <;> omega
  · intro i hi
    rw [List.mem_range] at hi
    obtain ⟨a, b⟩ := h2 i hi
    simp only [Bool.not_or, Bool.and_eq_true, Bool.not_eq_true', Bool.not_and, Bool.not_not, Bool.or_eq_true]
    refine ⟨?_, ?_⟩
    · rcases a with a | a
      · left; exact a
      · right; simp [a]
    · rw [List.any_eq_false]
      intro x hx
      by_cases hxi : x.1 = i
      · simp [b x hx hxi]
      · simp [hxi]

/-! What a Smiem command does to time and DRAM is what its body does. -/

/-- The machine a body leaves. -/
def Res.mach : Res → Mach
  | .done m _ => m
  | .later m _ => m

theorem smiemOr_keeps (P : Clock → Memory → Prop) {onBad : Mach → Mach} {op : Nat} {check : Req → Mach → Option Nat}
    {later : Req → Bool} {body : Req → Mach → Res} {q : Req}
    (hb : ∀ m, P m.clk m.dram → P (body q m).mach.clk (body q m).mach.dram)
    (hbad : ∀ m, P m.clk m.dram → P (onBad m).clk (onBad m).dram) (m : Mach) (hm : P m.clk m.dram) :
    P (smiemOr onBad op check later body q m).clk (smiemOr onBad op check later body q m).dram := by
  unfold smiemOr
  dsimp only
  have h0 : P (m.setDev (m.dev.takeFetched op q).2).clk (m.setDev (m.dev.takeFetched op q).2).dram := hm
  have h1 := hb _ h0
  have h2 := hbad _ h0
  split
  · exact hm
  split
  · split <;> exact hm
  split
  · split <;> exact hm
  split
  · exact hm
  split
  · exact h2
  split
  · exact hm
  cases h : body q (m.setDev (m.dev.takeFetched op q).2) with
  | done m' rep => rw [h] at h1; exact h1
  | later m' kind => rw [h] at h1; exact h1

theorem smiem_keeps (P : Clock → Memory → Prop) {op : Nat} {check : Req → Mach → Option Nat} {later : Req → Bool}
    {body : Req → Mach → Res} {q : Req} (hb : ∀ m, P m.clk m.dram → P (body q m).mach.clk (body q m).mach.dram)
    (m : Mach) (hm : P m.clk m.dram) :
    P (smiem op check later body q m).clk (smiem op check later body q m).dram :=
  smiemOr_keeps P hb (fun _ h => h) m hm

theorem smiemDev_keeps (P : Clock → Memory → Prop) {op : Nat} {check : Req → Dev → Option Nat}
    {body : Req → Clock → Dev → Dev × Rep} {q : Req} (m : Mach) (hm : P m.clk m.dram) :
    P (smiemDev op check body q m).clk (smiemDev op check body q m).dram := smiemOr_keeps P (body := fun q m => .done (m.setDev (body q m.clk m.dev).1) (body q m.clk m.dev).2) (fun _ h => h) (fun _ h => h) m hm

/-! Bodies that leave time and DRAM alone. -/

/-- Neither network time nor the DRAM has changed. -/
def Mach.still (m m' : Mach) : Prop := m'.clk = m.clk ∧ m'.dram = m.dram

theorem Mach.still_refl (m : Mach) : m.still m := ⟨rfl, rfl⟩

theorem still_done (m : Mach) (d : Dev) (r : Rep) : m.still (Res.done (m.setDev d) r).mach := ⟨rfl, rfl⟩
theorem still_later (m : Mach) (d : Dev) (w : WaitKind) : m.still (Res.later (m.setDev d) w).mach := ⟨rfl, rfl⟩
theorem still_done_here (m : Mach) (r : Rep) : m.still (Res.done m r).mach := ⟨rfl, rfl⟩
theorem still_later_here (m : Mach) (w : WaitKind) : m.still (Res.later m w).mach := ⟨rfl, rfl⟩

theorem still_ite {m : Mach} {c : Prop} [Decidable c] {a b : Res} (ha : m.still a.mach) (hb : m.still b.mach) :
    m.still (if c then a else b).mach := by split <;> assumption

theorem still_serialised (m : Mach) (f : HSpec → Dev → TabOut × Dev) (q : Req) : m.still (serialised m f q).2 := by
  unfold serialised
  split
  · exact m.still_refl
  · exact ⟨rfl, rfl⟩

theorem still_commit (q : Req) (m : Mach) : m.still (commit q m).mach := by
  unfold commit
  dsimp only
  repeat' (first | exact still_done _ _ _ | exact still_later _ _ _ | exact still_done_here _ _ | exact still_later_here _ _ | refine still_ite ?_ ?_ | split)

theorem still_rulesetSwap (q : Req) (m : Mach) : m.still (rulesetSwap q m).mach := by
  unfold rulesetSwap
  dsimp only
  repeat' (first | exact still_done _ _ _ | exact still_later _ _ _ | exact still_done_here _ _ | exact still_later_here _ _ | refine still_ite ?_ ?_ | split)

theorem still_cstoreLoad (q : Req) (m : Mach) : m.still (cstoreLoad q m).mach := by
  unfold cstoreLoad
  dsimp only
  repeat' (first | exact still_done _ _ _ | exact still_later _ _ _ | exact still_done_here _ _ | exact still_later_here _ _ | refine still_ite ?_ ?_ | split)

theorem still_dispatchLoad (q : Req) (m : Mach) : m.still (dispatchLoad q m).mach := by
  unfold dispatchLoad
  dsimp only
  repeat' (first | exact still_done _ _ _ | exact still_later _ _ _ | exact still_done_here _ _ | exact still_later_here _ _ | refine still_ite ?_ ?_ | split)

theorem still_policerSet (q : Req) (m : Mach) : m.still (policerSet q m).mach := by
  unfold policerSet
  dsimp only
  repeat' (first | exact still_done _ _ _ | exact still_later _ _ _ | exact still_done_here _ _ | exact still_later_here _ _ | refine still_ite ?_ ?_ | split)

theorem still_laneDark (q : Req) (m : Mach) : m.still (laneDark q m).mach := by
  unfold laneDark
  dsimp only
  repeat' (first | exact still_done _ _ _ | exact still_later _ _ _ | exact still_done_here _ _ | exact still_later_here _ _ | refine still_ite ?_ ?_ | split)

theorem still_laneLight (q : Req) (m : Mach) : m.still (laneLight q m).mach := by
  unfold laneLight
  dsimp only
  repeat' (first | exact still_done _ _ _ | exact still_later _ _ _ | exact still_done_here _ _ | exact still_later_here _ _ | refine still_ite ?_ ?_ | split)

theorem still_portConfig (q : Req) (m : Mach) : m.still (portConfig q m).mach := by
  unfold portConfig
  dsimp only
  repeat' (first | exact still_done _ _ _ | exact still_later _ _ _ | exact still_done_here _ _ | exact still_later_here _ _ | refine still_ite ?_ ?_ | split)

theorem still_eventRead (q : Req) (m : Mach) : m.still (eventRead q m).mach := by
  unfold eventRead
  dsimp only
  repeat' (first | exact still_done _ _ _ | exact still_later _ _ _ | exact still_done_here _ _ | exact still_later_here _ _ | refine still_ite ?_ ?_ | split)

theorem still_counterRead (bad : List Nat) (q : Req) (m : Mach) : m.still (counterRead bad q m).mach := by
  unfold counterRead
  dsimp only
  repeat' (first | exact still_done _ _ _ | exact still_later _ _ _ | exact still_done_here _ _ | exact still_later_here _ _ | refine still_ite ?_ ?_ | split)

theorem still_counterSnapshot (q : Req) (m : Mach) : m.still (counterSnapshot q m).mach := by
  unfold counterSnapshot
  dsimp only
  repeat' (first | exact still_done _ _ _ | exact still_later _ _ _ | exact still_done_here _ _ | exact still_later_here _ _ | refine still_ite ?_ ?_ | split)

theorem still_bankAssign (q : Req) (m : Mach) : m.still (bankAssign q m).mach := by
  unfold bankAssign
  dsimp only
  repeat' (first | exact still_done _ _ _ | exact still_later _ _ _ | exact still_done_here _ _ | exact still_later_here _ _ | refine still_ite ?_ ?_ | split)

theorem still_bankTest (q : Req) (m : Mach) : m.still (bankTest q m).mach := by
  unfold bankTest
  dsimp only
  repeat' (first | exact still_done _ _ _ | exact still_later _ _ _ | exact still_done_here _ _ | exact still_later_here _ _ | refine still_ite ?_ ?_ | split)

theorem still_frameSend (q : Req) (m : Mach) : m.still (frameSend q m).mach := by
  unfold frameSend
  dsimp only
  repeat' (first | exact still_done _ _ _ | exact still_later _ _ _ | exact still_done_here _ _ | exact still_later_here _ _ | refine still_ite ?_ ?_ | split)

theorem still_fwUpdate (q : Req) (m : Mach) : m.still (fwUpdate q m).mach := by
  unfold fwUpdate
  dsimp only
  repeat' (first | exact still_done _ _ _ | exact still_later _ _ _ | exact still_done_here _ _ | exact still_later_here _ _ | refine still_ite ?_ ?_ | split)

theorem still_tableLookup (q : Req) (m : Mach) : m.still (tableLookup q m).mach := by
  unfold tableLookup
  dsimp only
  repeat' (first | exact still_done _ _ _ | exact still_later _ _ _ | exact still_done_here _ _ | exact still_later_here _ _ | refine still_ite ?_ ?_ | split)

theorem still_dmaWrite (q : Req) (m : Mach) : m.still (dmaWrite q m).mach := by
  unfold dmaWrite
  dsimp only
  repeat' (first | exact still_done _ _ _ | exact still_later _ _ _ | exact still_done_here _ _ | exact still_later_here _ _ | refine still_ite ?_ ?_ | split)

theorem still_wickTrim (q : Req) (m : Mach) : m.still (wickTrim q m).mach := by
  unfold wickTrim
  dsimp only
  repeat' (first | exact still_done _ _ _ | exact still_later _ _ _ | exact still_done_here _ _ | exact still_later_here _ _ | refine still_ite ?_ ?_ | split)

theorem still_wickRelight (q : Req) (m : Mach) : m.still (wickRelight q m).mach := by
  unfold wickRelight
  dsimp only
  repeat' (first | exact still_done _ _ _ | exact still_later _ _ _ | exact still_done_here _ _ | exact still_later_here _ _ | refine still_ite ?_ ?_ | split)

theorem still_resetDomain (q : Req) (m : Mach) : m.still (resetDomain q m).mach := by
  unfold resetDomain
  repeat' (first | exact still_done _ _ _ | exact still_later _ _ _ | exact still_done_here _ _ | exact still_later_here _ _ | refine still_ite ?_ ?_ | split)

theorem still_tableInsert (q : Req) (m : Mach) : m.still (tableInsert q m).mach := by
  have h := still_serialised m (fun h d => d.tabInsert m.clk h (sliceZ q.params 4 (recSize h.id)) (q.flagAt 2 0)) q
  unfold tableInsert
  exact h

theorem still_tableDelete (q : Req) (m : Mach) : m.still (tableDelete q m).mach := by
  have h := still_serialised m (fun h d => d.tabDelete h (sliceZ q.params 4 (recSize h.id)) (q.flagAt 2 0)) q
  unfold tableDelete
  dsimp only
  split <;> exact h

theorem still_tableLock (q : Req) (m : Mach) : m.still (tableLock q m).mach := by
  have h := still_serialised m (fun h d =>
    match d.findKey h (recKey h.id (sliceZ q.params 4 (recSize h.id))) with
    | none => (.notFound, d)
    | some (slot, e) => (.ok slot false, d.putEnt h slot { e with lock := q.flagAt 2 0 })) q
  unfold tableLock
  dsimp only
  split <;> exact h

/-! Machine-level effects that leave time and DRAM alone, or only one of them. -/

theorem still_smiemOr {onBad : Mach → Mach} {op : Nat} {check : Req → Mach → Option Nat}
    {later : Req → Bool} {body : Req → Mach → Res} {q : Req} (hb : ∀ m : Mach, m.still (body q m).mach)
    (hbad : ∀ m : Mach, m.still (onBad m)) (m : Mach) : m.still (smiemOr onBad op check later body q m) :=
  smiemOr_keeps (fun k x => k = m.clk ∧ x = m.dram)
    (fun n h => ⟨(hb n).1.trans h.1, (hb n).2.trans h.2⟩) (fun n h => ⟨(hbad n).1.trans h.1, (hbad n).2.trans h.2⟩) m ⟨rfl, rfl⟩

theorem still_smiem {op : Nat} {check : Req → Mach → Option Nat} {later : Req → Bool} {body : Req → Mach → Res} {q : Req}
    (hb : ∀ m : Mach, m.still (body q m).mach) (m : Mach) : m.still (smiem op check later body q m) :=
  still_smiemOr hb Mach.still_refl m

theorem still_smiemDev {op : Nat} {check : Req → Dev → Option Nat} {body : Req → Clock → Dev → Dev × Rep} {q : Req}
    (m : Mach) : m.still (smiemDev op check body q m) :=
  still_smiemOr (body := fun q m => .done (m.setDev (body q m.clk m.dev).1) (body q m.clk m.dev).2)
    (fun m => still_done m _ _) Mach.still_refl m

theorem Mach.still.trans {a b c : Mach} (h : a.still b) (g : b.still c) : a.still c := ⟨g.1.trans h.1, g.2.trans h.2⟩

theorem still_setDev (m : Mach) (d : Dev) : m.still (m.setDev d) := ⟨rfl, rfl⟩
theorem still_onDev (m : Mach) (f : Clock → Dev → Dev) : m.still (m.onDev f) := ⟨rfl, rfl⟩

theorem still_hostTimeout (r : Fin 16) (tag : Option Nat) (m : Mach) : m.still (hostTimeout r tag m) := by
  unfold hostTimeout
  dsimp only
  repeat' split
  all_goals first
    | exact m.still_refl
    | exact still_onDev m _
    | exact still_smiem (still_dmaWrite _) m
    | exact still_smiem (still_cstoreLoad _) m
    | exact still_smiem (still_dispatchLoad _) m
    | exact still_smiem (still_fwUpdate _) m
    | exact still_smiem (still_frameSend _) m

theorem still_compareSlice (host : List (Nat × Nat × Nat)) (m : Mach) : m.still (compareSlice host m) := by
  unfold compareSlice
  dsimp only
  split
  · exact m.still_refl
  · exact still_setDev m _

theorem still_compareConfirm (b : Bool) (m : Mach) : m.still (compareConfirm b m) := by
  unfold compareConfirm
  dsimp only
  repeat' split
  all_goals first | exact still_setDev m _ | exact m.still_refl

theorem still_eventMessage (m : Mach) : m.still (eventMessage m) := by
  unfold eventMessage
  dsimp only
  split
  · exact m.still_refl
  · exact still_setDev m _

theorem still_blockSend (m : Mach) : m.still (blockSend m) := by
  have h := still_eventMessage m
  unfold blockSend
  dsimp only
  repeat' split
  all_goals first | exact m.still_refl | exact h | exact h.trans (still_setDev _ _)

theorem still_hogReturn (f : Nat) (b : Option Nat) (m : Mach) : m.still (hogReturn f b m) := by
  unfold hogReturn
  dsimp only
  repeat' split
  all_goals first | exact still_setDev m _ | exact m.still_refl

theorem still_porRelease (b : Fin 4) (ok : Bool) (sp : Nat × Nat) (fb : List Nat) (m : Mach) : m.still (porRelease b ok sp fb m) := by
  unfold porRelease
  dsimp only
  repeat' split
  all_goals first | exact still_setDev m _ | exact m.still_refl | exact ⟨rfl, rfl⟩

/-- What a command on the machine does to time and DRAM. -/
theorem still_onMach {f : Mach → Mach} {s t : State} (hf : s.m.still (f s.m)) (h : onMach f s = .next t) : s.m.still t.m := by
  simp only [onMach] at h
  split at h <;> cases h
  · exact hf
  · exact s.m.still_refl

theorem still_of_onDev {f : Clock → Dev → Dev} {s t : State} (h : onDev f s = .next t) : s.m.still t.m := by
  simp only [onDev] at h
  split at h <;> cases h
  · exact still_onDev _ _
  · exact s.m.still_refl

/-! Effects that write the DRAM. -/

/-- Network time has not changed, and the DRAM keeps its canonical form. -/
def Mach.tidy (m m' : Mach) : Prop := m'.clk = m.clk ∧ (Memory.wf m.dram = true → Memory.wf m'.dram = true)

theorem Mach.still.tidy {m m' : Mach} (h : m.still m') : m.tidy m' := ⟨h.1, fun w => by rw [h.2]; exact w⟩

theorem Mach.tidy.trans {a b c : Mach} (h : a.tidy b) (g : b.tidy c) : a.tidy c := ⟨g.1.trans h.1, fun w => g.2 (h.2 w)⟩

theorem tidy_mwrite {m m' : Mach} (a : Nat) (b : Bytes) (h1 : m'.clk = m.clk) (h2 : m'.dram = mwrite m.dram a b) : m.tidy m' :=
  ⟨h1, fun w => by rw [h2]; exact mwrite_wf b a w⟩

theorem tidy_bulkWrite (m : Mach) (loc a : Nat) (b : Bytes) : m.tidy (m.bulkWrite loc a b) := by
  unfold Mach.bulkWrite
  split
  · exact m.still_refl.tidy
  split
  · exact (still_setDev m _).tidy
  · exact tidy_mwrite _ _ rfl rfl

theorem tidy_smiem {op : Nat} {check : Req → Mach → Option Nat} {later : Req → Bool} {body : Req → Mach → Res} {q : Req}
    (hb : ∀ m : Mach, m.tidy (body q m).mach) (m : Mach) : m.tidy (smiem op check later body q m) :=
  smiem_keeps (fun k x => k = m.clk ∧ (Memory.wf m.dram = true → Memory.wf x = true))
    (fun n h => ⟨(hb n).1.trans h.1, fun w => (hb n).2 (h.2 w)⟩) m ⟨rfl, fun w => w⟩

theorem tidy_dmaRead (q : Req) (m : Mach) : m.tidy (dmaRead q m).mach := tidy_bulkWrite m _ _ _

theorem tidy_eventStoreCopy (m : Mach) : m.tidy (eventStoreCopy m) := by
  unfold eventStoreCopy
  dsimp only
  split
  · exact m.still_refl.tidy
  split
  · exact tidy_mwrite _ _ rfl rfl
  · exact Mach.still.tidy ⟨rfl, rfl⟩

theorem tidy_memRequest (w : Bool) (a : Nat) (b : Bytes) (p : Bool) (e : ReadErr) (m : Mach) : m.tidy (memRequest w a b p e m) := by
  unfold memRequest
  dsimp only
  split
  · exact m.still_refl.tidy
  split
  · exact (still_setDev m _).tidy
  split
  · exact m.still_refl.tidy
  split
  · unfold windowAccess
    dsimp only
    split
    · exact (still_setDev m _).tidy
    · exact tidy_mwrite _ _ rfl rfl
  · exact (still_setDev m _).tidy

theorem tidy_tableImage (b : Bool) (m : Mach) : m.tidy (tableImage b m) := by
  unfold tableImage
  dsimp only
  split
  · exact m.still_refl.tidy
  split
  · exact (still_setDev m _).tidy
  · exact tidy_mwrite _ _ rfl rfl

theorem tidy_spillWrite (f : Nat) (r : Option Bytes) (m : Mach) : m.tidy (spillWrite f r m) := by
  unfold spillWrite
  dsimp only
  split
  · split
    · exact m.still_refl.tidy
    split
    · exact (still_setDev m _).tidy
    split
    · refine ⟨rfl, fun w => ?_⟩
      dsimp only
      exact mwrite_wf _ _ (mwrite_wf _ _ w)
    · refine ⟨rfl, fun w => ?_⟩
      dsimp only
      exact mwrite_wf _ _ (mwrite_wf _ _ w)
  · exact m.still_refl.tidy

theorem tidy_scrubBad (e o : Nat) (m : Mach) : m.tidy (scrubBad e o m) := by
  unfold scrubBad
  dsimp only
  split
  · refine ⟨rfl, fun w => ?_⟩
    dsimp only
    split
    · exact mwrite_wf _ _ w
    · exact w
  · exact (still_setDev m _).tidy

theorem tidy_foldl {α : Type} (f : Mach → α → Mach) (hf : ∀ (m : Mach) (a : α), m.tidy (f m a)) (l : List α) (m : Mach) : m.tidy (l.foldl f m) := by
  induction l generalizing m with
  | nil => exact m.still_refl.tidy
  | cons a l ih => exact (hf m a).trans (ih _)

theorem tidy_scrubRow (c b : List Nat) (m : Mach) : m.tidy (scrubRow c b m) := by
  unfold scrubRow
  split
  · exact m.still_refl.tidy
  · refine Mach.tidy.trans ?_ (still_setDev _ _).tidy
    unfold scrubSlice
    split
    · exact (still_setDev m _).tidy
    · dsimp only
      split
      · exact (still_setDev m _).tidy
      · exact ((still_setDev m _).tidy.trans (tidy_foldl _ (fun m a => tidy_scrubBad _ _ m) _ _)).trans (still_setDev _ _).tidy

/-! Effects that move network time. -/

theorem Clock.ok_reset : Clock.reset.ok := ⟨by decide, by decide, by decide, by decide⟩

theorem Clock.ok_onTick {k : Clock} (h : k.ok) : k.onTick.ok := by
  obtain ⟨h1, h2, h3, h4⟩ := h
  have hi : k.inc < nsWrap := by
    rw [incBad, Bool.or_eq_false_iff, decide_eq_false_iff_not, decide_eq_false_iff_not] at h4
    unfold nsWrap
    unfold incNominal at h4
    omega
  unfold Clock.onTick Clock.advance
  dsimp only
  split
  · exact ⟨by dsimp only; omega, Nat.mod_lt _ (by decide), Nat.mod_lt _ (by decide), h4⟩
  · exact ⟨by dsimp only; omega, h2, Nat.mod_lt _ (by decide), h4⟩

theorem Clock.ok_lostTick {k : Clock} (h : k.ok) : k.lostTick.ok := ⟨h.1, h.2.1, Nat.mod_lt _ (by decide), h.2.2.2⟩

theorem Clock.ok_setTime {k : Clock} (h : k.ok) (s n : Nat) : (k.setTime s n).ok := by
  refine ⟨?_, Nat.mod_lt _ (by decide), h.2.2⟩
  simp only [Clock.setTime, nsWrap]
  have := Nat.mod_lt n (show 0 < 1000000000 by decide)
  omega

theorem Clock.ok_stepBy {k : Clock} (h : k.ok) (o : Int) : (k.stepBy o).ok := by
  refine ⟨?_, ?_, h.2.2⟩
  · simp only [Clock.stepBy, nsWrap]
    omega
  · simp only [Clock.stepBy]
    omega

theorem Clock.ok_restart (k : Clock) : k.restart.ok := Clock.ok_reset

/-- Network time stays well-formed and the DRAM keeps its canonical form. -/
def Mach.keepsOk (m m' : Mach) : Prop := m.ok → m'.ok

theorem Mach.tidy.keepsOk {m m' : Mach} (h : m.tidy m') : m.keepsOk m' := fun o => ⟨by rw [h.1]; exact o.1, h.2 o.2⟩

theorem keepsOk_stepTo {m : Mach} {k : Clock} (hk : k.ok) (h : m.ok) : (m.stepTo k).ok := ⟨hk, h.2⟩

theorem keepsOk_timeApply (op : Nat) (q : Req) (m : Mach) : m.keepsOk (timeApply op q m).1 := by
  intro h
  unfold timeApply
  dsimp only
  split
  · exact ⟨Clock.ok_setTime h.1 _ _, h.2⟩
  · have hn : (if q.flagAt 0 0 = true then m.stepTo (m.clk.stepBy (q.s 8 8)) else m).ok := by
      split
      · exact keepsOk_stepTo (Clock.ok_stepBy h.1 _) h
      · exact h
    split
    · rename_i hc
      refine ⟨⟨hn.1.1, hn.1.2.1, hn.1.2.2.1, ?_⟩, hn.2⟩
      simp only [Bool.and_eq_true, Bool.not_eq_true'] at hc
      exact hc.2
    · exact hn

theorem ok_smiem {op : Nat} {check : Req → Mach → Option Nat} {later : Req → Bool} {body : Req → Mach → Res} {q : Req}
    (hb : ∀ m : Mach, m.ok → (body q m).mach.ok) (m : Mach) (h : m.ok) : (smiem op check later body q m).ok :=
  smiem_keeps (fun k x => k.ok ∧ Memory.wf x = true) hb m h

theorem ok_timeCommand (op : Nat) (q : Req) (m : Mach) (h : m.ok) : (timeCommand op q m).mach.ok := by
  unfold timeCommand
  split
  · exact h
  · exact keepsOk_timeApply op q m h

theorem ok_clkTick (r : Bool) (m : Mach) (h : m.ok) : (clkTick r m).ok := by
  unfold clkTick
  dsimp only
  split
  · exact h
  cases r
  · exact ⟨Clock.ok_lostTick h.1, h.2⟩
  · exact ⟨Clock.ok_onTick h.1, h.2⟩

theorem ok_timeLate (m : Mach) (h : m.ok) : m.timeLate.ok := by
  unfold Mach.timeLate
  generalize m.dev.smi.waits.filter (fun w => w.kind == .time) = l
  induction l generalizing m with
  | nil => exact h
  | cons w l ih => exact ih _ (keepsOk_timeApply w.op w.req m h)

theorem ok_domainEnd (n : Nat) (m : Mach) (h : m.ok) : (m.domainEnd n).ok := by
  unfold Mach.domainEnd
  by_cases hn : n = 38
  · simp only [hn, if_true]
    exact ok_timeLate _ ⟨Clock.ok_restart _, h.2⟩
  · simp only [hn, if_false]
    exact ⟨h.1, h.2⟩

theorem ok_domainRelease (n : Nat) (m : Mach) (h : m.ok) : (domainRelease n m).ok := by
  unfold domainRelease
  split
  · exact ok_domainEnd n m h
  split
  · exact h
  · exact h

theorem ok_porAssert (m : Mach) : (porAssert m).ok := ⟨Clock.ok_reset, rfl⟩

/-! Commands. -/

theorem still_outcome {f : State → Host.Outcome State Fault Refusal} {s t : State} {c : Bool}
    (h : (if c then Host.Outcome.fault Fault.outsideOperatingRange else f s) = .next t) : f s = .next t := by
  cases c
  · exact h
  · cases h

/-- The commands that neither move time nor write the DRAM. -/
theorem exec_still {c : Instr} {s t : State} (h1 : timeMovers c = false) (h2 : dramWriters c = false)
    (h : exec c s = .next t) : s.m.still t.m := by
  cases c
  case timeSet | timeAdjust | timeClkTick | domainRelease | porNAssert => exact absurd h1 (by simp [timeMovers])
  case tableDmaRead | eventStoreCopy | cxlMemRequest | scrubSlice | tableImage | spillWriteComplete =>
    exact absurd h2 (by simp [dramWriters])
  case readVout a b => exact still_of_onDev (still_outcome h)
  case tjSample a => exact still_of_onDev (still_outcome h)
  case porNRelease b o sp fb => cases h; exact still_porRelease _ _ _ _ _
  case commit q => exact still_onMach (still_smiem (still_commit q) _) h
  case rulesetSwap q => exact still_onMach (still_smiem (still_rulesetSwap q) _) h
  case cstoreLoad q => exact still_onMach (still_smiem (still_cstoreLoad q) _) h
  case dispatchLoad q => exact still_onMach (still_smiem (still_dispatchLoad q) _) h
  case policerSet q => exact still_onMach (still_smiemOr (still_policerSet q) (fun m => still_onDev m _) _) h
  case gateListLoad q => exact still_onMach (still_smiemOr (fun m => still_done m _ _) (fun m => still_onDev m _) _) h
  case laneDark q => exact still_onMach (still_smiem (still_laneDark q) _) h
  case laneLight q => exact still_onMach (still_smiem (still_laneLight q) _) h
  case portConfig q => exact still_onMach (still_smiem (still_portConfig q) _) h
  case eventRead q => exact still_onMach (still_smiem (still_eventRead q) _) h
  case counterRead q b => exact still_onMach (still_smiem (still_counterRead b q) _) h
  case counterSnapshot q => exact still_onMach (still_smiem (still_counterSnapshot q) _) h
  case bankAssign q => exact still_onMach (still_smiem (still_bankAssign q) _) h
  case bankTest q => exact still_onMach (still_smiem (still_bankTest q) _) h
  case frameSend q => exact still_onMach (still_smiem (still_frameSend q) _) h
  case firmwareUpdate q => exact still_onMach (still_smiem (still_fwUpdate q) _) h
  case tableInsert q => exact still_onMach (still_smiem (still_tableInsert q) _) h
  case tableDelete q => exact still_onMach (still_smiem (still_tableDelete q) _) h
  case tableLookup q => exact still_onMach (still_smiem (still_tableLookup q) _) h
  case tableLock q => exact still_onMach (still_smiem (still_tableLock q) _) h
  case tableDmaWrite q => exact still_onMach (still_smiem (still_dmaWrite q) _) h
  case shadowBind q => exact still_onMach (still_smiem (fun m => still_done m _ _) _) h
  case wickTrim q => exact still_onMach (still_smiem (still_wickTrim q) _) h
  case wickRelight q => exact still_onMach (still_smiem (still_wickRelight q) _) h
  case resetDomain q => exact still_onMach (still_smiem (still_resetDomain q) _) h
  case hbmSegments q => exact still_onMach (still_smiem (fun m => still_later_here m _) _) h
  case hostCompletionTimeout r tag => exact still_onMach (still_hostTimeout r tag _) h
  case compareSlice x => exact still_onMach (still_compareSlice x _) h
  case compareConfirm b => exact still_onMach (still_compareConfirm b _) h
  case taperBlockSend => exact still_onMach (still_blockSend _) h
  case hogsheadReturn f b => exact still_onMach (still_hogReturn f b _) h
  case echo | identify | regRead | regWrite | regWriteKeyed | fingerprintGet | fingerprintReference | counterClear | portState |
      serdesTune | shaperSet | tsqRead | wickStatus | energyBudget | energyReport | hbmStatus | eventRate =>
    exact still_onMach (still_smiemDev _) h
  case frameRecv => exact still_onMach (still_smiemDev _) h
  all_goals exact still_of_onDev h

/-- Every command keeps the machine well-formed. -/
theorem exec_ok {c : Instr} {s t : State} (hs : s.m.ok) (h : exec c s = .next t) : t.m.ok := by
  have mach : ∀ {f : Mach → Mach}, (∀ m : Mach, m.ok → (f m).ok) → onMach f s = .next t → t.m.ok := by
    intro f hf h
    simp only [onMach] at h
    split at h <;> cases h
    · exact hf _ hs
    · exact hs
  have tidy : ∀ {f : Mach → Mach}, (∀ m : Mach, m.tidy (f m)) → onMach f s = .next t → t.m.ok :=
    fun hf h => mach (fun m hm => (hf m).keepsOk hm) h
  cases hw : dramWriters c with
  | false =>
    cases hm : timeMovers c with
    | false => exact (exec_still hm hw h).tidy.keepsOk hs
    | true =>
      cases c <;> simp only [timeMovers, Bool.false_eq_true] at hm
      case timeSet q => exact mach (fun m hm => ok_smiem (fun m hm => ok_timeCommand 0x0070 q m hm) m hm) h
      case timeAdjust q => exact mach (fun m hm => ok_smiem (fun m hm => ok_timeCommand 0x0071 q m hm) m hm) h
      case timeClkTick r => exact mach (fun m hm => ok_clkTick r m hm) h
      case domainRelease n => exact mach (fun m hm => ok_domainRelease n m hm) h
      case porNAssert => cases h; exact ok_porAssert _
  | true =>
    cases c <;> simp only [dramWriters, Bool.false_eq_true] at hw
    case tableDmaRead q => exact tidy (fun m => tidy_smiem (tidy_dmaRead q) m) h
    case eventStoreCopy => exact tidy (fun m => tidy_eventStoreCopy m) h
    case cxlMemRequest w a b p e => exact tidy (fun m => tidy_memRequest w a b p e m) h
    case scrubSlice c b => exact tidy (fun m => tidy_scrubRow c b m) h
    case tableImage b => exact tidy (fun m => tidy_tableImage b m) h
    case spillWriteComplete f r => exact tidy (fun m => tidy_spillWrite f r m) h
    case porNAssert => cases h; exact ok_porAssert _

end Sys2Proof.Machine
end

