-- ==== Sys2Proof/Laws/Fields.lean ====
section
/-! SUPPORT. Laws of register writes: what a chain of field writes leaves, which fields single registers hold, and what a write
of a live register comes to. -/

namespace Sys2Proof.Machine
open Sys2Proof

/-! Chains of field writes. -/

theorem Dev.sets_nil (a : Dev) : a.sets [] a := ⟨rfl, fun _ h => absurd h (List.not_mem_nil), fun _ _ => rfl⟩

/-- One more field written. -/
theorem Dev.sets_snoc {a b : Dev} {l : List (Fld × Nat)} (h : a.sets l b) (f : Fld) (v : Nat)
    (hf : ∀ p ∈ l, p.1.key ≠ f.key) : a.sets (l ++ [(f, v)]) (b.set f v) := by
  obtain ⟨h1, h2, h3⟩ := h
  refine ⟨?_, ?_, ?_⟩
  · rw [h1]; rfl
  · intro p hp
    rcases List.mem_append.mp hp with hp | hp
    · rw [Dev.get_set_of_ne b v (hf p hp), h2 p hp]
    · rw [List.mem_singleton] at hp
      subst hp
      exact Dev.get_set_self b f v
  · intro g hg
    rw [Dev.get_set_of_ne b v (hg (f, v) (by simp)), h3 g (fun p hp => hg p (by simp [hp]))]

/-- What a list of writes to fields of different places leaves. -/
theorem Dev.sets_setAll (l : List (Fld × Nat)) (a : Dev) (h : (l.map (fun p => p.1.key)).Nodup) : a.sets l (a.setAll l) := by
  have key : ∀ (l k : List (Fld × Nat)) (b : Dev), a.sets k b → ((k ++ l).map (fun p => p.1.key)).Nodup →
      a.sets (k ++ l) (l.foldl (fun d p => d.set p.1 p.2) b) := by
    intro l
    induction l with
    | nil => intro k b hk _; simpa using hk
    | cons p l ih =>
      intro k b hk hn
      have h1 := ih (k ++ [p]) (b.set p.1 p.2) (Dev.sets_snoc hk p.1 p.2 (fun q hq e => by
        rw [List.map_append, List.nodup_append] at hn
        exact hn.2.2 _ (List.mem_map_of_mem hq) _ (by simp) e)) (by simpa using hn)
      simpa using h1
  exact key l [] a a.sets_nil h

/-- One field written before others. -/
theorem Dev.sets_cons {a b : Dev} {l : List (Fld × Nat)} {f : Fld} {v : Nat} (h : (a.set f v).sets l b)
    (hf : ∀ p ∈ l, f.key ≠ p.1.key) : a.sets ((f, v) :: l) b := by
  obtain ⟨h1, h2, h3⟩ := h
  refine ⟨h1, ?_, ?_⟩
  · intro p hp
    rcases List.mem_cons.mp hp with rfl | hp
    · rw [h3 _ hf, Dev.get_set_self]
    · exact h2 p hp
  · intro g hg
    rw [h3 g (fun p hp => hg p (List.mem_cons_of_mem _ hp)), Dev.get_set_of_ne a v (hg (f, v) (by simp))]

/-- A saturating count. -/
theorem satInc_eq_min {n w : Nat} (h : n < 2 ^ w) : satInc (maskOf w) n = min (2 ^ w - 1) (n + 1) := by
  unfold satInc maskOf
  split <;> omega

theorem Dev.satInc_eq_min (d : Dev) (f : Fld) : d.satInc f = d.set f (min (2 ^ f.w - 1) (d.get f + 1)) := by
  rw [Dev.satInc, Sys2Proof.Machine.satInc_eq_min (d.get_lt f)]

/-- A write that stores what a field holds. -/
theorem Dev.sets_same {a b : Dev} {l : List (Fld × Nat)} (h : a.sets l b) {f : Fld} {v : Nat} (hv : b.get f = v % 2 ^ f.w) :
    a.sets (l ++ [(f, v)]) b := by
  obtain ⟨h1, h2, h3⟩ := h
  refine ⟨h1, fun p hp => ?_, fun g hg => h3 g (fun p hp => hg p (by simp [hp]))⟩
  rcases List.mem_append.mp hp with hp | hp
  · exact h2 p hp
  · rw [List.mem_singleton] at hp; subst hp; exact hv

/-- One write. -/
theorem Dev.sets_one (a : Dev) (f : Fld) (v : Nat) : a.sets [(f, v)] (a.set f v) := Dev.sets_setAll [(f, v)] a (by simp)

/-! A write of a whole register. -/

theorem take_full {f : Fld} (h : f.lo + f.w ≤ 32) : f.take (2 ^ 32 - 1) = maskOf f.w := by
  obtain ⟨o, lo, w, a, r⟩ := f
  simp only [Fld.take, bits, maskOf] at *
  have h1 : (2 : Nat) ^ 32 = 2 ^ lo * 2 ^ (32 - lo) := by rw [← Nat.pow_add]; congr 1; omega
  have h3 : (2 ^ 32 - 1) / 2 ^ lo = 2 ^ (32 - lo) - 1 := by
    rw [h1]
    have hp := Nat.two_pow_pos lo
    have hq := Nat.two_pow_pos (32 - lo)
    rw [Nat.div_eq_iff hp]
    constructor
    · rw [Nat.sub_mul, Nat.one_mul, Nat.mul_comm (2 ^ (32 - lo))]; have : 2 ^ lo ≤ 2 ^ lo * 2 ^ (32 - lo) := Nat.le_mul_of_pos_right _ hq; omega
    · rw [Nat.sub_mul, Nat.one_mul, Nat.mul_comm (2 ^ (32 - lo))]; have : 2 ^ lo ≤ 2 ^ lo * 2 ^ (32 - lo) := Nat.le_mul_of_pos_right _ hq; omega
  rw [h3]
  have h2 : (2 : Nat) ^ (32 - lo) = 2 ^ w * 2 ^ (32 - lo - w) := by rw [← Nat.pow_add]; congr 1; omega
  have hw := Nat.two_pow_pos w
  have hr := Nat.two_pow_pos (32 - lo - w)
  rw [h2]
  obtain ⟨k, hk⟩ : ∃ k, 2 ^ (32 - lo - w) = k + 1 := ⟨2 ^ (32 - lo - w) - 1, by omega⟩
  rw [hk, Nat.mul_add, Nat.mul_one, Nat.add_sub_assoc hw, Nat.mul_add_mod]
  exact Nat.mod_eq_of_lt (by omega)

theorem and_maskOf (v n : Nat) : v &&& maskOf n = v % 2 ^ n := by
  simp [maskOf, Nat.and_two_pow_sub_one_eq_mod]

theorem mergedWord_full (d : Dev) {off : Nat} (w : Nat) (h : ∀ f ∈ fieldsAt off, f.lo + f.w ≤ 32) :
    d.mergedWord off w (2 ^ 32 - 1) = wordOf ((fieldsAt off).map (fun f => (f, f.take w))) := by
  unfold Dev.mergedWord
  congr 1
  refine List.map_congr_left fun f hf => ?_
  dsimp only
  rw [take_full (h f hf), and_maskOf, Nat.xor_self, Nat.and_zero, Nat.or_zero, Fld.take, bits, Nat.mod_mod]

theorem carried_full {off : Nat} (h : ∀ f ∈ fieldsAt off, f.lo + f.w ≤ 32 ∧ 0 < f.w) :
    carriedFields off (2 ^ 32 - 1) = fieldsAt off := by
  unfold carriedFields
  rw [List.filter_eq_self]
  intro f hf
  rw [take_full (h f hf).1, maskOf]
  have : 2 ^ 1 ≤ 2 ^ f.w := Nat.pow_le_pow_right (by decide) (h f hf).2
  simp
  omega

/-- A write of a live register without a keyed field acts with the fields' parts of the word. -/
theorem barWrite_plain {d : Dev} {k : Clock} {off : Nat} (w : Nat) (hd : d.deaf off = false)
    (h : ∀ f ∈ fieldsAt off, f.lo + f.w ≤ 32 ∧ 0 < f.w) (h0 : fieldsAt off ≠ []) (hk : ∀ f ∈ fieldsAt off, f.acc ≠ .krw) :
    d.barWrite k off w = d.writeActs k off (fieldsAt off) (wordOf ((fieldsAt off).map (fun f => (f, f.take w)))) := by
  unfold Dev.barWrite Dev.regWrite
  rw [carried_full h, mergedWord_full d w (fun f hf => (h f hf).1)]
  have h1 : (fieldsAt off).isEmpty = false := by simpa using h0
  have h2 : (fieldsAt off).all (fun f => f.acc != .krw) = true := by
    simp only [List.all_eq_true, bne_iff_ne]; exact hk
  simp only [hd, h1, h2, Bool.or_self, Bool.false_eq_true, if_false, if_true]

/-- A write of a live register with a keyed field while LOCKED is 1. -/
theorem barWrite_locked {d : Dev} {k : Clock} {off : Nat} (w : Nat) (hd : d.deaf off = false)
    (h : ∀ f ∈ fieldsAt off, f.lo + f.w ≤ 32 ∧ 0 < f.w) (hk : ∃ f ∈ fieldsAt off, f.acc = .krw) (hl : d.flag F.GL_LOCKED = true) :
    d.barWrite k off w = d.keyFail k := by
  obtain ⟨g, hg, hga⟩ := hk
  unfold Dev.barWrite Dev.regWrite
  rw [carried_full h]
  have h1 : (fieldsAt off).isEmpty = false := by
    rw [List.isEmpty_eq_false_iff]; exact List.ne_nil_of_mem hg
  have h2 : (fieldsAt off).all (fun f => f.acc != .krw) = false := by
    rw [List.all_eq_false]; exact ⟨g, hg, by simp [hga]⟩
  simp only [hd, h1, h2, hl, Bool.or_self, Bool.false_eq_true, if_false, if_true]

/-- A write of a live register with a keyed field while LOCKED is 0. -/
theorem barWrite_keyed {d : Dev} {k : Clock} {off : Nat} (w : Nat) (hd : d.deaf off = false)
    (h : ∀ f ∈ fieldsAt off, f.lo + f.w ≤ 32 ∧ 0 < f.w) (hk : ∃ f ∈ fieldsAt off, f.acc = .krw) (hl : d.flag F.GL_LOCKED = false) :
    d.barWrite k off w = (if off = 0x84 then d.setB F.GL_LOCKED true else (d.setB F.GL_LOCKED true).bumpGen).writeActs k off
      (fieldsAt off) (wordOf ((fieldsAt off).map (fun f => (f, f.take w)))) := by
  obtain ⟨g, hg, hga⟩ := hk
  unfold Dev.barWrite Dev.regWrite
  rw [carried_full h, mergedWord_full d w (fun f hf => (h f hf).1)]
  have h1 : (fieldsAt off).isEmpty = false := by
    rw [List.isEmpty_eq_false_iff]; exact List.ne_nil_of_mem hg
  have h2 : (fieldsAt off).all (fun f => f.acc != .krw) = false := by
    rw [List.all_eq_false]; exact ⟨g, hg, by simp [hga]⟩
  simp only [hd, h1, h2, hl, Bool.or_self, Bool.false_eq_true, if_false]

/-- A command that writes a register of a running device. -/
theorem onDev_barWrite {s : State} {off : Nat} (w : Nat) (h : s.m.dev.live off) :
    onDev (fun k d => d.barWrite k off w) s = .next { s with m := s.m.setDev (s.m.dev.barWrite s.m.clk off w) } :=
  onDev_run _ h.1

/-! The fields of single registers. -/

theorem fieldsAt_20 : fieldsAt 0x20 = [F.GL_UNLOCK] := by decide
theorem fieldsAt_40 : fieldsAt 0x40 = [F.GL_COMMIT_STROBE] := by decide
theorem fieldsAt_48 : fieldsAt 0x48 = [F.GL_STAGE_DISCARD] := by decide
theorem fieldsAt_50 : fieldsAt 0x50 = [F.GL_DISARM] := by decide
theorem fieldsAt_84 : fieldsAt 0x84 = [F.GL_CONFIG_GEN_LOAD] := by decide
theorem fieldsAt_1020 : fieldsAt 0x1020 = [F.BT_RST_DOMAIN] := by decide
theorem fieldsAt_1028 : fieldsAt 0x1028 = [F.BT_OEM_FUSE_LO] := rfl
theorem fieldsAt_102C : fieldsAt 0x102C = [F.BT_OEM_FUSE_HI] := rfl
theorem fieldsAt_force : ∀ l : Fin 32, fieldsAt (F.WICK_CTRL_FORCE l).off =
    [F.WICK_CTRL_FORCE l, F.WICK_CTRL_TRIM_PERIOD l, F.WICK_CTRL_TRIM_OFFSET l] := by decide


/-! What the writes of single registers do. -/

theorem acts_1028 (d : Dev) (k : Clock) (v : Nat) : d.writeActs k 0x1028 [F.BT_OEM_FUSE_LO] v = d.fuseWrite F.BT_OEM_FUSE_LO v := by
  simp [Dev.writeActs, Dev.writeBoot]
theorem acts_102C (d : Dev) (k : Clock) (v : Nat) : d.writeActs k 0x102C [F.BT_OEM_FUSE_HI] v = d.fuseWrite F.BT_OEM_FUSE_HI v := by
  simp [Dev.writeActs, Dev.writeBoot]
theorem acts_1020 (d : Dev) (k : Clock) (v : Nat) : d.writeActs k 0x1020 [F.BT_RST_DOMAIN] v = d.rstWrite k (v % 64) := by
  simp [Dev.writeActs, Dev.writeBoot]

theorem acts_lantern (d : Dev) (k : Clock) {off : Nat} (fs : List Fld) (w : Nat) (h1 : 0x800000 ≤ off) (h2 : off < 0x1800000) :
    d.writeActs k off fs w = d.writeLantern off fs w := by
  have n1 : ¬ off < 0x1000 := by omega
  have n2 : ¬ off < 0x2000 := by omega
  have n3 : ¬ off = 0x100000 := by omega
  have n4 : ¬ off = 0x100010 := by omega
  have n5 : ¬ (decide (0x200000 ≤ off) && decide (off < 0x300000)) = true := by
    rw [Bool.and_eq_true, decide_eq_true_eq, decide_eq_true_eq]; omega
  have n6 : ¬ (decide (0x408000 ≤ off) && decide (off < 0x408800)) = true := by
    rw [Bool.and_eq_true, decide_eq_true_eq, decide_eq_true_eq]; omega
  have n7 : (decide (0x800000 ≤ off) && decide (off < 0x1800000)) = true := by
    rw [Bool.and_eq_true, decide_eq_true_eq, decide_eq_true_eq]; omega
  rw [Dev.writeActs, if_neg n1, if_neg n2, if_neg n3, if_neg n4, if_neg n5, if_neg n6, if_pos n7]

theorem lantern_force (d : Dev) {off : Nat} (fs : List Fld) (w l : Nat) (h : off = 0x850000 + l * 0x80000) :
    d.writeLantern off fs w =
      let d1 := d.writeFields (fs.filter (fun f => f.acc != .krw)) w
      if fs.any (fun f => f.acc == .krw) then d1.forceWrite l (w % 4) else d1 := by
  have a : (off - 0x800000) % 0x80000 = 0x50000 := by omega
  have b : (off - 0x800000) / 0x80000 = l := by omega
  simp only [Dev.writeLantern, a, b, if_true]

theorem force_word (v : Nat) (w : Nat) (hw : w = v % 4 + v / 2 ^ 8 % 2 ^ 8 * 2 ^ 8 + v / 2 ^ 16 % 2 ^ 12 * 2 ^ 16) :
    w % 4 = v % 4 ∧ bits w 8 8 = v / 2 ^ 8 % 2 ^ 8 ∧ bits w 16 12 = v / 2 ^ 16 % 2 ^ 12 := by
  simp only [bits]
  omega

end Sys2Proof.Machine
end

