-- ==== Sys2Proof/WellFormed.lean ====
section
/-! DEFINITION. What a command's operands must satisfy to be one that the outside can send: widths of fields, numbers in
their ranges, lengths. -/

namespace Sys2Proof

/-- A packet's header fields fit their widths and its parameters fit PARAM_LEN (R423). -/
def Req.wf (q : Req) : Bool := decide (q.tag < 65536) && decide (q.params.length ≤ 4064)

/-- A BAR0 register's offset (R7, R403). -/
def barOffset (off : Nat) : Bool := decide (off < 2 ^ 26) && off % 4 == 0

/-- Is a command well formed. -/
def Instr.wellFormed : Instr → Bool
  | .echo q => q.wf
  | .identify q => q.wf
  | .regRead q => q.wf
  | .regWrite q => q.wf
  | .regWriteKeyed q => q.wf
  | .commit q => q.wf
  | .fingerprintGet q => q.wf
  | .fingerprintReference q => q.wf
  | .tableInsert q => q.wf
  | .tableDelete q => q.wf
  | .tableLookup q => q.wf
  | .tableLock q => q.wf
  | .tableDmaRead q => q.wf
  | .tableDmaWrite q => q.wf
  | .shadowBind q => q.wf
  | .cstoreLoad q => q.wf
  | .dispatchLoad q => q.wf
  | .rulesetSwap q => q.wf
  | .counterRead q _ => q.wf
  | .counterSnapshot q => q.wf
  | .counterClear q => q.wf
  | .portConfig q => q.wf
  | .portState q => q.wf
  | .laneDark q => q.wf
  | .laneLight q => q.wf
  | .serdesTune q => q.wf
  | .gateListLoad q => q.wf
  | .shaperSet q => q.wf
  | .policerSet q => q.wf
  | .timeSet q => q.wf
  | .timeAdjust q => q.wf
  | .tsqRead q => q.wf
  | .wickTrim q => q.wf
  | .wickRelight q => q.wf
  | .wickStatus q => q.wf
  | .energyBudget q => q.wf
  | .energyReport q => q.wf
  | .hbmSegments q => q.wf
  | .hbmStatus q => q.wf
  | .eventRead q => q.wf
  | .eventRate q => q.wf
  | .bankAssign q => q.wf
  | .bankTest q => q.wf
  | .firmwareUpdate q => q.wf
  | .resetDomain q => q.wf
  | .frameSend q => q.wf
  | .frameRecv q _ => q.wf
  | .sqTail _ _ => true
  | .cqHead _ _ => true
  | .packetFetch _ _ => true
  | .coalTimeExpiry _ => true
  | .submissionRingEn _ _ => true
  | .completionRingEn _ _ => true
  | .unlock _ => true
  | .commitStrobe _ => true
  | .stageDiscard _ => true
  | .disarm _ => true
  | .configGenLoad _ => true
  | .rstDomain _ => true
  | .force _ _ => true
  | .pushGo _ => true
  | .calStart _ => true
  | .allocGo _ => true
  | .allocation => true
  | .perfClear _ => true
  | .perfFreeze _ => true
  | .hdrFifoPeakClr _ _ => true
  | .reorderPeakClr _ _ => true
  | .capPop _ _ => true
  | .streamGateReopen _ _ => true
  | .tsqOverflowClear _ _ => true
  | .tblSeed _ _ => true
  | .oemFuse _ _ => true
  | .taperEnWrite _ => true
  | .hiReadCapture _ off => barOffset off
  | .registerWrite _ off _ _ => barOffset off
  | .perstN => true
  | .functionLevelReset => true
  | .perstNRelease => true
  | .cxlLinkTrained hostModes gen width rate => decide (hostModes < 16) && decide (3 ≤ gen) && decide (gen ≤ 6) && [1, 2, 4, 8, 16].contains width && decide (3 ≤ rate) && decide (rate ≤ 6)
  | .cxlMemRequest _ addr data _ _ => decide (addr < 2 ^ 64) && decide (addr % 64 + data.length ≤ 64)
  | .hdmDecoderCommit base size _ _ _ => decide (base < 2 ^ 64) && decide (size < 2 ^ 64)
  | .ideKeyEstablish _ => true
  | .ideFail _ => true
  | .linkRecovery _ _ => true
  | .h2dSnoop addr => decide (addr < 2 ^ 64)
  | .msixUnmask _ addr data => decide (addr < 2 ^ 64) && addr % 4 == 0 && decide (data < 2 ^ 32)
  | .porNAssert => true
  | .porNRelease _ _ spares _ => decide (spares.1 < 32) && decide (spares.2 < 32)
  | .bootImageCheck _ _ unread => unread.all (fun a => decide (a.val < 2))
  | .firmwareStart => true
  | .dramTraining _ _ step repaired => decide (step ≤ 5) && decide (repaired < 64)
  | .serdesCalibration _ => true
  | .chandlerCalibration _ => true
  | .forwardingLoad => true
  | .firstLighting _ => true
  | .tallyPeriodBoundary _ => true
  | .planRebuild => true
  | .avsVdone => true
  | .avsSettleTimeout => true
  | .readVout _ reading => reading.all (fun r => decide (r < 65536))
  | .readPout _ reading => reading.all (fun r => decide (r < 65536))
  | .tjSample tj => decide (-128 ≤ tj) && decide (tj ≤ 127)
  | .agingSlice => true
  | .compareSlice _ => true
  | .scratchpadTestSlice => true
  | .archiveFlushSlice => true
  | .scrubSlice _ _ => true
  | .sentinelWindowEnd _ counts => counts.length == 8 && counts.all (fun n => decide (n < 2 ^ 24))
  | .headerWindowComplete _ => true
  | .cellWrite _ data => decide (data.length ≤ 256)
  | .frameReceptionEnd _ _ _ _ => true
  | .frameOversizeCut _ tail => decide (tail.length ≤ 256)
  | .headerDeal _ => true
  | .stageExecute _ _ _ _ _ _ => true
  | .bushelReadComplete _ _ _ _ _ _ => true
  | .ternarySearchComplete _ _ _ _ => true
  | .handshakeTimeout _ _ _ _ => true
  | .overlapWindowClose _ => true
  | .resultRelease _ _ _ _ => true
  | .puntPolicerRefill _ => true
  | .recirculationEntry port => decide (514 ≤ port) && decide (port < 518)
  | .recirculationLimit _ => true
  | .trailingCharge _ _ => true
  | .learnRequest _ => true
  | .learnApply _ => true
  | .freezeExpiry _ _ => true
  | .agingVisit => true
  | .streamRequestApply _ => true
  | .compareConfirm _ => true
  | .poolSlotRelease _ => true
  | .rulesetSwapApply => true
  | .dispatchCopyComplete => true
  | .trimComplete _ => true
  | .automaticTrim _ => true
  | .relightScrubComplete _ _ => true
  | .relightBubble _ => true
  | .relightReady _ => true
  | .cellArbitrationRound _ => true
  | .spillWriteComplete _ _ => true
  | .hogsheadReturn _ _ => true
  | .schedulerSelect port _ _ => decide (port < 518)
  | .calendarSlot => true
  | .copyTransmit port _ => decide (port < 518)
  | .egressCellRead port _ _ => decide (port < 518)
  | .refillTick _ => true
  | .gateListStart stream id => decide (id < if stream then 1024 else 512)
  | .gateEntryChange port => decide (port < 512)
  | .streamGateEntryChange _ => true
  | .linkUp port => decide (port < 512)
  | .linkDown port _ _ => decide (port < 512)
  | .trainTimeout port => decide (port < 512)
  | .lightUp port => decide (port < 512)
  | .wakePattern _ => true
  | .idleHoldExpiry port => decide (port < 512)
  | .pauseExpiry port _ => decide (port < 512)
  | .wdTimeExpiry port _ => decide (port < 512)
  | .recTimeExpiry port _ => decide (port < 512)
  | .flowControlFrameSend port => decide (port < 512)
  | .pauseRefresh port => decide (port < 512)
  | .armedCommitDue => true
  | .armedSnapshotDue => true
  | .snapshotCopyComplete => true
  | .referenceLost => true
  | .referenceRestored => true
  | .timedInputEdge _ _ => true
  | .ppsInTimeout => true
  | .ppsOutRise => true
  | .ppsOutFall => true
  | .dramRequest _ _ _ _ _ => true
  | .dramRequestIssue _ _ => true
  | .clientLate _ => true
  | .refreshDue _ => true
  | .stackTempRead _ reading => decide (-128 ≤ reading) && decide (reading ≤ 127)
  | .selfRefreshEntry _ => true
  | .selfRefreshAbandon _ => true
  | .selfRefreshExit _ => true
  | .channelRetrain _ _ _ => true
  | .blockStart block _ _ _ => decide (32 ≤ block.length) && block.length % 32 == 0
  | .ack word => word.length == 32
  | .nak word => word.length == 32
  | .creditLo word => word.length == 32
  | .creditHi word => word.length == 32
  | .train word => word.length == 32
  | .creditSend => true
  | .replayTimeout => true
  | .codewordLockLoss _ => true
  | .taperTrainStep _ _ _ _ => true
  | .taperTrainTimeout => true
  | .taperBlockSend => true
  | .inject => true
  | .segInject => true
  | .tableImage _ => true
  | .counterStreamPass => true
  | .ethCarriageFrame _ => true
  | .fingerprintPassComplete _ => true
  | .fingerprintStale => true
  | .firmwareRestart _ => true
  | .firmwareReady => true
  | .bankClearComplete _ => true
  | .testWordStep _ => true
  | .eventStoreCopy => true
  | .smbusTransaction _ off _ _ => decide (off < 2 ^ 32)
  | .jtagInstruction _ _ => true
  | .timeClkTick _ => true
  | .domainRelease domain => decide (domain < 44)
  | .hostCompletionTimeout _ _ => true

end Sys2Proof
end

