-- ==== Sys2Proof/Tests/Slice0.lean ====
section
/-! SUPPORT. The model's own tests: the checks of WellFormed, single steps against the spec's values, and for each statement
with hypotheses operands and a state that meet them. -/

set_option maxRecDepth 100000

open Sys2Proof Sys2Proof.Machine

namespace Sys2Proof.Tests

/-! Small states. -/

/-- The registers after POR_N's release, with some fields set. -/
def dev (l : List (Fld × Nat)) : Dev :=
  ({ State.reset.m.dev with boot := { State.reset.m.dev.boot with porN := true } } : Dev).setAll l

def st (d : Dev) : State := { State.reset with m := { State.reset.m with dev := d } }

/-- Some fields set where their reset values are fused. -/
def put (l : List (Fld × Nat)) (d : Dev) : Dev := { d with fld := l.foldl (fun t p => tset t p.1.key p.2) d.fld }

/-- A command of ring 3 with tag 7 and its parameters. -/
def rq (p : Bytes) : Req := ⟨3, 7, false, false, false, 0, p, ⟨[], .whole⟩⟩

/-- After bring-up, with the fingerprint pass off. -/
def live (l : List (Fld × Nat)) (f : Dev → Dev) : State :=
  let d := dev ([(F.GL_FP_EN, 0), (F.SM_FW_READY, 1)] ++ l)
  st (f { d with boot := { d.boot with step := 12 } })

/-- The same state at a network time and a tick. -/
def cl (s : State) (sec ns tick : Nat) : State :=
  { s with m := { s.m with clk := { s.m.clk with sec := sec, sub := ns * 2 ^ 32, tick := tick } } }

end Sys2Proof.Tests

namespace Sys2Proof.Tests.Links

set_option Elab.async false

def fc (l : List (Fld × Nat)) (sig : Nat) : State := st ((dev ([(F.PORT_CFG_PORT_TYPE 3, 2), (F.PORT_STATUS_STATE 3, 2)] ++
    l)).setPort 3 { Port.idle with signal := sig })
def te (l : List (Fld × Nat)) (f : Dev → Dev) : State := st (f (dev l))
def w0 (k : WaitKind) : Wait := ⟨0x13, ⟨0, 1, false, false, false, 0, [], ⟨[], .whole⟩⟩, 0, false, false, k⟩
def pl (l : List (Fld × Nat)) (x : Port) (lit : Bool) : State := st
    { (dev ([(F.PORT_CFG_PORT_TYPE 3, 2)] ++ l)).setPort 3 x with lanes := [(3, ⟨lit, [0, -8, 56, 0]⟩)] }
def s1 : State := fc [(F.FC_CFG_FC_MODE 3, 1), (F.POOL_STATUS 0, 1)] 0
def s2 : State := fc [(F.FC_CFG_FC_MODE 3, 1)] 256
def s3 : State := fc [(F.FC_CFG_FC_MODE 3, 1), (F.POOL_STATUS 0, 1)] 256
def s4 : State := fc [(F.FC_CFG_FC_MODE 3, 2), (F.FC_CFG_PFC_TX_EN 3, 0xf), (F.POOL_STATUS 0, 1),(F.PORT_STATUS_HELD 3, 0xff),
    (F.WD_CFG_WD_EN 3, 1)] 3
def s5 : State := te [(F.TU_EVT_EN, 1), (F.TU_PPS_IN_EN, 1), (F.TU_PPS_OUT_EN,1), (F.TU_TIME_VALID,1)] id
def v1 : Wait := w0 (.commit 3 0 0)
def s6 : State := te [(F.TU_EVT_EN, 1), (F.TU_PPS_IN_EN, 1), (F.TU_PPS_OUT_EN,1), (F.TU_TIME_VALID,1)] fun d =>
    { d with smi := { d.smi with waits := [w0 (.commit 3 0 0)] }, timeU := { d.timeU with lastRise := some 0, pps := true, lastEdge := [(0, 0)] } }
def s7 : State := te [(F.TU_EVT_EN, 1), (F.TU_PPS_IN_EN, 1), (F.TU_PPS_OUT_EN,1), (F.TU_TIME_VALID,1)] fun d =>
    { d with staged := [((F.SENTINEL_CTRL_WINDOW_SEL 0).key, 1)], smi := { d.smi with waits := [w0 (.commit 65535 0 0)] }, timeU := { d.timeU with fifos := [(1, List.replicate 16 (0, 0))] } }
def s8 : State := te [] fun d => { d with smi := { d.smi with waits := [w0 (.snapshot 0 0)] }}
def v3 : Wait := w0 (.snapshot 0 0)
def s9 : State := pl [(F.PORT_STATUS_STATE 3, stDown), (F.PORT_CFG_TRAIN_EN 3, 1)] { Port.idle with lit := true } true
def s10 : State := pl [(F.PORT_STATUS_STATE 3, stUp), (F.LINK_CFG_IDLE_EN 3, 1)] { Port.idle with lit := true } true
def s11 : State := pl [(F.PORT_STATUS_STATE 3, stLighting)] Port.idle false

/-- Meets hypotheses of Obligations.PortLinks. -/
theorem witness_PortLinks :
    s9.m.dev.boot.porN = true ∧ s9.m.dev.portExists 3 = true ∧
    (s9.m.dev.get (F.PORT_STATUS_STATE 3) = stDown ∨ s9.m.dev.get (F.PORT_STATUS_STATE 3) = stLighting) ∧
    (s9.m.dev.port 3).lit = true ∧ s9.m.dev.isHeld (3 / 16) = false ∧ s9.m.dev.flag (F.PORT_CFG_TRAIN_EN 3) = true ∧
    s11.m.dev.boot.porN = true ∧ s11.m.dev.get (F.PORT_STATUS_STATE 3) = stLighting ∧ (s11.m.dev.port 3).waitVolt = false ∧
    (s11.m.dev.port 3).lit = false ∧ s11.m.dev.laneLit 3 = false ∧ s11.m.dev.portOf 3 = some 3 ∧ s10.m.dev.boot.porN = true ∧
    s10.m.dev.portExists 3 = true ∧ s10.m.dev.flag (F.LINK_CFG_IDLE_EN 3) = true ∧
    (s10.m.dev.get (F.PORT_STATUS_STATE 3) = stUp ∨ s10.m.dev.get (F.PORT_STATUS_STATE 3) = stDown) ∧
    (∀ (c : Nat), c < 8 → s10.m.dev.queue (8 * 3 + c) = []) ∧ (s10.m.dev.port 3).tx = none ∧ (s10.m.dev.port 3).signal = 0 ∧
    s10.m.dev.wantSignal 3 = 0 := by
  and_intros <;> decide +kernel

/-- Meets hypotheses of Obligations.FlowControl. -/
theorem witness_FlowControl :
    s2.m.dev.boot.porN = true ∧ s2.m.dev.get (F.PORT_STATUS_STATE 3) = stUp ∧ (s2.m.dev.port 3).signal = 256 ∧
    s2.m.dev.wantSignal 3 = 0 ∧ (¬s2.m.dev.get (F.PORT_STATUS_STATE 3) = stUp ∨ s2.m.dev.wantSignal 3 = 0) ∧
    s4.m.dev.boot.porN = true ∧ s4.m.dev.get (F.PORT_STATUS_STATE 3) = stUp ∧ (s4.m.dev.port 3).signal < 256 ∧
    s4.m.dev.wantSignal 3 < 256 ∧ (s4.m.dev.port 3).signal ≠ s4.m.dev.wantSignal 3 ∧ s4.m.dev.flag (F.WD_CFG_WD_EN 3) = true ∧
    bit (s4.m.dev.get (F.PORT_STATUS_HELD 3)) 2 = true ∧ s3.m.dev.boot.porN = true ∧
    (¬s3.m.dev.get (F.PORT_STATUS_STATE 3) = stUp ∨ (s3.m.dev.port 3).signal = s3.m.dev.wantSignal 3) ∧
    s3.m.dev.get (F.PORT_STATUS_STATE 3) = stUp ∧ (s3.m.dev.port 3).signal = 256 ∧ s3.m.dev.wantSignal 3 = 256 ∧
    s1.m.dev.boot.porN = true ∧ s1.m.dev.get (F.PORT_STATUS_STATE 3) = stUp ∧ (s1.m.dev.port 3).signal = 0 ∧
    s1.m.dev.wantSignal 3 = 256 := by
  and_intros <;> decide +kernel

/-- Meets hypotheses of Obligations.TimeEvents. -/
theorem witness_TimeEvents :
    s6.m.dev.boot.porN = true ∧ s6.m.dev.isHeld 38 = false ∧ s6.m.dev.inputOn 0 = true ∧
    (10 < 8 ∨ ¬∀ (t : Nat), tget? s6.m.dev.timeU.lastEdge 0 = some t → 40 ≤ tickNs t s6.m.clk.tick) ∧
    s6.m.dev.flag F.TU_PPS_IN_EN = true ∧ s6.m.dev.flag F.TU_PPS_OUT_EN = true ∧ s6.m.dev.flag F.TU_TIME_VALID = true ∧
    s6.m.dev.ppsDue s6.m.clk = true ∧ (∃ t, s6.m.dev.timeU.lastRise = some t ∧ 2 * tickNs t s6.m.clk.tick < s6.m.dev.ppsPeriod) ∧
    s6.m.dev.timeU.pps = true ∧ s6.m.dev.smi.waits = [v1] ∧ v1.kind = WaitKind.commit 3 0 0 ∧ s6.m.clk.reached 0 0 = true ∧
    v1.req.genCheck = false ∧ s6.m.dev.rules.held = none ∧ (List.Pairwise (fun a b => a.fst < b.fst) s6.m.dev.staged) ∧
    (∀ (e : Nat × Nat), e ∈ s6.m.dev.staged → e.fst < 8388608 * 32 ∧ ∃ f, fldOfKey e.fst = some f ∧ f.acc = Acc.srw) ∧
    s5.m.dev.boot.porN = true ∧ s5.m.dev.isHeld 38 = false ∧ s5.m.dev.inputOn 1 = true ∧ 8 ≤ 10 ∧
    (∀ (t : Nat), tget? s5.m.dev.timeU.lastEdge 1 = some t → 40 ≤ tickNs t s5.m.clk.tick) ∧ (s5.m.dev.fifoOf 1).length < 16 ∧
    s5.m.dev.flag F.TU_PPS_OUT_EN = true ∧ s5.m.dev.flag F.TU_TIME_VALID = true ∧ s5.m.dev.ppsDue s5.m.clk = true ∧
    (¬∃ t, s5.m.dev.timeU.lastRise = some t ∧ 2 * tickNs t s5.m.clk.tick < s5.m.dev.ppsPeriod) ∧ s8.m.dev.boot.porN = true ∧
    s8.m.dev.isHeld 38 = false ∧ s8.m.dev.inputOn 0 = false ∧ s8.m.dev.snapDue s8.m.clk = some v3 ∧ s7.m.dev.boot.porN = true ∧
    s7.m.dev.isHeld 38 = false ∧ s7.m.dev.inputOn 1 = true ∧
    (∀ (t : Nat), tget? s7.m.dev.timeU.lastEdge 1 = some t → 40 ≤ tickNs t s7.m.clk.tick) ∧ 16 ≤ (s7.m.dev.fifoOf 1).length := by
  and_intros <;> decide +kernel

end Sys2Proof.Tests.Links

namespace Sys2Proof.Tests.Dram

set_option Elab.async false

def hb (l : List (Fld × Nat)) (f : Hbm → Hbm) : State := st ((dev l).onHbm f)
def rq (b : Nat) (w : Bool) (t : Nat) : DramReq := ⟨2, b, 5, 1, w, false, t, false⟩
def s1 : State := hb [(F.HBM_STACK_UP, 15)] fun h => { h with regions := [(6, [0, 1])], entering := 1 }
def v1 : DramAt := (locate [0,1] 4096).getD (dramAt 0 0)
def v2 : DramReq := rq 0 false 0
def s2 : State := hb [(F.HBM_STACK_UP, 15)] fun h =>
    { h with reqs := [(9, [rq 0 false 0, rq 1 true 0])], debt := [(9,3)], entering := 1 }
def s5 : State := hb [(F.HBM_STACK_UP, 15)] fun h => { h with debt := [(9,8),(33,2)], entering := 2 }
def s6 : State := hb [(F.HBM_STACK_UP, 15),(F.HBM_DOUBLED 1, 1), (F.HBM_SEG_LOSE, 2)] fun h =>
    { h with reqs := [(9, [rq 0 false 0])], debt := [(9,8),(33,2)], entering := 2 }
def s9 : State := hb [(F.HBM_STACK_UP, 15),(F.HBM_SEG_RESTING, 2), (F.HBM_ALLOC_PENDING, 1), (F.HBM_WINDOW_GIB, 4),
    (F.HBM_HOG_GIB, 64)] fun h => { h with debt := [(9,8),(33,2)], lost := 2 }
def s11 : State := hb [(F.HBM_STACK_UP, 14),(F.HBM_STACK_DOWN, 1),(F.HBM_SEG_ELIGIBLE, 2), (F.HBM_ALLOC_PENDING, 1),
    (F.HBM_WINDOW_GIB, 16), (F.HBM_HOG_GIB, 64)] fun h => h 

/-- Meets hypotheses of Obligations.DramRequests. -/
theorem witness_DramRequests :
    s2.m.dev.boot.porN = true ∧ s2.m.dev.isHeld 35 = false ∧ locate (s2.m.dev.region 6) 4096 = none ∧
    s2.m.dev.stackUp (9 / 32) = true ∧ s2.m.dev.segResting (segmentOfPc 9) = false ∧ s2.m.dev.chooseReq s2.m.clk 9 = some v2 ∧
    (List.find? (fun a => !a.late && decide (s2.m.dev.dramTarget a.client ≤ tickNs a.at_ s2.m.clk.tick)) (s2.m.dev.pcReqs 9) = none) ∧
    s1.m.dev.boot.porN = true ∧ s1.m.dev.isHeld 35 = false ∧ locate (s1.m.dev.region 6) 4096 = some v1 ∧
    s1.m.dev.stackUp (9 / 32) = true ∧ s1.m.dev.segResting (segmentOfPc 9) = false ∧ s1.m.dev.chooseReq s1.m.clk 9 = none := by
  and_intros <;> decide +kernel

/-- Meets hypotheses of Obligations.DramStacks. -/
theorem witness_DramStacks :
    s9.m.dev.boot.porN = true ∧ s9.m.dev.isHeld 35 = false ∧ (((segmentPcs 1).any fun p => !(s9.m.dev.pcReqs p).isEmpty) = false) ∧
    s9.m.dev.segResting 1 = true ∧ s9.m.dev.stackUp (1 / 4) = true ∧
    (((segmentPcs 1).any fun p => !(s9.m.dev.pcReqs p).isEmpty) = true ∨ bit (s9.m.dev.get F.HBM_SEG_ELIGIBLE) 1 = false) ∧
    s9.m.dev.stackUp 1 = true ∧ s9.m.dev.flag F.HBM_ALLOC_PENDING = true ∧ s9.m.dev.trainingEnded = true ∧
    s9.m.dev.get F.CXL_MODE = 0 ∧
    (s9.m.dev.get F.HBM_WINDOW_GIB = 0 ∨ 4 ≤ s9.m.dev.get F.HBM_WINDOW_GIB ∧ s9.m.dev.get F.HBM_WINDOW_GIB ≤ 16) ∧
    s9.m.dev.get F.HBM_HOG_GIB ≤ 64 ∧
    ((List.map (fun x => x.snd) (regionSizes (s9.m.dev.get F.HBM_WINDOW_GIB) (s9.m.dev.get F.HBM_HOG_GIB))).sum ≤ (List.filter (fun
      e => !bit (s9.m.dev.get F.HBM_STACK_DOWN) (e / 24)) (List.range 96)).length) ∧
    s11.m.dev.boot.porN = true ∧ s11.m.dev.isHeld 35 = false ∧
    (((segmentPcs 1).any fun p => !(s11.m.dev.pcReqs p).isEmpty) = false) ∧ bit (s11.m.dev.get F.HBM_SEG_ELIGIBLE) 1 = true ∧
    s11.m.dev.flag F.HBM_ALLOC_PENDING = true ∧ s11.m.dev.trainingEnded = true ∧ s11.m.dev.get F.CXL_MODE = 0 ∧
    (s11.m.dev.get F.HBM_WINDOW_GIB = 0 ∨ 4 ≤ s11.m.dev.get F.HBM_WINDOW_GIB ∧ s11.m.dev.get F.HBM_WINDOW_GIB ≤ 16) ∧
    s11.m.dev.get F.HBM_HOG_GIB ≤ 64 ∧
    ((List.filter (fun e => !bit (s11.m.dev.get F.HBM_STACK_DOWN) (e / 24)) (List.range 96)).length < (List.map (fun x => x.snd)
      (regionSizes (s11.m.dev.get F.HBM_WINDOW_GIB) (s11.m.dev.get F.HBM_HOG_GIB))).sum) ∧
    s5.m.dev.boot.porN = true ∧ s5.m.dev.isHeld 35 = false ∧ bit s5.m.dev.hbm.entering 1 = true ∧
    (((segmentPcs 1).any fun p => !(s5.m.dev.pcReqs p).isEmpty) = false) ∧
    (bit (s5.m.dev.get F.HBM_SEG_LOSE) 1 = false ∨ s5.m.dev.segmentChunks 1 = 0) ∧ s6.m.dev.boot.porN = true ∧
    s6.m.dev.isHeld 35 = false ∧ bit s6.m.dev.hbm.entering 1 = true ∧
    (((segmentPcs 1).any fun p => !(s6.m.dev.pcReqs p).isEmpty) = true) := by
  and_intros <;> decide +kernel

end Sys2Proof.Tests.Dram

namespace Sys2Proof.Tests.TaperSide

set_option Elab.async false

def hb (l : List (Fld × Nat)) (f : Hbm → Hbm) : State := st ((dev l).onHbm f)
def rq (b : Nat) (w : Bool) (t : Nat) : DramReq := ⟨2, b, 5, 1, w, false, t, false⟩
def at_ (s : State) (t : Nat) : State := { s with m := { s.m with clk := { s.m.clk with tick := t } } }
def tp (l : List (Fld × Nat)) (f : Taper → Taper) : State := st ((dev ([(F.TAP_EN, 1)] ++ l)).onTap f)
def bk (n : Nat) : TapBlock := ⟨n, 8, 0, true, true, [1,2,3]⟩
def inj : Bytes := toLE 24 2 ++ [0] ++ [0] ++ toLE 0 2 ++ toLE 20 2 ++ List.replicate 24 0 ++ List.replicate 20 1
def pl : List (Fld × Nat) := [(F.TAP_STATE, 5), (F.TAP_WIDTH, 8), (F.PORT_CFG_PORT_TYPE 3, 2), (F.PORT_STATUS_STATE 3, 2),
    (F.POOL_SIZE 0, 1000), (F.POOL_T1 0, 900), (F.POOL_T2 0, 950), (F.POOL_T3 0, 990), (F.QPROF_Q_RESERVE 0, 100)]
def ij : TapOpen := ⟨8, 0, inj, 1, false⟩
def im : TapOpen := ⟨0x20, 10, toLE 4096 8 ++ toLE 64 4 ++ toLE 0 4 ++ List.replicate 64 7, 2, false⟩
def xb (seq : Nat) : TapBlock := ⟨seq, 8, 0, true, true, inj⟩
def s1 : State := at_ (hb [(F.HBM_STACK_UP, 15), (F.HBM_TARGET 2, 1)] fun h =>
    { h with reqs := [(9, [rq 1 true 9999, rq 0 false 0])], debt := [(9,8)], entering := 1 }) 10000
def v2 : DramReq := rq 0 false 0
def s2 : State := tp [(F.TAP_STATE, 0)] id
def x1 : Bytes := ackWord 3
def s3 : State := tp [(F.TAP_STATE, 0), (F.TAP_CREDIT_INIT 0, 8000), (F.TAP_CREDIT_INIT 1, 8000)] id
def s4 : State := tp [(F.TAP_STATE, 1)] id
def x2 : Bytes := trainWord 0 2 7 0 false
def s5 : State := tp [(F.TAP_STATE, 2)] fun t => { t with peerWidth := some 8 }
def s7 : State := tp [(F.TAP_STATE, 2)] id
def s8 : State := tp [(F.TAP_STATE, 3)] id
def s9 : State := tp [(F.TAP_STATE, 4)] fun t => { t with peerNext := some 6, unacked := [bk 5, bk 6, bk 7] }
def x3 : Bytes := trainWord 0 4 7 6 false
def s10 : State := tp [(F.TAP_STATE, 4)] fun t => { t with peerNext := some 9, unacked := [bk 5, bk 6, bk 7] }
def x4 : Bytes := creditWord true [1,2,3,4,5,6,7,8]
def s11 : State := tp [(F.TAP_STATE, 5), (F.TAP_WIDTH, 8)] fun t => { t with unacked := [bk 5, bk 6, bk 7] }
def x5 : Bytes := creditWord false [1,2,3,4,5,6,7,8]
def s12 : State := tp [(F.TAP_STATE, 5), (F.TAP_WIDTH, 2)] fun t =>
    { t with unacked := [bk 5, bk 6, bk 7], replayOf := some 5, replays := 4 }
def x6 : Bytes := ackWord 6
def x7 : Bytes := nakWord 6
def s13 : State := tp [(F.TAP_STATE, 5)] id
def x8 : Bytes := [1, 2, 3]
def v4 : TapMsg := ⟨1, [1,2], false⟩
def x9 : Bytes := []
def s14 : State := tp pl fun t =>
    { t with turn := 15, msgs := [(0, [⟨1, [1,2], false⟩])], granted := [(0, 100)], whole := [ij, im], pass := some ⟨3, 10⟩ }
def s15 : State := tp pl fun t =>
    { t with turn := 15, msgs := [(0, [⟨1, List.replicate 3000 9, false⟩])], granted := [(0, 100)], whole := [im], pass := some ⟨3, 200⟩ }
def s16 : State := tp (pl ++ [(F.TAP_ETH_LOCAL_MAC_HI, 0x1234), (F.TAP_ETH_LOCAL_MAC_LO, 0x12345678)]) fun t =>
    { t with eth := true, unacked := [bk 5, bk 6, bk 7] }

/-- Meets hypotheses of Obligations.DramRequests. -/
theorem witness_DramRequests :
    s1.m.dev.boot.porN = true ∧ s1.m.dev.isHeld 35 = false ∧
    (List.find? (fun a => !a.late && decide (s1.m.dev.dramTarget a.client ≤ tickNs a.at_ s1.m.clk.tick)) (s1.m.dev.pcReqs 9) = some v2) := by
  and_intros <;> decide +kernel

/-- Meets hypotheses of Obligations.TaperLink. -/
theorem witness_TaperLink :
    s13.m.dev.boot.porN = true ∧ s13.m.dev.isHeld 40 = false ∧ s13.m.dev.taper.eth = false ∧
    (2 < s13.m.dev.taper.lane0 ∨ s13.m.dev.taper.lane0 + s13.m.dev.get F.TAP_WIDTH ≤ 2) ∧ wordGood x8 = false ∧
    s5.m.dev.boot.porN = true ∧ s5.m.dev.isHeld 40 = false ∧ s5.m.dev.taper.eth = false ∧ s5.m.dev.flag F.TAP_EN = true ∧
    1 ≤ s5.m.dev.get F.TAP_STATE ∧ s5.m.dev.get F.TAP_STATE ≤ 4 ∧ s5.m.dev.get F.TAP_STATE = 2 ∧
    s5.m.dev.tapChoose (s5.m.dev.tapLanes 255) = some (8, 0) ∧ s5.m.dev.tapHears = true ∧ wordGood x2 = true ∧ byteAt x2 0 = 7 ∧
    bit (leAt x2 10 1) 0 = false ∧ s11.m.dev.boot.porN = true ∧ s11.m.dev.isHeld 40 = false ∧ s11.m.dev.taper.eth = false ∧
    s11.m.dev.get F.TAP_STATE = 5 ∧ s11.m.dev.taper.lane0 ≤ 2 ∧ 2 < s11.m.dev.taper.lane0 + s11.m.dev.get F.TAP_WIDTH ∧
    s11.m.dev.taper.unacked = [bk 5, bk 6, bk 7] ∧ (¬(bk 5).seq ∈ s11.m.dev.taper.again) ∧
    (if s11.m.dev.taper.replayOf = some (bk 5).seq then s11.m.dev.taper.replays else 0) < max 1 (s11.m.dev.get F.TAP_REPLAY_NUM) ∧
    s11.m.dev.tapHears = true ∧ wordGood x5 = true ∧ byteAt x5 0 = 5 ∧ 4 ≤ s11.m.dev.get F.TAP_STATE ∧ s9.m.dev.boot.porN = true ∧
    s9.m.dev.isHeld 40 = false ∧ s9.m.dev.taper.eth = false ∧ s9.m.dev.flag F.TAP_EN = true ∧ s9.m.dev.get F.TAP_STATE = 4 ∧
    s9.m.dev.taper.peerNext = some 6 ∧ s9.m.dev.tapHears = true ∧ wordGood x3 = true ∧ byteAt x3 0 = 7 ∧
    bit (leAt x3 10 1) 0 = false ∧ s12.m.dev.boot.porN = true ∧ s12.m.dev.isHeld 40 = false ∧ s12.m.dev.taper.eth = false ∧
    s12.m.dev.get F.TAP_STATE = 5 ∧ s12.m.dev.taper.unacked = [bk 5, bk 6, bk 7] ∧ (¬(bk 5).seq ∈ s12.m.dev.taper.again) ∧
    (max 1 (s12.m.dev.get F.TAP_REPLAY_NUM) ≤ if s12.m.dev.taper.replayOf = some (bk 5).seq then s12.m.dev.taper.replays else 0) ∧
    s12.m.dev.tapHears = true ∧ wordGood x6 = true ∧ byteAt x6 0 = 3 ∧
    ((s12.m.dev.taper.unacked.any fun y => y.seq == leAt x6 4 2 % 4096) = true) ∧ s2.m.dev.boot.porN = true ∧
    s2.m.dev.isHeld 40 = false ∧ s2.m.dev.taper.eth = false ∧ s2.m.dev.flag F.TAP_EN = true ∧ s2.m.dev.get F.TAP_STATE = 0 ∧
    (List.foldl (fun x1 x2 => x1 + x2) 0 (List.map (fun v => s2.m.dev.get (F.TAP_CREDIT_INIT v)) (List.range 16)) ≤ 8192) ∧
    s3.m.dev.boot.porN = true ∧ s3.m.dev.isHeld 40 = false ∧ s3.m.dev.taper.eth = false ∧ s3.m.dev.flag F.TAP_EN = true ∧
    s3.m.dev.get F.TAP_STATE = 0 ∧
    (8192 < List.foldl (fun x1 x2 => x1 + x2) 0 (List.map (fun v => s3.m.dev.get (F.TAP_CREDIT_INIT v)) (List.range 16))) ∧
    s4.m.dev.boot.porN = true ∧ s4.m.dev.isHeld 40 = false ∧ s4.m.dev.taper.eth = false ∧ s4.m.dev.flag F.TAP_EN = true ∧
    s4.m.dev.get F.TAP_STATE = 1 ∧ s7.m.dev.boot.porN = true ∧ s7.m.dev.isHeld 40 = false ∧ s7.m.dev.taper.eth = false ∧
    s7.m.dev.flag F.TAP_EN = true ∧ s7.m.dev.get F.TAP_STATE = 2 ∧ s7.m.dev.tapChoose (s7.m.dev.tapLanes 255) = none ∧
    s8.m.dev.boot.porN = true ∧ s8.m.dev.isHeld 40 = false ∧ s8.m.dev.taper.eth = false ∧ s8.m.dev.flag F.TAP_EN = true ∧
    s8.m.dev.get F.TAP_STATE = 3 ∧ s10.m.dev.boot.porN = true ∧ s10.m.dev.isHeld 40 = false ∧ s10.m.dev.taper.eth = false ∧
    s10.m.dev.tapHears = true ∧ wordGood x4 = true ∧ byteAt x4 0 = 6 ∧ 4 ≤ s10.m.dev.get F.TAP_STATE ∧ wordGood x7 = true ∧
    byteAt x7 0 = 4 ∧ ((s12.m.dev.taper.unacked.any fun y => y.seq == leAt x7 4 2 % 4096) = true) := by
  and_intros <;> decide +kernel

/-- Meets hypotheses of Obligations.TaperTraffic. -/
theorem witness_TaperTraffic :
    s14.m.dev.boot.porN = true ∧ s14.m.dev.isHeld 40 = false ∧ s14.m.dev.isHeld 33 = false ∧ s14.m.dev.get F.TAP_STATE = 5 ∧
    s14.m.dev.tapHears = true ∧ (xb 0).body ≠ [] ∧ List.length (xb 0).body ≤ 2048 ∧ (xb 0).vc < 16 ∧ (xb 0).type < 256 ∧
    (xb 0).seq < 4096 ∧ s14.m.dev.taper.expected < 4096 ∧ (xb 0).seq = s14.m.dev.taper.expected ∧ (xb 0).first = true ∧
    (xb 0).last = true ∧ tget? s14.m.dev.taper.open_ (xb 0).vc = none ∧
    s14.m.dev.messageBad (TapOpen.mk (xb 0).type (xb 0).vc (xb 0).body (blockCredits (List.length (xb 0).body)) false) true = false ∧
    s14.m.dev.taper.eth = false ∧ s14.m.dev.flag F.TAP_ESTREAM_EN = false ∧ s14.m.dev.taper.again = [] ∧
    s14.m.dev.taper.unacked.length < 2047 ∧ s14.m.dev.vcTurn = some 0 ∧ tgetD s14.m.dev.taper.msgs 0 [] = [v4] ∧
    s14.m.dev.taper.parked = [] ∧
    (∃ seg, s14.m.dev.taper.parked = [] ∧ s14.m.dev.nextWhole (if seg = true then 9 else 8) = some ij) ∧
    s14.m.dev.taper.pass = some (CPass.mk 3 10) ∧ s14.m.dev.get F.TAP_CSTREAM_INTERVAL = 0 ∧ s16.m.dev.boot.porN = true ∧
    s16.m.dev.isHeld 40 = false ∧ s16.m.dev.isHeld 33 = false ∧ s16.m.dev.get F.TAP_STATE = 5 ∧ s16.m.dev.taper.eth = true ∧
    6 < 4096 ∧ ((s16.m.dev.taper.unacked.any fun y => y.seq == 6) = true) ∧ List.length x9 < 64 ∧ s15.m.dev.boot.porN = true ∧
    s15.m.dev.isHeld 40 = false ∧ s15.m.dev.isHeld 33 = false ∧ s15.m.dev.get F.TAP_STATE = 5 ∧ s15.m.dev.nextWhole 32 = some im ∧
    (tp pl id).m.dev.boot.porN = true ∧ (tp pl id).m.dev.isHeld 40 = false ∧ (tp pl id).m.dev.isHeld 33 = false ∧
    (tp pl id).m.dev.get F.TAP_STATE = 5 ∧ (tp pl id).m.dev.tapHears = true ∧ (xb 2).body ≠ [] ∧ List.length (xb 2).body ≤ 2048 ∧
    (xb 2).vc < 16 ∧ (xb 2).type < 256 ∧ (xb 2).seq < 4096 ∧ (tp pl id).m.dev.taper.expected < 4096 ∧
    1 ≤ ((xb 2).seq + 4096 - (tp pl id).m.dev.taper.expected) % 4096 ∧
    ((xb 2).seq + 4096 - (tp pl id).m.dev.taper.expected) % 4096 < 2048 ∧ (tp pl id).m.dev.taper.nakAt = none ∧
    (xb 4000).body ≠ [] ∧ List.length (xb 4000).body ≤ 2048 ∧ (xb 4000).vc < 16 ∧ (xb 4000).type < 256 ∧ (xb 4000).seq < 4096 ∧
    2048 ≤ ((xb 4000).seq + 4096 - (tp pl id).m.dev.taper.expected) % 4096 := by
  and_intros <;> decide +kernel

end Sys2Proof.Tests.TaperSide

namespace Sys2Proof.Tests.Buffering

set_option Elab.async false

def bfl : List (Fld × Nat) := [(F.PORT_CFG_PORT_TYPE 3, 2), (F.PORT_STATUS_STATE 3, 2), (F.PORT_CFG_PORT_TYPE 17, 2),
    (F.PORT_STATUS_STATE 17, 2), (F.POOL_SIZE 0, 1000), (F.POOL_T1 0, 900), (F.POOL_T2 0, 950), (F.POOL_T3 0, 990),
    (F.QPROF_Q_RESERVE 0, 100)]
def fr : Frame := { Frame.new 3 0 0 9000 0 with bytes := List.replicate 300 5 }
def cell (n : Nat) : CellRec := ⟨List.replicate n 5, crc32c (List.replicate n 5), 1, 0, false⟩
def cp : Copy := ⟨7, 0, 0, [], [], 0, 1, 0, .forward none, false, false, false, none, .keep, [], none, false⟩
def bs (f : Frame) (g : Dev → Dev) : State := st (g (({ dev bfl with frames := [(7, f)] } : Dev)))
def tx0 : Tx := ⟨8 * 3, cp, 0, [], false, false⟩
def good (f : Frame) : Frame := { f with ended := some .good, decided := true, later := 1, headed := true }
def sp (i : Nat) : Copy := { cp with chunks := [4], spilling := some i }
def spS (i : Nat) : State := bs (good { fr with cells := [0, 1] }) fun d =>
    { d.setQueue 24 [sp i] with bm := { (d.setQueue 24 [sp i]).bm with cells := [(0, cell 256), (1, cell 44)], bank := 2, chunks := [4] } }
def sd : Copy := { cp with chunks := [4], spilled := true }
def sdS (l : List (Fld × Nat)) : State := let s := bs (good { fr with cells := [], bytes := List.replicate 300 5 }) fun d =>
    ({ d.setQueue 24 [sd] with bm := { (d.setQueue 24 [sd]).bm with chunks := [4] } } : Dev).setAll l
   { s with m := { s.m with dram := mwrite [] (chunkAt 4) (List.replicate 300 5) } }
def rc (f : Frame) : Frame := { good f with pass := 2, passStart := 0, decided := false, later := 0 }
def late (s : State) : State := { s with m := { s.m with clk := { s.m.clk with tick := 20000 } } }
def s1 : State := bs { fr with cells := [0], bytes := List.replicate 256 5 } fun d =>
    { d.setPort 3 { Port.idle with rx := some 7 } with bm := { d.bm with cells := [(0, cell 256)], bank := 1 } }
def f1 : Frame := { fr with cells := [0], bytes := List.replicate 256 5 }
def s2 : State := bs (good { fr with cells := [0, 1] }) fun d =>
    { d.setPort 3 { Port.idle with tx := some tx0 } with bm := { d.bm with cells := [(0, cell 256), (1, cell 44)], bank := 2 } }
def f2 : Frame := good { fr with cells := [0, 1] }
def f3 : Frame := good { fr with cells := [] }
def s4 : State := sdS [(F.POOL_SIZE 0, 1)]
def s5 : State := late (bs (rc { fr with cells := [0,1] }) fun d =>
    { d.setLantern 0 { d.lantern 0 with recirc := [7] } with bm := { d.bm with cells := [(0, cell 256), (1, cell 44)], bank := 2 } })
def f4 : Frame := rc { fr with cells := [0,1] }
def s6 : State := late (bs (rc { fr with cells := [] }) fun d => { d with bm := { d.bm with waiting := [(7, .recirc 0)] } })
def f5 : Frame := rc { fr with cells := [] }

/-- Meets hypotheses of Obligations.BufferCommands. -/
theorem witness_BufferCommands :
    s2.m.dev.boot.porN = true ∧ s2.m.dev.frame? 7 = some f2 ∧ s2.m.dev.isHeld 33 = false ∧ s2.m.dev.bm.waiting = [] ∧
    (Option.any (fun x => decide ((s2.m.dev.port 3).tx = some tx0 ∧ tx0.copy.fid = 7 ∧ tx0.over_ = false ∧ f2.available x = true ∧
      tget? s2.m.dev.bm.cells (f2.cells.getD x 0) = some (cell 256) ∧ crc32c (cell 256).data = (cell 256).crc)) (tx0.copy.reads
      f2)[tx0.read]? = true) ∧
    (Option.any (fun x => decide ((s2.m.dev.port 3).tx = some tx0 ∧ tx0.copy.fid = 7 ∧ tx0.over_ = false ∧ f2.available x = true ∧
      tget? s2.m.dev.bm.cells (f2.cells.getD x 0) = some (cell 256))) (tx0.copy.reads f2)[tx0.read]? = true) ∧
    (sdS []).m.dev.boot.porN = true ∧ (sdS []).m.dev.frame? 7 = some f3 ∧ (sdS []).m.dev.isHeld 33 = false ∧
    (sdS []).m.dev.returnable 7 = some (24, sd) ∧ (((sdS []).m.dev.bm.waiting.any fun e => e.fst == 7) = false) ∧
    (∃ at_, at_ < 40 ∧ True) ∧
    ((((sdS []).m.dev.setFrame 7
      ({ f3 with pool := (sdS []).m.dev.get (F.BMQ_POOL 24), bytes := List.take (List.length f3.bytes) (List.map (fun ch => mread (sdS []).m.dram (chunkAt ch) 2048) sd.chunks).flatten, cells := [], later := 0, parked := true })).takeBack ({ f3 with pool := (sdS []).m.dev.get (F.BMQ_POOL 24), bytes := List.take (List.length f3.bytes) (List.map (fun ch => mread (sdS []).m.dram (chunkAt ch) 2048) sd.chunks).flatten, cells := [], later := 0, parked := true }) 7).isSome = true) ∧
    s1.m.dev.boot.porN = true ∧ s1.m.dev.frame? 7 = some f1 ∧ s1.m.dev.isHeld 33 = false ∧ s1.m.dev.bm.waiting = [] ∧ 3 < 512 ∧
    (s1.m.dev.port 3).rx = some 7 ∧ f1.refused = false ∧ f1.cut = false ∧ f1.ended = none ∧ f1.bytes ≠ [] ∧
    f1.cells.length ≤ f1.written ∧ s1.m.dev.mayTake f1.pool = true ∧ s1.m.dev.nextCell = some 1 ∧ (spS 0).m.dev.boot.porN = true ∧
    (spS 0).m.dev.frame? 7 = some f2 ∧ (spS 0).m.dev.isHeld 33 = false ∧
    (Option.any (fun x => decide ((spS 0).m.dev.spillOf 7 = some (24, sp 0) ∧ x < f2.cells.length ∧ tget? (spS 0).m.dev.bm.cells
      (f2.cells.getD x 0) = some (cell 256) ∧ crc32c (cell 256).data = (cell 256).crc ∧ List.length (cell 256).data ≤ 256 ∧ (sp
      0).chunks.getD (x / 8) 0 < 2 ^ 24)) (sp 0).spilling = true) ∧
    s4.m.dev.boot.porN = true ∧ s4.m.dev.frame? 7 = some f3 ∧ s4.m.dev.isHeld 33 = false ∧ s4.m.dev.returnable 7 = some (24, sd) ∧
    ((s4.m.dev.bm.waiting.any fun e => e.fst == 7) = false) ∧
    ((s4.m.dev.setFrame 7
      ({ f3 with pool := s4.m.dev.get (F.BMQ_POOL 24), bytes := List.take (List.length f3.bytes) (List.map (fun ch => mread s4.m.dram (chunkAt ch) 2048) sd.chunks).flatten, cells := [], later := 0, parked := true })).takeBack ({ f3 with pool := s4.m.dev.get (F.BMQ_POOL 24), bytes := List.take (List.length f3.bytes) (List.map (fun ch => mread s4.m.dram (chunkAt ch) 2048) sd.chunks).flatten, cells := [], later := 0, parked := true }) 7 = none) ∧
    s5.m.dev.boot.porN = true ∧ s5.m.dev.frame? 7 = some f4 ∧ s5.m.dev.isHeld 33 = false ∧ 1 < f4.pass ∧
    f4.passStart + passLimit ≤ s5.m.clk.tick ∧ (s5.m.dev.lantern (f4.ingress / 16)).recirc.contains 7 = true ∧
    ((s5.m.dev.bm.waiting.any fun e => e.fst == 7) = false) ∧ s6.m.dev.boot.porN = true ∧ s6.m.dev.frame? 7 = some f5 ∧
    s6.m.dev.isHeld 33 = false ∧ 1 < f5.pass ∧ f5.passStart + passLimit ≤ s6.m.clk.tick ∧
    ((s6.m.dev.bm.waiting.any fun e => e.fst == 7) = true) := by
  and_intros <;> decide +kernel

end Sys2Proof.Tests.Buffering

namespace Sys2Proof.Tests.Transmitting

set_option Elab.async false

def bfl : List (Fld × Nat) := [(F.PORT_CFG_PORT_TYPE 3, 2), (F.PORT_STATUS_STATE 3, 2), (F.PORT_CFG_PORT_TYPE 17, 2),
    (F.PORT_STATUS_STATE 17, 2), (F.POOL_SIZE 0, 1000), (F.POOL_T1 0, 900), (F.POOL_T2 0, 950), (F.POOL_T3 0, 990),
    (F.QPROF_Q_RESERVE 0, 100)]
def cell (n : Nat) : CellRec := ⟨List.replicate n 5, crc32c (List.replicate n 5), 1, 0, false⟩
def cp (c : Nat) : Copy := ⟨7, c, 0, [], [], 0, 1, 0, .forward none, false, false, false, none, .keep, [], none, false⟩
def good : Frame := { Frame.new 17 0 0 9000 0 with bytes := List.replicate 300 5, cells := [0,1], ended := some .good, decided := true, later := 1, headed := true, rxLen := 300 }
def sel0 (q : List Nat) : Dev := q.foldl (fun d c => d.setQueue (24 + c) [cp c])
    { dev bfl with frames := [(7, { good with later := q.length })] }
def sel (q : List Nat) : State :=
  st { sel0 q with bm := { (sel0 q).bm with cells := [(0, { cell 256 with refs := q.length }), (1, { cell 44 with refs := q.length })], bank := 2 } }
def hs (s : State) := (s.m.dev.portDrops s.m.clk 3).heads s.m.clk 3
def pk (s : State) := (hs s).2.pick 3 (hs s).1 64 7
def ph (s : State) : Nat × Copy × Nat := ((pk s).1).getD (0, cp 0, 0)
def tx (p : Nat) (c : Copy) : Tx := ⟨8 * p, c, 2, List.replicate 300 5, false, false⟩
def txS (p : Nat) (f : Frame) (c : Copy) : State :=
  st (Dev.setPort { dev bfl with frames := [(7, f)], bm := { (dev bfl).bm with bank := 2 } } p
    { Port.idle with tx := some (tx p c) })
def gl (ch : Nat) : GList := ⟨[toLE 100 4 ++ [0x0f, 0,0,0], toLE 200 4 ++ [0xf0,0,0,0]], (0, 0), 300, 0, ch, 0⟩
def gS (l : List (Fld × Nat)) (g sg : Gate) (t : Nat) : State := let d := dev l; let s := st ((d.setGate 5 g).setSgate 9 sg);
    { s with m := { s.m with clk := { s.m.clk with sub := t * 2 ^ 32, shape := t * 2 ^ 32 } } }
def prof : Bytes := toLE 100 3 ++ toLE 50 3 ++ toLE 5000 3 ++ toLE 3000 3 ++ [8, 0] ++ toLE 0 2
def rfS (ix : Tab Bytes) : State := let s := gS [] Gate.idle Gate.idle 9000; { s with m := s.m.setDev { s.m.dev with index := ix } }
def v1 : Nat × Copy × Nat := ph (sel [2,5])
def v2 : List (Nat × Copy × Nat) := (hs (sel [2,5])).1
def d1 : Dev := (hs (sel [2,5])).2
def d2 : Dev := (pk (sel [2,5])).2
def v3 : List (Nat × Copy × Nat) := (hs (sel [])).1
def d3 : Dev := (hs (sel [])).2
def d4 : Dev := (pk (sel [])).2
def s4 : State := txS 515 good { cp 0 with kind := .forward (some 0x20) }
def v5 : Tx := tx 515 { cp 0 with kind := .forward (some 0x20) }
def s5 : State := gS [(F.PORT_CFG_PORT_TYPE 5, 2), (F.EGP_GATE_EN 5, 1), (F.SG_EN 9, 1)] { Gate.idle with pend := some (gl 500) }
    { Gate.idle with pend := some (gl 500), octE := 3, at_ := 7 } 650
def s6 : State := gS [(F.PORT_CFG_PORT_TYPE 5, 2), (F.EGP_GATE_EN 5, 1), (F.SG_EN 9, 1)] { Gate.idle with pend := some (gl 500) }
    { Gate.idle with pend := some (gl 500), octE := 3, at_ := 7 } 450
def s8 : State := rfS [(0x12000003, toLE (PolWord.word ⟨10, 20, 5, false⟩) 8), (0x13000005, prof)]

/-- Meets hypotheses of Obligations.Transmission. -/
theorem witness_Transmission :
    (sel [2, 5]).m.dev.boot.porN = true ∧ 3 < 518 ∧ 3 ≠ 513 ∧ (sel [2, 5]).m.dev.portExists 3 = true ∧
    (sel [2, 5]).m.dev.isHeld 34 = false ∧ (sel [2, 5]).m.dev.isHeld 33 = false ∧ ((sel [2, 5]).m.dev.port 3).tx = none ∧
    (sel [2, 5]).m.dev.portDue 3 = true ∧
    ((sel [2, 5]).m.dev.portDrops (sel [2, 5]).m.clk 3).heads (sel [2, 5]).m.clk 3 = (v2, d1) ∧
    (∀ (c : Nat), c < 8 → c ∈ (sel [2, 5]).m.dev.rotation 3) ∧ d1.pick 3 v2 64 7 = (some v1, d2) ∧
    (List.Pairwise (fun a b => a.fst < b.fst) (sel [2, 5]).m.dev.egr.filed) ∧ (sel []).m.dev.boot.porN = true ∧
    (sel []).m.dev.portExists 3 = true ∧ (sel []).m.dev.isHeld 34 = false ∧ (sel []).m.dev.isHeld 33 = false ∧
    ((sel []).m.dev.port 3).tx = none ∧ (sel []).m.dev.portDue 3 = true ∧
    ((sel []).m.dev.portDrops (sel []).m.clk 3).heads (sel []).m.clk 3 = (v3, d3) ∧
    (∀ (c : Nat), c < 8 → c ∈ (sel []).m.dev.rotation 3) ∧ d3.pick 3 v3 64 7 = (none, d4) ∧ s4.m.dev.boot.porN = true ∧
    (s4.m.dev.port 515).tx = some v5 ∧ s4.m.dev.frame? v5.copy.fid = some good ∧ v5.done good = true ∧ 514 ≤ 515 ∧
    v5.stomp = false ∧ v5.over_ = false ∧ good.pass < 4 ∧
    (∃ op, op < 40 ∧ v5.copy.kind = CopyKind.forward (some op) ∧ ((((((s4.m.dev.countQueue v5.q 1 (max 64 (List.length
      (s4.m.dev.content v5.copy good v5.bytes) + 4))).tallyBytes v5.copy (List.length v5.bytes)).afterSend 515 v5 good).nextPass 515
      v5.copy good (s4.m.dev.content v5.copy good v5.bytes)).snd.setFrame ((((s4.m.dev.countQueue v5.q 1 (max 64 (List.length
      (s4.m.dev.content v5.copy good v5.bytes) + 4))).tallyBytes v5.copy (List.length v5.bytes)).afterSend 515 v5 good).nextPass 515
      v5.copy good (s4.m.dev.content v5.copy good v5.bytes)).snd.newFrame ((((s4.m.dev.countQueue v5.q 1 (max 64 (List.length
      (s4.m.dev.content v5.copy good v5.bytes) + 4))).tallyBytes v5.copy (List.length v5.bytes)).afterSend 515 v5 good).nextPass 515
      v5.copy good (s4.m.dev.content v5.copy good v5.bytes)).fst).askWhole s4.m.clk ((((s4.m.dev.countQueue v5.q 1 (max 64
      (List.length (s4.m.dev.content v5.copy good v5.bytes) + 4))).tallyBytes v5.copy (List.length v5.bytes)).afterSend 515 v5
      good).nextPass 515 v5.copy good (s4.m.dev.content v5.copy good v5.bytes)).snd.newFrame).fst = Ask.granted) := by
  and_intros <;> decide +kernel

/-- Meets hypotheses of Obligations.GatesAndRefill. -/
theorem witness_GatesAndRefill :
    s5.m.dev.boot.porN = true ∧ s5.m.dev.isHeld 34 = false ∧ (s5.m.dev.gate 5).pend = some (gl 500) ∧
    (gl 500).change ≤ s5.m.clk.abs ∧ (s5.m.dev.sgate 9).pend = some (gl 500) ∧ s5.m.dev.portExists 5 = true ∧
    s5.m.clk.shape < (s5.m.dev.get64 F.EG_REFILL_NUM_LO F.EG_REFILL_NUM_HI + 1) * 8192 * 2 ^ 32 ∧ s6.m.dev.boot.porN = true ∧
    s6.m.dev.isHeld 34 = false ∧ (s6.m.dev.gate 5).pend = some (gl 500) ∧ s6.m.clk.abs < (gl 500).change ∧
    (s6.m.dev.sgate 9).pend = some (gl 500) ∧ s8.m.dev.boot.porN = true ∧ s8.m.dev.isHeld 34 = false ∧
    (s8.m.dev.get64 F.EG_REFILL_NUM_LO F.EG_REFILL_NUM_HI + 1) * 8192 * 2 ^ 32 ≤ s8.m.clk.shape ∧
    (∀ (w : Wait), w ∈ s8.m.dev.smi.waits → ∀ (n : Nat), w.kind ≠ WaitKind.policer n) ∧
    (List.Pairwise (fun a b => a.fst < b.fst) s8.m.dev.index) := by
  and_intros <;> first | decide +kernel | exact fun _ h => absurd h List.not_mem_nil

end Sys2Proof.Tests.Transmitting

namespace Sys2Proof.Tests.Sconces

set_option Elab.async false

def tp0 : TestPass := ⟨5, 3, 1, false⟩
def lr : LampRec := ⟨0, 1, 0, 0, 5, 6, 0, 0⟩
def w0 (op : Nat) (k : WaitKind) : Wait := ⟨op, ⟨0, 1, false, false, false, 0, [], ⟨[], .whole⟩⟩, 0, false, false, k⟩
def sc (l : List (Fld × Nat)) (f : Dev → Dev) : State := st (f (dev l))
def s1 : State := sc [(F.GL_FP_EN, 0), (F.GL_REF_VALID, 1), (F.SM_FW_READY, 1)] fun d =>
    { d with smi := { d.smi with waits := [w0 0xC0 (.bankClear 3), w0 0x50 (.portConfig 3)] }, sconce := { d.sconce with scratch := [(3*32768+7, 5)] }}
def s2 : State := sc [(F.GL_FP_EN, 0), (F.GL_REF_VALID, 1), (F.SM_FW_READY, 0)] fun d =>
    { d with sconce := { d.sconce with test := some tp0, restarting := true }}
def s3 : State := sc [(F.GL_FP_EN, 0), (F.GL_REF_VALID, 1), (F.GL_CONFIG_GEN, 1)] fun d =>
    { d with sconce := { d.sconce with test := some {tp0 with word := 32767}}}
def v1 : TestPass := {tp0 with word := 32767}
def s4 : State := sc [(F.HBM_ALLOC_DONE, 1), (F.LB_NEXT_SEQ_LO, 1)] fun d => { d with lamp := { d.lamp with ring := [(0, lr)] }}
def s5 : State := sc [(F.BT_FAILED, 1)] id

/-- Meets hypotheses of Obligations.FatalHolds. -/
theorem witness_FatalHolds :
    s5.m.dev.boot.porN = true ∧ s5.m.dev.flag F.BT_FAILED = true ∧ 8192 ≤ 4194320 := by
  and_intros <;> decide +kernel

/-- Meets hypotheses of Obligations.SconceAndPackage (SconceEvents). -/
theorem witness_SconceEvents :
    s4.m.dev.boot.porN = true ∧ s4.m.dev.flag F.GL_FP_EN = true ∧ s4.m.dev.isHeld 42 = false ∧
    s4.m.dev.flag F.SM_FW_READY = false ∧ s4.m.dev.sconce.restarting = false ∧
    ((s4.m.dev.smi.waits.any fun w => w.kind == WaitKind.bankClear 3) = false) ∧ s4.m.dev.sconce.test = none ∧
    s4.m.dev.flag F.HBM_ALLOC_DONE = true ∧ s4.m.dev.lamp.copied < s4.m.dev.nextSeq ∧
    tget? s4.m.dev.lamp.ring s4.m.dev.lamp.copied = some lr ∧ s1.m.dev.boot.porN = true ∧ s1.m.dev.flag F.GL_FP_EN = false ∧
    s1.m.dev.flag F.SM_FW_READY = true ∧ ((s1.m.dev.smi.waits.any fun w => w.kind == WaitKind.bankClear 3) = true) ∧
    s1.m.dev.nextSeq ≤ s1.m.dev.lamp.copied ∧ s2.m.dev.boot.porN = true ∧ s2.m.dev.sconce.restarting = true ∧
    s2.m.dev.sconce.test = some tp0 ∧ tp0.word ≠ 32767 ∧ s3.m.dev.boot.porN = true ∧ s3.m.dev.sconce.test = some v1 ∧
    v1.word = 32767 ∧ v1.bank < 64 ∧ s3.m.dev.sconce.waiting = false := by
  and_intros <;> decide +kernel

/-- Meets hypotheses of Obligations.SconceAndPackage (PackagePorts). -/
theorem witness_PackagePorts :
    (sc [] id).m.dev.boot.porN = true ∧ (sc [] id).m.dev.isHeld 43 = false := by
  and_intros <;> decide +kernel

end Sys2Proof.Tests.Sconces

namespace Sys2Proof.Tests.Status

set_option Elab.async false

def q1 : Req := rq (toLE 4096 8 ++ toLE 128 4)
def q3 : Req := rq (toLE 3 2)
def s1 : State := live [(F.PORT_CFG_PORT_TYPE 3, 1)] id
def q4 : Req := rq (toLE 0x60 4 ++ [1])
def q5 : Req := rq (toLE 0x60 4 ++ [2])
def q6 : Req := rq (toLE 0x84 4 ++ toLE 5 4 ++ toLE 0xFFFFFFFF 4)
def d1 : Dev := dev [(F.GL_GLOBAL_STICKY, 31)]
def q10 : Req := rq (toLE 3 2 ++ [0])
def q11 : Req := rq (toLE 3 2 ++ [1, 0] ++ toLE 5 6 ++ toLE 7 4)
def s2 : State := cl (live [] id) 5 7 0
def s4 : State := live [] fun d => { d with ctrs := [(4, ⟨3,4,true⟩)] }
def q14 : Req := rq (toLE 3 4 ++ toLE 5 4 ++ [1] ++ List.replicate 7 0 ++ toLE 4096 8 ++ toLE 640 4)
def q15 : Req := rq (toLE 3 4 ++ toLE 5 4)
def s5 : State := live [] fun d => { d with ctrs := [(4, ⟨3,4,true⟩), (9, ⟨1,1,false⟩)] }
def q16 : Req := rq ([1,0,0,0] ++ toLE 5 6 ++ toLE 7 4)
def s6 : State := cl (live [(F.GL_SNAP_COPYING, 1)] id) 5 7 0
def q18 : Req := rq (toLE 500 2 ++ toLE 0 2 ++ toLE 1000 4 ++ toLE 65535 4)
def s11 : State := live [(F.SC_OWNER 5, 2)] fun d => put [(F.SC_FAILED 5, 0)] d
def s12 : State := live [(F.SC_OWNER 5, 2)] fun d => put [(F.SC_FAILED 5, 0)]
    { d with sconce := { d.sconce with test := some ⟨7,0,0,true⟩ }}

/-- Meets hypotheses of Obligations.HostQueries (EchoAndFingerprint). -/
theorem witness_EchoAndFingerprint :
    (live [] id).m.ready 1 (rq []) ∧ List.length (rq []).params ≤ 4064 ∧ (live [] id).m.ready 20 (rq []) ∧ (rq []).params = [] ∧
    (live [] id).m.ready 21 (rq []) ∧ List.length (rq []).params ≤ 8 := by
  delta Mach.ready; and_intros <;> decide +kernel

/-- Meets hypotheses of Obligations.HostQueries (StatusCommands). -/
theorem witness_StatusCommands :
    (live [] id).m.ready 2 q1 ∧ List.length q1.params ≤ 12 ∧ leAt q1.params 0 8 % 64 = 0 ∧ (live [] id).m.ready 161 q1 ∧
    s1.m.ready 81 q3 ∧ List.length q3.params ≤ 2 ∧ leAt q3.params 0 2 ≤ 511 := by
  delta Mach.ready; and_intros <;> decide +kernel

/-- Meets hypotheses of Obligations.RegisterCommands (RegisterReadCommand). -/
theorem witness_RegisterReadCommand :
    (live [] id).m.ready 16 q4 ∧ List.length q4.params ≤ 5 ∧ leAt q4.params 0 4 % 4 = 0 ∧ leAt q4.params 0 4 < 67108864 ∧
    leAt q4.params 4 1 = 1 ∧ (live [] id).m.ready 16 q5 ∧ List.length q5.params ≤ 5 ∧ leAt q5.params 0 4 % 4 = 0 ∧
    leAt q5.params 0 4 < 67108864 ∧ leAt q5.params 4 1 = 2 := by
  delta Mach.ready; and_intros <;> decide +kernel

/-- Meets hypotheses of Obligations.RegisterCommands (RegisterWriteCommands). -/
theorem witness_RegisterWriteCommands :
    leAt q6.params 0 4 % 4 = 0 ∧ leAt q6.params 0 4 < 67108864 ∧ leAt q6.params 0 4 ≠ 4128 ∧ (live [] id).m.ready 17 q6 ∧
    List.length q6.params ≤ 12 ∧ (live [] id).m.ready 18 q6 ∧ List.length q6.params ≤ 16 ∧
    (∃ f, f ∈ fieldsAt (leAt q6.params 0 4) ∧ f.acc = Acc.krw) := by
  delta Mach.ready; and_intros <;> decide +kernel

/-- Meets hypotheses of Obligations.RegisterCommands (MaskedWrites). -/
theorem witness_MaskedWrites :
    65535 < 2 ^ 32 ∧ 240 < 2 ^ 32 ∧ (dev []).deaf 2097216 = false ∧ (dev []).deaf 208 = false ∧ 240 % 2 = 0 ∧ 7 < 2 ^ 32 ∧
    d1.deaf 160 = false ∧ 7 % 2 = 1 := by
  and_intros <;> decide +kernel

/-- Meets hypotheses of Obligations.CommitCommand. -/
theorem witness_CommitCommand :
    (live [] id).m.ready 19 q10 ∧ (live [] id).m.dev.isHeld 38 = false ∧ laidOut 14 [(0, 3), (4, 10)] q10.params ∧
    leAt q10.params 2 1 < 2 ∧ (leAt q10.params 2 1 = 1 → leAt q10.params 10 4 < 1000000000) ∧ leAt q10.params 2 1 = 0 ∧
    (live [] id).m.ready 19 q11 ∧ laidOut 14 [(0, 3), (4, 10)] q11.params ∧ leAt q11.params 2 1 < 2 ∧
    (leAt q11.params 2 1 = 1 → leAt q11.params 10 4 < 1000000000) ∧ leAt q11.params 2 1 = 1 ∧
    leAt q11.params 0 2 &&& ((live [] id).m.taken 19 q11).dev.armedGroups = 0 ∧
    (live [] id).m.clk.reached (leAt q11.params 4 6) (leAt q11.params 10 4) = false ∧ s2.m.ready 19 q11 ∧
    s2.m.dev.isHeld 38 = false ∧ leAt q11.params 0 2 &&& (s2.m.taken 19 q11).dev.armedGroups = 0 ∧
    s2.m.clk.reached (leAt q11.params 4 6) (leAt q11.params 10 4) = true := by
  delta Mach.ready laidOut; and_intros <;> decide +kernel

/-- Meets hypotheses of Obligations.CounterCommands. -/
theorem witness_CounterCommands :
    s5.m.ready 64 q15 ∧ counterReadCheck q15 s5.m = none ∧ leAt q15.params 8 1 = 0 ∧ s5.m.ready 66 q15 ∧
    counterClearCheck q15 s5.m.dev = none ∧ s4.m.ready 64 q14 ∧ counterReadCheck q14 s4.m = none ∧ leAt q14.params 8 1 = 1 ∧
    s4.m.dev.snap = none ∧ s6.m.ready 65 q16 ∧ counterSnapshotCheck q16 s6.m = none ∧ s6.m.dev.flag F.GL_SNAP_COPYING = true ∧
    s5.m.ready 65 (rq []) ∧ counterSnapshotCheck (rq []) s5.m = none ∧ s5.m.dev.flag F.GL_SNAP_COPYING = false ∧
    (bit (leAt (rq []).params 0 1) 0 = false ∨ s5.m.dev.flag F.GL_SNAP_ARMED = false ∧ s5.m.clk.reached (leAt (rq []).params 4 6)
      (leAt (rq []).params 10 4) = true) ∧
    s5.m.ready 65 q16 ∧ counterSnapshotCheck q16 s5.m = none ∧ bit (leAt q16.params 0 1) 0 = true ∧
    s5.m.dev.flag F.GL_SNAP_ARMED = false ∧ s5.m.clk.reached (leAt q16.params 4 6) (leAt q16.params 10 4) = false := by
  delta Mach.ready; and_intros <;> decide +kernel

/-- Meets hypotheses of Obligations.EventAndBankCommands (EventCommands). -/
theorem witness_EventCommands :
    (live [] id).m.ready 176 q18 ∧ eventReadCheck q18 (live [] id).m = none ∧ (live [] id).m.ready 177 q18 ∧
    laidOut 12 [(0, 2), (4, 8)] q18.params ∧ leAt q18.params 0 2 ≤ 1023 ∧ leAt q18.params 4 4 ≤ 1000000 ∧ 1 ≤ leAt q18.params 8 4 ∧
    leAt q18.params 8 4 ≤ 65535 := by
  delta Mach.ready laidOut; and_intros <;> decide +kernel

/-- Meets hypotheses of Obligations.EventAndBankCommands (BankCommands). -/
theorem witness_BankCommands :
    s11.m.ready 193 (rq [5, 1]) ∧ bankTestCheck (rq [5, 1]) (s11.m.taken 193 (rq [5, 1])) = none ∧
    leAt (rq [5, 1]).params 1 1 = 1 ∧ (s11.m.taken 193 (rq [5, 1])).dev.sconce.test = none ∧ s12.m.ready 193 (rq [5, 1]) ∧
    bankTestCheck (rq [5, 1]) (s12.m.taken 193 (rq [5, 1])) = none ∧ (s12.m.taken 193 (rq [5, 1])).dev.sconce.test ≠ none := by
  delta Mach.ready; and_intros <;> decide +kernel

end Sys2Proof.Tests.Status

namespace Sys2Proof.Tests.Banks

set_option Elab.async false

def s1 : State := live [] fun d => put [(F.SC_FAILED 7, 0)] { d with sconce := { d.sconce with scratch := [(7*32768+7, 5)] }}
def s2 : State := live [(F.SC_OWNER 7, 4)] fun d => put [(F.SC_FAILED 7, 0)]
    { d with sconce := { d.sconce with scratch := [(3*32768+7, 5)] }}
def s3 : State := live [(F.SC_OWNER 7, 0)] fun d => put [(F.SC_FAILED 7, 0)] d

/-- Meets hypotheses of Obligations.EventAndBankCommands (BankCommands). -/
theorem witness_BankCommands :
    s2.m.ready 192 (rq [7, 0]) ∧ bankAssignCheck (rq [7, 0]) (s2.m.taken 192 (rq [7, 0])) = none ∧
    ((s2.m.taken 192 (rq [7, 0])).dev.get (F.SC_OWNER (leAt (rq [7, 0]).params 0 1)) = 4 ∨ ((s2.m.taken 192 (rq [7,
      0])).dev.smi.waits.any fun w => w.kind == WaitKind.bankClear (leAt (rq [7, 0]).params 0 1)) = true) ∧
    s2.m.ready 193 (rq [7, 0]) ∧ bankTestCheck (rq [7, 0]) (s2.m.taken 193 (rq [7, 0])) = none ∧ leAt (rq [7, 0]).params 1 1 = 0 ∧
    (s2.m.taken 193 (rq [7, 0])).dev.sconce.test = none ∧ s1.m.ready 192 (rq [7, 0]) ∧
    bankAssignCheck (rq [7, 0]) (s1.m.taken 192 (rq [7, 0])) = none ∧
    (s1.m.taken 192 (rq [7, 0])).dev.get (F.SC_OWNER (leAt (rq [7, 0]).params 0 1)) ≠ 4 ∧
    (((s1.m.taken 192 (rq [7, 0])).dev.smi.waits.any fun w => w.kind == WaitKind.bankClear (leAt (rq [7, 0]).params 0 1)) = false) ∧
    s3.m.ready 192 (rq [7, 2]) ∧ bankAssignCheck (rq [7, 2]) (s3.m.taken 192 (rq [7, 2])) = none ∧
    (s3.m.taken 192 (rq [7, 2])).dev.get (F.SC_OWNER (leAt (rq [7, 2]).params 0 1)) = 0 ∧
    (((s3.m.taken 192 (rq [7, 2])).dev.smi.waits.any fun w => w.kind == WaitKind.bankClear (leAt (rq [7, 2]).params 0 1)) = false) ∧
    leAt (rq [7, 2]).params 1 1 = 2 := by
  delta Mach.ready; and_intros <;> decide +kernel

end Sys2Proof.Tests.Banks

namespace Sys2Proof.Tests.TableChanging

set_option Elab.async false

def h1 : HSpec := ⟨1, 0, 44, 6, 256, 2097152, 0⟩
def mac (own : Byte) (lock : Byte) : Bytes := toLE 1 2 ++ [own, 0] ++ [1,2,3,4,5,6] ++ toLE 7 2 ++ [9, 0, lock, 0] ++ [0,0,0,0]
def ent (t : Nat) (p : Bytes) (lk : Bool) : Ent := { recEnt t (sliceZ p 4 16) with lock := lk }
def withE (t : Nat) (p : Bytes) (lk : Bool) (at_ : Nat) : State := live [] fun d => d.setEnts t [(at_, ent t p lk)]
def q1 : Req := rq (mac 0 0)
def s1 : State := withE 1 (mac 0 0) false 12
def s2 : State := withE 1 (mac 0 0) true 12

/-- Meets hypotheses of Obligations.TableChanges. -/
theorem witness_TableChanges :
    hspec? (leAt q1.params 0 2) = some h1 ∧ (isRoute h1.id = true → recLen h1.id (sliceZ q1.params 4 (recSize h1.id)) ≠ 0) ∧
    s2.m.ready 32 q1 ∧ tableRecordCheck q1 s2.m = none ∧
    (Option.any (fun x => decide (x.snd.lock = true ∧ bit (leAt q1.params 2 1) 0 = false)) ((((s2.m.taken 32 q1).dev.streamsFirst
      s2.m.clk).setTurn 2).findKey h1 (recKey h1.id (sliceZ q1.params 4 (recSize h1.id)))) = true) ∧
    s2.m.ready 33 q1 ∧
    ((((s2.m.taken 33 q1).dev.streamsFirst s2.m.clk).setTurn 2).purge h1 (recKey h1.id (sliceZ q1.params 4 (recSize h1.id)))).fst = [] ∧
    (Option.any (fun x => decide (x.snd.lock = true ∧ bit (leAt q1.params 2 1) 0 = false)) ((((s2.m.taken 33 q1).dev.streamsFirst
      s2.m.clk).setTurn 2).findKey h1 (recKey h1.id (sliceZ q1.params 4 (recSize h1.id)))) = true) ∧
    s2.m.ready 35 q1 ∧ tableLockCheck q1 s2.m = none ∧
    ((((s2.m.taken 35 q1).dev.streamsFirst s2.m.clk).setTurn 2).findKey h1 (recKey h1.id (sliceZ q1.params 4 (recSize
      h1.id)))).isSome = true ∧
    (live [] id).m.ready 32 q1 ∧ tableRecordCheck q1 (live [] id).m = none ∧
    ((((live [] id).m.taken 32 q1).dev.streamsFirst (live [] id).m.clk).setTurn 2).findKey h1 (recKey h1.id (sliceZ q1.params 4
      (recSize h1.id))) = none ∧
    (live [] id).m.ready 33 q1 ∧
    (((((live [] id).m.taken 33 q1).dev.streamsFirst (live [] id).m.clk).setTurn 2).purge h1 (recKey h1.id (sliceZ q1.params 4
      (recSize h1.id)))).fst = [] ∧
    ((((live [] id).m.taken 33 q1).dev.streamsFirst (live [] id).m.clk).setTurn 2).findKey h1 (recKey h1.id (sliceZ q1.params 4
      (recSize h1.id))) = none ∧
    (live [] id).m.ready 35 q1 ∧ tableLockCheck q1 (live [] id).m = none ∧
    ((((live [] id).m.taken 35 q1).dev.streamsFirst (live [] id).m.clk).setTurn 2).findKey h1 (recKey h1.id (sliceZ q1.params 4
      (recSize h1.id))) = none ∧
    s1.m.ready 32 q1 ∧ tableRecordCheck q1 s1.m = none ∧
    (Option.any (fun x => decide (x.snd.lock = false ∨ bit (leAt q1.params 2 1) 0 = true)) ((((s1.m.taken 32 q1).dev.streamsFirst
      s1.m.clk).setTurn 2).findKey h1 (recKey h1.id (sliceZ q1.params 4 (recSize h1.id)))) = true) ∧
    s1.m.ready 33 q1 ∧
    ((((s1.m.taken 33 q1).dev.streamsFirst s1.m.clk).setTurn 2).purge h1 (recKey h1.id (sliceZ q1.params 4 (recSize h1.id)))).fst = [] ∧
    (Option.any (fun x => decide (x.snd.lock = false ∨ bit (leAt q1.params 2 1) 0 = true)) ((((s1.m.taken 33 q1).dev.streamsFirst
      s1.m.clk).setTurn 2).findKey h1 (recKey h1.id (sliceZ q1.params 4 (recSize h1.id)))) = true) := by
  delta Mach.ready; and_intros <;> decide +kernel

end Sys2Proof.Tests.TableChanging

namespace Sys2Proof.Tests.TableReading

set_option Elab.async false

def rqs (p : Bytes) (src : Bytes) (e : ReadEnd := .whole) : Req := { rq p with src := ⟨src, e⟩ }
def z (n : Nat) : Bytes := List.replicate n 0
def macK : Bytes := [1,2,3,4,5,6] ++ toLE 7 2 ++ [9, 0, 0, 0] ++ [0,0,0,0]
def ent (t : Nat) (p : Bytes) (lk : Bool) : Ent := { recEnt t p with lock := lk }
def withE (t : Nat) (p : Bytes) (lk : Bool) (at_ : Nat) : State := live [] fun d => d.setEnts t [(at_, ent t p lk)]
def lk (n : Nat) := toLE 1 2 ++ [0,0] ++ toLE 4096 8 ++ toLE n 4 ++ macK
def dr (t : Nat) (lant : Byte) (first count len : Nat) : Bytes := toLE t 2 ++ [0, lant] ++ toLE first 4 ++ toLE count 4 ++
    toLE 0 4 ++ toLE 4096 8 ++ toLE len 4
def cs (stage : Byte) (first n : Nat) : Bytes := [stage, 0] ++ toLE first 2 ++ toLE n 2 ++ z 2 ++ z 8 ++ toLE 4096 8
def s1 : State := withE 1 macK false 12
def q5 : Req := rq (toLE 0x14 2 ++ [0, 3] ++ toLE 0 4 ++ toLE 4096 8)
def s2 : State := live [] fun d => { d with tbl := { d.tbl with shadows := [⟨0x14, 3, 0, 64⟩, ⟨0x14, 4, 0, 64⟩] }}
def q7 : Req := rqs (dr 1 0 10 1 16) (macK)
def q8 : Req := rqs (dr 1 0 10 1 16) (macK.take 4) .poisoned
def q9 : Req := rqs (dr 1 0 10 1 16) (macK.take 4) .timedOut
def q11 : Req := rqs (cs 2 5 1) (z 64)
def q15 : Req := rqs (cs 2 5 1) [3] .poisoned
def s4 : State := live [] fun d => { d with index := [(0x21 * 2 ^ 24 + dispIndex d.activeBank 2 3, toLE (512+5) 2)] }
def s5 : State := live [] fun d => { d with rules := { d.rules with copying := true }}
def s6 : State := live [] fun d => { d with rules := { d.rules with held := some ⟨3, false, false⟩ }}

/-- Meets hypotheses of Obligations.TableReading (TableReads). -/
theorem witness_TableReads :
    s2.m.ready 36 q5 ∧ dmaReadCheck q5 (s2.m.taken 36 q5) = none ∧ s2.m.ready 38 q5 ∧
    shadowBindCheck q5 (s2.m.taken 38 q5) = none ∧ (live [] id).m.ready 34 (rq (lk 64)) ∧
    tableLookupCheck (rq (lk 64)) (live [] id).m = none ∧
    (Option.any (fun x => decide ((isRoute x.id = true → recLen x.id (sliceZ (rq (lk 64)).params 16 (recSize x.id)) ≠ 0) ∧ (((live
      [] id).m.taken 34 (rq (lk 64))).dev.hashRead (live [] id).m.clk (bit (leAt (rq (lk 64)).params 2 1) 0) x (recKey x.id (sliceZ
      (rq (lk 64)).params 16 (recSize x.id))) ReadErr.clean ReadErr.clean).snd.fst = none)) (hspec? (leAt (rq (lk 64)).params 0 2))
      = true) ∧
    s1.m.ready 34 (rq (lk 64)) ∧ tableLookupCheck (rq (lk 64)) s1.m = none ∧
    (Option.any (fun x => decide ((isRoute x.id = true → recLen x.id (sliceZ (rq (lk 64)).params 16 (recSize x.id)) ≠ 0) ∧
      ((s1.m.taken 34 (rq (lk 64))).dev.hashRead s1.m.clk (bit (leAt (rq (lk 64)).params 2 1) 0) x (recKey x.id (sliceZ (rq (lk
      64)).params 16 (recSize x.id))) ReadErr.clean ReadErr.clean).snd.fst.isSome = true ∧ recSize x.id ≤ leAt (rq (lk 64)).params
      12 4)) (hspec? (leAt (rq (lk 64)).params 0 2)) = true) := by
  delta Mach.ready; and_intros <;> decide +kernel

/-- Meets hypotheses of Obligations.TableReading (TableDmaWriteOne). -/
theorem witness_TableDmaWriteOne :
    (live [] id).m.ready 37 q7 ∧ dmaWriteCheck q7 ((live [] id).m.taken 37 q7) = none ∧ leAt q7.params 0 2 ≠ 20 ∧
    leAt q7.params 8 4 = 1 ∧ recSize (leAt q7.params 0 2) ≤ leAt q7.params 24 4 ∧
    (((live [] id).m.taken 37 q7).bulk q7 (leAt q7.params 12 1) (leAt q7.params 16 8) (recSize (leAt q7.params 0 2))).ended =
      ReadEnd.whole ∧
    (live [] id).m.ready 37 q8 ∧ dmaWriteCheck q8 ((live [] id).m.taken 37 q8) = none ∧ leAt q8.params 0 2 ≠ 20 ∧
    leAt q8.params 8 4 = 1 ∧ recSize (leAt q8.params 0 2) ≤ leAt q8.params 24 4 ∧
    (((live [] id).m.taken 37 q8).bulk q8 (leAt q8.params 12 1) (leAt q8.params 16 8) (recSize (leAt q8.params 0 2))).ended =
      ReadEnd.poisoned ∧
    List.length (((live [] id).m.taken 37 q8).bulk q8 (leAt q8.params 12 1) (leAt q8.params 16 8) (recSize (leAt q8.params 0
      2))).bytes < recSize (leAt q8.params 0 2) ∧
    (live [] id).m.ready 37 q9 ∧ dmaWriteCheck q9 ((live [] id).m.taken 37 q9) = none ∧ leAt q9.params 0 2 ≠ 20 ∧
    leAt q9.params 8 4 = 1 ∧ recSize (leAt q9.params 0 2) ≤ leAt q9.params 24 4 ∧
    (((live [] id).m.taken 37 q9).bulk q9 (leAt q9.params 12 1) (leAt q9.params 16 8) (recSize (leAt q9.params 0 2))).ended =
      ReadEnd.timedOut ∧
    List.length (((live [] id).m.taken 37 q9).bulk q9 (leAt q9.params 12 1) (leAt q9.params 16 8) (recSize (leAt q9.params 0
      2))).bytes < recSize (leAt q9.params 0 2) := by
  delta Mach.ready; and_intros <;> decide +kernel

/-- Meets hypotheses of Obligations.RuleCommands. -/
theorem witness_RuleCommands :
    s4.m.ready 48 q11 ∧ cstoreCheck q11 (s4.m.taken 48 q11) = none ∧
    ((s4.m.taken 48 q11).bulk q11 (leAt q11.params 8 1) (leAt q11.params 16 8) (64 * leAt q11.params 4 2)).ended = ReadEnd.whole ∧
    (∀ (i : Nat), i < leAt q11.params 4 2 → wordOk (leNat (sliceZ ((s4.m.taken 48 q11).bulk q11 (leAt q11.params 8 1) (leAt
      q11.params 16 8) (64 * leAt q11.params 4 2)).bytes (i * 64) 64)) = true) ∧
    (∃ j, j < 40 ∧ j < leAt q11.params 4 2 ∧ (s4.m.taken 48 q11).dev.wordLive (leAt q11.params 0 1) (leAt q11.params 2 2 + j) = true
      ∧ ∀ (i : Nat), i < j → (s4.m.taken 48 q11).dev.wordLive (leAt q11.params 0 1) (leAt q11.params 2 2 + i) = false) ∧
    s4.m.ready 49 q11 ∧ dispatchCheck q11 (s4.m.taken 49 q11) = none ∧ (s4.m.taken 49 q11).dev.standbyBusy = false ∧
    ((s4.m.taken 49 q11).bulk q11 (leAt q11.params 8 1) (leAt q11.params 16 8) (2 * leAt q11.params 4 2)).ended = ReadEnd.whole ∧
    s5.m.ready 48 q11 ∧ cstoreCheck q11 (s5.m.taken 48 q11) = none ∧
    ((s5.m.taken 48 q11).bulk q11 (leAt q11.params 8 1) (leAt q11.params 16 8) (64 * leAt q11.params 4 2)).ended = ReadEnd.whole ∧
    (∀ (i : Nat), i < leAt q11.params 4 2 → wordOk (leNat (sliceZ ((s5.m.taken 48 q11).bulk q11 (leAt q11.params 8 1) (leAt
      q11.params 16 8) (64 * leAt q11.params 4 2)).bytes (i * 64) 64)) = true) ∧
    (∀ (i : Nat), i < leAt q11.params 4 2 → (s5.m.taken 48 q11).dev.wordLive (leAt q11.params 0 1) (leAt q11.params 2 2 + i) = false) ∧
    s5.m.ready 49 q11 ∧ dispatchCheck q11 (s5.m.taken 49 q11) = none ∧ (s5.m.taken 49 q11).dev.standbyBusy = true ∧
    (live [] id).m.ready 48 q15 ∧ cstoreCheck q15 ((live [] id).m.taken 48 q15) = none ∧
    (((live [] id).m.taken 48 q15).bulk q15 (leAt q15.params 8 1) (leAt q15.params 16 8) (64 * leAt q15.params 4 2)).ended ≠
      ReadEnd.whole ∧
    s6.m.ready 50 (rq [3, 1]) ∧ rulesetSwapCheck (rq [3, 1]) s6.m = none ∧ (s6.m.taken 50 (rq [3, 1])).dev.rules.held ≠ none ∧
    (live [] id).m.ready 50 (rq [3, 1]) ∧ rulesetSwapCheck (rq [3, 1]) (live [] id).m = none ∧
    ((live [] id).m.taken 50 (rq [3, 1])).dev.rules.held = none := by
  delta Mach.ready; and_intros <;> decide +kernel

end Sys2Proof.Tests.TableReading

namespace Sys2Proof.Tests.Configuring

set_option Elab.async false

def rqs (p : Bytes) (src : Bytes) (e : ReadEnd := .whole) : Req := { rq p with src := ⟨src, e⟩ }
def z (n : Nat) : Bytes := List.replicate n 0
def cs (stage : Byte) (first n : Nat) : Bytes := [stage, 0] ++ toLE first 2 ++ toLE n 2 ++ z 2 ++ z 8 ++ toLE 4096 8
def lit (l : List (Fld × Nat)) : State := live ([(F.PORT_CFG_PORT_TYPE 3, 2), (F.PORT_STATUS_STATE 3, 2)] ++ l) fun d =>
    { d with lanes := [(3, ⟨true, [0, -8, 56, 0]⟩)] }
def gl (flags : Byte) (len : Nat) (sec ns cyc ext : Nat) : Bytes := [0, flags] ++ toLE 3 2 ++ toLE 0 2 ++ toLE 1 2 ++
    toLE len 2 ++ toLE sec 6 ++ toLE ns 4 ++ toLE cyc 4 ++ toLE ext 4 ++ z 4 ++ (toLE 1000 4 ++ [3,0,0,0])
def sh (kind : Byte) (id : Nat) : Bytes := [kind, 1] ++ toLE id 2 ++ [200, 0,0,0] ++ toLE 77 4 ++ toLE 99 4
def ps : Bytes := [0, 0, 0, 0] ++ toLE 5 4 ++ toLE 10 6 ++ toLE 100 3 ++ toLE 200 3 ++ [0, 0, 0, 0]
def ta (f : Byte) (st inc fr : Nat) : Bytes := [f] ++ z 7 ++ toLE st 8 ++ toLE inc 4 ++ toLE fr 4
def te (i : Nat) : TsqEntry := ⟨i, 2, false, 3, 4⟩
def q1 : Req := rqs (cs 2 5 1) (64 :: z 63)
def q5 : Req := rq (toLE 3 2 ++ [0, 0, 0, 0])
def q6 : Req := rq (toLE 3 2 ++ toLE 1 2)
def s1 : State := live [(F.PORT_CFG_PORT_TYPE 3, 2), (F.PORT_STATUS_STATE 3, stDark)] id
def q7 : Req := rq (toLE 3 2 ++ [0, 0, 0, 0, 0, 0])
def q11 : Req := rq (gl 1 1 0 0 1000 500)
def q16 : Req := rq (sh 0 24)
def q17 : Req := rq ([1, 0, 0, 0] ++ toLE 5 4 ++ toLE 10 2)
def q18 : Req := rq (toLE 5 6 ++ toLE 99 4)
def s3 : State := cl (live [] id) 1 2 3
def q19 : Req := rq (ta 1 5 0 0)
def q23 : Req := rq ([3, byte 3] ++ z 6 ++ toLE 4096 8 ++ toLE 64 4)
def s4 : State := live [] fun d => { d with timeU := { d.timeU with tsq := [(3, (List.range 5).map te), (4, [te 9])] }}

/-- Meets hypotheses of Obligations.RuleCommands. -/
theorem witness_RuleCommands :
    (live [] id).m.ready 48 q1 ∧ cstoreCheck q1 ((live [] id).m.taken 48 q1) = none ∧
    (((live [] id).m.taken 48 q1).bulk q1 (leAt q1.params 8 1) (leAt q1.params 16 8) (64 * leAt q1.params 4 2)).ended = ReadEnd.whole ∧
    (∃ j, j < 40 ∧ j < leAt q1.params 4 2 ∧ wordOk (leNat (sliceZ (((live [] id).m.taken 48 q1).bulk q1 (leAt q1.params 8 1) (leAt
      q1.params 16 8) (64 * leAt q1.params 4 2)).bytes (j * 64) 64)) = false ∧ ∀ (i : Nat), i < j → wordOk (leNat (sliceZ (((live []
      id).m.taken 48 q1).bulk q1 (leAt q1.params 8 1) (leAt q1.params 16 8) (64 * leAt q1.params 4 2)).bytes (i * 64) 64)) = true) := by
  delta Mach.ready; and_intros <;> decide +kernel

/-- Meets hypotheses of Obligations.PortCommands. -/
theorem witness_PortCommands :
    s1.m.ready 80 q6 ∧ portConfigCheck q6 (s1.m.taken 80 q6) = none ∧ leAt q6.params 2 1 ≠ 0 ∧ s1.m.ready 82 q6 ∧
    lanesCheck q6 (s1.m.taken 82 q6) = none ∧
    (∀ (n : Nat), n ∈ (s1.m.taken 82 q6).dev.namedPorts q6 → (s1.m.taken 82 q6).dev.get (F.PORT_STATUS_STATE n) ≠ stLighting ∧
      (s1.m.taken 82 q6).dev.get (F.PORT_STATUS_STATE n) ≠ stRest) ∧
    (∀ (n : Nat), n ∈ namedLanes q6 → (s1.m.taken 82 q6).dev.laneLit n = false) ∧ s1.m.ready 83 q6 ∧
    lanesCheck q6 (s1.m.taken 83 q6) = none ∧
    (∃ n, n < 40 ∧ (s1.m.taken 83 q6).dev.namedPorts q6 = [n] ∧ (∀ (x : Nat), x ∈ namedLanes q6 → (s1.m.taken 83 q6).dev.portOf x =
      some n) ∧ (s1.m.taken 83 q6).dev.get (F.PORT_STATUS_STATE n) = stDark ∧ ∀ (x : Nat), x ∈ (s1.m.taken 83 q6).dev.lanesOf n → ¬x
      ∈ (s1.m.taken 83 q6).dev.chan.darken) ∧
    (live [] id).m.ready 80 q5 ∧ portConfigCheck q5 ((live [] id).m.taken 80 q5) = none ∧ leAt q5.params 2 1 = 0 ∧
    ((live [] id).m.taken 80 q5).dev.get (F.PORT_CFG_PORT_TYPE (leAt q5.params 0 2)) = 0 ∧ (live [] id).m.ready 84 q5 ∧
    serdesCheck q5 (live [] id).m.dev = none ∧ leAt q5.params 0 2 < 512 ∧
    ((live [] id).m.taken 84 q5).dev.laneLit (leAt q5.params 0 2) = false ∧ (lit []).m.ready 82 q6 ∧
    lanesCheck q6 ((lit []).m.taken 82 q6) = none ∧
    (∀ (n : Nat), n ∈ ((lit []).m.taken 82 q6).dev.namedPorts q6 → ((lit []).m.taken 82 q6).dev.get (F.PORT_STATUS_STATE n) ≠
      stLighting ∧ ((lit []).m.taken 82 q6).dev.get (F.PORT_STATUS_STATE n) ≠ stRest) ∧
    (∃ n, n ∈ namedLanes q6 ∧ ((lit []).m.taken 82 q6).dev.laneLit n = true) ∧ (lit []).m.ready 84 q7 ∧
    serdesCheck q7 (lit []).m.dev = none ∧ leAt q7.params 0 2 < 512 ∧
    ((lit []).m.taken 84 q7).dev.laneLit (leAt q7.params 0 2) = true ∧
    (∀ (n : Nat), ((lit []).m.taken 84 q7).dev.portOf (leAt q7.params 0 2) = some n → ((lit []).m.taken 84 q7).dev.get
      (F.PORT_STATUS_STATE n) ≠ stLighting) := by
  delta Mach.ready; and_intros <;> decide +kernel

/-- Meets hypotheses of Obligations.ScheduleCommands. -/
theorem witness_ScheduleCommands :
    (lit []).m.ready 96 q17 ∧ gateLoadCheck q17 ((lit []).m.taken 96 q17) = none ∧ bit (leAt q17.params 1 1) 0 = false ∧
    (lit []).m.ready 98 q17 ∧ policerSetCheck q17 (lit []).m = none ∧ leAt q17.params 0 1 = 1 ∧ (lit []).m.ready 96 q11 ∧
    gateLoadCheck q11 ((lit []).m.taken 96 q11) = none ∧ bit (leAt q11.params 1 1) 0 = true ∧ (lit []).m.ready 97 q16 ∧
    shaperSetCheck q16 ((lit []).m.taken 97 q16).dev = none ∧ (lit []).m.ready 98 (rq ps) ∧
    policerSetCheck (rq ps) (lit []).m = none ∧ leAt (rq ps).params 0 1 = 0 := by
  delta Mach.ready; and_intros <;> decide +kernel

/-- Meets hypotheses of Obligations.TimeCommands. -/
theorem witness_TimeCommands :
    s3.m.ready 112 q18 ∧ timeSetCheck q18 s3.m = none ∧ s3.m.dev.isHeld 38 = false ∧ s3.m.ready 113 q19 ∧
    timeAdjustCheck q19 s3.m = none ∧ s4.m.ready 114 q23 ∧ tsqReadCheck q23 s4.m.dev = none := by
  delta Mach.ready; and_intros <;> decide +kernel

end Sys2Proof.Tests.Configuring

namespace Sys2Proof.Tests.Wicking

set_option Elab.async false

def z (n : Nat) : Bytes := List.replicate n 0
def rqs (p : Bytes) (src : Bytes) (e : ReadEnd := .whole) : Req := { rq p with src := ⟨src, e⟩ }
def wk (l : List (Fld × Nat)) (f : Dev → Dev) : State := live l f
def er (n : Nat) : EnergyRec := ⟨n,1,2,3,4,5,6,7,8,9,10,11,12,13,(-4),15,16,17,18,19,20⟩
def fu (op : Byte) (off len : Nat) : Bytes := [op] ++ z 3 ++ toLE off 4 ++ toLE len 4 ++ [0] ++ z 3 ++ toLE 4096 8 ++ z 4
def qd : List (Fld × Nat) := [(F.PORT_CFG_PORT_TYPE 3, 2), (F.PORT_STATUS_STATE 3, 2), (F.POOL_SIZE 0, 1000), (F.POOL_T1 0, 900),
    (F.POOL_T2 0, 950), (F.POOL_T3 0, 990), (F.QPROF_Q_RESERVE 0, 100)]
def fs (len : Nat) : Bytes := toLE 24 2 ++ [0, 0, 0, 0] ++ toLE len 2 ++ z 24 ++ [0] ++ z 7 ++ toLE 4096 8
def cp : Copy := ⟨7, 0, 0, [], [], 0, 1, 0, .forward none, false, false, false, none, .keep, [], none, false⟩
def fr : Frame := { Frame.new 3 0 0 9000 0 with bytes := List.replicate 60 5, cells := [0], ended := some .good, decided := true, later := 1, headed := true }
def frv (m : Byte) (len : Nat) : Bytes := [1, m] ++ z 6 ++ toLE 4096 8 ++ toLE len 4
def s1 : State := wk [(F.WICK_ROLE_STATE_A 3, 1), (F.WICK_ROLE_STATE_B 3, 2)] id
def s2 : State := wk [(F.WICK_ROLE_STATE_A 3, 1), (F.WICK_ROLE_STATE_B 3, 4)] id
def s3 : State := wk [(F.WICK_ROLE_STATE_A 3, 1), (F.WICK_ROLE_STATE_B 3, 0)] id
def s4 : State := wk [(F.WICK_ROLE_STATE_A 3, 1), (F.WICK_ROLE_STATE_B 3, 0)] fun d => d.setLantern 3
    { d.lantern 3 with task := .trim none none }
def q1 : Req := rq ([3] ++ z 7 ++ toLE 4096 8 ++ toLE 64 4)
def q4 : Req := rq (toLE 3 8 ++ toLE 2 2 ++ z 6 ++ toLE 4096 8 ++ toLE 640 4)
def s5 : State := wk [] fun d => { d with chan := { d.chan with records := [er 5, er 4, er 3]}}
def q5 : Req := rqs (fu 0 64 5) [1,2,3,4,5]
def q6 : Req := rqs (fu 0 64 5) [1,2] .timedOut
def q7 : Req := rqs (fu 2 64 5) [1,2]
def q8 : Req := rq (toLE 5 4 ++ toLE 0xC4A1D1E5 4)
def q9 : Req := rq (toLE 5 4 ++ toLE 0xC4A1D1E4 4)
def q10 : Req := rqs (fs 60) (List.replicate 60 7)
def q11 : Req := rqs (fs 60) (List.replicate 50 7) .poisoned
def q12 : Req := rq (frv 255 640)
def s7 : State := wk qd fun d =>
    { ({ d with frames := [(7, fr)] } : Dev).setQueue 4105 [cp] with bm := { (({ d with frames := [(7, fr)] } : Dev).setQueue 4105 [cp]).bm with cells := [(0, ⟨List.replicate 60 5, crc32c (List.replicate 60 5), 1, 0, false⟩)], bank := 1 } }

/-- Meets hypotheses of Obligations.WickAndEnergyCommands. -/
theorem witness_WickAndEnergyCommands :
    s1.m.ready 128 (rq [3]) ∧ List.length (rq [3]).params ≤ 1 ∧ leAt (rq [3]).params 0 1 < 32 ∧
    (s1.m.taken 128 (rq [3])).dev.trimFree (leAt (rq [3]).params 0 1) = true ∧ s1.m.ready 144 (rq [3]) ∧
    energyBudgetCheck (rq [3]) s1.m.dev = none ∧ s1.m.ready 160 (rq [3]) ∧
    hbmSegmentsCheck (rq [3]) (s1.m.taken 160 (rq [3])) = none ∧ s2.m.ready 128 (rq [3]) ∧
    (s2.m.taken 128 (rq [3])).dev.trimFree (leAt (rq [3]).params 0 1) = false ∧ s3.m.ready 129 (rq [3, 1]) ∧
    wickRelightCheck (rq [3, 1]) (s3.m.taken 129 (rq [3, 1])) = none ∧
    ((s3.m.taken 129 (rq [3, 1])).dev.lantern (leAt (rq [3, 1]).params 0 1)).task = WickTask.none ∧
    ((s3.m.taken 129 (rq [3, 1])).dev.lantern (leAt (rq [3, 1]).params 0 1)).overlap = none ∧ s4.m.ready 129 (rq [3, 1]) ∧
    wickRelightCheck (rq [3, 1]) (s4.m.taken 129 (rq [3, 1])) = none ∧
    (((s4.m.taken 129 (rq [3, 1])).dev.lantern (leAt (rq [3, 1]).params 0 1)).task ≠ WickTask.none ∨ ((s4.m.taken 129 (rq [3,
      1])).dev.lantern (leAt (rq [3, 1]).params 0 1)).overlap ≠ none) ∧
    (wk [] id).m.ready 130 q1 ∧ wickStatusCheck q1 (wk [] id).m.dev = none ∧ 64 ≤ leAt q1.params 16 4 ∧ s5.m.ready 145 q4 ∧
    energyReportCheck q4 s5.m.dev = none := by
  delta Mach.ready; and_intros <;> decide +kernel

/-- Meets hypotheses of Obligations.SystemCommands. -/
theorem witness_SystemCommands :
    (wk [] id).m.ready 240 q5 ∧ fwUpdateCheck q5 ((wk [] id).m.taken 240 q5) = none ∧ leAt q5.params 0 1 = 0 ∧
    (((wk [] id).m.taken 240 q5).bulk q5 (leAt q5.params 12 1) (leAt q5.params 16 8) (leAt q5.params 8 4)).ended = ReadEnd.whole ∧
    (wk [] id).m.ready 240 q6 ∧ fwUpdateCheck q6 ((wk [] id).m.taken 240 q6) = none ∧ leAt q6.params 0 1 = 0 ∧
    (((wk [] id).m.taken 240 q6).bulk q6 (leAt q6.params 12 1) (leAt q6.params 16 8) (leAt q6.params 8 4)).ended ≠ ReadEnd.whole ∧
    (wk [] id).m.ready 240 q7 ∧ fwUpdateCheck q7 ((wk [] id).m.taken 240 q7) = none ∧ leAt q7.params 0 1 = 2 ∧
    ((wk [] id).m.taken 240 q7).dev.boot.verified = false ∧ (wk [] id).m.ready 241 q8 ∧ List.length q8.params ≤ 8 ∧
    leAt q8.params 1 3 = 0 ∧ domainBad (leAt q8.params 0 1) = false ∧ leAt q8.params 4 4 = 3298939365 ∧ (wk [] id).m.ready 241 q9 ∧
    List.length q9.params ≤ 8 ∧ leAt q9.params 1 3 = 0 ∧ domainBad (leAt q9.params 0 1) = false ∧ leAt q9.params 4 4 ≠ 3298939365 ∧
    (wk qd id).m.ready 208 q11 ∧ frameSendCheck q11 ((wk qd id).m.taken 208 q11) = none ∧
    (((wk qd id).m.taken 208 q11).bulk q11 (leAt q11.params 32 1) (leAt q11.params 40 8) (leAt q11.params 6 2)).ended ≠ ReadEnd.whole ∧
    (wk qd id).m.ready 208 q10 ∧ frameSendCheck q10 ((wk qd id).m.taken 208 q10) = none ∧
    (((wk qd id).m.taken 208 q10).bulk q10 (leAt q10.params 32 1) (leAt q10.params 40 8) (leAt q10.params 6 2)).ended = ReadEnd.whole ∧
    (((wk qd id).m.taken 208 q10).dev.injectAsk (wk qd id).m.clk 513 false (sliceZ q10.params 0 32) (((wk qd id).m.taken 208
      q10).bulk q10 (leAt q10.params 32 1) (leAt q10.params 40 8) (leAt q10.params 6 2)).bytes).fst = Ask.granted ∧
    (Option.any (fun x => decide (x = Admit.accepted)) (((wk qd id).m.taken 208 q10).dev.injectAsk (wk qd id).m.clk 513 false
      (sliceZ q10.params 0 32) (((wk qd id).m.taken 208 q10).bulk q10 (leAt q10.params 32 1) (leAt q10.params 40 8) (leAt q10.params
      6 2)).bytes).snd.fst = true) ∧
    (wk qd id).m.ready 209 q12 ∧ laidOut 20 [(0, 2), (8, 12)] q12.params ∧ leAt q12.params 0 1 = 1 ∧ leAt q12.params 8 8 % 64 = 0 ∧
    ((wk qd id).m.taken 209 q12).dev.recvQueue (leAt q12.params 1 1) = none ∧ s7.m.ready 209 q12 ∧
    (Option.any (fun x => decide (Option.any (fun x_1 => decide (List.length ((s7.m.taken 209 q12).dev.recvRecord x.snd x_1) ≤ leAt
      q12.params 16 4)) ((s7.m.taken 209 q12).dev.frame? x.snd.fid) = true)) ((s7.m.taken 209 q12).dev.recvQueue (leAt q12.params 1
      1)) = true) := by
  delta Mach.ready laidOut; and_intros <;> decide +kernel

end Sys2Proof.Tests.Wicking

namespace Sys2Proof.Tests.RingSide

set_option Elab.async false

def rg (l : List (Fld × Nat)) (f : Smi → Smi) : State := live ([(F.SQ_SIZE_LOG2 3, 6), (F.SQ_CQ 3, 3), (F.CQ_SIZE_LOG2 3, 6),
    (F.SQ_EN 3, 1), (F.CQ_EN 3, 1), (F.CQ_VECTOR 3, 5), (F.CXL_MODE, 5)] ++ l) fun d => { d with smi := f d.smi }
def pkt (op : Nat) (rr : Byte) (params : Bytes) (flip : Nat) : Bytes :=
  let h := toLE op 2 ++ [0, rr] ++ toLE 77 2 ++ toLE params.length 2 ++ toLE 0 4 ++ List.replicate 16 0
  h ++ toLE (crc32c (h ++ params) + flip) 4 ++ params
def cx (l : List (Fld × Nat)) (f : Dev → Dev) : State := live l fun d => f { d with boot := { d.boot with perstN := true } }
def v1 : Word := 0x10B0205
def s1 : State := rg [] fun s => s
def v2 : Word := 5
def s2 : State := rg [] fun s => { s with written := [(3, 9), (4, 2)], coal := [(3, ⟨4, true⟩), (2, ⟨1, false⟩)] }
def s5 : State := rg [(F.CXL_IDE_REQUIRED, 1)] fun s => { s with written := [(3, 9), (4, 2)] }
def s6 : State := rg [(F.SQ_STOPPED 4, 1), (F.SQ_ERR 4, 2)] fun s =>
    { s with written := [(3, 9), (4, 2)], coal := [(4, ⟨2, true⟩)] }
def r1 : HostRead := ⟨pkt 1 3 [] 0, .whole⟩
def s7 : State := rg [(F.SQ_TAIL 3, 4)] id
def r3 : HostRead := ⟨pkt 1 3 [] 1, .whole⟩
def r4 : HostRead := ⟨pkt 0x99 3 [] 0, .whole⟩
def r5 : HostRead := ⟨pkt 1 3 [] 0, .poisoned⟩
def s8 : State := cx [(F.CXL_MODE, 3), (F.SQ_EN 4, 1), (F.CXL_IDE_IO_SECURE, 1), (F.CXL_HDM_COMMITTED, 1), (F.SQ_TAIL 4,
    7)] fun d => { d with msix := [(3, ⟨5,6⟩)], cxl := { d.cxl with poison := [3] }}

/-- Meets hypotheses of Obligations.RingsAndPackets (RingRegisters). -/
theorem witness_RingRegisters :
    s2.m.dev.boot.porN = true ∧ s2.m.dev.flag F.BT_FAILED = false ∧ s2.m.dev.ideRefuses F.CXL_IDE_IO_SECURE = false ∧
    BitVec.toNat v2 % 2 ^ 16 < s2.m.dev.sqSize 3 ∧ BitVec.toNat v2 % 2 ^ 16 < s2.m.dev.cqSize 3 ∧
    (let ahead := (BitVec.toNat v2 % 2 ^ 16 + s2.m.dev.cqSize 3 - s2.m.dev.get (F.CQ_HEAD_SEEN 3) % s2.m.dev.cqSize 3) %
        s2.m.dev.cqSize 3;
      (if ahead = 0 ∧ s2.m.dev.unconsumed 3 = s2.m.dev.cqSize 3 then s2.m.dev.cqSize 3 else ahead) ≤ s2.m.dev.unconsumed 3) ∧
    (tgetD s2.m.dev.smi.coal 3 (Coal.mk 0 false)).timer = true ∧
    (bit (BitVec.toNat v2) 0 = false ∨ s2.m.dev.flag (F.CQ_EN 3) = true) ∧ s1.m.dev.boot.porN = true ∧
    s1.m.dev.flag F.BT_FAILED = false ∧ s1.m.dev.ideRefuses F.CXL_IDE_IO_SECURE = false ∧
    s1.m.dev.sqSize 3 ≤ BitVec.toNat v1 % 2 ^ 16 ∧
    (let ahead := (BitVec.toNat v1 % 2 ^ 16 + s1.m.dev.cqSize 3 - s1.m.dev.get (F.CQ_HEAD_SEEN 3) % s1.m.dev.cqSize 3) %
        s1.m.dev.cqSize 3;
      s1.m.dev.cqSize 3 ≤ BitVec.toNat v1 % 2 ^ 16 ∨ s1.m.dev.unconsumed 3 <
        (if ahead = 0 ∧ s1.m.dev.unconsumed 3 = s1.m.dev.cqSize 3 then s1.m.dev.cqSize 3 else ahead)) ∧
    (tgetD s1.m.dev.smi.coal 3 (Coal.mk 0 false)).timer = false ∧ s5.m.dev.boot.porN = true ∧ s5.m.dev.flag F.BT_FAILED = false ∧
    s5.m.dev.ideRefuses F.CXL_IDE_IO_SECURE = true ∧ s6.m.dev.boot.porN = true ∧ s6.m.dev.flag F.BT_FAILED = false ∧
    bit (BitVec.toNat v1) 0 = true ∧ s6.m.dev.flag (F.CQ_EN 4) = false := by
  and_intros <;> decide +kernel

/-- Meets hypotheses of Obligations.RingsAndPackets (PacketFetching). -/
theorem witness_PacketFetching :
    s7.m.dev.boot.porN = true ∧ s7.m.dev.fetchTurn 3 = true ∧ r1.ended = ReadEnd.whole ∧ packetLen r1.bytes ≤ 4064 ∧
    packetCrc r1.bytes = leAt r1.bytes 28 4 ∧
    (isHw (leAt r1.bytes 0 2) (packetReq 3 r1.bytes).params = true ∨ s7.m.dev.smi.fwInFlight < 64) ∧ leAt r1.bytes 3 1 = 3 ∧
    leAt r1.bytes 2 1 < 8 ∧ (∀ (i : Nat), i < 16 → byteAt r1.bytes (12 + i) = 0) ∧ leAt r1.bytes 0 2 ∈ opcodes ∧
    r3.ended = ReadEnd.whole ∧ (4064 < packetLen r3.bytes ∨ packetCrc r3.bytes ≠ leAt r3.bytes 28 4) ∧ r4.ended = ReadEnd.whole ∧
    packetLen r4.bytes ≤ 4064 ∧ packetCrc r4.bytes = leAt r4.bytes 28 4 ∧
    (isHw (leAt r4.bytes 0 2) (packetReq 3 r4.bytes).params = true ∨ s7.m.dev.smi.fwInFlight < 64) ∧ leAt r4.bytes 3 1 = 3 ∧
    leAt r4.bytes 2 1 < 8 ∧ (∀ (i : Nat), i < 16 → byteAt r4.bytes (12 + i) = 0) ∧ (¬leAt r4.bytes 0 2 ∈ opcodes) ∧
    r5.ended ≠ ReadEnd.whole := by
  and_intros <;> decide +kernel

/-- Meets hypotheses of Obligations.LinkStates (LinkTrains). -/
theorem witness_LinkTrains :
    (cx [] id).m.dev.boot.porN = true ∧ (cx [] id).m.dev.boot.perstN = true ∧ (cx [] id).m.dev.get F.CXL_MODE = 0 ∧
    (cx [] id).m.dev.isHeld 39 = false ∧ 16 ∈ [1, 2, 4, 8, 16] ∧
    (∃ mode, mode < 40 ∧ ((mode = 5 ∧ ∀ (n : Nat), n < 4 → bit 15 n = false ∨ bit ((cx [] id).m.dev.get F.CXL_MODE_MASK) n = true) ∨
      ∃ n, n < 4 ∧ mode = n + 1 ∧ bit 15 n = true ∧ bit ((cx [] id).m.dev.get F.CXL_MODE_MASK) n = false ∧ ∀ (j : Nat), j < n → bit
      15 j = false ∨ bit ((cx [] id).m.dev.get F.CXL_MODE_MASK) j = true) ∧ 3 ≤ 6 ∧ (6 ≤ if mode ≤ 2 then 6 else if mode ≤ 4 then 5
      else 6) ∧ (if mode ≤ 2 then 6 else if mode ≤ 4 then 5 else 6) ≤ 6) := by
  and_intros <;> decide +kernel

/-- Meets hypotheses of Obligations.LinkStates (LinkResets). -/
theorem witness_LinkResets :
    s8.m.dev.boot.porN = true ∧ s8.m.dev.get F.CXL_MODE ≠ 0 := by
  and_intros <;> decide +kernel

end Sys2Proof.Tests.RingSide

namespace Sys2Proof.Tests.HostSide

set_option Elab.async false

def cx (l : List (Fld × Nat)) (f : Dev → Dev) : State := live l fun d => f { d with boot := { d.boot with perstN := true } }
def w (l : List (Fld × Nat)) (c : Cxl → Cxl) (dr : List Host.Cell): State :=
  let s := cx ([(F.CXL_MODE, 2), (F.HBM_ALLOC_DONE, 1), (F.CXL_HDM_COMMITTED, 1), (F.HBM_WINDOW_GIB, 1)] ++ l) fun d =>
    { d with cxl := c { d.cxl with base := 2 ^ 28, size := 2^30 } }
  { s with m := { s.m with dram := dr } }
def up : List (Fld × Nat) := [(F.HBM_STACK_UP, 15)]
def ln : Bytes := (List.range 64).map byte
def s2 : State := w up (fun c => { c with poison := [2, 5] }) []
def s4 : State := w ([(F.HBM_ALLOC_DONE, 0)]) (fun c => { c with poison := [] }) []
def s6 : State := cx [(F.CXL_MODE, 3), (F.CXL_IDE_MEM_SECURE, 1)] fun d => { d with msixPend := [2, 3] }
def s7 : State := cx [(F.CXL_MODE, 3), (F.CXL_IDE_MEM_SECURE, 1)] fun d => { d with msixPend := [2] }

/-- Meets hypotheses of Obligations.WindowAndInterrupts (WindowRequests). -/
theorem witness_WindowRequests :
    s2.m.dev.boot.porN = true ∧ s2.m.dev.inCxl = true ∧ s2.m.dev.isHeld 39 = false ∧
    s2.m.dev.ideRefuses F.CXL_IDE_MEM_SECURE = false ∧ s2.m.dev.decode (2 ^ 28 + 128) = some 128 ∧ s2.m.dev.memoryActive = true ∧
    128 % 64 = 0 ∧ List.length ln = 64 ∧ (s2.m.dev.flag F.CXL_HDM_COMMITTED = false ∨ s2.m.dev.cxl.lock = false) ∧
    s2.m.dev.flag F.HBM_ALLOC_DONE = true ∧ 2 ^ 30 = s2.m.dev.windowSize ∧ s4.m.dev.boot.porN = true ∧ s4.m.dev.inCxl = true ∧
    s4.m.dev.isHeld 39 = false ∧ s4.m.dev.ideRefuses F.CXL_IDE_MEM_SECURE = false ∧ s4.m.dev.decode (2 ^ 28 + 128) = some 128 ∧
    s4.m.dev.memoryActive = false ∧ (s4.m.dev.flag F.CXL_HDM_COMMITTED = false ∨ s4.m.dev.cxl.lock = false) ∧
    (s4.m.dev.flag F.HBM_ALLOC_DONE = false ∨ 2 ^ 30 ≠ s4.m.dev.windowSize) := by
  and_intros <;> decide +kernel

/-- Meets hypotheses of Obligations.WindowAndInterrupts (IdeAndMsix). -/
theorem witness_IdeAndMsix :
    s6.m.dev.boot.porN = true ∧ 1 ≤ s6.m.dev.get F.CXL_MODE ∧ s6.m.dev.get F.CXL_MODE ≤ 3 ∧ s6.m.dev.isHeld 39 = false ∧
    s6.m.dev.flag (if true = true then F.CXL_IDE_MEM_SECURE else F.CXL_IDE_IO_SECURE) = true ∧ 3 ∈ s6.m.dev.msixPend ∧ 4096 ≠ 0 ∧
    s7.m.dev.boot.porN = true ∧ (¬3 ∈ s7.m.dev.msixPend) := by
  and_intros <;> decide +kernel

end Sys2Proof.Tests.HostSide

namespace Sys2Proof.Tests.Booting

set_option Elab.async false

def bs (l : List (Fld × Nat)) (f : Dev → Dev) : State := st (f (dev ([(F.GL_FP_EN, 0)] ++ l)))
def off (d : Dev) : Dev := { d with boot := { d.boot with porN := false } }
def stp (n : Nat) (d : Dev) : Dev := { d with boot := { d.boot with step := n } }
def z (n : Nat) : Bytes := List.replicate n 0
def img (n : Nat) (serial : Nat) (bad : Nat) : Bytes :=
  let body := (List.range n).map byte
  toLE 0x5A485643 4 ++ toLE serial 4 ++ toLE n 4 ++ z 4 ++ toLE 64 4 ++ toLE 16 4 ++ toLE 80 4 ++ toLE 8 4 ++ toLE
    (crc32c body + bad) 4 ++ z 28 ++ body ++ z 104
def ps (pw pg : Bool) (s : Nat) (d : Dev) : Dev := { d with boot := { d.boot with step := s, pushWait := pw, pushGo := pg } }
def fl (i : Image) (d : Dev) : Dev := { d with boot := { d.boot with image := some i } }
def s1 : State := bs [(F.BT_OEM_FUSE_LO, 77), (F.SC_POWERED 5, 1)] off
def r1 : HostRead := ⟨img 40 3 0, .whole⟩
def s2 : State := bs [(F.BT_PUSH_LEN, 208)] (ps true true 3)
def r2 : HostRead := ⟨img 40 3 1, .whole⟩
def s3 : State := bs [] fun d => fl ⟨1, false, 4, [(0x200040, 3), (0x60, 7)], []⟩ (stp 4 d)
def s4 : State := bs [] fun d => fl ⟨1, false, 4, [(0x200040, 3), (0x60, 7)], []⟩ (stp 5 d)
def s5 : State := bs [] fun d => fl ⟨1, false, 4, [(0x200040, 3), (0x60, 7)], [1,2,3,4,5,6,7,8]⟩ (stp 7 d)
def s6 : State := bs [] fun d => { (fl ⟨1, false, 4, [(0x200040, 3), (0x60, 7)], []⟩ (stp 7 d)) with rules := ⟨1, none, false⟩ }

/-- Meets hypotheses of Obligations.PowerAndBringUp (PowerOn). -/
theorem witness_PowerOn :
    s1.m.dev.boot.porN = false ∧ true = true ∧ 3 ≤ 17 ∧ 17 ≤ 17 ∧ (∀ (b : Fin 64), b ∈ [5, 63] → 4 ≤ ↑b) ∧
    (bs [] off).m.dev.boot.porN = false ∧ (∃ b, b ∈ [3] ∧ ↑b < 4) ∧ (17 < 3 ∨ 17 < 18) ∧ false = false := by
  and_intros <;> decide +kernel

/-- Meets hypotheses of Obligations.ImageBoots. -/
theorem witness_ImageBoots :
    s2.m.dev.boot.porN = true ∧ s2.m.dev.flag F.BT_FAILED = false ∧ (s2.m.dev.boot.step = 2 ∨ s2.m.dev.boot.step = 3) ∧
    s2.m.dev.boot.pushWait = true ∧ s2.m.dev.boot.pushGo = true ∧ r1.ended = ReadEnd.whole ∧
    imageGood (sliceZ r1.bytes 0 (s2.m.dev.get F.BT_PUSH_LEN)) = true ∧
    (r2.ended ≠ ReadEnd.whole ∨ imageGood (sliceZ r2.bytes 0 (s2.m.dev.get F.BT_PUSH_LEN)) = false) := by
  and_intros <;> decide +kernel

/-- Meets hypotheses of Obligations.PowerAndBringUp (BringUpSteps). -/
theorem witness_BringUpSteps :
    s4.m.dev.boot.porN = true ∧ bit (s4.m.dev.get F.HBM_STACK_UP ||| s4.m.dev.get F.HBM_STACK_DOWN) 2 = false ∧
    s4.m.dev.isHeld 35 = false ∧ 5 ≤ s4.m.dev.boot.step ∧ 5 < 64 ∧ s4.m.dev.boot.step = 5 ∧ s4.m.dev.boot.serdes = false ∧
    s3.m.dev.boot.porN = true ∧ s3.m.dev.boot.image.isSome = true ∧ s3.m.dev.boot.step = 4 ∧ s5.m.dev.boot.porN = true ∧
    (Option.any (fun x => decide (s5.m.dev.boot.step = 7 ∧ x.fwd ≠ [] ∧ s5.m.dev.rules.gen = 0 ∧ s5.m.dev.standbyBusy = false ∧ ∀ (w
      : Wait), w ∈ s5.m.dev.smi.waits → isSwap w.kind = false)) s5.m.dev.boot.image = true) ∧
    s6.m.dev.boot.porN = true ∧ s6.m.dev.boot.step = 7 ∧ s6.m.dev.rules.gen ≠ 0 ∧
    (∀ (l : Fin 32), s6.m.dev.wick (↑l) Wick.a = wkOff ∧ s6.m.dev.wick (↑l) Wick.b = wkOff ∧ (s6.m.dev.lantern ↑l).overlap = none ∧
      (s6.m.dev.lantern ↑l).force = none) := by
  and_intros <;> decide +kernel

end Sys2Proof.Tests.Booting

namespace Sys2Proof.Tests.Periods

set_option Elab.async false

def bs (l : List (Fld × Nat)) (f : Dev → Dev) : State := st (f (dev ([(F.GL_FP_EN, 0)] ++ l)))
def clk (s : State) (sec ns tick : Nat) : State := cl s sec ns tick
def ch (d : Dev) (f : Chan → Chan) : Dev := { d with chan := f d.chan }
def s1 : State := clk (bs [] id) 5 3000000 77
def s3 : State := clk (bs [(F.CHANDLER_CTRL_MODE, 1)] fun d => ch d fun c => { c with lastTick := some 77}) 5 3000000 77
def s4 : State := clk (bs [(F.CHANDLER_STATUS_CALIBRATED, 1)] fun d => ch d fun c =>
    { c with rebuild := true, mode := 1, budget := 300}) 5 3000000 77
def s6 : State := bs [] fun d => ch (d.setPort 3 { Port.idle with waitVolt := true }) fun c =>
    { c with avs := some ⟨760, 750, false⟩ }
def s7 : State := bs [(F.CHANDLER_STATUS_CALIBRATED, 1)] fun d => ch (d.setPort 3 { Port.idle with waitVolt := true }) fun c =>
    { c with avs := some ⟨760, 750, true⟩ }
def s9 : State := bs [] fun d => ch d fun c => { c with cal := some (.observing 16 7) }

/-- Meets hypotheses of Obligations.PeriodsAndSlices (TallyPeriods). -/
theorem witness_TallyPeriods :
    s1.m.dev.boot.porN = true ∧ s1.m.clk.atMs = true ∧ s1.m.dev.chan.lastTick ≠ some s1.m.clk.tick ∧ s1.m.dev.isHeld 37 = false ∧
    s1.m.dev.isHeld 38 = false ∧ s1.m.dev.chan.rebuild = false ∧ s4.m.dev.boot.porN = true ∧ s4.m.dev.chan.rebuild = true ∧
    s4.m.dev.flag F.CHANDLER_STATUS_CALIBRATED = true ∧ s3.m.dev.boot.porN = true ∧ s3.m.dev.chan.lastTick = some s3.m.clk.tick := by
  and_intros <;> decide +kernel

/-- Meets hypotheses of Obligations.AvsAndCalibration. -/
theorem witness_AvsAndCalibration :
    s6.m.dev.boot.porN = true ∧ s6.m.dev.chan.avs.isSome = true ∧
    (Option.any (fun x => decide (x.resent = false)) s6.m.dev.chan.avs = true) ∧ (∃ mode, mode < 40 ∧ True) ∧
    s7.m.dev.boot.porN = true ∧ (Option.any (fun x => decide (x.resent = true)) s7.m.dev.chan.avs = true) ∧
    s9.m.dev.boot.porN = true ∧ s9.m.dev.chan.cal = some (CalPhase.observing 16 7) := by
  and_intros <;> decide +kernel

end Sys2Proof.Tests.Periods

namespace Sys2Proof.Tests.Reads

set_option Elab.async false

def bs (l : List (Fld × Nat)) (f : Dev → Dev) : State := st (f (dev ([(F.GL_FP_EN, 0)] ++ l)))
def ch (d : Dev) (f : Chan → Chan) : Dev := { d with chan := f d.chan }
def s2 : State := bs [(F.PMBUS_SLOT_EN 0, 1)] fun d => ch d fun c => { c with voutMode := 0x17 }
def s3 : State := bs [(F.PMBUS_SLOT_EN 0, 1), (F.CHANDLER_STATUS_CALIBRATED, 1)] fun d => ch d fun c =>
    { c with voutMode := 0x17, column := 65 }
def s4 : State := bs [(F.BUSHEL_CTRL_AGE_EN, 1), (F.BUSHEL_CTRL_COMPARE_EN, 1), (F.PC_ARCHIVE_EN, 1), (F.HBM_SCRUB_EN, 1),
    (F.HBM_ALLOC_DONE, 1), (F.SC_OWNER 7, 2), (F.SC_POWERED 7, 1)] fun d => put ((List.range 64).map fun i => (F.SC_FAILED i, 0))
    { d with hbm := { d.hbm with regions := [(0, [3, 4])] }}

/-- Meets hypotheses of Obligations.ReadingsAndSentinels (Readings). -/
theorem witness_Readings :
    s2.m.dev.boot.porN = true ∧ s2.m.dev.flag (F.PMBUS_SLOT_EN 0) = true ∧ vddLow ≤ linear16 s2.m.dev.chan.voutMode 384 ∧
    linear16 s2.m.dev.chan.voutMode 384 ≤ vddHigh ∧ -10 ≤ 25 ∧ 25 ≤ 105 ∧
    (s2.m.dev.flag F.CHANDLER_STATUS_CALIBRATED = false ∨ 25 ≤ ↑s2.m.dev.chan.column) ∧ s3.m.dev.boot.porN = true ∧
    s3.m.dev.flag (F.PMBUS_SLOT_EN 0) = true ∧
    (linear16 s3.m.dev.chan.voutMode 304 < vddLow ∨ vddHigh < linear16 s3.m.dev.chan.voutMode 304) ∧ (106 < -10 ∨ 105 < 106) ∧
    -10 ≤ 66 ∧ 66 ≤ 105 ∧ s3.m.dev.flag F.CHANDLER_STATUS_CALIBRATED = true ∧ ↑s3.m.dev.chan.column < 66 := by
  and_intros <;> decide +kernel

/-- Meets hypotheses of Obligations.PeriodsAndSlices (MaintenanceSlices). -/
theorem witness_MaintenanceSlices :
    s4.m.dev.boot.porN = true ∧ s4.m.dev.flag F.BUSHEL_CTRL_AGE_EN = true ∧ s4.m.dev.flag F.BUSHEL_CTRL_COMPARE_EN = true ∧
    s4.m.dev.nextTestBank.isSome = true ∧ s4.m.dev.sconce.test = none ∧ s4.m.dev.flag F.PC_ARCHIVE_EN = true ∧
    s4.m.dev.flag F.HBM_ALLOC_DONE = true ∧
    (∀ (g : ArchGen), g ∈ s4.m.dev.arch → g.number = s4.m.dev.archGen → g.complete = true) ∧ s4.m.dev.flag F.HBM_SCRUB_EN = true ∧
    s4.m.dev.isHeld 35 = false ∧ s4.m.dev.scrubAt.isSome = true := by
  and_intros <;> decide +kernel

end Sys2Proof.Tests.Reads

namespace Sys2Proof.Tests.Receiving

set_option Elab.async false

def bs (l : List (Fld × Nat)) (f : Dev → Dev) : State := st (f (dev ([(F.GL_FP_EN, 0)] ++ l)))
def bfl : List (Fld × Nat) := [(F.PORT_CFG_PORT_TYPE 3, 2), (F.PORT_STATUS_STATE 3, 2), (F.POOL_SIZE 0, 1000), (F.POOL_T1 0, 900),
    (F.POOL_T2 0, 950), (F.POOL_T3 0, 990), (F.QPROF_Q_RESERVE 0, 100)]
def cell (n : Nat) : CellRec := ⟨List.replicate n 5, crc32c (List.replicate n 5), 1, 0, false⟩
def fr (n : Nat) (f : Frame → Frame) : Frame := f { Frame.new 3 0 0 9000 0 with bytes := List.replicate n 5 }
def fs (f : Frame) (g : Dev → Dev) : State := bs bfl fun d => g ({ d with frames := [(7, f)] } : Dev)
def bm2 (d : Dev) : Dev :=
    { d.setPort 3 { Port.idle with rx := some 7 } with bm := { d.bm with cells := [(0, cell 256), (1, cell 44)], bank := 2 } }
def s1 : State := bs [(F.SENTINEL_CTRL_SENTINEL_EN 3, 1), (F.SENTINEL_FLOOR 3, 900)] (put ((List.range 8).map fun i =>
    (F.SENTINEL_RATIO_RATIO 3 i, 4096)))
def x1 : Bytes := [1,2,3]
def s3 : State := fs (fr 300 fun f => { f with cells := [0, 1], maxFrame := 302 }) bm2
def f2 : Frame := fr 300 fun f => { f with cells := [0, 1], maxFrame := 302 }
def f4 : Frame := fr 600 fun f => { f with cells := [0] }
def s6 : State := fs (fr 600 fun f => { f with cells := [0] }) fun d => bm2 (d.setLantern 0
    { d.lantern 0 with fifo := (List.range 128).map (· + 100) })
def s7 : State := fs (fr 600 fun f => { f with cells := [0], maxFrame := 64 }) bm2
def f5 : Frame := fr 600 fun f => { f with cells := [0], maxFrame := 64 }

/-- Meets hypotheses of Obligations.ReadingsAndSentinels (SentinelWindow). -/
theorem witness_SentinelWindow :
    s1.m.dev.boot.porN = true ∧ s1.m.dev.flag (F.SENTINEL_CTRL_SENTINEL_EN 3) = true ∧ s1.m.dev.isHeld 3 = false := by
  and_intros <;> decide +kernel

/-- Meets hypotheses of Obligations.FrameReception. -/
theorem witness_FrameReception :
    s3.m.dev.boot.porN = true ∧ s3.m.dev.frame? 7 = some f2 ∧ f2.ended = none ∧ f2.cut = false ∧ f2.refused = false ∧ x1 ≠ [] ∧
    List.length f2.bytes / 256 < f2.cells.length ∧ f2.maxFrame - 4 ≤ List.length f2.bytes + List.length x1 ∧
    (s3.m.dev.port f2.via).rx = some 7 ∧ f2.via < 512 ∧ s7.m.dev.boot.porN = true ∧ s7.m.dev.frame? 7 = some f5 ∧ f5.via < 512 ∧
    f5.ingress < 512 ∧ f5.pass = 1 ∧ f5.headed = false ∧ f5.refused = false ∧ f5.decided = false ∧
    (512 ≤ List.length f5.bytes ∨ f5.ended = some RxEnd.good) ∧ etherType f5.bytes ≠ 34824 ∧
    s7.m.dev.isHeld (f5.ingress / 16) = false ∧ (s7.m.dev.lantern (f5.ingress / 16)).fifo.length < 128 ∧
    s6.m.dev.boot.porN = true ∧ s6.m.dev.frame? 7 = some f4 ∧ f4.via < 512 ∧ f4.ingress < 512 ∧ f4.pass = 1 ∧ f4.headed = false ∧
    f4.refused = false ∧ f4.decided = false ∧ (512 ≤ List.length f4.bytes ∨ f4.ended = some RxEnd.good) ∧
    etherType f4.bytes ≠ 34824 ∧ s6.m.dev.isHeld (f4.ingress / 16) = false ∧ 128 ≤ (s6.m.dev.lantern (f4.ingress / 16)).fifo.length := by
  and_intros <;> decide +kernel

end Sys2Proof.Tests.Receiving

namespace Sys2Proof.Tests.Chaining

set_option Elab.async false

def bs (l : List (Fld × Nat)) (f : Dev → Dev) : State := st (f (dev ([(F.GL_FP_EN, 0)] ++ l)))
def bfl : List (Fld × Nat) := [(F.PORT_CFG_PORT_TYPE 3, 2), (F.PORT_STATUS_STATE 3, 2), (F.POOL_SIZE 0, 1000), (F.POOL_T1 0, 900),
    (F.POOL_T2 0, 950), (F.POOL_T3 0, 990), (F.QPROF_Q_RESERVE 0, 100)]
def fr (n : Nat) (f : Frame → Frame) : Frame := f { Frame.new 3 0 0 9000 0 with bytes := List.replicate n 5 }
def hd (f : Header → Header) : Header := f ⟨4, 7, 1, List.replicate 512 0, List.replicate 512 5, 3, 0, [], none, .fresh, [], 0, 9,
    0, true, true, true, 0⟩
def la (l : List (Fld × Nat)) (f : Lantern → Lantern) (g : Dev → Dev) : State := bs (bfl ++ [(F.WICK_ROLE_STATE_A 0, 1),
    (F.WICK_ROLE_STATE_B 0, 2)] ++ l) fun d => g (({ d with frames := [(7, fr 600 id)] } : Dev).setLantern 0 (f (d.lantern 0)))
def wd : Nat := 6 + 2 ^ 264 * 1
def withWord (w : Nat) (d : Dev) : Dev :=
    { d with index := [(0x20 * 2 ^ 24 + storeIndex 2 5, toLE w 64), (0x21 * 2 ^ 24 + dispIndex 0 2 3, toLE (512 + 5) 2)] }
def s1 : State := la [(F.ENTRY_OP 3, 9)] (fun x => { x with fifo := [7] }) id
def s4 : State := la [] (fun x => { x with stages := [(22, (hd id) :: [hd fun h => { h with pos := 5 }])] }) (withWord wd)
def v1 : List Header := [hd fun h => { h with pos := 5 }]
def s6 : State := la [] (fun x =>
    { x with stages := [(22, (hd fun h => { h with phase := .waiting false false, op := 0xFE }) :: [hd fun h => { h with pos := 5 }])] }) (withWord wd)
def h2 : Header := hd fun h => { h with phase := .waiting false false, op := 0xFE }
def s7 : State := la [] (fun x =>
    { x with stages := [(22, (hd fun h => { h with phase := .waiting true true}) :: [hd fun h => { h with pos := 5 }])] })
    (withWord wd)
def h3 : Header := hd fun h => { h with phase := .waiting true true}

/-- Meets hypotheses of Obligations.ChainSteps. -/
theorem witness_ChainSteps :
    s7.m.dev.boot.porN = true ∧ s7.m.dev.isHeld 0 = false ∧ (s7.m.dev.stageList 0 (1 * 20 + 2))[0]? = some h3 ∧
    h3.phase = Phase.waiting true true ∧ s7.m.dev.select h3 2 h3.op = Sel.word wd ∧ s1.m.dev.boot.porN = true ∧
    s1.m.dev.isHeld 0 = false ∧ (s1.m.dev.lantern 0).nextDeal = some (7, true) ∧ s1.m.dev.activeWick 0 ≠ none ∧
    s1.m.dev.dealersHeld = false ∧ s1.m.dev.frame? 7 = some (fr 600 id) ∧
    (tgetD (s1.m.dev.lantern 0).stages ((s1.m.dev.lantern 0).chain * 20) []).length < 24 ∧
    (true = true ∨ s1.m.clk.tick ≤ (fr 600 id).passStart + 15625) ∧ s4.m.dev.boot.porN = true ∧ s4.m.dev.isHeld 0 = false ∧
    s4.m.dev.stageList 0 (1 * 20 + 2) = hd id :: v1 ∧ (hd id).phase = Phase.fresh ∧
    (∀ (y : Header), y ∈ v1 → y.pos ≠ (hd id).pos) ∧ s4.m.dev.select (hd id) 2 (hd id).op = Sel.word wd ∧
    (hd id).outOfRange wd = false ∧ (bit wd 1 = true ∨ bit wd 2 = true) ∧ s6.m.dev.boot.porN = true ∧ s6.m.dev.isHeld 0 = false ∧
    s6.m.dev.stageList 0 (1 * 20 + 2) = h2 :: v1 ∧ h2.phase = Phase.waiting false false ∧
    (∀ (y : Header), y ∈ v1 → y.pos ≠ h2.pos) ∧ 254 ≤ h2.op ∧ 2 < 19 ∧ s6.m.dev.activeWick 0 ≠ none ∧
    (s6.m.dev.stageList 0 (1 * 20 + 2 + 1)).length < 24 := by
  and_intros <;> decide +kernel

end Sys2Proof.Tests.Chaining

namespace Sys2Proof.Tests.Releasing

set_option Elab.async false

def bs (l : List (Fld × Nat)) (f : Dev → Dev) : State := st (f (dev ([(F.GL_FP_EN, 0)] ++ l)))
def bfl : List (Fld × Nat) := [(F.PORT_CFG_PORT_TYPE 3, 2), (F.PORT_STATUS_STATE 3, 2), (F.POOL_SIZE 0, 1000), (F.POOL_T1 0, 900),
    (F.POOL_T2 0, 950), (F.POOL_T3 0, 990), (F.QPROF_Q_RESERVE 0, 100)]
def fr (n : Nat) (f : Frame → Frame) : Frame := f { Frame.new 3 0 0 9000 0 with bytes := List.replicate n 5 }
def hd (f : Header → Header) : Header := f ⟨4, 7, 1, List.replicate 512 0, List.replicate 512 5, 3, 0, [], none, .fresh, [], 0, 9,
    0, true, true, true, 0⟩
def la (l : List (Fld × Nat)) (f : Lantern → Lantern) (g : Dev → Dev) : State := bs (bfl ++ [(F.WICK_ROLE_STATE_A 0, 1),
    (F.WICK_ROLE_STATE_B 0, 2)] ++ l) fun d => g (({ d with frames := [(7, fr 600 id)] } : Dev).setLantern 0 (f (d.lantern 0)))
def st1 (x : Lantern) : Lantern := { x with stages := [(22, [hd id])] }
def dec : Header := hd fun h => { h with pos := 0 }
def key : Bytes := toLE 7 2 ++ [1,2,3,4,5,6]
def stn (f : Ent → Ent) : Ent := f ⟨key, toLE 3 2, false, false, false, false, 0, false, false⟩
def tb (d : Dev) (f : Tables → Tables) : Dev := { d with tbl := f d.tbl }
def gf : Frame := fr 600 fun f => { f with ended := some .good, rxLen := 600 }
def tk : Track := ⟨key, 0, 1, 0, some 5000⟩
def s1 : State := la [] st1 id
def s2 : State := la [] (fun x => { st1 x with overlap := some .a }) id
def s3 : State := la [(F.PUNT_RATE_RATE_0 0, 5)] (fun x =>
    { x with nextPos := 3, reorder := [dec, hd fun h => {h with pos := 1}] }) id
def s4 : State := la [] id fun d => ({ d with frames := [(7, fr 600 fun f => { f with ended := some .good, rxLen := 600 })]})
def f1 : Frame := fr 600 fun f => { f with ended := some .good, rxLen := 600 }
def s5 : State := la [(F.BUSHEL_CTRL_LEARN_EN, 1)] (fun x => { x with learns := [(7, key)] }) fun d =>
    { d with frames := [(7, gf)] }
def s9 : State := cl (la [(F.BUSHEL_CTRL_LEARN_EN, 1)] id fun d => tb (d.setEnts 1 [(9, stn fun e =>
    { e with frozen := true })]) fun t => { t with track := [tk] }) 5 0 0
def s10 : State := cl (la [(F.BUSHEL_CTRL_LEARN_EN, 1)] id fun d => tb (d.setEnts 1 [(9, stn fun e =>
    { e with frozen := true })]) fun t => { t with track := [tk] }) 0 50 0
def s11 : State := la [(F.BUSHEL_CTRL_AGE_EN, 1)] id fun d => tb (d.setEnts 1 [(9, stn fun e =>
    { e with hitE := true })]) fun t => { t with owed := 4, sweep := 9 }

/-- Meets hypotheses of Obligations.ReleasesAndSnuffs. -/
theorem witness_ReleasesAndSnuffs :
    s1.m.dev.boot.porN = true ∧ s1.m.dev.stageList 0 (1 * 20 + 2) = [hd id] ∧ (hd id).has Wick.b = true ∧
    (hd id).phase = Phase.fresh ∧ s1.m.dev.inService 0 Wick.b = true ∧ (s1.m.dev.lantern 0).overlap = none ∧
    (s1.m.dev.lantern 0).task = WickTask.none ∧ s1.m.dev.activeWick 0 ≠ some Wick.b ∧ s1.m.dev.wick 0 Wick.b = wkReady ∧
    (s1.m.dev.lantern 0).nextResult = none ∧ s1.m.dev.isHeld 0 = false ∧ s1.m.dev.frame? 7 = some (fr 600 id) ∧
    (fr 600 id).ended = none ∧ (hd id).has Wick.a = true ∧ s1.m.dev.inService 0 Wick.a = true ∧
    s1.m.dev.activeWick 0 = some Wick.a ∧ s1.m.dev.wick 0 Wick.a.other = wkReady ∧ s2.m.dev.boot.porN = true ∧
    (s2.m.dev.lantern 0).overlap = some Wick.a ∧ s3.m.dev.boot.porN = true ∧ (s3.m.dev.lantern 0).nextResult = some dec ∧
    s3.m.dev.isHeld 0 = false ∧ s4.m.dev.boot.porN = true ∧ s4.m.dev.frame? 7 = some f1 ∧ f1.ended ≠ none := by
  and_intros <;> decide +kernel

/-- Meets hypotheses of Obligations.StationLearning. -/
theorem witness_StationLearning :
    s5.m.dev.boot.porN = true ∧ s5.m.dev.frame? 7 = some gf ∧ gf.ended = some RxEnd.good ∧
    (List.find? (fun e => e.fst == 7) (s5.m.dev.lantern (gf.ingress / 16)).learns = some (7, key)) ∧
    s5.m.dev.flag F.BUSHEL_CTRL_LEARN_EN = true ∧
    (∀ (x : LearnReq), (x ∈ if 16 ≤ gf.ingress / 16 then s5.m.dev.tbl.learnW else s5.m.dev.tbl.learnE) → x.key ≠ key ∨ x.port ≠
      gf.ingress) ∧
    (if 16 ≤ gf.ingress / 16 then s5.m.dev.tbl.learnW else s5.m.dev.tbl.learnE).length < 4096 ∧ s9.m.dev.boot.porN = true ∧
    (List.find? (fun t => t.key == key) s9.m.dev.tbl.track = some tk) ∧
    (Option.any (fun x => decide (x ≤ s9.m.clk.abs)) tk.frozen = true) ∧ s10.m.dev.boot.porN = true ∧
    (List.find? (fun t => t.key == key) s10.m.dev.tbl.track = some tk) ∧
    (Option.any (fun x => decide (s10.m.clk.abs < x)) tk.frozen = true) ∧ s11.m.dev.boot.porN = true ∧
    s11.m.dev.flag F.BUSHEL_CTRL_AGE_EN = true ∧ s11.m.dev.tbl.owed ≠ 0 ∧ s11.m.dev.noStreams = true := by
  and_intros <;> decide +kernel

end Sys2Proof.Tests.Releasing

namespace Sys2Proof.Tests.Learning

set_option Elab.async false

def bs (l : List (Fld × Nat)) (f : Dev → Dev) : State := st (f (dev ([(F.GL_FP_EN, 0)] ++ l)))
def bfl : List (Fld × Nat) := [(F.PORT_CFG_PORT_TYPE 3, 2), (F.PORT_STATUS_STATE 3, 2), (F.POOL_SIZE 0, 1000), (F.POOL_T1 0, 900),
    (F.POOL_T2 0, 950), (F.POOL_T3 0, 990), (F.QPROF_Q_RESERVE 0, 100)]
def fr (n : Nat) (f : Frame → Frame) : Frame := f { Frame.new 3 0 0 9000 0 with bytes := List.replicate n 5 }
def la (l : List (Fld × Nat)) (f : Lantern → Lantern) (g : Dev → Dev) : State := bs (bfl ++ [(F.WICK_ROLE_STATE_A 0, 1),
    (F.WICK_ROLE_STATE_B 0, 2)] ++ l) fun d => g (({ d with frames := [(7, fr 600 id)] } : Dev).setLantern 0 (f (d.lantern 0)))
def key : Bytes := toLE 7 2 ++ [1,2,3,4,5,6]
def stn (f : Ent → Ent) : Ent := f ⟨key, toLE 3 2, false, false, false, false, 0, false, false⟩
def tb (d : Dev) (f : Tables → Tables) : Dev := { d with tbl := f d.tbl }
def lr : LearnReq := ⟨key, 3, 0⟩
def nl (s : State) : Dev := match s.m.dev.nextLearn with | some (_, n) => n | none => s.m.dev
def str (fl : Byte) (hl : Byte) : Bytes := toLE 100 2 ++ toLE 200 2 ++ toLE 3 8 ++ List.replicate 4 0 ++ [hl, fl] ++ toLE 50 2 ++
    List.replicate 12 0
def cp : Copy := ⟨7, 0, 0, [], [], 0, 1, 0, .forward none, false, true, false, none, .keep, [], none, false⟩
def sq : StreamReq := ⟨0, 6, 7, cp, [], 0, 1⟩
def ns (s : State) : Dev := match s.m.dev.nextStream with | some (_, n) => n | none => s.m.dev
def sf (sn : Nat) : Frame := fr 600 fun f =>
    { f with ended := some .good, rxLen := 600, decided := true, later := 1, bytes := List.replicate 12 5 ++ [0xF1, 0xC1, 0, 0] ++ toLE (sn / 256 + 256 * (sn % 256)) 2 ++ [8, 0] ++ List.replicate 580 5 }
def x0 : Diff := ⟨3, 0, 5⟩
def h0 : SwapHeld := ⟨3, true, true⟩
def strm (fl hl : Byte) (seq : Nat) : State := la [] id fun d => tb
    { d with frames := [(7, sf seq)], index := [(9 * 2 ^ 24 + 6, str fl hl)] } fun t => { t with recE := [sq] }
def hd (f : Header → Header) : Header := f ⟨4, 7, 1, List.replicate 512 0, List.replicate 512 5, 3, 0, [], none, .fresh, [], 0, 9,
    0, true, true, true, 0⟩
def s1 : State := la [(F.BUSHEL_CTRL_LEARN_EN, 1)] id fun d => tb d fun t => { t with learnE := [lr] }
def d1 : Dev := nl (la [(F.BUSHEL_CTRL_LEARN_EN, 1)] id fun d => tb d fun t => { t with learnE := [lr] })
def s2 : State := la [(F.BUSHEL_CTRL_LEARN_EN, 1)] id fun d => tb (d.setEnts 1 [(9, stn id)]) fun t => { t with learnE := [lr] }
def d2 : Dev := nl (la [(F.BUSHEL_CTRL_LEARN_EN, 1)] id fun d => tb (d.setEnts 1 [(9, stn id)]) fun t => { t with learnE := [lr] })
def s3 : State := la [(F.BUSHEL_CTRL_LEARN_EN, 1)] id fun d => tb (d.setEnts 1 [(9, stn fun e =>
    { e with lock := true })]) fun t => { t with learnE := [lr] }
def d3 : Dev := nl (la [(F.BUSHEL_CTRL_LEARN_EN, 1)] id fun d => tb (d.setEnts 1 [(9, stn fun e =>
    { e with lock := true })]) fun t => { t with learnE := [lr] })
def s4 : State := strm 3 0 199
def d5 : Dev := ns (strm 3 0 199)
def s5 : State := strm 5 8 199
def d6 : Dev := ns (strm 5 8 199)
def s6 : State := la [] id fun d => tb d fun t =>
    { t with diffs := [x0, ⟨3, 0, 6⟩], shadows := [⟨3, 0, 0, 64⟩], released := [(4, 5, 6)] }
def s7 : State := la [] id fun d => { d with rules := ⟨1, some h0, false⟩ }
def s8 : State := la [] id fun d => { d with rules := ⟨1, none, true⟩, index := [(0x21 * 2 ^ 24 + dispIndex 1 2 3, toLE 517 2)] }
def s9 : State := la [] (fun x => { x with task := .trim (some 3) none }) id
def s10 : State := cl (la [(F.SM_FW_READY, 1), (F.WICK_CTRL_TRIM_PERIOD 0, 1), (F.TU_TIME_VALID, 1)] id id) 3600 4 5
def s11 : State := cl (la [(F.SM_FW_READY, 1), (F.WICK_CTRL_TRIM_PERIOD 0, 1), (F.TU_TIME_VALID, 1), (F.WICK_ROLE_STATE_B 0,
    4)] id id) 3600 4 5
def s12 : State := la ([] ++ [(F.WICK_ROLE_STATE_B 0, 4)]) (fun x =>
    { x with task := .relight .b 1 9, nextPos := 9, stages := [(22, [hd fun h => { h with pos := 9 }])] }) id
def s13 : State := la ([] ++ [(F.WICK_ROLE_STATE_B 0, 4)]) (fun x =>
    { x with task := .relight .b 2 9, nextPos := 9, stages := [(22, [hd fun h => { h with pos := 9 }])] }) id
def s14 : State := la ([(F.WICK_ROLE_STATE_A 0, 4)] ++ [(F.WICK_ROLE_STATE_B 0, 4)]) (fun x =>
    { x with task := .relight .b 2 9, nextPos := 9, stages := [(22, [hd fun h => { h with pos := 9 }])] }) id
def s15 : State := la ([] ++ [(F.WICK_ROLE_STATE_B 0, 4)]) (fun x =>
    { x with task := .relight .b 3 9, nextPos := 9, stages := [(22, [hd fun h => { h with pos := 9 }])] }) id

/-- Meets hypotheses of Obligations.StationLearning. -/
theorem witness_StationLearning :
    s3.m.dev.boot.porN = true ∧ s3.m.dev.noStreams = true ∧ s3.m.dev.nextLearn = some (lr, d3) ∧
    (Option.any (fun x => decide (x.snd.static = true ∨ x.snd.lock = true ∨ x.snd.frozen = true)) (s3.m.dev.findKey stations lr.key)
      = true) ∧
    s2.m.dev.boot.porN = true ∧ s2.m.dev.noStreams = true ∧ s2.m.dev.nextLearn = some (lr, d2) ∧
    (Option.any (fun x => decide (x.snd.static = false ∧ x.snd.lock = false ∧ x.snd.frozen = false ∧ leNat x.snd.data = lr.port))
      (s2.m.dev.findKey stations lr.key) = true) ∧
    s1.m.dev.boot.porN = true ∧ s1.m.dev.noStreams = true ∧ s1.m.dev.nextLearn = some (lr, d1) ∧
    s1.m.dev.findKey stations lr.key = none := by
  and_intros <;> decide +kernel

/-- Meets hypotheses of Obligations.SerialisedWork. -/
theorem witness_SerialisedWork :
    s6.m.dev.boot.porN = true ∧ s6.m.dev.nextStream = none ∧ s6.m.dev.tbl.diffs = [x0, Diff.mk 3 0 6] ∧
    (List.find? (fun y => y.table == x0.table && y.lantern == x0.lantern) s6.m.dev.tbl.shadows = some (Shadow.mk 3 0 0 64)) ∧
    (Shadow.mk 3 0 0 64).loc = 0 ∧ (List.find? (fun r => r.fst == (4, 5, 6).fst) s6.m.dev.tbl.released = some (4, 5, 6)) ∧
    s7.m.dev.boot.porN = true ∧ s7.m.dev.rules.held = some h0 ∧ h0.committed = true ∧ s7.m.dev.standbyBusy = false ∧
    (∀ (w : Wait), w ∈ s7.m.dev.smi.waits → isSwap w.kind = true → w.req.genCheck = false) ∧ s8.m.dev.boot.porN = true ∧
    s8.m.dev.rules.copying = true ∧ s8.m.dev.oldResident = false ∧ (List.Pairwise (fun a b => a.fst < b.fst) s8.m.dev.index) ∧
    2 < 20 ∧ 3 < 256 ∧ s4.m.dev.boot.porN = true ∧ s4.m.dev.nextStream = some (sq, d5) ∧ s4.m.dev.frame? sq.fid = some (sf 199) ∧
    s4.m.dev.streamValid sq.stream = true ∧ stFlag (s4.m.dev.stream sq.stream) 1 = true ∧ s5.m.dev.boot.porN = true ∧
    s5.m.dev.nextStream = some (sq, d6) ∧ s5.m.dev.frame? sq.fid = some (sf 199) ∧ s5.m.dev.streamValid sq.stream = true ∧
    stFlag (s5.m.dev.stream sq.stream) 1 = false ∧ rtagSeq (sf 199).bytes = some 199 := by
  and_intros <;> decide +kernel

/-- Meets hypotheses of Obligations.WickProcedures. -/
theorem witness_WickProcedures :
    s12.m.dev.boot.porN = true ∧ (s12.m.dev.lantern 0).overlap = none ∧ (s12.m.dev.lantern 0).force = none ∧
    (s12.m.dev.lantern 0).task = WickTask.relight Wick.b 1 9 ∧ s9.m.dev.boot.porN = true ∧ (s9.m.dev.lantern 0).overlap = none ∧
    (s9.m.dev.lantern 0).force = none ∧ (s9.m.dev.lantern 0).task = WickTask.trim (some 3) none ∧
    s9.m.dev.activeWick 0 = some Wick.a ∧
    (∀ (h : Header), h ∈ (s9.m.dev.lantern 0).headers ++ (s9.m.dev.lantern 0).reorder → 3 ≤ h.pos) ∧ s10.m.dev.boot.porN = true ∧
    (s10.m.dev.lantern 0).overlap = none ∧ (s10.m.dev.lantern 0).force = none ∧ s10.m.dev.flag F.SM_FW_READY = true ∧
    (s10.m.dev.lantern 0).retry ≠ some s10.m.clk.sec ∧ s10.m.dev.trimInstant s10.m.clk 0 = true ∧
    (s10.m.dev.lantern 0).served ≠ some s10.m.clk.sec ∧ s10.m.dev.trimFree 0 = true ∧ s11.m.dev.boot.porN = true ∧
    (s11.m.dev.lantern 0).overlap = none ∧ (s11.m.dev.lantern 0).force = none ∧ s11.m.dev.flag F.SM_FW_READY = true ∧
    (s11.m.dev.lantern 0).retry ≠ some s11.m.clk.sec ∧ s11.m.dev.trimInstant s11.m.clk 0 = true ∧
    (s11.m.dev.lantern 0).served ≠ some s11.m.clk.sec ∧ s11.m.dev.trimFree 0 = false ∧ s14.m.dev.boot.porN = true ∧
    (s14.m.dev.lantern 0).overlap = none ∧ (s14.m.dev.lantern 0).force = none ∧
    (s14.m.dev.lantern 0).task = WickTask.relight Wick.b 2 9 ∧ s14.m.dev.activeWick 0 = none ∧ s13.m.dev.boot.porN = true ∧
    (s13.m.dev.lantern 0).overlap = none ∧ (s13.m.dev.lantern 0).force = none ∧
    (s13.m.dev.lantern 0).task = WickTask.relight Wick.b 2 9 ∧ s13.m.dev.activeWick 0 ≠ none ∧ s15.m.dev.boot.porN = true ∧
    (s15.m.dev.lantern 0).overlap = none ∧ (s15.m.dev.lantern 0).force = none ∧
    (s15.m.dev.lantern 0).task = WickTask.relight Wick.b 3 9 ∧ (∀ (h : Header), h ∈ (s15.m.dev.lantern 0).headers → 9 ≤ h.pos) := by
  and_intros <;> decide +kernel

end Sys2Proof.Tests.Learning

namespace Sys2Proof.Tests.Basics

set_option Elab.async false

def low (l : List (Fld × Nat)) (f : Dev → Dev) : State := st (f (dev ([(F.GL_FP_EN, 0)] ++ l)))
def held : State := live [] fun d => { d with smi := { d.smi with waits := [⟨0x13, rq [], 3, false, false, .commit 3 0 0⟩] } }
def v1 : Instr := .echo (rq [])
def v2 : Instr := .regRead (rq [])
def v3 : Instr := .echo { rq [] with genCheck := true, expectGen := 5 }
def q1 : Req := { rq [] with genCheck := true, expectGen := 5 }
def q2 : Req := rq (List.replicate 4065 0)
def q3 : Req := rq (toLE 0 6 ++ toLE 1000000000 4)
def q4 : Req := rq [255, 3, 1]
def v4 : Word := 0xC4A1D1E5
def v5 : Word := 0xC4A1D1E4
def v6 : Word := 43
def s1 : State := low [(F.GL_LOCKED, 0)] id
def v8 : Word := 5
def s5 : State := low [(F.PMBUS_SLOT_EN 0, 1)] id
def v9 : Word := 4
def s6 : State := low [(F.HBM_ALLOC_DONE, 1)] id
def s7 : State := low ((List.range 16).map fun i => (F.TAP_CREDIT_INIT i, 4000)) id
def q5 : Req := rq (toLE 3 2 ++ [1, 0] ++ toLE 5 6 ++ toLE 7 4)

/-- Meets hypotheses of Obligations.StartAndReadiness (NotReadyIsBusy). -/
theorem witness_NotReadyIsBusy :
    smiemOf v1 = some (1, rq []) ∧ (low [] id).m.dev.boot.porN = true ∧ (low [] id).m.dev.flag F.BT_FAILED = false ∧
    (low [] id).m.dev.smi.mayStart 1 (rq []) = true ∧ isHw 1 (rq []).params = false ∧
    (low [] id).m.dev.flag F.SM_FW_READY = false ∧ ((low [] id).m.dev.takeFetched 1 (rq [])).fst.kept = false ∧
    smiemOf v2 = some (16, rq []) ∧ (low [] id).m.dev.smi.mayStart 16 (rq []) = true ∧ isHw 16 (rq []).params = true ∧
    (low [] id).m.dev.boot.step < 3 := by
  and_intros <;> decide +kernel

/-- Meets hypotheses of Obligations.RefusedCommands (StaleGenerationChangesNothing). -/
theorem witness_StaleGenerationChangesNothing :
    smiemOf v3 = some (1, q1) ∧ (live [] id).m.dev.boot.porN = true ∧ (live [] id).m.dev.flag F.BT_FAILED = false ∧
    (live [] id).m.dev.smi.mayStart 1 q1 = true ∧ 3 ≤ (live [] id).m.dev.boot.step ∧ (live [] id).m.dev.flag F.SM_FW_READY = true ∧
    q1.genCheck = true ∧ BitVec.toNat q1.expectGen ≠ (live [] id).m.dev.get F.GL_CONFIG_GEN ∧
    (v3 = Instr.echo q1 ∧ List.length q1.params ≤ 4064 ∨ v3 = Instr.fingerprintGet q1 ∧ q1.params = [] ∨ v3 =
      Instr.fingerprintReference q1 ∧ List.length q1.params ≤ 8 ∨ v3 = Instr.counterClear q1 ∧ counterClearCheck q1 (live []
      id).m.dev = none ∨ v3 = Instr.eventRate q1 ∧ eventRateCheck q1 (live [] id).m.dev = none ∨ v3 = Instr.tsqRead q1 ∧
      tsqReadCheck q1 (live [] id).m.dev = none ∨ v3 = Instr.timeSet q1 ∧ timeSetCheck q1 (live [] id).m = none ∨ v3 =
      Instr.bankTest q1 ∧ bankTestCheck q1 ((live [] id).m.taken 1 q1) = none) := by
  and_intros <;> decide +kernel

/-- Meets hypotheses of Obligations.RefusedCommands (BadParametersChangeNothing). -/
theorem witness_BadParametersChangeNothing :
    (live [] id).m.dev.boot.porN = true ∧ (live [] id).m.dev.flag F.BT_FAILED = false ∧
    (live [] id).m.dev.smi.mayStart 1 q2 = true ∧ 3 ≤ (live [] id).m.dev.boot.step ∧ (live [] id).m.dev.flag F.SM_FW_READY = true ∧
    1 = 1 ∧ 4064 < List.length q2.params ∧ (live [] id).m.dev.smi.mayStart 20 (rq [0]) = true ∧ 20 = 20 ∧ (rq [0]).params ≠ [] ∧
    (live [] id).m.dev.smi.mayStart 114 (rq [32]) = true ∧ 114 = 114 ∧ List.length (rq [32]).params ≤ 20 ∧ 31 < (rq [32]).u 0 1 ∧
    (live [] id).m.dev.smi.mayStart 81 (rq [0, 2]) = true ∧ 81 = 81 ∧ List.length (rq [0, 2]).params ≤ 2 ∧
    511 < (rq [0, 2]).u 0 2 ∧ (live [] id).m.dev.smi.mayStart 112 q3 = true ∧ 112 = 112 ∧ List.length q3.params ≤ 10 ∧
    1000000000 ≤ q3.u 6 4 ∧ (live [] id).m.dev.smi.mayStart 16 (rq [2]) = true ∧ 16 = 16 ∧ List.length (rq [2]).params ≤ 5 ∧
    (rq [2]).u 0 4 % 4 ≠ 0 ∧ (live [] id).m.dev.smi.mayStart 177 q4 = true ∧ 177 = 177 ∧ List.length q4.params ≤ 12 ∧
    q4.u 0 2 ≤ 1023 ∧ byteAt q4.params 2 ≠ 0 := by
  and_intros <;> decide +kernel

/-- Meets hypotheses of Obligations.LockAndKey (UnlockKey). -/
theorem witness_UnlockKey :
    (low [] id).m.dev.live 32 ∧ v4 = 3298939365 ∧ v5 ≠ 3298939365 := by
  delta Dev.live; and_intros <;> decide +kernel

/-- Meets hypotheses of Obligations.KeyedWritesAct. -/
theorem witness_KeyedWritesAct :
    s1.m.dev.flag F.GL_LOCKED = false ∧ s1.m.dev.flag F.GL_FP_EN = false ∧
    (∃ high, s1.m.dev.live (if high = true then 4140 else 4136)) ∧ s1.m.dev.live 4128 ∧ domainBad (BitVec.toNat v6 % 64) = false ∧
    s1.m.dev.live (F.WICK_CTRL_FORCE 3).off := by
  delta Dev.live; and_intros <;> decide +kernel

/-- Meets hypotheses of Obligations.DomainFieldsReset. -/
theorem witness_DomainFieldsReset :
    domainBad 38 = false ∧ F.TU_TIME_VALID.lo < 32 ∧ blockOf F.TU_TIME_VALID.off = 38 ∧
    (∀ (g : Fld), g ∈ fuseFields → F.TU_TIME_VALID.key ≠ g.key) ∧ F.TU_TIME_VALID.key ≠ F.CHANDLER_STATUS_SETPOINT.key ∧
    F.TU_TIME_VALID.key ≠ F.CHANDLER_STATUS_MOVING.key := by
  and_intros <;> decide +kernel

/-- Meets hypotheses of Obligations.DiscardAndDisarm. -/
theorem witness_DiscardAndDisarm :
    (low [] id).m.dev.live 72 ∧ (low [] id).m.dev.rules.held = none := by
  delta Dev.live; and_intros <;> decide +kernel

/-- Meets hypotheses of Obligations.HiReadCaptures. -/
theorem witness_HiReadCaptures :
    (low [] id).m.dev.boot.porN = true ∧ isPairHi 2097172 = true ∧ isPairHi 132 = false ∧
    (∀ (c : Capture), c ∈ (low [] id).m.dev.cfg.captures → ¬(c.who = Requester.host ∧ c.off = 132 + 4)) := by
  and_intros <;> decide +kernel

/-- Meets hypotheses of Obligations.RegisterWriteByCode. -/
theorem witness_RegisterWriteByCode :
    (low [] id).m.dev.live 2097216 ∧ (low [] id).m.dev.live 208 ∧ (low [] id).m.dev.live 160 ∧ (low [] id).m.dev.boot.porN = true ∧
    (∃ off, off < 40 ∧ (fieldsAt off = [] ∨ off = 128 ∨ off = 36)) ∧ (∃ off, off < 40 ∧ True) := by
  delta Dev.live; and_intros <;> decide +kernel

/-- Meets hypotheses of Obligations.Strobes (StrobesOfCounts). -/
theorem witness_StrobesOfCounts :
    (low [] id).m.dev.live (F.HDR_FIFO_STATUS_PEAK_CLR 3).off ∧ (low [] id).m.dev.live (F.REORDER_STATUS_PEAK_CLR 3).off ∧
    (low [] id).m.dev.live (F.TU_CAP_POP 3).off ∧ (low [] id).m.dev.live (F.TU_TSQ_OVERFLOW 3).off ∧
    (low [] id).m.dev.live (F.TBL_SEED 3).off := by
  delta Dev.live; and_intros <;> decide +kernel

/-- Meets hypotheses of Obligations.Strobes (StrobesOfUnits). -/
theorem witness_StrobesOfUnits :
    s5.m.dev.live (F.SG_CLOSED_INVALID 3).off ∧ s5.m.dev.live 4108 ∧ s5.m.dev.live 4120 ∧
    s5.m.dev.flag (F.PMBUS_SLOT_EN 0) = true ∧ s5.m.dev.live 41943044 ∧ s5.m.dev.flag F.HBM_ALLOC_DONE = false ∧
    s5.m.dev.trainingEnded = false ∧ s5.m.dev.boot.porN = true ∧ s5.m.dev.isHeld 40 = false ∧ s5.m.dev.flag F.BT_FAILED = false ∧
    s5.m.dev.get F.TAP_STATE = 0 ∧ bit (BitVec.toNat v8) 0 = true ∧
    (List.foldl (fun x1 x2 => x1 + x2) 0 (List.map (fun v => s5.m.dev.get (F.TAP_CREDIT_INIT v)) (List.range 16)) ≤ 8192) ∧
    s6.m.dev.live 41943044 ∧ s6.m.dev.flag F.HBM_ALLOC_DONE = true ∧ s6.m.dev.boot.porN = true ∧ s6.m.dev.isHeld 40 = false ∧
    s6.m.dev.flag F.BT_FAILED = false ∧ s6.m.dev.get F.TAP_STATE = 0 ∧ bit (BitVec.toNat v9) 0 = false ∧
    s7.m.dev.boot.porN = true ∧ s7.m.dev.isHeld 40 = false ∧ s7.m.dev.flag F.BT_FAILED = false ∧ s7.m.dev.get F.TAP_STATE = 0 ∧
    (8192 < List.foldl (fun x1 x2 => x1 + x2) 0 (List.map (fun v => s7.m.dev.get (F.TAP_CREDIT_INIT v)) (List.range 16))) := by
  delta Dev.live; and_intros <;> decide +kernel

/-- Meets hypotheses of Obligations.CommitCommand. -/
theorem witness_CommitCommand :
    held.m.ready 19 q5 ∧ held.m.dev.isHeld 38 = false ∧ laidOut 14 [(0, 3), (4, 10)] q5.params ∧ leAt q5.params 2 1 < 2 ∧
    (leAt q5.params 2 1 = 1 → leAt q5.params 10 4 < 1000000000) ∧ leAt q5.params 2 1 = 1 ∧
    leAt q5.params 0 2 &&& (held.m.taken 19 q5).dev.armedGroups ≠ 0 := by
  delta Mach.ready laidOut; and_intros <;> decide +kernel

end Sys2Proof.Tests.Basics

namespace Sys2Proof.Tests

set_option Elab.async false

/-- The state after a command, itself where the command stops. -/
def after (c : Instr) (s : State) : State :=
  match exec c s with
  | .next t => t
  | _ => s

/-! Witnesses of the statements about every command. -/

/-- Meets the hypotheses of Obligations.CommandsLeaveQueue, OnlyOutsideRangeStops, TickCountOnlyTicks, TimeOnlyMovedByTime and
DramOnlyWritten. -/
theorem witness_every_command :
    (∃ t, exec (.sqTail 3 5) (live [] id) = .next t) ∧ dramWriters (.sqTail 3 5) = false ∧
    (∀ a b, Instr.sqTail 3 5 ≠ .readVout a b) ∧ (∀ a, Instr.sqTail 3 5 ≠ .tjSample a) ∧ (∀ r, Instr.sqTail 3 5 ≠ .timeClkTick r) ∧
    (∀ q, Instr.sqTail 3 5 ≠ .timeSet q) ∧ (∀ q, Instr.sqTail 3 5 ≠ .timeAdjust q) ∧ (∀ n, Instr.sqTail 3 5 ≠ .domainRelease n) ∧
    Instr.sqTail 3 5 ≠ .porNAssert := by
  refine ⟨⟨_, rfl⟩, rfl, ?_, ?_, ?_, ?_, ?_, ?_, ?_⟩ <;> simp

/-- Meets hypotheses of Obligations.StepTakesFront and StepsKeepWellFormed. -/
theorem witness_StepsKeepWellFormed :
    (live [] id).pending = [] ∧ (cl (live [] id) 5 7 3).m.ok ∧ ∃ t, step (cl (live [] id) 5 7 3) = .next t :=
  ⟨rfl, by delta Mach.ok Clock.ok; decide +kernel, _, rfl⟩

/-- Meets the hypotheses of Obligations.PorHolds. -/
theorem witness_PorHolds :
    State.reset.m.dev.boot.porN = false ∧ Instr.sqTail 3 5 ≠ .porNAssert ∧ ∀ a b d e, Instr.sqTail 3 5 ≠ .porNRelease a b d e := by
  refine ⟨rfl, ?_, ?_⟩ <;> simp

/-- A packet of ring 3 held with the fence set, and one whose reply a reset dropped. -/
def heldDev (fence noReply : Bool) : Dev :=
  { dev [] with smi := { (dev []).smi with fetched := [⟨1, { (rq []).held with fence := fence }, 3, false, noReply⟩] } }

/-- Meets hypotheses of Obligations.ReplyWritten. -/
theorem witness_ReplyWritten :
    ((heldDev false true).takeFetched 1 (rq [])).1.noReply = true ∧ ((heldDev false false).takeFetched 1 (rq [])).1.noReply = false ∧
    (dev []).get (F.CQ_TAIL 3) + 1 < (dev []).cqSize 3 ∧
    (dev [(F.CQ_TAIL 3, 63)]).cqSize 3 ≤ (dev [(F.CQ_TAIL 3, 63)]).get (F.CQ_TAIL 3) + 1 := by
  and_intros <;> decide +kernel

/-- Meets the hypotheses of Obligations.StartOrderHeld. -/
theorem witness_StartOrderHeld :
    smiemOf (.identify (rq [])) = some (2, rq []) ∧ (st (heldDev true false)).m.dev.boot.porN = true ∧
    (st (heldDev true false)).m.dev.smi.mayStart 2 (rq []) = false := by
  and_intros <;> decide +kernel

/-- Meets the hypotheses of Obligations.LockedWritesFail. -/
theorem witness_LockedWritesFail :
    (st (dev [])).m.dev.live 0x84 ∧ (st (dev [])).m.dev.flag F.GL_LOCKED = true ∧ ∃ v, Instr.configGenLoad 5 = .configGenLoad v :=
  ⟨by delta Dev.live; decide +kernel, by decide +kernel, 5, rfl⟩

/-- Meets the hypotheses of Obligations.ConfigGenLoad. -/
theorem witness_ConfigGenLoad :
    (st (dev [(F.GL_LOCKED, 0)])).m.dev.live 0x84 ∧ (st (dev [(F.GL_LOCKED, 0)])).m.dev.flag F.GL_LOCKED = false :=
  ⟨by delta Dev.live; decide +kernel, by decide +kernel⟩

/-- One value staged. -/
def staged : Dev := { dev [] with staged := [(F.GL_FP_EN.key, 0)] }

/-- Meets the hypotheses of Obligations.CommitApplies. -/
theorem witness_CommitApplies :
    staged.live 0x40 ∧ staged.isHeld 38 = false ∧ staged.rules.held = none ∧ staged.staged.Pairwise (fun a b => a.1 < b.1) ∧
    ∀ e ∈ staged.staged, e.1 < 0x800000 * 32 ∧ ∃ f, fldOfKey e.1 = some f ∧ f.acc = .srw := by
  delta Dev.live; and_intros <;> decide +kernel

/-- Meets the hypotheses of the last clauses of Obligations.Transmission. -/
theorem witness_Transmission_ends :
    (Transmitting.txS 3 Transmitting.good (Transmitting.cp 0)).m.dev.get (F.PTP_TC_MODE 3) = 0 ∧
    ((Transmitting.txS 3 Transmitting.good (Transmitting.cp 0)).m.dev.port 3).tx = some (Transmitting.tx 3 (Transmitting.cp 0)) ∧
    ((Transmitting.txS 512 Transmitting.good (Transmitting.cp 0)).m.dev.port 512).tx =
      some (Transmitting.tx 512 (Transmitting.cp 0)) ∧
    (Transmitting.tx 512 (Transmitting.cp 0)).done Transmitting.good = true ∧
    (Transmitting.cp 0).kind = .forward none ∧ (Transmitting.tx 512 (Transmitting.cp 0)).stomp = false ∧
    ((Transmitting.txS 3 Transmitting.good (Transmitting.cp 0)).m.dev.content (Transmitting.cp 0) Transmitting.good
      (Transmitting.tx 3 (Transmitting.cp 0)).bytes).length + 4 ≤
      (Transmitting.txS 3 Transmitting.good (Transmitting.cp 0)).m.dev.maxFrame 3 := by
  and_intros <;> decide +kernel

theorem length_mread (m : Memory) (a n : Nat) : (mread m a n).length = n := by
  induction n generalizing a with
  | zero => rfl
  | succ n ih => simp [mread, ih]

/-- An image of no bytes after its header, in area A. -/
def emptyImage : Bytes := toLE 0x5A485643 4 ++ toLE 3 4 ++ List.replicate 160 0

def flashed : State :=
  st { dev [] with boot := { (dev []).boot with step := 2, flash := mwrite [] 0 emptyImage } }

theorem flashed_good : imageGood (mread flashed.m.dev.boot.flash 0 0x1000000) = true := by
  unfold imageGood
  simp only [length_mread]
  decide +kernel

/-- Meets hypotheses of Obligations.ImageBoots. -/
theorem witness_ImageBoots_flash :
    flashed.m.dev.boot.porN = true ∧ flashed.m.dev.flag F.BT_FAILED = false ∧ flashed.m.dev.boot.step = 2 ∧
    flashed.m.dev.boot.pushWait = false ∧
    decide (leAt (mread flashed.m.dev.boot.flash 0 0x1000000) 4 4 < leAt (mread flashed.m.dev.boot.flash 0x1000000 0x1000000) 4 4) =
      false ∧
    imageGood (mread (dev []).boot.flash 0 0x1000000) = false ∧ imageGood (mread (dev []).boot.flash 0x1000000 0x1000000) = false ∧
    (dev []).get F.BT_BOOT_SEL ≠ 2 ∧ (dev []).boot.pushWait = false := by
  and_intros <;> decide +kernel

/-! WellFormed: for each check a term that it refuses, and terms at the bounds that it takes. -/

theorem test_wellFormed_refuses :
    ([ .echo { rq [] with tag := 65536 }, .identify (rq (List.replicate 4065 0)), .hiReadCapture .host 2, .registerWrite .host (2 ^ 26) 0 false,
       .cxlLinkTrained 16 6 16 6, .cxlLinkTrained 1 2 16 6, .cxlLinkTrained 1 7 16 6, .cxlLinkTrained 1 6 3 6, .cxlLinkTrained 1 6 16 2,
       .cxlMemRequest false (2 ^ 64) [] false .clean, .cxlMemRequest true 60 [1, 2, 3, 4, 5] false .clean,
       .hdmDecoderCommit (2 ^ 64) 0 true false true, .hdmDecoderCommit 0 (2 ^ 64) true false true, .h2dSnoop (2 ^ 64),
       .msixUnmask 0 2 0, .msixUnmask 0 (2 ^ 64) 0, .msixUnmask 0 4 (2 ^ 32), .porNRelease 0 true (32, 0) [], .porNRelease 0 true (0, 32) [],
       .bootImageCheck ⟨[], .whole⟩ [] [2] ] : List Instr).all (fun i => !i.wellFormed) = true := by decide +kernel

theorem test_wellFormed_refuses_more :
    ([ .dramTraining 0 true 6 0, .dramTraining 0 true 0 64, .readVout 0 (some 65536), .readPout 0 (some 65536), .tjSample (-129), .tjSample 128,
       .sentinelWindowEnd 0 [1], .sentinelWindowEnd 0 (List.replicate 8 (2 ^ 24)), .cellWrite 1 (List.replicate 257 0),
       .frameOversizeCut 1 (List.replicate 257 0), .recirculationEntry 513, .recirculationEntry 518, .schedulerSelect 518 false [],
       .copyTransmit 518 true, .egressCellRead 518 none false, .gateListStart false 512, .gateListStart true 1024, .gateEntryChange 512,
       .linkUp 512, .linkDown 512 true true, .trainTimeout 512, .lightUp 512, .idleHoldExpiry 512, .pauseExpiry 512 0,
       .wdTimeExpiry 512 0, .recTimeExpiry 512 0, .flowControlFrameSend 512, .pauseRefresh 512 ] : List Instr).all
      (fun i => !i.wellFormed) = true := by decide +kernel

theorem test_wellFormed_refuses_last :
    ([ .stackTempRead 0 128, .blockStart [1] false 0 0, .blockStart (List.replicate 33 0) false 0 0, .ack [], .nak [], .creditLo [],
       .creditHi [], .train [], .smbusTransaction true (2 ^ 32) 0 true, .domainRelease 44 ] : List Instr).all
      (fun i => !i.wellFormed) = true := by decide +kernel

theorem test_wellFormed_takes :
    ([ .echo (rq (List.replicate 4064 0)), .registerWrite .host 0x3FFFFFC 0 false, .cxlLinkTrained 15 6 16 6, .recirculationEntry 514,
       .schedulerSelect 517 false [], .gateListStart true 1023, .linkUp 511, .ack (List.replicate 32 0), .tjSample (-128),
       .domainRelease 43 ] : List Instr).all Instr.wellFormed = true := by decide +kernel

/-! The spec's worked examples. -/

/-- 00_scope: a handshake timeout in chain 1, stage 12, of Wick B in lantern 5: bits 36 to 0, 37 + (5, 3, 2), 45, 53 and 55. -/
theorem test_flc : flc 5 1 44 = 2 ^ 37 - 1 + 2 ^ 39 + 2 ^ 40 + 2 ^ 42 + 2 ^ 45 + 2 ^ 53 + 2 ^ 55 := by decide

def sentinel : State :=
  st (put ((List.range 8).map fun i => (F.SENTINEL_RATIO_RATIO 22 i, 3482)) (dev [(F.SENTINEL_CTRL_SENTINEL_EN 22, 1), (F.SENTINEL_CTRL_WINDOW_SEL 22, 1)]))

/-- 02_clockless_core: sentinel 2 of lantern 22, window 1,024 ticks, COUNT 2,621, RATIO 3,482: 1,699 MHz. -/
theorem test_sentinel : (after (.sentinelWindowEnd 22 [0, 0, 2621]) sentinel).m.dev.get (F.SENTINEL_RATE_STAGE_RATE 22 2) = 1699 := by
  decide +kernel

/-- R302: a tick adds the nominal increment of 1.28 ns, and one to TICK_COUNT. -/
theorem test_tick : (after (.timeClkTick true) (st (dev []))).m.clk.sub = 0x147AE147B ∧ (after (.timeClkTick true) (st (dev []))).m.clk.tick = 1 := by
  decide +kernel

/-- 08_scheduling_gates: the RFC 2698 policer's colours and buckets, and its crediting refill. -/
theorem test_policer :
    colourOf 1 0 ⟨800, 16800, 0, false⟩ 1520 = (1, false, true) ∧ colourOf 1 0 ⟨800, 15280, 0, false⟩ 532 = (0, true, true) ∧
    (PolWord.debit ⟨268, 14748, 0, false⟩ true true 8488).c = -8220 ∧ (PolWord.debit ⟨268, 14748, 0, false⟩ true true 8488).e = 6260 ∧
    let p := Profile.of (toLE 2621 3 ++ toLE 5243 3 ++ toLE 16000 3 ++ toLE 32000 3 ++ [9, 20] ++ toLE 0 2)
    (PolWord.credit ⟨-8220, 4740, 0, false⟩ p).c = -5599 ∧ (PolWord.credit ⟨-8220, 4740, 0, false⟩ p).e = 9983 := by decide +kernel

/-- 10_twin_wicks_beacon: stream 7,001, HIST_LEN 8, after the frame of REC_SEQ and HISTORY the next of a number: accepted,
REC_SEQ, HISTORY. -/
def recovers (seq hist next : Nat) : Bool × Nat × Nat :=
  let r := recover (toLE 0 2 ++ toLE seq 2 ++ toLE hist 8 ++ toLE 0 4 ++ [8, 5] ++ toLE 100 2 ++ toLE 1000 6 ++ toLE 0 6) 1000 next
  (r.accept, leAt r.entry 2 2, leAt r.entry 4 8)

theorem test_recovery :
    recovers 500 0xFF 500 = (false, 500, 0xFF) ∧ recovers 500 0xFF 501 = (true, 501, 0xFF) ∧ recovers 501 0xFF 503 = (true, 503, 0xFD) ∧
    recovers 503 0xFD 502 = (true, 503, 0xFF) ∧ recovers 503 0xFF 506 = (true, 506, 0xF9) ∧ recovers 506 0xF9 512 = (true, 512, 0x41) ∧
    recovers 512 0x41 530 = (false, 512, 0x41) := by decide +kernel

/-- 12_hbm_controller: chunk 5,000,000's bytes from 1,536, in extent 59, channel 6, PC 1 of stack 2, bank 44, row 10,545; its record. -/
theorem test_chunk :
    locate ((List.range 64).map (· + 27)) (5000000 * 2048 + 1536) = some ⟨59, 77, 44, 10545, 0⟩ ∧
    locate [9, 10] 320000000 = some ⟨10, 8, 44, 8497, 0⟩ := by decide +kernel

/-- 14_smiem_commands: packet A's parameters enter a new station, and the reply says OK, DETAIL 0. -/
theorem test_packetA :
    let p := toLE 1 2 ++ toLE 0 2 ++ [0x02, 0x1C, 0x44, 0x00, 0x34, 0x99, 0x2C, 0x01, 0xFF, 0x03, 0x03, 0, 0, 0, 0, 0]
    let d := (after (.tableInsert (rq p)) (live [] id)).m.dev
    (d.ents 1).length = 1 ∧ (d.out.map (fun o => match o with | .reply _ r => r.rep.status * 2 ^ 32 + r.rep.detail | _ => 1)) = [0] := by
  decide +kernel

/-- 14_smiem_commands: packet B's list for port 20 is accepted 5 µs before a second, and its RESULT gives CONFIG_CHANGE_TIME. -/
def packetB : Bytes :=
  [0, 1] ++ toLE 20 2 ++ toLE 0 2 ++ toLE 2 2 ++ toLE 2 2 ++ toLE 1726400000 6 ++ toLE 0 4 ++ toLE 500000 4 ++ toLE 0 4 ++ toLE 0 4 ++
    (toLE 25000 4 ++ [0x40, 0, 0, 0]) ++ (toLE 470000 4 ++ [0xBF, 0, 0, 0])

theorem test_packetB :
    let d := (after (.gateListLoad (rq packetB)) (cl (live [(F.PORT_CFG_PORT_TYPE 20, 1)] id) 1726400123 999995000 0)).m.dev
    (d.out.map (fun o => match o with | .reply _ r => r.rep.result | _ => 1)) = [0x66E6C67C0007A120] := by decide +kernel

end Sys2Proof.Tests
end

section
/-! Proofs: how a command on the device alone completes. -/

namespace Sys2Proof.Machine
open Sys2Proof

/-- Once POR_N is released, a command on the device alone ends with what its effect makes of the device. -/
theorem ends_onDev {c : Instr} {s : State} {f : Clock → Dev → Dev} {p : Dev → Prop} (hc : exec c s = onDev f s)
    (h : s.m.dev.boot.porN = true) (hp : p (f s.m.clk s.m.dev)) : ends c s p :=
  ⟨_, hc.trans (onDev_run f h), hp⟩

/-! READ_VOUT and TJ_SAMPLE: the one way each can stop. -/

theorem exec_readVout_fault {i : Fin 4} {v : Option Nat} {s : State}
    (h : (s.m.dev.boot.porN && s.m.dev.flag (F.PMBUS_SLOT_EN 0) && voutOutside s.m.dev v) = true) :
    exec (.readVout i v) s = .fault .outsideOperatingRange := if_pos h

theorem exec_readVout_next {i : Fin 4} {v : Option Nat} {s : State}
    (h : (s.m.dev.boot.porN && s.m.dev.flag (F.PMBUS_SLOT_EN 0) && voutOutside s.m.dev v) = false) :
    exec (.readVout i v) s = onDev (readVout v) s := if_neg (by simp [h])

theorem exec_tjSample_fault {tj : Int} {s : State} (hp : s.m.dev.boot.porN = true) (h : tj < -10 ∨ 105 < tj) :
    exec (.tjSample tj) s = .fault .outsideOperatingRange := if_pos (by simpa [hp] using h)

theorem exec_tjSample_next {tj : Int} {s : State} (h : ¬ (s.m.dev.boot.porN = true ∧ (tj < -10 ∨ 105 < tj))) :
    exec (.tjSample tj) s = onDev (tjSample tj) s := if_neg (by simpa using h)

theorem exec_readVout_fault_iff (i : Fin 4) (v : Option Nat) (s : State) :
    exec (.readVout i v) s = .fault .outsideOperatingRange ↔
      s.m.dev.boot.porN = true ∧ s.m.dev.flag (F.PMBUS_SLOT_EN 0) = true ∧ voutOutside s.m.dev v = true := by
  rw [← and_assoc, ← Bool.and_eq_true, ← Bool.and_eq_true]
  refine ⟨fun h => ?_, exec_readVout_fault⟩
  by_contra hn
  rw [exec_readVout_next (Bool.eq_false_of_not_eq_true hn)] at h
  cases h

theorem exec_tjSample_fault_iff (tj : Int) (s : State) :
    exec (.tjSample tj) s = .fault .outsideOperatingRange ↔ s.m.dev.boot.porN = true ∧ (tj < -10 ∨ 105 < tj) := by
  refine ⟨fun h => ?_, fun h => exec_tjSample_fault h.1 h.2⟩
  by_contra hn
  rw [exec_tjSample_next hn] at h
  cases h

/-! Every other command answers. -/

/-- A command that takes no reading answers a next state: its meaning acts on the device or on the machine, or is one of
POR_N's two. -/
theorem exec_answers {c : Instr} (s : State) (h1 : ∀ a b, c ≠ .readVout a b) (h2 : ∀ a, c ≠ .tjSample a) :
    ∃ t, exec c s = .next t := by
  cases c
  case readVout a b => exact absurd rfl (h1 a b)
  case tjSample a => exact absurd rfl (h2 a)
  all_goals exact ⟨_, rfl⟩

/-- A command answers a next state, or stops for a reading outside the operating range. -/
theorem exec_answers_or_stops (c : Instr) (s : State) :
    (∃ t, exec c s = .next t) ∨ exec c s = .fault .outsideOperatingRange := by
  cases c
  case readVout i v =>
    cases hr : (s.m.dev.boot.porN && s.m.dev.flag (F.PMBUS_SLOT_EN 0) && voutOutside s.m.dev v)
    · exact .inl ⟨_, exec_readVout_next hr⟩
    · exact .inr (exec_readVout_fault hr)
  case tjSample tj =>
    by_cases hr : s.m.dev.boot.porN = true ∧ (tj < -10 ∨ 105 < tj)
    · exact .inr (exec_tjSample_fault hr.1 hr.2)
    · exact .inl ⟨_, exec_tjSample_next hr⟩
  all_goals exact .inl ⟨_, rfl⟩

theorem exec_ne_refused (c : Instr) (s : State) (r : Refusal) : exec c s ≠ .refused r := by
  rcases exec_answers_or_stops c s with ⟨t, h⟩ | h <;> simp [h]

/-- Settles O3: every command's meaning answers a next state but for the two whose reading may lie outside the operating
range, and each of these stops exactly on its own condition. -/
theorem onlyOutsideRangeStops : Obligations.OnlyOutsideRangeStops :=
  ⟨fun _ s h1 h2 => exec_answers s h1 h2, exec_ne_refused, exec_tjSample_fault_iff, exec_readVout_fault_iff⟩

end Sys2Proof.Machine
end

section
/-! Proofs: the fields of a reset domain (R15, R549). -/

namespace Sys2Proof.Machine
open Sys2Proof

/-- An entry that a filter drops reads as not listed. -/
theorem tget?_filter_none {α : Type} {t : Tab α} {p : Nat × α → Bool} {k : Nat} (h : ∀ x, p (k, x) = false) :
    tget? (t.filter p) k = none := by
  induction t with
  | nil => rfl
  | cons e t ih =>
    obtain ⟨j, x⟩ := e
    rw [List.filter_cons]
    split
    · rename_i hp
      have hj : j ≠ k := by rintro rfl; simp [h] at hp
      rw [tget?_cons, if_neg hj, ih]
    · exact ih

/-- Writes of other fields leave a field as it is. -/
theorem Dev.get_setAll_of_ne {l : List (Fld × Nat)} {f : Fld} (d : Dev) (h : ∀ p ∈ l, f.key ≠ p.1.key) :
    (d.setAll l).get f = d.get f := by
  induction l generalizing d with
  | nil => rfl
  | cons p l ih =>
    rw [Dev.setAll, List.foldl_cons, ← Dev.setAll, ih _ fun q hq => h q (List.mem_cons_of_mem _ hq),
      Dev.get_set_of_ne d p.2 (h p List.mem_cons_self)]

/-- A field that is no fuse takes its reset value with the others of its domain. -/
theorem Dev.get_resetDomainFields {f : Fld} (d : Dev) (hl : f.lo < 32) (hf : ∀ g ∈ fuseFields, f.key ≠ g.key) :
    (d.resetDomainFields (blockOf f.off)).get f = f.reset % 2 ^ f.w := by
  have hk : f.key / 32 = f.off := by simp only [Fld.key]; omega
  unfold Dev.resetDomainFields
  rw [Dev.get_setAll_of_ne _ fun p hp => ?_]
  · simp only [Dev.get, tgetD]
    rw [tget?_filter_none fun _ => by simp [hk]]
    rfl
  · obtain ⟨g, hg, rfl⟩ := List.mem_map.mp hp
    exact hf g hg

/-- The fields that the reset of the Chandler's domain keeps. -/
def chandlerShown : List Fld := [F.CHANDLER_STATUS_SETPOINT, F.CHANDLER_STATUS_MOVING]

/-- Whatever else a domain's reset does, a field reads as resetDomainFields leaves it, but the two the Chandler keeps. -/
theorem Dev.get_domainBegin (d : Dev) (k : Clock) {n : Nat} {f : Fld} {v : Nat} (hn : domainBad n = false)
    (hreset : ∀ e : Dev, (e.resetDomainFields n).get f = v) (hshown : ∀ g ∈ chandlerShown, f.key ≠ g.key) :
    (d.domainBegin k n).get f = v := by
  unfold Dev.domainBegin
  dsimp only
  generalize (if [32, 33, 34, 35, 38, 41].contains n then _ else _ : Dev) = d1
  split
  · exact hreset _
  split
  case h_5 =>
    unfold Dev.resetChandler
    rw [Dev.get_setAll_of_ne _ fun p hp => ?_]
    · exact hreset _
    · obtain ⟨g, hg, rfl⟩ := List.mem_map.mp hp
      exact hshown g hg
  case h_10 =>
    obtain rfl : n = 43 := by
      simp only [domainBad, Bool.or_eq_false_iff, beq_eq_false_iff_ne, decide_eq_false_iff_not] at hn
      simp only [imp_false] at *
      omega
    exact hreset _
  all_goals exact hreset _

/-- Settles O16: whatever else a domain's reset does, the fields it leaves are those of resetDomainFields. -/
theorem domainFieldsReset : Obligations.DomainFieldsReset := by
  intro d k n f hn hl hb hf hs hm
  subst hb
  exact d.get_domainBegin k hn (fun e => e.get_resetDomainFields hl hf) (by simpa [chandlerShown] using ⟨hs, hm⟩)

end Sys2Proof.Machine
end

section
/-! Proofs: register writes by access code (R13, R403, R479). -/

namespace Sys2Proof.Machine
open Sys2Proof

/-- A field's part of the word that carries it alone. -/
theorem Fld.take_wordOf_one (f : Fld) (w : Nat) : f.take (wordOf [(f, f.take w)]) = f.take w := by
  simp [Fld.take, wordOf, bits]

/-- A field holds what fits its width. -/
theorem Dev.set_mod (d : Dev) (f : Fld) (v : Nat) : d.set f (v % 2 ^ f.w) = d.set f v := by
  simp [Dev.set]

/-- A write of a register turned away changes nothing. -/
theorem Dev.barWrite_deaf {d : Dev} {off : Nat} (k : Clock) (w : Nat) (h : d.deaf off = true) : d.barWrite k off w = d := by
  simp [Dev.barWrite, Dev.regWrite, h]

/-- A write of a reserved offset changes nothing. -/
theorem Dev.barWrite_reserved (d : Dev) (k : Clock) {off : Nat} (w : Nat) (h : fieldsAt off = []) : d.barWrite k off w = d := by
  simp [Dev.barWrite, Dev.regWrite, carriedFields, h]

/-- Read-only fields take nothing of a word. -/
theorem Dev.writeFields_ro (d : Dev) {fs : List Fld} (w : Nat) (h : ∀ f ∈ fs, f.acc = .ro) : d.writeFields fs w = d := by
  induction fs with
  | nil => rfl
  | cons f fs ih =>
    have hf : d.writeField f (f.take w) = d := by simp [Dev.writeField, h f List.mem_cons_self]
    rw [Dev.writeFields, List.foldl_cons, hf]
    exact ih fun g hg => h g (List.mem_cons_of_mem _ hg)

/-- A write of a live register that holds one field, with no lock and no effect of its own: the field takes its part. -/
theorem Dev.barWrite_one {d : Dev} {k : Clock} {off : Nat} {f : Fld} (w : Nat) (hd : d.deaf off = false) (hf : fieldsAt off = [f])
    (hw : f.lo + f.w ≤ 32 ∧ 0 < f.w) (hk : f.acc ≠ .krw)
    (hacts : ∀ word, d.writeActs k off [f] word = d.writeFields [f] word) :
    d.barWrite k off w = d.writeField f (f.take w) := by
  rw [barWrite_plain w hd (by simpa [hf] using hw) (by simp [hf]) (by simpa [hf] using hk), hf, hacts]
  exact congrArg (d.writeField f) (f.take_wordOf_one w)

theorem fieldsAt_24 : fieldsAt 0x24 = [F.GL_LOCKED, F.GL_KEY_FAILS] := by decide
theorem fieldsAt_80 : fieldsAt 0x80 = [F.GL_CONFIG_GEN] := by decide
theorem fieldsAt_A0 : fieldsAt 0xA0 = [F.GL_FP_EN] := by decide
theorem fieldsAt_D0 : fieldsAt 0xD0 = [F.GL_GLOBAL_STICKY] := by decide
theorem fieldsAt_200040 : fieldsAt 0x200040 = [F.TU_PPS_OUT_PERIOD] := by decide

/-- A write of a register of the global block that holds read-only fields alone changes nothing. -/
theorem Dev.barWrite_ro (d : Dev) (k : Clock) {off : Nat} (w : Nat) (h0 : fieldsAt off ≠ [])
    (hw : ∀ f ∈ fieldsAt off, f.lo + f.w ≤ 32 ∧ 0 < f.w) (hro : ∀ f ∈ fieldsAt off, f.acc = .ro)
    (hacts : ∀ fs word, d.writeActs k off fs word = d.writeFields fs word) : d.barWrite k off w = d := by
  cases hd : d.deaf off
  · rw [barWrite_plain w hd hw h0 (fun f hf => by simp [hro f hf]), hacts]
    exact d.writeFields_ro _ hro
  · exact Dev.barWrite_deaf k w hd

/-- A write of 32 bits by whoever may make it is a write of the whole register. -/
theorem ends_registerWrite {who : Requester} {off : Nat} {v : Word} {s : State} {p : Dev → Prop} (h : s.m.dev.boot.porN = true)
    (hp : p (s.m.dev.barWrite s.m.clk off v.toNat)) : ends (.registerWrite who off v false) s p :=
  ends_onDev rfl h hp

/-- A write of more than 32 bits sets bit 6 of CXL_STICKY when it is the host's (R403). -/
theorem ends_registerWrite_wide {who : Requester} {off : Nat} {v : Word} {s : State} {p : Dev → Prop} (h : s.m.dev.boot.porN = true)
    (hp : p (if who = .host then s.m.dev.setBit F.CXL_STICKY 6 else s.m.dev)) : ends (.registerWrite who off v true) s p :=
  ends_onDev rfl h hp

/-- PPS_OUT_PERIOD, a RW field: it takes the value. -/
theorem barWrite_ppsOutPeriod {d : Dev} (k : Clock) (w : Nat) (hd : d.deaf 0x200040 = false) :
    d.barWrite k 0x200040 w = d.set F.TU_PPS_OUT_PERIOD w := by
  rw [Dev.barWrite_one w hd fieldsAt_200040 (by decide) (by decide) (fun _ => rfl)]
  have htake : F.TU_PPS_OUT_PERIOD.take w = w % 2 ^ F.TU_PPS_OUT_PERIOD.w := by simp [Fld.take, bits, F.TU_PPS_OUT_PERIOD]
  rw [htake]
  exact d.set_mod F.TU_PPS_OUT_PERIOD w

/-- GLOBAL_STICKY, a W1C field: a 1 clears a bit. -/
theorem barWrite_globalSticky {d : Dev} (k : Clock) (w : Nat) (hd : d.deaf 0xD0 = false) :
    d.barWrite k 0xD0 w = d.set F.GL_GLOBAL_STICKY (d.get F.GL_GLOBAL_STICKY &&& (31 ^^^ w % 32)) := by
  rw [Dev.barWrite_one w hd fieldsAt_D0 (by decide) (by decide) (fun _ => rfl)]
  have htake : F.GL_GLOBAL_STICKY.take w = w % 32 := by simp [Fld.take, bits, F.GL_GLOBAL_STICKY]
  rw [htake]
  rfl

/-- FP_EN, a SRW field: its value is staged. -/
theorem barWrite_fpEn {d : Dev} (k : Clock) (w : Nat) (hd : d.deaf 0xA0 = false) :
    d.barWrite k 0xA0 w = { d with staged := tset d.staged F.GL_FP_EN.key (w % 2) } := by
  rw [Dev.barWrite_one w hd fieldsAt_A0 (by decide) (by decide) (fun _ => rfl)]
  have htake : F.GL_FP_EN.take w = w % 2 := by simp [Fld.take, bits, F.GL_FP_EN]
  rw [htake]
  simp [Dev.writeField, Dev.stage, F.GL_FP_EN]

/-- A reserved offset, CONFIG_GEN and the register of LOCKED and KEY_FAILS keep what they hold. -/
theorem barWrite_unwritable (d : Dev) (k : Clock) (w : Nat) {off : Nat} (h : fieldsAt off = [] ∨ off = 0x80 ∨ off = 0x24) :
    d.barWrite k off w = d := by
  rcases h with h | rfl | rfl
  · exact d.barWrite_reserved k w h
  · exact d.barWrite_ro k w (by simp [fieldsAt_80]) (by rw [fieldsAt_80]; decide) (by rw [fieldsAt_80]; decide) (fun _ _ => rfl)
  · exact d.barWrite_ro k w (by simp [fieldsAt_24]) (by rw [fieldsAt_24]; decide) (by rw [fieldsAt_24]; decide) (fun _ _ => rfl)

/-- Settles O20: one register of each access code, by what its write comes to. -/
theorem registerWriteByCode : Obligations.RegisterWriteByCode := by
  intro who v s
  refine ⟨fun h => ends_registerWrite h.1 ?_, fun h => ends_registerWrite h.1 ?_, fun h => ends_registerWrite h.1 ?_,
    fun h off ho => ends_registerWrite h ?_, fun h off => ends_registerWrite_wide h ⟨fun hh => ?_, fun hn => if_neg hn⟩⟩
  · rw [barWrite_ppsOutPeriod _ _ h.2]
    exact Dev.sets_one _ _ _
  · rw [barWrite_globalSticky _ _ h.2]
    exact Dev.sets_one _ _ _
  · exact barWrite_fpEn _ _ h.2
  · exact barWrite_unwritable _ _ _ ho
  · rw [if_pos hh]
    exact Dev.sets_one _ _ _

end Sys2Proof.Machine
end

section
/-! Proofs: readings (R12, R86, R87, R103). -/

namespace Sys2Proof.Machine
open Sys2Proof

/-! READ_VOUT and READ_POUT. -/

theorem voutOutside_iff (d : Dev) (r : Nat) :
    voutOutside d (some r) = true ↔ linear16 d.chan.voutMode r < vddLow ∨ vddHigh < linear16 d.chan.voutMode r := by
  simp [voutOutside]

/-- A reading within the range is one sample of v_mean. -/
theorem ends_readVout_some {s : State} (i : Fin 4) {r : Nat} (hp : s.m.dev.boot.porN = true)
    (hen : s.m.dev.flag (F.PMBUS_SLOT_EN 0) = true) (hlo : vddLow ≤ linear16 s.m.dev.chan.voutMode r)
    (hhi : linear16 s.m.dev.chan.voutMode r ≤ vddHigh) :
    ends (.readVout i (some r)) s fun b => b = { s.m.dev with
      chan := { s.m.dev.chan with vout := s.m.dev.chan.vout ++ [linear16 s.m.dev.chan.voutMode r] } } := by
  have hin : voutOutside s.m.dev (some r) = false := by
    rw [← Bool.not_eq_true, voutOutside_iff]
    omega
  exact ends_onDev (exec_readVout_next (by simp [hin])) hp (if_pos hen)

/-- A failed reading gives no sample. -/
theorem ends_readVout_none {s : State} (i : Fin 4) (hp : s.m.dev.boot.porN = true) :
    ends (.readVout i none) s fun b => b = s.m.dev :=
  ends_onDev (exec_readVout_next (by simp [voutOutside])) hp rfl

theorem readPout_some {d : Dev} {i : Nat} (r : Nat) (k : Clock) (hen : d.flag (F.PMBUS_SLOT_EN i) = true) :
    readPout i (some r) k d = { d with chan := { d.chan with pout := tset d.chan.pout i (linear11 r) } } := by
  simp only [readPout, hen, Bool.not_true, Bool.false_eq_true, if_false, Dev.onChan]

theorem readPout_none {d : Dev} {i : Nat} (k : Clock) (hen : d.flag (F.PMBUS_SLOT_EN i) = true) :
    readPout i none k d = { d with chan := { d.chan with poutFail := d.chan.poutFail ||| 2 ^ i } } := by
  simp only [readPout, hen, Bool.not_true, Bool.false_eq_true, if_false, Dev.onChan]

/-! TJ_SAMPLE. -/

theorem bit_eq_testBit (v n : Nat) : bit v n = v.testBit n := by
  simp [bit, Nat.testBit_eq_decide_div_mod_eq, beq_eq_decide]

/-- A bit set in a field reads 1. -/
theorem Dev.bit_setBit (d : Dev) {f : Fld} {n : Nat} (h : n < f.w) : bit ((d.setBit f n).get f) n = true := by
  rw [Dev.setBit_eq, Dev.get_set_self, bit_eq_testBit, Nat.testBit_mod_two_pow, Nat.testBit_or, Nat.testBit_two_pow_self]
  simp [h]

/-- A flag of CHANDLER_FLAGS that is set reads 1: its event is a report. -/
theorem Dev.bit_chFlag (d : Dev) (k : Clock) {n : Nat} (h : n < 12) :
    bit ((d.chFlag k n).get F.CHANDLER_FLAGS_FLAGS) n = true := by
  have hevent := Dev.alike_eventOf ((d.setBit F.CHANDLER_FLAGS_FLAGS n).onChan fun c => { c with flags := c.flags ||| 2 ^ n })
    k 37 n (chanUnit n) (by omega)
  rw [Dev.chFlag, hevent.get_eq _ (by decide)]
  exact d.bit_setBit h

theorem Dev.chFlag_chan (d : Dev) (k : Clock) {n : Nat} (h : n < 12) :
    (d.chFlag k n).chan = { d.chan with flags := d.chan.flags ||| 2 ^ n } :=
  (Dev.alike_eventOf _ k 37 n _ (by omega)).chan_eq

/-- Raising the plan changes planned setpoints alone. -/
theorem Dev.planAtLeast_keeps (d : Dev) (mv : Nat) :
    (d.planAtLeast mv).chan = d.chan ∧ (d.planAtLeast mv).get F.CHANDLER_FLAGS_FLAGS = d.get F.CHANDLER_FLAGS_FLAGS := by
  refine List.foldlRecOn (motive := fun b : Dev => b.chan = d.chan ∧ b.get F.CHANDLER_FLAGS_FLAGS = d.get F.CHANDLER_FLAGS_FLAGS)
    (List.range 16) _ ⟨rfl, rfl⟩ fun b hb i _ => ?_
  split
  · refine ⟨hb.1, (Dev.get_set_of_ne b mv ?_).trans hb.2⟩
    simp only [Fld.key, F.CHANDLER_FLAGS_FLAGS, F.PLAN_SETPOINT]
    omega
  · exact hb

/-- A raise leaves the samples, the column and the flags. -/
theorem Dev.raiseTo_keeps (d : Dev) (mv : Nat) :
    (d.raiseTo mv).chan.tjs = d.chan.tjs ∧ (d.raiseTo mv).chan.column = d.chan.column ∧
      (d.raiseTo mv).get F.CHANDLER_FLAGS_FLAGS = d.get F.CHANDLER_FLAGS_FLAGS := by
  unfold Dev.raiseTo
  split
  · refine ⟨rfl, rfl, ?_⟩
    exact (Dev.get_set_of_ne (f := F.CHANDLER_STATUS_MOVING) (d.set F.CHANDLER_STATUS_SETPOINT mv) 1 (by decide)).trans
      (Dev.get_set_of_ne d mv (by decide))
  · exact ⟨rfl, rfl, rfl⟩

/-- A sample that the column in use covers is kept, and nothing else changes. -/
theorem tjSample_covered {d : Dev} {tj : Int} (k : Clock)
    (h : d.flag F.CHANDLER_STATUS_CALIBRATED = false ∨ tj ≤ d.chan.column) :
    tjSample tj k d = { d with chan := { d.chan with tjs := d.chan.tjs ++ [tj] } } := by
  refine if_neg ?_
  rw [Bool.and_eq_true, decide_eq_true_eq]
  rintro ⟨hc, ht⟩
  rcases h with h | h
  · rw [h] at hc; cases hc
  · omega

/-- A sample above the column's bound brings the 105 °C column and flag 7. -/
theorem tjSample_above {d : Dev} {tj : Int} (k : Clock) (hc : d.flag F.CHANDLER_STATUS_CALIBRATED = true)
    (h : (d.chan.column : Int) < tj) :
    (tjSample tj k d).chan.tjs = d.chan.tjs ++ [tj] ∧ (tjSample tj k d).chan.column = 105 ∧
      bit ((tjSample tj k d).get F.CHANDLER_FLAGS_FLAGS) 7 = true := by
  unfold tjSample
  dsimp only
  rw [if_pos (by simp [hc, h])]
  generalize Dev.setpointIn _ _ 105 = mv
  generalize hhot : Dev.onChan (d.onChan _) _ = hot
  obtain ⟨hptjs, hpflags⟩ := (hot.chFlag k 7).planAtLeast_keeps mv
  obtain ⟨htjs, hcol, hflags⟩ := ((hot.chFlag k 7).planAtLeast mv).raiseTo_keeps mv
  rw [htjs, hcol, hflags, hpflags, hptjs, hot.chFlag_chan k (by decide)]
  subst hhot
  exact ⟨rfl, rfl, Dev.bit_chFlag _ k (by decide)⟩

theorem ends_tjSample {s : State} {tj : Int} {p : Dev → Prop} (hp : s.m.dev.boot.porN = true) (hlo : -10 ≤ tj) (hhi : tj ≤ 105)
    (h : p (tjSample tj s.m.clk s.m.dev)) : ends (.tjSample tj) s p :=
  ends_onDev (exec_tjSample_next (by omega)) hp h

end Sys2Proof.Machine
end

section
/-! Proofs: the end of a sentinel window (R72, R73, R74). -/

namespace Sys2Proof.Machine
open Sys2Proof

/-! The lowest of the rates. -/

/-- The ring of the lowest rate, the first of equals. -/
def lowestRing (rate : Nat → Nat) (n : Nat) : Nat := (List.range n).foldl (fun a i => if rate i < rate a then i else a) 0

theorem lowestRing_spec (rate : Nat → Nat) (n : Nat) :
    lowestRing rate (n + 1) ≤ n ∧ (∀ i ≤ n, rate (lowestRing rate (n + 1)) ≤ rate i) ∧
      ∀ i < lowestRing rate (n + 1), rate (lowestRing rate (n + 1)) < rate i := by
  induction n with
  | zero => simp [lowestRing]
  | succ n ih =>
    obtain ⟨hle, hmin, hfirst⟩ := ih
    have hstep : lowestRing rate (n + 2) =
        if rate (n + 1) < rate (lowestRing rate (n + 1)) then n + 1 else lowestRing rate (n + 1) := by
      rw [lowestRing, List.range_succ, List.foldl_append]; rfl
    rw [hstep]
    split
    · rename_i hlt
      refine ⟨le_rfl, fun i hi => ?_, fun i hi => hlt.trans_le (hmin i (by omega))⟩
      rcases Nat.lt_or_eq_of_le hi with hi | rfl
      · exact hlt.le.trans (hmin i (by omega))
      · exact le_rfl
    · rename_i hge
      refine ⟨by omega, fun i hi => ?_, hfirst⟩
      rcases Nat.lt_or_eq_of_le hi with hi | rfl
      · exact hmin i (by omega)
      · omega

/-! What is published. -/

/-- The fields of a ring that a window's end publishes, with their values. -/
def ringWrites (l : Nat) (count rate : Nat → Nat) (mixed i : Nat) : List (Fld × Nat) :=
  [(F.SENTINEL_COUNT_COUNT l i, count i), (F.SENTINEL_RATE_STAGE_RATE l i, rate i), (F.SENTINEL_RATE_MIXED l i, mixed),
    (F.SENTINEL_RATE_VALID l i, 1)]

/-- The fields of the lowest rate. -/
def minWrites (l : Nat) (rate : Nat → Nat) (best : Nat) : List (Fld × Nat) :=
  [(F.SENTINEL_MIN_MIN_RATE l, rate best), (F.SENTINEL_MIN_MIN_INDEX l, best), (F.SENTINEL_MIN_VALID l, 1)]

/-- All the fields of a lantern's sentinels that a window's end publishes. -/
def windowWrites (l : Nat) (count rate : Nat → Nat) (mixed best : Nat) : List (Fld × Nat) :=
  (List.range 8).flatMap (ringWrites l count rate mixed) ++ minWrites l rate best

/-- Which fields those are. -/
def windowFlds (l : Nat) : List Fld := (windowWrites l (fun _ => 0) (fun _ => 0) 0 0).map Prod.fst

theorem windowWrites_flds (l : Nat) (count rate : Nat → Nat) (mixed best : Nat) :
    (windowWrites l count rate mixed best).map Prod.fst = windowFlds l := rfl

theorem windowKeys_shift (l : Nat) : (F.SENTINEL_MIN_SENTINEL_LOW l :: windowFlds l).map Fld.key =
    ((F.SENTINEL_MIN_SENTINEL_LOW 0 :: windowFlds 0).map Fld.key).map (· + l * 0x1000000) := by
  simp only [windowFlds, windowWrites, ringWrites, minWrites, List.map_cons, List.map_append, List.map_flatMap, List.map_nil, Fld.key,
    F.SENTINEL_MIN_SENTINEL_LOW, F.SENTINEL_COUNT_COUNT, F.SENTINEL_RATE_STAGE_RATE, F.SENTINEL_RATE_MIXED, F.SENTINEL_RATE_VALID,
    F.SENTINEL_MIN_MIN_RATE, F.SENTINEL_MIN_MIN_INDEX, F.SENTINEL_MIN_VALID]
  ring_nf

/-- The fields published stand at different places, and none is SENTINEL_LOW. -/
theorem windowFlds_nodup (l : Nat) : ((F.SENTINEL_MIN_SENTINEL_LOW l :: windowFlds l).map Fld.key).Nodup := by
  rw [windowKeys_shift]
  exact List.Nodup.map (add_left_injective _) (by decide)

/-- No report changes a field published, or SENTINEL_LOW. -/
theorem windowFlds_still : ∀ l : Fin 32, ∀ f ∈ F.SENTINEL_MIN_SENTINEL_LOW l :: windowFlds l, f.still = true := by decide

theorem windowWrites_fst_mem {l : Nat} {count rate : Nat → Nat} {mixed best : Nat} {p : Fld × Nat}
    (h : p ∈ windowWrites l count rate mixed best) : p.1 ∈ windowFlds l := by
  rw [← windowWrites_flds l count rate mixed best]
  exact List.mem_map_of_mem h

theorem ringWrites_subset {l i : Nat} {count rate : Nat → Nat} {mixed : Nat} (best : Nat) (hi : i < 8) :
    ringWrites l count rate mixed i ⊆ windowWrites l count rate mixed best := fun _ hp =>
  List.mem_append_left _ (List.mem_flatMap.mpr ⟨i, List.mem_range.mpr hi, hp⟩)

theorem minWrites_subset {l : Nat} {count rate : Nat → Nat} {mixed best : Nat} :
    minWrites l rate best ⊆ windowWrites l count rate mixed best := List.subset_append_right _ _

/-- All the fields published take their values together. -/
theorem Dev.get_windowWrites (d : Dev) (l : Fin 32) {count rate : Nat → Nat} {mixed best : Nat} {p : Fld × Nat}
    (hp : p ∈ windowWrites l count rate mixed best) :
    (d.setAll (windowWrites l count rate mixed best)).get p.1 = p.2 % 2 ^ p.1.w := by
  have hkeys : ((windowWrites l count rate mixed best).map fun p => p.1.key).Nodup := by
    have h := (List.nodup_cons.mp (windowFlds_nodup l)).2
    rwa [← windowWrites_flds l count rate mixed best, List.map_map] at h
  exact (Dev.sets_setAll _ d hkeys).2.1 p hp

/-- Writes of fields change nothing but what the fields hold. -/
theorem Dev.setAll_eq (d : Dev) (l : List (Fld × Nat)) : d.setAll l = { d with fld := (d.setAll l).fld } := by
  induction l generalizing d with
  | nil => rfl
  | cons p l ih => exact ih (d.set p.1 p.2)

theorem Dev.setAll_frames (d : Dev) (l : List (Fld × Nat)) : (d.setAll l).frames = d.frames := by rw [d.setAll_eq l]
theorem Dev.setAll_lanterns (d : Dev) (l : List (Fld × Nat)) : (d.setAll l).lanterns = d.lanterns := by rw [d.setAll_eq l]

/-- Writes of several lists of fields are the writes of one list. -/
theorem Dev.foldl_setAll (d : Dev) (g : Nat → List (Fld × Nat)) (is : List Nat) (l : List (Fld × Nat)) :
    (is.foldl (fun d i => d.setAll (g i)) d).setAll l = d.setAll (is.flatMap g ++ l) := by
  simp only [Dev.setAll, List.foldl_append, List.foldl_flatMap]

/-! The command. -/

/-- The handshake count of a ring. -/
def windowCount (counts : List Nat) (i : Nat) : Nat := counts.getD i 0 % 2 ^ 24

/-- The stage rate of a ring in MHz (R72). -/
def Dev.windowRate (d : Dev) (l : Nat) (counts : List Nat) (i : Nat) : Nat :=
  stageRate (windowCount counts i) (d.get (F.SENTINEL_RATIO_RATIO l i)) (sentinelTicks (d.get (F.SENTINEL_CTRL_WINDOW_SEL l))) % 65536

/-- The fields a window's end publishes, with their values. -/
def Dev.published (d : Dev) (l : Nat) (counts : List Nat) (mixed : Nat) : List (Fld × Nat) :=
  windowWrites l (windowCount counts) (d.windowRate l counts) mixed (lowestRing (d.windowRate l counts) 8)

/-- The device that shows the window. -/
def Dev.windowShown (d : Dev) (l : Nat) (counts : List Nat) (mixed moved : Nat) : Dev :=
  (d.setAll (d.published l counts mixed)).onChan fun c => { c with moved := moved }

/-- The alarm of a rate below the floor, on the device that shows the window. -/
def Dev.sentinelAlarm (d : Dev) (k : Clock) (l : Nat) (alarm : Bool) : Dev :=
  let d1 := d.setB (F.SENTINEL_MIN_SENTINEL_LOW l) true
  if alarm then d1.event k (16 * l + 12) (flc l 255 255) else d1

@[simp] theorem Dev.get_onChan (d : Dev) (f : Chan → Chan) (g : Fld) : (d.onChan f).get g = d.get g := rfl
@[simp] theorem Dev.onChan_frames (d : Dev) (f : Chan → Chan) : (d.onChan f).frames = d.frames := rfl
@[simp] theorem Dev.onChan_lanterns (d : Dev) (f : Chan → Chan) : (d.onChan f).lanterns = d.lanterns := rfl

/-- The window is shown in the fields published; frames and lanterns are as they were. -/
theorem Dev.windowShown_spec (d : Dev) (l : Fin 32) (counts : List Nat) (mixed moved : Nat) :
    (∀ p ∈ d.published l counts mixed, (d.windowShown l counts mixed moved).get p.1 = p.2 % 2 ^ p.1.w) ∧
      (d.windowShown l counts mixed moved).frames = d.frames ∧ (d.windowShown l counts mixed moved).lanterns = d.lanterns := by
  unfold Dev.windowShown
  exact ⟨fun p hp => (Dev.get_onChan _ _ p.1).trans (d.get_windowWrites l hp), (Dev.onChan_frames _ _).trans (d.setAll_frames _),
    (Dev.onChan_lanterns _ _).trans (d.setAll_lanterns _)⟩

/-- The end of a window publishes its fields, and gives the alarm when the lowest rate lies below the floor. -/
theorem sentinelEnd_eq {d : Dev} {l : Nat} (counts : List Nat) (k : Clock)
    (hen : d.flag (F.SENTINEL_CTRL_SENTINEL_EN l) = true) (hheld : d.isHeld l = false) :
    ∃ mixed moved : Nat, sentinelEnd l counts k d =
      if d.get (F.SENTINEL_FLOOR l) ≤ d.windowRate l counts (lowestRing (d.windowRate l counts) 8) then
        d.windowShown l counts mixed moved
      else (d.windowShown l counts mixed moved).sentinelAlarm k l (d.flag (F.SENTINEL_CTRL_ALARM_EN l)) := by
  refine ⟨b2n (bit d.chan.moved l || d.flag F.CHANDLER_STATUS_MOVING),
    if bit d.chan.moved l && !d.flag F.CHANDLER_STATUS_MOVING then d.chan.moved - 2 ^ l else d.chan.moved, ?_⟩
  unfold Dev.windowShown Dev.published windowWrites
  rw [← Dev.foldl_setAll]
  exact if_neg (by simp [hen, hheld])

/-- The alarm sets SENTINEL_LOW and leaves the fields published. -/
theorem Dev.sentinelAlarm_spec (d : Dev) (k : Clock) (l : Fin 32) (alarm : Bool) :
    (d.sentinelAlarm k l alarm).get (F.SENTINEL_MIN_SENTINEL_LOW l) = 1 ∧
      (∀ f ∈ windowFlds l, (d.sentinelAlarm k l alarm).get f = d.get f) ∧
      (d.sentinelAlarm k l alarm).frames = d.frames ∧ (d.sentinelAlarm k l alarm).lanterns = d.lanterns := by
  have halike : (d.setB (F.SENTINEL_MIN_SENTINEL_LOW l) true).alike (d.sentinelAlarm k l alarm) := by
    unfold Dev.sentinelAlarm
    dsimp only
    split
    · exact Dev.alike_event _ _ _ _ (by omega)
    · exact Dev.alike_refl _
  have hstill := windowFlds_still l
  refine ⟨?_, fun f hf => ?_, halike.frames_eq, halike.lanterns_eq⟩
  · rw [halike.get_eq _ (hstill _ List.mem_cons_self)]
    exact Dev.get_set_self d _ 1
  · rw [halike.get_eq f (hstill f (List.mem_cons_of_mem _ hf))]
    refine Dev.get_set_of_ne d _ fun e => (List.nodup_cons.mp (windowFlds_nodup l)).1 ?_
    rw [← e]
    exact List.mem_map_of_mem hf

/-- What the end of a window leaves: every field published, SENTINEL_LOW below the floor, frames and lanterns as they were. -/
theorem sentinelEnd_spec {d : Dev} {l : Fin 32} (counts : List Nat) (k : Clock)
    (hen : d.flag (F.SENTINEL_CTRL_SENTINEL_EN l) = true) (hheld : d.isHeld l = false) :
    ∃ mixed : Nat, (∀ p ∈ d.published l counts mixed, (sentinelEnd l counts k d).get p.1 = p.2 % 2 ^ p.1.w) ∧
      (d.windowRate l counts (lowestRing (d.windowRate l counts) 8) < d.get (F.SENTINEL_FLOOR l) →
        (sentinelEnd l counts k d).get (F.SENTINEL_MIN_SENTINEL_LOW l) = 1) ∧
      (sentinelEnd l counts k d).frames = d.frames ∧ (sentinelEnd l counts k d).lanterns = d.lanterns := by
  obtain ⟨mixed, moved, heq⟩ := sentinelEnd_eq counts k hen hheld
  obtain ⟨hpub, hframes, hlanterns⟩ := d.windowShown_spec l counts mixed moved
  refine ⟨mixed, ?_⟩
  rw [heq]
  split
  · rename_i hfloor
    exact ⟨hpub, fun h => absurd h (by omega), hframes, hlanterns⟩
  · obtain ⟨hlow, hkeep, hf, hl⟩ :=
      (d.windowShown l counts mixed moved).sentinelAlarm_spec k l (d.flag (F.SENTINEL_CTRL_ALARM_EN l))
    exact ⟨fun p hp => (hkeep p.1 (windowWrites_fst_mem hp)).trans (hpub p hp), fun _ => hlow, hf.trans hframes,
      hl.trans hlanterns⟩

/-- The end of a window, read off field by field. -/
theorem sentinelEnd_fields {d : Dev} {l : Fin 32} (counts : List Nat) (k : Clock)
    (hen : d.flag (F.SENTINEL_CTRL_SENTINEL_EN l) = true) (hheld : d.isHeld l = false) :
    let b := sentinelEnd l counts k d
    let rate := d.windowRate l counts
    let j := lowestRing rate 8
    (∀ i < 8, b.get (F.SENTINEL_COUNT_COUNT l i) = windowCount counts i ∧ b.get (F.SENTINEL_RATE_STAGE_RATE l i) = rate i ∧
      b.get (F.SENTINEL_RATE_VALID l i) = 1) ∧
    (b.get (F.SENTINEL_MIN_MIN_RATE l) = rate j ∧ b.get (F.SENTINEL_MIN_MIN_INDEX l) = j ∧
      (rate j < d.get (F.SENTINEL_FLOOR l) → b.get (F.SENTINEL_MIN_SENTINEL_LOW l) = 1)) ∧
    b.get (F.SENTINEL_MIN_VALID l) = 1 ∧ b.frames = d.frames ∧ b.lanterns = d.lanterns := by
  obtain ⟨mixed, hpub, hlow, hframe⟩ := sentinelEnd_spec counts k hen hheld
  have hring := fun i (hi : i < 8) p hp => hpub p (ringWrites_subset _ hi hp)
  have hbest := fun p hp => hpub p (minWrites_subset hp)
  simp only [ringWrites, minWrites, List.forall_mem_cons] at hring hbest
  obtain ⟨hrate, hindex, hvalid, -⟩ := hbest
  refine ⟨fun i hi => ?_, ⟨?_, ?_, hlow⟩, hvalid, hframe⟩
  · obtain ⟨hcount, hrate, -, hvalid, -⟩ := hring i hi
    exact ⟨hcount.trans (Nat.mod_mod _ _), hrate.trans (Nat.mod_mod _ _), hvalid⟩
  · exact hrate.trans (Nat.mod_mod _ _)
  · exact hindex.trans (Nat.mod_eq_of_lt (Nat.lt_succ_of_le (lowestRing_spec _ 7).1))

end Sys2Proof.Machine
end

section
/-! Proofs: readings and sentinels together. -/

namespace Sys2Proof.Machine
open Sys2Proof

/-- Settles O43: each reading by what it comes to, and the fields a window's end publishes read off one by one. -/
theorem readingsAndSentinels : Obligations.ReadingsAndSentinels := by
  refine ⟨fun s i r tj hp => ⟨fun hen => ⟨ends_readVout_some i hp hen, fun hout => ?_⟩, ends_readVout_none i hp,
    fun hen => ⟨ends_onDev rfl hp (readPout_some r _ hen), ends_onDev rfl hp (readPout_none _ hen)⟩,
    fun hlo hhi => ⟨fun h => ends_tjSample hp hlo hhi (tjSample_covered _ h), fun hc h =>
      ends_tjSample hp hlo hhi (tjSample_above _ hc h)⟩, exec_tjSample_fault hp⟩, fun s l counts hp hen hheld => ?_⟩
  · exact (exec_readVout_fault_iff i _ s).mpr ⟨hp, hen, (voutOutside_iff _ r).mpr hout⟩
  · obtain ⟨hring, ⟨hrate, hindex, hlow⟩, hrest⟩ := sentinelEnd_fields counts s.m.clk hen hheld
    obtain ⟨hle, hmin, hfirst⟩ := lowestRing_spec (s.m.dev.windowRate l counts) 7
    exact ends_onDev rfl hp
      ⟨hring, ⟨_, Nat.lt_succ_of_le hle, hrate, hindex, fun i hi => hmin i (Nat.le_of_lt_succ hi), hfirst, hlow⟩, hrest⟩

end Sys2Proof.Machine
end

section
/-! Proofs: lanterns and their stages as tables. -/

namespace Sys2Proof.Machine
open Sys2Proof

@[simp] theorem Dev.lantern_setLantern_self (d : Dev) (l : Nat) (x : Lantern) : (d.setLantern l x).lantern l = x :=
  tgetD_tput_self d.lanterns l Lantern.idle x

/-- Devices that hold the same lanterns have the same stages. -/
theorem Dev.lantern_congr {a b : Dev} (h : b.lanterns = a.lanterns) (l : Nat) : b.lantern l = a.lantern l := by
  simp only [Dev.lantern, h]

theorem Dev.stageList_congr {a b : Dev} (h : b.lanterns = a.lanterns) (l i : Nat) : b.stageList l i = a.stageList l i := by
  simp only [Dev.stageList, Dev.lantern, h]

@[simp] theorem Dev.stageList_setStage_self (d : Dev) (l i : Nat) (hs : List Header) : (d.setStage l i hs).stageList l i = hs := by
  simp only [Dev.stageList, Dev.setStage, Dev.lantern_setLantern_self, tgetD_tput_self]

theorem Dev.stageList_setStage_of_ne (d : Dev) (l : Nat) {i j : Nat} (hs : List Header) (h : j ≠ i) :
    (d.setStage l i hs).stageList l j = d.stageList l j := by
  simp only [Dev.stageList, Dev.setStage, Dev.lantern_setLantern_self, tgetD_tput_of_ne _ _ _ _ h]

theorem Dev.stageList_setHeader (d : Dev) (l i : Nat) (h : Header) :
    (d.setHeader l i h).stageList l i = (d.stageList l i).map fun x => if x.pos = h.pos then h else x :=
  d.stageList_setStage_self l i _

/-- Putting the oldest header back leaves the others, whose positions differ. -/
theorem Dev.stageList_setHeader_head {d : Dev} {l i : Nat} {h x : Header} {hs : List Header} (hl : d.stageList l i = h :: hs)
    (hx : x.pos = h.pos) (hne : ∀ y ∈ hs, y.pos ≠ h.pos) : (d.setHeader l i x).stageList l i = x :: hs := by
  have hrest : hs.map (fun y => if y.pos = x.pos then x else y) = hs.map id :=
    List.map_congr_left fun y hy => if_neg (hx ▸ hne y hy)
  rw [d.stageList_setHeader, hl, List.map_cons, if_pos hx.symm, hrest, List.map_id]

/-- A header put back stands where it stood. -/
theorem Dev.getElem?_setHeader {d : Dev} {l i n : Nat} {h x : Header} (hl : (d.stageList l i)[n]? = some h)
    (hx : x.pos = h.pos) : ((d.setHeader l i x).stageList l i)[n]? = some x := by
  rw [d.stageList_setHeader, List.getElem?_map, hl, Option.map_some, if_pos hx.symm]

/-! What leaves the lanterns as they are. -/

@[simp] theorem Dev.perf_lanterns (d : Dev) (b n : Nat) : (d.perf b n).lanterns = d.lanterns := (d.alike_perf b n).lanterns_eq

theorem Dev.event_lanterns (d : Dev) (k : Clock) {n : Nat} (c : Nat) (h : n < 1024) : (d.event k n c).lanterns = d.lanterns :=
  (d.alike_event k n c h).lanterns_eq

@[simp] theorem Dev.slots_lanterns (d : Dev) (lo hi : Fld) (n : Nat) : (d.slots lo hi n).lanterns = d.lanterns := rfl

@[simp] theorem Dev.showFifo_lanterns (d : Dev) (l : Nat) : (d.showFifo l).lanterns = d.lanterns := d.setAll_lanterns _

end Sys2Proof.Machine
end

section
/-! Proofs: a read of the Bushel leaves the lanterns as they are (R160, R194). -/

namespace Sys2Proof.Machine
open Sys2Proof

@[simp] theorem Dev.rowUncorr_lanterns (d : Dev) (k : Clock) (west : Bool) (abs cell : Nat) :
    (d.rowUncorr k west abs cell).lanterns = d.lanterns := by
  unfold Dev.rowUncorr
  dsimp only
  rw [Dev.event_lanterns _ k _ (by decide), Dev.set_lanterns, Dev.set_lanterns, Dev.setB_eq, Dev.set_lanterns, Dev.count_lanterns]

@[simp] theorem Dev.readRow_lanterns (d : Dev) (k : Clock) (west : Bool) (perRow : Nat) (r : Nat × ReadErr) :
    (d.readRow k west perRow r).lanterns = d.lanterns := by
  unfold Dev.readRow
  split
  · exact Dev.event_lanterns _ k _ (by decide)
  · exact Dev.rowUncorr_lanterns _ k west _ _
  · split
    · exact d.rowUncorr_lanterns k west _ _
    · rfl

@[simp] theorem Dev.readRows_lanterns (d : Dev) (k : Clock) (west : Bool) (perRow : Nat) (rs : List (Nat × ReadErr)) :
    (d.readRows k west perRow rs).2.lanterns = d.lanterns := by
  unfold Dev.readRows
  induction rs generalizing d with
  | nil => rfl
  | cons r rs ih => exact (ih (d.readRow k west perRow r)).trans (d.readRow_lanterns k west perRow r)

@[simp] theorem Dev.hashRead_lanterns (d : Dev) (k : Clock) (west : Bool) (h : HSpec) (key : Bytes) (e1 e2 : ReadErr) :
    (d.hashRead k west h key e1 e2).2.2.lanterns = d.lanterns := by simp [Dev.hashRead]

theorem Dev.readStation_lanterns (d : Dev) (k : Clock) (west learnWord : Bool) (h : HSpec) (key : Bytes) (e1 e2 : ReadErr) :
    (d.readStation k west learnWord h key e1 e2).2.lanterns = d.lanterns := by
  have hread := d.hashRead_lanterns k west h (key.take 8) e1 e2
  unfold Dev.readStation
  split
  · rename_i heq; simpa [heq] using hread
  · rename_i heq
    rw [heq] at hread
    dsimp only
    split <;> exact hread

theorem Dev.readExact_lanterns (d : Dev) (k : Clock) (west : Bool) (h : HSpec) (key : Bytes) (e1 e2 : ReadErr) :
    (d.readExact k west h key e1 e2).2.lanterns = d.lanterns := by
  have hread := d.hashRead_lanterns k west h key e1 e2
  unfold Dev.readExact
  split <;> rename_i heq <;> simpa [heq] using hread

@[simp] theorem Dev.probeDefault_snd (d : Dev) (t : Nat) (uncorr : Bool) (dflt : Bytes) : (d.probeDefault t uncorr dflt).2 = d := by
  unfold Dev.probeDefault
  dsimp only
  split <;> rfl

theorem Dev.readRoute_lanterns (d : Dev) (k : Clock) (west v6 : Bool) (h : HSpec) (key old : Bytes) (e1 e2 : ReadErr) :
    (d.readRoute k west v6 h key old e1 e2).2.lanterns = d.lanterns := by
  unfold Dev.readRoute
  dsimp only
  split
  · simp
  · rename_i len rest _
    have hread := d.hashRead_lanterns k west h (routeKey (leAt key 0 2) len (sliceZ key 2 (if v6 then 16 else 4))) e1 e2
    split
    · rename_i heq; simpa [heq] using hread
    · rename_i heq
      rw [heq] at hread
      split <;> simpa using hread

theorem Dev.readSpan_lanterns (d : Dev) (k : Clock) (west v6 : Bool) (key : Bytes) (e1 : ReadErr) :
    (d.readSpan k west v6 key e1).2.lanterns = d.lanterns := by
  unfold Dev.readSpan
  dsimp only
  split
  · simp
  · split <;> simp

theorem Dev.readNextHop_lanterns (d : Dev) (k : Clock) (west : Bool) (key : Bytes) (e1 : ReadErr) :
    (d.readNextHop k west key e1).2.lanterns = d.lanterns := by
  unfold Dev.readNextHop
  dsimp only
  split
  · simp
  · split <;> simp

theorem Dev.readEcmp_lanterns (d : Dev) (k : Clock) (west : Bool) (key : Bytes) (e1 e2 : ReadErr) :
    (d.readEcmp k west key e1 e2).2.lanterns = d.lanterns := by
  unfold Dev.readEcmp
  dsimp only
  split
  · simp
  · split <;> simp

theorem Dev.readStream_lanterns (d : Dev) (k : Clock) (west : Bool) (key : Bytes) (e1 : ReadErr) :
    (d.readStream k west key e1).2.lanterns = d.lanterns := by
  unfold Dev.readStream
  dsimp only
  split
  · rfl
  · split
    · simp
    · split <;> simp

theorem Dev.bushelRead_lanterns (d : Dev) (k : Clock) (west learnWord : Bool) (t : Nat) (key old : Bytes) (e1 e2 : ReadErr) :
    (d.bushelRead k west learnWord t key old e1 e2).2.lanterns = d.lanterns := by
  unfold Dev.bushelRead
  split
  · exact d.readStation_lanterns k west learnWord _ key e1 e2
  · exact d.readExact_lanterns k west _ key e1 e2
  · exact d.readRoute_lanterns k west false _ key old e1 e2
  · exact d.readRoute_lanterns k west true _ key old e1 e2
  · exact d.readSpan_lanterns k west false key e1
  · exact d.readSpan_lanterns k west true key e1
  · exact d.readNextHop_lanterns k west key e1
  · exact d.readEcmp_lanterns k west key e1 e2
  · exact d.readStream_lanterns k west key e1
  · rfl

end Sys2Proof.Machine
end

section
/-! Proofs: the steps of the chains (R36, R58, R147, R159 to R161). -/

namespace Sys2Proof.Machine
open Sys2Proof

/-! Dealing. -/

/-- The header dealt: its place, its frame and chain, the window, and the opcode its frame enters by. -/
theorem Dev.dealHeader_fst (d : Dev) (l fid pos chain : Nat) (f : Frame) :
    let g := (d.dealHeader l fid pos chain f).1
    g.pos = pos ∧ g.fid = fid ∧ g.chain = chain ∧ g.window = f.bytes.take 512 ∧ g.phase = .fresh ∧ g.op = entryOf f.entryOp :=
  ⟨rfl, rfl, rfl, rfl, rfl, rfl⟩

/-- The frame as its dealing marks it: in its first pass it takes the generation, the start and the entry opcode. -/
def Dev.dealtFrame (d : Dev) (k : Clock) (f : Frame) : Frame :=
  if f.pass = 1 then { f with gen := d.rules.gen, passStart := k.tick, entryOp := d.get (F.ENTRY_OP f.ingress) } else f

theorem Dev.dealtFrame_bytes (d : Dev) (k : Clock) (f : Frame) : (d.dealtFrame k f).bytes = f.bytes := by
  unfold Dev.dealtFrame
  split <;> rfl

/-- What dealing makes of the lantern. -/
theorem Dev.lantern_dealFrame (d : Dev) (k : Clock) (l fid : Nat) (front : Bool) (f : Frame) :
    let x := d.lantern l
    (d.dealFrame k l fid front f).lantern l = { x with
      fifo := if front then x.fifo.drop 1 else x.fifo
      recirc := if front then x.recirc else x.recirc.drop 1
      turn := front
      chain := (x.chain + 1) % 4
      nextPos := x.nextPos + 1
      stages := tset x.stages (x.chain * 20) (tgetD x.stages (x.chain * 20) [] ++
        [(d.dealHeader l fid x.nextPos x.chain (d.dealtFrame k f)).1])
      task := x.task.mark x.nextPos } := by
  unfold Dev.dealFrame
  dsimp only
  rw [Dev.lantern_congr (Dev.perf_lanterns _ _ _), Dev.lantern_congr (Dev.showFifo_lanterns _ _), Dev.lantern_setLantern_self]
  rfl

/-- HEADER_DEAL deals the frame next in turn, unless its further pass would start too late (R49, R58). -/
theorem headerDeal_eq {d : Dev} {k : Clock} {l fid : Nat} {front : Bool} {f : Frame}
    (hnext : (d.lantern l).nextDeal = some (fid, front)) (hwick : d.activeWick l ≠ none) (hheld : d.isHeld l = false)
    (hdeal : d.dealersHeld = false) (hf : d.frame? fid = some f)
    (hroom : (tgetD (d.lantern l).stages ((d.lantern l).chain * 20) []).length < 24)
    (htime : front = true ∨ k.tick ≤ f.passStart + passLimit) : headerDeal l k d = d.dealFrame k l fid front f := by
  have hlate : (!front && decide (f.passStart + passLimit < k.tick)) = false := by
    rcases htime with h | h
    · simp [h]
    · simp [Nat.not_lt.mpr h]
  unfold headerDeal
  simp [hnext, hheld, hdeal, hf, hlate, Nat.not_le.mpr hroom, hwick]

/-! A stage begins a word. -/

/-- The parse of a word reads and writes the vector alone. -/
theorem Header.parse_with (h : Header) (w op : Nat) (ph : Phase) :
    ({ h with disp := op, phase := ph } : Header).parse w = { h.parse w with disp := op, phase := ph } := by
  unfold Header.parse
  dsimp only
  split
  · rfl
  · split <;> rfl

theorem Header.parse_pos (h : Header) (w : Nat) : (h.parse w).pos = h.pos := by
  unfold Header.parse
  dsimp only
  split
  · rfl
  · split <;> rfl

/-- A header whose word a stage has begun: the key is gathered and the lookups asked for are awaited. -/
def Header.begun (h : Header) (w : Nat) : Header :=
  { h.parse w with disp := h.op, key := (h.parse w).keyOf w, phase := .waiting (bit w 1) (bit w 2) }

/-- A stage that begins a word within the window leaves the lanterns as they are. -/
theorem Dev.beginWord_spec {d : Dev} {k : Clock} {l st w : Nat} {h : Header} (hw : d.select h st h.op = .word w)
    (hin : h.outOfRange w = false) :
    (d.beginWord k l st h).1 = h.begun w ∧ (d.beginWord k l st h).2.lanterns = d.lanterns := by
  unfold Dev.beginWord
  dsimp only
  rw [hw]
  dsimp only
  rw [if_neg (by simp [hin]), Header.parse_with]
  refine ⟨rfl, ?_⟩
  split <;> split <;> simp

/-- STAGE_EXECUTE begins the word of a fresh oldest header that asks for a lookup. -/
theorem stageExecute_begins {d : Dev} {k : Clock} {l c st w : Nat} {h : Header} {hs : List Header} (hheld : d.isHeld l = false)
    (hl : d.stageList l (c * 20 + st) = h :: hs) (hph : h.phase = .fresh) (hw : d.select h st h.op = .word w)
    (hin : h.outOfRange w = false) (hlook : bit w 1 = true ∨ bit w 2 = true) :
    stageExecute l c st [] none true k d =
      (d.beginWord k l st h).2.setHeader l (c * 20 + st) (h.begun w) := by
  obtain ⟨hbegun, -⟩ := d.beginWord_spec (k := k) (l := l) hw hin
  have hnot : h.ready = false := by simp [Header.ready, hph]
  have hwait : (h.begun w).ready = false := by
    rcases hlook with hb | hb <;> simp [Header.ready, Header.begun, hb]
  unfold stageExecute
  dsimp only
  rw [hl]
  simp [hheld, hnot, hph, Dev.corrected, hbegun, hwait]

/-! A header whose opcode is built in passes through. -/

theorem Dev.wordFaults_nil (d : Dev) (l st : Nat) (h : Header) : d.wordFaults l st h [] = [] := rfl

theorem Dev.select_builtIn {d : Dev} {h : Header} {st op : Nat} (hop : 0xFE ≤ op) : d.select h st op = .builtIn := if_pos hop

/-- The end of a built-in opcode's stage: nothing is done but the move to the next stage (R148). -/
theorem Dev.finishStage_builtIn {d : Dev} {k : Clock} {l i : Nat} {h : Header} {hs : List Header} (hl : d.stageList l i = h :: hs)
    (hop : 0xFE ≤ h.op) (hwick : d.activeWick l ≠ none) :
    ∃ e : Dev, e.lanterns = d.lanterns ∧ d.finishStage k l i h [] true = e.leaveStage l i h := by
  refine ⟨(d.slots (F.PC_VOID_LO l) (F.PC_VOID_HI l) 1).spend 0 h.wicks, by simp, ?_⟩
  unfold Dev.finishStage
  dsimp only
  simp [Dev.wordFaults_nil, Dev.snuffs, hwick, hl, Dev.endWord, Dev.select_builtIn hop, b2n]

/-- A header that leaves a stage other than the last joins the next one's, fresh. -/
theorem Dev.leaveStage_spec {d : Dev} {l i : Nat} {h : Header} {hs : List Header} (hl : d.stageList l i = h :: hs)
    (hne : ∀ y ∈ hs, y.pos ≠ h.pos) (hi : i % 20 ≠ 19) :
    (d.leaveStage l i h).stageList l i = hs ∧
      (d.leaveStage l i h).stageList l (i + 1) = d.stageList l (i + 1) ++ [{ h with phase := .fresh }] := by
  have hrest : (h :: hs).filter (fun x => x.pos != h.pos) = hs := by
    rw [List.filter_cons_of_neg (by simp), List.filter_eq_self.mpr fun y hy => by simpa using hne y hy]
  unfold Dev.leaveStage
  dsimp only
  rw [if_pos (by simpa using hi), hl, hrest]
  exact ⟨by rw [Dev.stageList_setStage_of_ne _ _ _ (by omega), Dev.stageList_setStage_self],
    by rw [Dev.stageList_setStage_self, Dev.stageList_setStage_of_ne _ _ _ (by omega)]⟩

/-- STAGE_EXECUTE completes the oldest header when it waits for nothing and its successor has room. -/
theorem stageExecute_completes {d : Dev} {k : Clock} {l c st : Nat} {h : Header} {hs : List Header} (hheld : d.isHeld l = false)
    (hl : d.stageList l (c * 20 + st) = h :: hs) (hph : h.phase = .waiting false false)
    (hroom : d.stageRoom l (c * 20 + st) = true) :
    stageExecute l c st [] none true k d = d.finishStage k l (c * 20 + st) h [] true := by
  have hready : h.ready = true := by simp [Header.ready, hph]
  unfold stageExecute
  dsimp only
  rw [hl]
  simp [hheld, hready, hroom]

/-! Results. -/

/-- BUSHEL_READ_COMPLETE writes RESULT_B of the read of the header's key. -/
theorem bushelDone_spec {d : Dev} {l c st pl w : Nat} {h : Header} {t : Bool} (k : Clock) (e1 e2 : ReadErr)
    (hh : (d.stageList l (c * 20 + st))[pl]? = some h) (hph : h.phase = .waiting true t) (hw : d.select h st h.op = .word w) :
    let learns := bit w 3 && (wordActs w).any (fun a => bits a 26 6 == 0x10)
    let read := d.bushelRead k (decide (16 ≤ l)) learns (bits w 264 8) h.key h.resultB e1 e2
    ((bushelDone l c st pl e1 e2 k d).stageList l (c * 20 + st))[pl]? =
      some { h with hv := putBytes h.hv (256 + mResultB) read.1, phase := .waiting false t } := by
  unfold bushelDone
  dsimp only
  rw [hh]
  simp only [hph, hw]
  refine Dev.getElem?_setHeader (h := h) ?_ rfl
  rw [Dev.stageList_congr (Dev.bushelRead_lanterns ..), hh]

/-- TERNARY_SEARCH_COMPLETE writes RESULT_T of the search for the header's key, and changes the lanterns alone. -/
theorem ternaryDone_spec {d : Dev} {l c st pl : Nat} {h : Header} {t : Bool} (k : Clock)
    (hh : (d.stageList l (c * 20 + st))[pl]? = some h) (hph : h.phase = .waiting t true) :
    ternaryDone l c st pl k d = { d with lanterns := (ternaryDone l c st pl k d).lanterns } ∧
      ((ternaryDone l c st pl k d).stageList l (c * 20 + st))[pl]? = some { h with
        phase := .waiting t false, hv := putBytes h.hv (256 + mResultT) (d.ternary l (h.gen % 2) h.key) } := by
  unfold ternaryDone
  dsimp only
  rw [hh]
  simp only [hph]
  exact ⟨rfl, Dev.getElem?_setHeader hh rfl⟩

/-- Settles O45: the dealer, the two ways a stage takes its oldest header, and the two results, each by its own equation. -/
theorem chainSteps : Obligations.ChainSteps := by
  intro s l c st pl h hs w fid f front t d i x hp hheld
  have hi : i % 20 = st := by have := st.isLt; omega
  refine ⟨fun hnext hwick hdeal hf hroom htime => ends_onDev rfl hp ?_, fun hl hph hne hw hin hlook => ends_onDev rfl hp ?_,
    fun hl hph hne hop hst hwick hroom => ends_onDev rfl hp ?_, fun hh hph hw => ends_onDev rfl hp ?_,
    fun hh hph => ends_onDev rfl hp (ternaryDone_spec _ hh hph)⟩
  · rw [headerDeal_eq hnext hwick hheld hdeal hf hroom htime]
    obtain ⟨hpos, hfid, hchain, hwindow, hphase, hopc⟩ := d.dealHeader_fst l fid x.nextPos x.chain (d.dealtFrame s.m.clk f)
    refine ⟨(d.dealHeader l fid x.nextPos x.chain (d.dealtFrame s.m.clk f)).1, ?_⟩
    rw [d.lantern_dealFrame]
    refine ⟨rfl, rfl, tgetD_tset_self _ _ _ _, hpos, hfid, hchain, ?_, hphase, fun hpass => ?_⟩
    · rw [hwindow, d.dealtFrame_bytes]
    · rw [hopc, Dev.dealtFrame, if_pos hpass]
      rfl
  · obtain ⟨-, hlan⟩ := d.beginWord_spec (k := s.m.clk) (l := l) hw hin
    rw [stageExecute_begins hheld hl hph hw hin hlook]
    exact Dev.stageList_setHeader_head ((Dev.stageList_congr hlan _ _).trans hl) (h.parse_pos w) hne
  · have hspace : d.stageRoom l i = true := by
      rw [Dev.stageRoom, if_neg (by omega)]
      exact decide_eq_true hroom
    obtain ⟨e, hlan, heq⟩ := d.finishStage_builtIn (k := s.m.clk) hl hop hwick
    rw [stageExecute_completes hheld hl hph hspace, heq, ← Dev.stageList_congr hlan l (i + 1)]
    exact Dev.leaveStage_spec ((Dev.stageList_congr hlan _ _).trans hl) hne (by omega)
  · exact bushelDone_spec s.m.clk .clean .clean hh hph hw

end Sys2Proof.Machine
end

section
/-! Proofs: a queue listed twice (R264). -/

namespace Sys2Proof.Machine
open Sys2Proof

/-- A spilled copy of frame 7, with one chunk of the Hogshead. -/
def spilledCopy : Copy :=
  ⟨7, 0, 0, [], [], 0, 1, 0, .forward none, false, false, false, none, .keep, [4], none, true⟩

/-- A frame of 64 bytes that has been received and decided, and whose cells are all released. -/
def spilledFrame : Frame :=
  { Frame.new 3 0 0 9000 0 with
    bytes := List.replicate 64 5, ended := some .good, rxLen := 64, headed := true, decided := true, later := 1 }

/-- After POR_N's release, with room in pool 0 and a table of queues that lists queue 24 twice: its first entry, which every
reading of the queue finds, holds no copy; its second holds the spilled one. -/
def queueListedTwice : State :=
  let d := State.reset.m.dev.set (F.POOL_SIZE 0) 1000
  { State.reset with m := State.reset.m.setDev { d with
    boot := { d.boot with porN := true }
    frames := [(7, spilledFrame)]
    bm := { d.bm with queues := [(24, []), (24, [spilledCopy])], chunks := [4] } } }

/-- What holds at the end of HOGSHEAD_RETURN holds of the device its effect leaves. -/
theorem ends_hogsheadReturn {s : State} {fid : Nat} {bad : Option Nat} {p : Dev → Prop} (hp : s.m.dev.boot.porN = true)
    (h : ends (.hogsheadReturn fid bad) s p) : p (hogReturn fid bad s.m).dev := by
  obtain ⟨b, hexec, hb⟩ := h
  have hrun : exec (.hogsheadReturn fid bad) s = .next { s with m := hogReturn fid bad s.m } := onMach_run _ hp
  rw [hrun] at hexec
  have hm : (hogReturn fid bad s.m).dev = b := congrArg (fun t : State => t.m.dev) (Host.Outcome.next.inj hexec)
  exact hm ▸ hb

/-- The frame as the return reads it back from its chunk, before it asks for its cells. -/
def returning : Frame :=
  { spilledFrame with
    bytes := (spilledCopy.chunks.map (fun ch => mread queueListedTwice.m.dram (chunkAt ch) 2048)).flatten.take 64
    cells := [], later := 0, pool := queueListedTwice.m.dev.get (F.BMQ_POOL 24), parked := true }

/-- It is granted them all. -/
theorem returning_takeBack :
    ((queueListedTwice.m.dev.setFrame 7 returning).takeBack returning 7).isSome = true := by decide +kernel

/-- The frame has its cells, but no copy is counted for them. -/
theorem hogReturn_later : ((hogReturn 7 none queueListedTwice.m).dev.frame? 7).map Frame.later = some 0 := by decide +kernel

/-- Refutes O50: the state lists queue 24 twice, so that HOGSHEAD_RETURN finds the spilled copy in the second entry and its
cells are granted, but the queue as it is read holds no copy to bring back on-die, and the frame's later cells count none. -/
theorem not_bufferCommands : ¬ Obligations.BufferCommands := by
  intro h
  have hrun : queueListedTwice.m.dev.boot.porN = true := by decide +kernel
  obtain ⟨-, -, -, -, hreturn, -⟩ := h queueListedTwice 0 7 0 24 spilledFrame [] ⟨24, spilledCopy, 0, [], false, false⟩
    ⟨[], 0, 0, 0, false⟩ spilledCopy hrun (by decide +kernel) (by decide +kernel)
  obtain ⟨-, hback, -⟩ := hreturn (by decide +kernel) (by decide +kernel)
  obtain ⟨d1, hd1⟩ := Option.isSome_iff_exists.mp returning_takeBack
  obtain ⟨-, g, hg, -, hone⟩ := ends_hogsheadReturn hrun (hback d1 hd1)
  have hzero := hogReturn_later
  rw [hg, Option.map_some, hone] at hzero
  cases hzero

end Sys2Proof.Machine
end

section
/-! Proofs: what a report emits comes after what the device had emitted. -/

namespace Sys2Proof.Machine
open Sys2Proof

theorem Dev.out_sendMsix (d : Dev) (v : Nat) : d.out <+: (d.sendMsix v).out := by
  unfold Dev.sendMsix
  split
  · split <;> exact List.prefix_rfl
  · split
    · exact List.prefix_rfl
    · exact List.prefix_append _ _

theorem Dev.out_pend (d : Dev) (s : Nat) : d.out <+: (d.pend s).out := by
  unfold Dev.pend
  dsimp only
  split
  · exact List.prefix_rfl
  · split
    · exact Dev.out_sendMsix (d.setBit _ _) _
    · exact List.prefix_rfl

theorem Dev.out_lampWrite (d : Dev) (r : LampRec) : d.out <+: (d.lampWrite r).out := by
  unfold Dev.lampWrite
  dsimp only
  refine List.IsPrefix.trans ?_ (Dev.out_pend _ _)
  split <;> exact List.prefix_rfl

theorem Dev.out_eventData (d : Dev) (k : Clock) (s form a b : Nat) : d.out <+: (d.eventData k s form a b).out := by
  unfold Dev.eventData
  dsimp only
  split
  · exact List.prefix_rfl
  · split
    · split
      · exact List.prefix_rfl
      · split
        · exact List.prefix_rfl
        · refine List.IsPrefix.trans ?_ (Dev.out_lampWrite _ _)
          exact List.prefix_rfl
    · split
      · split
        · refine List.IsPrefix.trans ?_ (Dev.out_pend _ _)
          exact List.prefix_rfl
        · exact Dev.out_lampWrite _ _
      · exact Dev.out_lampWrite _ _

theorem Dev.out_perf (d : Dev) (b n : Nat) : (d.perf b n).out = d.out := by
  have key : ∀ (l : List Nat) (d : Dev), (l.foldl Dev.perfAdd d).out = d.out := by
    intro l
    induction l with
    | nil => exact fun _ => rfl
    | cons j l ih => exact fun d => ih (d.perfAdd j)
  unfold Dev.perf
  split
  · rfl
  · exact key _ d

end Sys2Proof.Machine
end

section
/-! Proofs: flags. What sets fields, counts and reports leaves all else as it was. -/

namespace Sys2Proof.Machine
open Sys2Proof

/-- BM_STICKY and the registers of the queues' levels: among the fields that no report changes, those that the work of queues and
ports (head discards, the choice, admission's accounts) leaves as they are. -/
def Fld.steady (f : Fld) : Bool := f.still && (f.off == 0x1c00008 || (decide (0x2100000 ≤ f.off) && f.off % 16 == 0))

theorem Fld.steady.still {f : Fld} (h : f.steady = true) : f.still = true := (Bool.and_eq_true _ _ ▸ h).1

theorem Fld.steady_level (q : Nat) (h : q < 4144) : (F.EGQ_LEVEL q).steady = true := by
  have hperf : ¬ 0x3400200 ≤ 0x2100000 + q * 0x10 := by omega
  have hlamp : ¬ 0x2100000 + q * 0x10 < 0x400000 := by omega
  have hcxl : 0x2100000 + q * 0x10 ≠ 0x3000004 := by omega
  have hrow : (0x2100000 + q * 0x10) % 16 = 0 := by omega
  simp [Fld.steady, Fld.still, F.EGQ_LEVEL, hperf, hlamp, hcxl, hrow]

/-- b is a but for flags: fields other than the steady ones, Lampblack, MSI-X, and what the device has emitted since. -/
def Dev.flagged (a b : Dev) : Prop :=
  b = { a with fld := b.fld, lamp := b.lamp, msixPend := b.msixPend, out := b.out } ∧ a.out <+: b.out ∧
    ∀ f : Fld, f.steady = true → b.get f = a.get f

theorem Dev.flagged_refl (a : Dev) : a.flagged a := ⟨rfl, List.prefix_rfl, fun _ _ => rfl⟩

theorem Dev.flagged.trans {a b c : Dev} (h : a.flagged b) (g : b.flagged c) : a.flagged c := by
  obtain ⟨hb, hout, hget⟩ := h
  obtain ⟨hc, hout', hget'⟩ := g
  rw [hb] at hc
  exact ⟨hc, hout.trans hout', fun f hf => (hget' f hf).trans (hget f hf)⟩

theorem Dev.flagged_event (d : Dev) (k : Clock) {n : Nat} (c : Nat) (h : n < 1024) : d.flagged (d.event k n c) := by
  have hrep := d.alike_event k n c h
  exact ⟨hrep.1, d.out_eventData k n 0 c 0, fun f hf => hrep.2 f (Fld.steady.still hf)⟩

theorem Dev.flagged_perf (d : Dev) (b n : Nat) : d.flagged (d.perf b n) := by
  have hrep := d.alike_perf b n
  exact ⟨hrep.1, (d.out_perf b n).symm ▸ List.prefix_rfl, fun f hf => hrep.2 f (Fld.steady.still hf)⟩

theorem Dev.flagged_set (d : Dev) {g : Fld} (v : Nat) (h : g.steady = false) (hl : g.lo < 32) : d.flagged (d.set g v) := by
  refine ⟨rfl, List.prefix_rfl, fun f hf => Dev.get_set_of_ne d v fun e => ?_⟩
  have hfl : f.lo < 32 := by
    have := Fld.steady.still hf
    simp only [Fld.still, Bool.and_eq_true, decide_eq_true_eq] at this
    exact this.1.1.1
  have ho : f.off = g.off := by simp only [Fld.key] at e; omega
  simp only [Fld.steady, Fld.still, ho, hfl, hl, decide_true, Bool.true_and] at h hf
  rw [h] at hf
  cases hf

theorem Dev.flagged_foldl {β : Type} (f : Dev → β → Dev) (h : ∀ d x, Dev.flagged d (f d x)) (l : List β) (d : Dev) :
    d.flagged (l.foldl f d) := by
  induction l generalizing d with
  | nil => exact d.flagged_refl
  | cons x l ih => exact (h d x).trans (ih (f d x))

/-! The pools' status (R239, R240). -/

theorem Fld.steady_poolStatus (p : Nat) : (F.POOL_STATUS p).steady = false := by
  have h : (0x1c0011c + p * 0x20) % 16 = 12 := by omega
  have h' : 0x1c0011c + p * 0x20 ≠ 0x1c00008 := by omega
  simp [Fld.steady, F.POOL_STATUS, h, h']

theorem Dev.flagged_poolStatus (d : Dev) (p v : Nat) : d.flagged (d.set (F.POOL_STATUS p) v) :=
  d.flagged_set v (Fld.steady_poolStatus p) (by simp [F.POOL_STATUS])

theorem Dev.flagged_press (d : Dev) (k : Clock) (p : Nat) : d.flagged (d.press k p) := by
  unfold Dev.press
  split
  · exact d.flagged_refl
  · exact ((d.flagged_poolStatus p _).trans (Dev.flagged_event _ k _ (by decide))).trans (Dev.flagged_perf _ _ _)

theorem Dev.flagged_poolUpdate (d : Dev) (k : Clock) (p : Nat) : d.flagged (d.poolUpdate k p) := by
  unfold Dev.poolUpdate
  split
  · exact d.flagged_refl
  · have hpress : d.flagged (if d.get (F.POOL_T2 p) ≤ d.ingFill p then d.press k p else d) := by
      split
      · exact d.flagged_press k p
      · exact d.flagged_refl
    revert hpress
    generalize (if d.get (F.POOL_T2 p) ≤ d.ingFill p then d.press k p else d) = d1
    intro hpress
    dsimp only
    split
    · exact (hpress.trans (Dev.flagged_poolStatus _ p _)).trans (Dev.flagged_event _ k _ (by decide))
    · exact hpress.trans (Dev.flagged_poolStatus _ p _)

theorem Dev.flagged_poolsUpdate (d : Dev) (k : Clock) : d.flagged (d.poolsUpdate k) :=
  Dev.flagged_foldl _ (fun d p => d.flagged_poolUpdate k p) _ d

end Sys2Proof.Machine
end

section
/-! Proofs: bookkeeping. What the work on frames, cells, queues and counts leaves as it was. -/

namespace Sys2Proof.Machine
open Sys2Proof

/-- b is a after bookkeeping: what the ports send, the lanterns, the Chandler's and Taper's state and the schedulers' are as they
were, what a had emitted stands, and the steady fields read alike. Frames, cells, queues, counters, timestamp queues and the free
values may have changed. -/
structure Dev.bookkept (a b : Dev) : Prop where
  ports    : b.ports = a.ports
  lanterns : b.lanterns = a.lanterns
  chan     : b.chan = a.chan
  taper    : b.taper = a.taper
  egr      : b.egr = a.egr
  out      : a.out <+: b.out
  get      : ∀ f : Fld, f.steady = true → b.get f = a.get f

theorem Dev.bookkept_refl (a : Dev) : a.bookkept a := ⟨rfl, rfl, rfl, rfl, rfl, List.prefix_rfl, fun _ _ => rfl⟩

theorem Dev.bookkept.trans {a b c : Dev} (h : a.bookkept b) (g : b.bookkept c) : a.bookkept c where
  ports := g.ports.trans h.ports
  lanterns := g.lanterns.trans h.lanterns
  chan := g.chan.trans h.chan
  taper := g.taper.trans h.taper
  egr := g.egr.trans h.egr
  out := h.out.trans g.out
  get := fun f hf => (g.get f hf).trans (h.get f hf)

theorem Dev.flagged.bookkept {a b : Dev} (h : a.flagged b) : a.bookkept b where
  ports := (congrArg Dev.ports h.1).trans rfl
  lanterns := (congrArg Dev.lanterns h.1).trans rfl
  chan := (congrArg Dev.chan h.1).trans rfl
  taper := (congrArg Dev.taper h.1).trans rfl
  egr := (congrArg Dev.egr h.1).trans rfl
  out := h.2.1
  get := h.2.2

theorem Dev.flagged.frames_eq {a b : Dev} (h : a.flagged b) : b.frames = a.frames := (congrArg Dev.frames h.1).trans rfl

/-- What else may change. -/
theorem Dev.bookkept_with (d : Dev) (bm : Bm) (frames : Tab Frame) (ctrs : Tab Ctr) (energy : Tab Nat) (timeU : TimeU) (free : Nat) :
    d.bookkept { d with bm := bm, frames := frames, ctrs := ctrs, energy := energy, timeU := timeU, free := free } :=
  ⟨rfl, rfl, rfl, rfl, rfl, List.prefix_rfl, fun _ _ => rfl⟩

theorem Dev.bookkept_bm (d : Dev) (bm : Bm) : d.bookkept { d with bm := bm } := d.bookkept_with bm _ _ _ _ _
theorem Dev.bookkept_setFrame (d : Dev) (fid : Nat) (f : Frame) : d.bookkept (d.setFrame fid f) := d.bookkept_with _ _ _ _ _ _
theorem Dev.bookkept_setQueue (d : Dev) (q : Nat) (l : List Copy) : d.bookkept (d.setQueue q l) := d.bookkept_bm _
theorem Dev.bookkept_count (d : Dev) (i n : Nat) : d.bookkept (d.count i n) := d.bookkept_with _ _ _ _ _ _
theorem Dev.bookkept_spend (d : Dev) (c n : Nat) : d.bookkept (d.spend c n) := d.bookkept_with _ _ _ _ _ _
theorem Dev.bookkept_draw (d : Dev) (w : Nat) : d.bookkept (d.draw w).2 := d.bookkept_with _ _ _ _ _ _

theorem Dev.bookkept_foldl {β : Type} (f : Dev → β → Dev) (l : List β) (h : ∀ d, ∀ x ∈ l, Dev.bookkept d (f d x)) (d : Dev) :
    d.bookkept (l.foldl f d) := by
  induction l generalizing d with
  | nil => exact d.bookkept_refl
  | cons x l ih => exact (h d x List.mem_cons_self).trans (ih (fun d y hy => h d y (List.mem_cons_of_mem _ hy)) _)

/-! Counts, cells and copies. -/

theorem Dev.bookkept_countQueue (d : Dev) (q i n : Nat) : d.bookkept (d.countQueue q i n) := by
  unfold Dev.countQueue
  dsimp only
  split
  · exact (d.bookkept_count _ n).trans (Dev.bookkept_count _ _ n)
  · exact d.bookkept_count _ n

theorem Dev.bookkept_freeCell (d : Dev) (n : Nat) : d.bookkept (d.freeCell n) := by
  unfold Dev.freeCell
  split
  · exact d.bookkept_refl
  · exact (d.bookkept_bm _).trans (Dev.flagged_perf _ 33 1).bookkept

theorem Dev.bookkept_unref (d : Dev) (n : Nat) : d.bookkept (d.unref n) := by
  unfold Dev.unref
  split
  · exact d.bookkept_refl
  · split
    · exact d.bookkept_freeCell n
    · exact d.bookkept_bm _

theorem Dev.bookkept_retire (d : Dev) (fid : Nat) : d.bookkept (d.retire fid) := by
  unfold Dev.retire
  split
  · exact d.bookkept_refl
  · split
    · exact d.bookkept_with _ _ _ _ _ _
    · exact d.bookkept_refl

theorem Dev.bookkept_releaseFrom (d : Dev) (c : Copy) (n : Nat) : d.bookkept (d.releaseFrom c n) := by
  unfold Dev.releaseFrom
  split
  · exact d.bookkept_refl
  · rename_i f _
    dsimp only
    have hcells : d.bookkept (if c.spilled then d else (c.refers f n).foldl (fun d j => d.unref (f.cells.getD j 0)) d) := by
      split
      · exact d.bookkept_refl
      · exact Dev.bookkept_foldl _ _ (fun d j _ => d.bookkept_unref _) d
    exact ((hcells.trans (Dev.bookkept_setFrame _ _ _)).trans (Dev.bookkept_bm _ _)).trans (Dev.bookkept_retire _ _)

theorem Dev.bookkept_dropCopy (d : Dev) (q : Nat) (c : Copy) : d.bookkept (d.dropCopy q c) :=
  (d.bookkept_setQueue q _).trans (Dev.bookkept_releaseFrom _ c 0)

/-! Lost timestamps (R319). -/

theorem Fld.steady_tsq {l : Nat} (h : l < 32) :
    (F.TU_TSQ_OVERFLOW l).steady = false ∧ (F.TU_TSQ_DROPPED l).steady = false := by
  have h1 : ¬ 0x2100000 ≤ 0x200200 + l * 4 := by omega
  have h2 : 0x200200 + l * 4 ≠ 0x1c00008 := by omega
  simp [Fld.steady, F.TU_TSQ_OVERFLOW, F.TU_TSQ_DROPPED, h1, h2]

theorem Dev.bookkept_tsqPut (d : Dev) (k : Clock) {l : Nat} (e : TsqEntry) (h : l < 32) : d.bookkept (d.tsqPut k l e) := by
  obtain ⟨hover, hdropped⟩ := Fld.steady_tsq h
  unfold Dev.tsqPut
  dsimp only
  split
  · exact (((d.flagged_set _ hover (by simp [F.TU_TSQ_OVERFLOW])).trans
      (Dev.flagged_set _ _ hdropped (by simp [F.TU_TSQ_DROPPED]))).trans (Dev.flagged_event _ k _ (by decide))).bookkept
  · split
    · exact (d.bookkept_with _ _ _ _ _ _).trans (Dev.flagged_event _ k _ (by decide)).bookkept
    · exact d.bookkept_with _ _ _ _ _ _

theorem Dev.bookkept_tsLost (d : Dev) (k : Clock) (q : Nat) (c : Copy) : d.bookkept (d.tsLost k q c) := by
  have lost : ∀ r : TsReq, d.bookkept (match r.tsId with
      | some id => if q / 8 < 512 then d.tsqDiscard k (q / 8) id else d
      | none => d) := by
    intro r
    split
    · split
      · exact d.bookkept_tsqPut k _ (by omega)
      · exact d.bookkept_refl
    · exact d.bookkept_refl
  unfold Dev.tsLost
  dsimp only
  split
  · exact lost _
  · exact lost _
  · exact d.bookkept_refl

end Sys2Proof.Machine
end

section
/-! Proofs: the choice of the next copy (R282, R283). -/

namespace Sys2Proof.Machine
open Sys2Proof

/-! Head discards. -/

theorem Fld.steady_mac (p : Nat) :
    (F.MAC_STICKY_LSO_ERR p).steady = false ∧ (F.MAC_STICKY_EGRESS_OVERSIZE p).steady = false ∧
      (F.MAC_STICKY_STOMP_SENT p).steady = false := by
  have hrow : (0x800024 + p / 16 * 0x80000 + p % 16 * 0x1000) % 16 = 4 := by omega
  have hbm : 0x800024 + p / 16 * 0x80000 + p % 16 * 0x1000 ≠ 0x1c00008 := by omega
  simp [Fld.steady, F.MAC_STICKY_LSO_ERR, F.MAC_STICKY_EGRESS_OVERSIZE, F.MAC_STICKY_STOMP_SENT, hrow, hbm]

/-- A property of both answers of a choice between a value and an optional one. -/
theorem ite_some_forall {α : Type} {P : α → Prop} {c : Prop} [Decidable c] {x : α} {o : Option α} (hx : P x)
    (ho : ∀ y, o = some y → P y) : ∀ y, (if c then some x else o) = some y → P y := by
  intro y hy
  split at hy
  · exact Option.some.inj hy ▸ hx
  · exact ho y hy

/-- A discard at a queue's head counts, sets a sticky bit and reports. -/
theorem Dev.headBad_bookkept (d : Dev) (k : Clock) (q : Nat) (c : Copy) (x : Dev) :
    ∀ count, d.headBad k q c = some count → x.bookkept (count x) := by
  obtain ⟨hlso, hover, -⟩ := Fld.steady_mac (q / 8)
  unfold Dev.headBad
  dsimp only
  refine ite_some_forall (x.bookkept_countQueue _ _ _) ?_
  split
  · exact fun _ h => nomatch h
  rename_i hport
  have hp : q / 8 < 512 := by simp at hport; omega
  split
  · exact fun _ h => nomatch h
  refine ite_some_forall ?_ (ite_some_forall ?_ (ite_some_forall ?_ fun _ h => nomatch h))
  · exact ((x.bookkept_count _ _).trans (Dev.flagged_set _ _ hlso (by simp [F.MAC_STICKY_LSO_ERR])).bookkept).trans
      (Dev.flagged_event _ k _ (by omega)).bookkept
  · exact (x.bookkept_count _ _).trans (Dev.flagged_set _ _ hover (by simp [F.MAC_STICKY_EGRESS_OVERSIZE])).bookkept
  · exact ((x.bookkept_countQueue _ _ _).trans (Dev.flagged_set _ _ (by decide) (by decide)).bookkept).trans
      (Dev.flagged_event _ k _ (by decide)).bookkept

theorem Dev.bookkept_headDrop (d : Dev) (k : Clock) (q : Nat) (c : Copy) {count : Dev → Dev} (h : d.bookkept (count d)) :
    d.bookkept (d.headDrop k q c count) :=
  (h.trans (Dev.bookkept_tsLost _ k q c)).trans (Dev.bookkept_dropCopy _ q c)

theorem Dev.bookkept_headDrops (d : Dev) (k : Clock) (q n : Nat) : d.bookkept (d.headDrops k q n) := by
  induction n generalizing d with
  | zero => exact d.bookkept_refl
  | succ n ih =>
    unfold Dev.headDrops
    split
    · exact d.bookkept_refl
    · split
      · exact d.bookkept_refl
      · rename_i hbad
        exact (d.bookkept_headDrop k q _ (d.headBad_bookkept k q _ d _ hbad)).trans (ih _)

theorem Dev.bookkept_portDrops (d : Dev) (k : Clock) (p : Nat) : d.bookkept (d.portDrops k p) :=
  Dev.bookkept_foldl _ _ (fun d _ _ => d.bookkept_headDrops k _ _) d

/-! The heads. -/

theorem Fld.steady_turn (q : Nat) : (F.EGQ_DEFICIT q).steady = false ∧ (F.EGQ_IN_TURN q).steady = false := by
  have hrow : (0x210000c + q * 0x10) % 16 = 12 := by omega
  have hbm : 0x210000c + q * 0x10 ≠ 0x1c00008 := by omega
  simp [Fld.steady, F.EGQ_DEFICIT, F.EGQ_IN_TURN, hrow, hbm]

theorem Dev.flagged_deficit (d : Dev) (q v : Nat) : d.flagged (d.set (F.EGQ_DEFICIT q) v) :=
  d.flagged_set v (Fld.steady_turn q).1 (by simp [F.EGQ_DEFICIT])

theorem Dev.flagged_turn (d : Dev) (q v : Nat) : d.flagged (d.set (F.EGQ_IN_TURN q) v) :=
  d.flagged_set v (Fld.steady_turn q).2 (by simp [F.EGQ_IN_TURN])

theorem Dev.flagged_normalQueue (d : Dev) (q : Nat) : d.flagged (d.normalQueue q) := by
  unfold Dev.normalQueue
  split
  · exact (d.flagged_deficit q 0).trans (Dev.flagged_turn _ q 0)
  · exact d.flagged_refl

theorem Dev.bookkept_headLen (d : Dev) (q : Nat) (c : Copy) : d.bookkept (d.headLen q c).2 := by
  unfold Dev.headLen
  split
  · exact d.bookkept_refl
  · split
    · exact d.bookkept_refl
    · exact d.bookkept_draw 14

/-- The heads that are eligible are of the port's eight classes; finding them is bookkeeping. -/
theorem Dev.heads_spec (d : Dev) (k : Clock) (p : Nat) : d.bookkept (d.heads k p).2 ∧ ∀ e ∈ (d.heads k p).1, e.1 < 8 := by
  refine List.foldlRecOn (motive := fun a : List (Nat × Copy × Nat) × Dev => d.bookkept a.2 ∧ ∀ e ∈ a.1, e.1 < 8)
    (List.range 8) _ ⟨d.bookkept_refl, by simp⟩ fun a ha cls hcls => ?_
  obtain ⟨hkept, hcl⟩ := ha
  dsimp only
  split
  · exact ⟨hkept.trans (Dev.flagged_normalQueue _ _).bookkept, hcl⟩
  · have hlen := hkept.trans (Dev.bookkept_headLen a.2 (8 * p + cls) ‹_›)
    split
    · refine ⟨hlen, fun e he => ?_⟩
      rcases List.mem_append.mp he with he | he
      · exact hcl e he
      · rw [List.mem_singleton.mp he]
        exact List.mem_range.mp hcls
    · exact ⟨hlen.trans (Dev.flagged_turn _ _ 0).bookkept, hcl⟩

/-! The pick. -/

/-- The class in turn, with its quantum when the turn is new. -/
def Dev.givenTurn (d : Dev) (q : Nat) : Dev :=
  if d.flag (F.EGQ_IN_TURN q) then d
  else d.setAll [(F.EGQ_DEFICIT q, d.get (F.EGQ_DEFICIT q) + d.quantum q * 64), (F.EGQ_IN_TURN q, 1)]

/-- The turn passes: the class goes to the end of the port's rotation. -/
def Dev.turnPassed (d : Dev) (p cls : Nat) : Dev :=
  let d1 := d.set (F.EGQ_IN_TURN (8 * p + cls)) 0
  { d1 with egr := { d1.egr with rot := tset d1.egr.rot p ((d1.rotation p).filter (· != cls) ++ [cls]) } }

theorem Dev.flagged_givenTurn (d : Dev) (q : Nat) : d.flagged (d.givenTurn q) := by
  unfold Dev.givenTurn
  split
  · exact d.flagged_refl
  · exact (d.flagged_deficit q _).trans (Dev.flagged_turn _ q 1)

theorem Dev.rotation_congr {a b : Dev} (h : a.bookkept b) (p : Nat) : b.rotation p = a.rotation p := by
  simp only [Dev.rotation, h.egr]

/-- A port's rotation keeps its classes when the turn passes. -/
theorem Dev.mem_rotation_turnPassed {d : Dev} {p cls c : Nat} (h : c ∈ d.rotation p) : c ∈ (d.turnPassed p cls).rotation p := by
  have hrot : (d.turnPassed p cls).rotation p = (d.rotation p).filter (· != cls) ++ [cls] := tgetD_tset_self _ _ _ _
  rw [hrot]
  by_cases hc : c = cls <;> simp [hc, h]

/-- A step of the choice: no head at the level, or the first class of the rotation that has one is chosen or passes the turn. -/
theorem Dev.pick_succ (d : Dev) (p : Nat) (hs : List (Nat × Copy × Nat)) (fuel level : Nat) :
    ((∀ e ∈ hs, e.1 ∈ d.rotation p → d.get (F.EGQ_LEVEL (8 * p + e.1)) ≠ level) ∧
      d.pick p hs (fuel + 1) level = if level = 0 then (none, d) else d.pick p hs fuel (level - 1)) ∨
    ∃ h ∈ hs, d.get (F.EGQ_LEVEL (8 * p + h.1)) = level ∧
      ((∃ v, d.pick p hs (fuel + 1) level = (some h, (d.givenTurn (8 * p + h.1)).set (F.EGQ_DEFICIT (8 * p + h.1)) v)) ∨
        d.pick p hs (fuel + 1) level = ((d.givenTurn (8 * p + h.1)).turnPassed p h.1).pick p hs fuel level) := by
  rw [Dev.pick]
  split
  · rename_i hnone
    refine .inl ⟨fun e he hrot hlev => ?_, rfl⟩
    have hmem := List.filter_eq_nil_iff.mp hnone e.1 hrot
    simp only [hlev, beq_self_eq_true, Bool.true_and, List.any_eq_true, beq_iff_eq, not_exists, not_and] at hmem
    exact hmem e he rfl
  · rename_i cls rest hsome
    have hmem := (List.mem_filter.mp (hsome ▸ List.mem_cons_self : cls ∈ List.filter _ (d.rotation p))).2
    simp only [Bool.and_eq_true, beq_iff_eq] at hmem
    obtain ⟨hlev, hany⟩ := hmem
    obtain ⟨h, hfind⟩ : ∃ h, hs.find? (·.1 == cls) = some h := by
      rw [← Option.isSome_iff_exists, List.find?_isSome]
      simpa using hany
    obtain rfl : h.1 = cls := by simpa using List.find?_some hfind
    refine .inr ⟨h, List.mem_of_find?_eq_some hfind, hlev, ?_⟩
    rw [hfind]
    by_cases hlen : h.2.2 + 20 ≤ (d.givenTurn (8 * p + h.1)).get (F.EGQ_DEFICIT (8 * p + h.1))
    · exact .inl ⟨_, if_pos hlen⟩
    · exact .inr (if_neg hlen)

/-- The head chosen is of the highest level that has one. -/
theorem Dev.pick_highest {d d2 : Dev} {p : Nat} {hs : List (Nat × Copy × Nat)} {fuel level : Nat} {h : Nat × Copy × Nat} (hp : p < 518)
    (hcls : ∀ e ∈ hs, e.1 < 8 ∧ e.1 ∈ d.rotation p) (hlev : ∀ e ∈ hs, d.get (F.EGQ_LEVEL (8 * p + e.1)) ≤ level)
    (hpick : d.pick p hs fuel level = (some h, d2)) :
    h ∈ hs ∧ ∀ e ∈ hs, d.get (F.EGQ_LEVEL (8 * p + e.1)) ≤ d.get (F.EGQ_LEVEL (8 * p + h.1)) := by
  induction fuel generalizing d level with
  | zero => cases hpick
  | succ fuel ih =>
    rcases d.pick_succ p hs fuel level with ⟨hno, heq⟩ | ⟨g, hg, hglev, ⟨v, heq⟩ | heq⟩ <;> rw [heq] at hpick
    · split at hpick
      · cases hpick
      · refine ih hcls (fun e he => ?_) hpick
        have := hlev e he
        have := hno e he (hcls e he).2
        omega
    · cases hpick
      exact ⟨hg, fun e he => hglev ▸ hlev e he⟩
    · have hturn := (d.flagged_givenTurn (8 * p + g.1)).bookkept
      have hset := Dev.flagged_turn (d.givenTurn (8 * p + g.1)) (8 * p + g.1) 0
      have hget : ∀ e ∈ hs, ((d.givenTurn (8 * p + g.1)).turnPassed p g.1).get (F.EGQ_LEVEL (8 * p + e.1)) =
          d.get (F.EGQ_LEVEL (8 * p + e.1)) := fun e he => by
        have hst := Fld.steady_level (8 * p + e.1) (by have := (hcls e he).1; omega)
        exact (hset.2.2 _ hst).trans (hturn.get _ hst)
      obtain ⟨hmem, hmax⟩ := ih (fun e he => ⟨(hcls e he).1, Dev.mem_rotation_turnPassed (by
        rw [Dev.rotation_congr hturn]; exact (hcls e he).2)⟩) (fun e he => (hget e he).trans_le (hlev e he)) hpick
      exact ⟨hmem, fun e he => by rw [← hget e he, ← hget h hmem]; exact hmax e he⟩

theorem Dev.pick_ports (d : Dev) (p : Nat) (hs : List (Nat × Copy × Nat)) (fuel level : Nat) :
    (d.pick p hs fuel level).2.ports = d.ports := by
  induction fuel generalizing d level with
  | zero => rfl
  | succ fuel ih =>
    rcases d.pick_succ p hs fuel level with ⟨-, heq⟩ | ⟨g, -, -, ⟨v, heq⟩ | heq⟩ <;> rw [heq]
    · split
      · rfl
      · exact ih d _
    · exact ((d.flagged_givenTurn _).trans (Dev.flagged_deficit _ _ v)).bookkept.ports
    · exact (ih _ _).trans (d.flagged_givenTurn _).bookkept.ports

end Sys2Proof.Machine
end

section
/-! Proofs: the copy chosen begins to be sent (R282, R365). -/

namespace Sys2Proof.Machine
open Sys2Proof

theorem Dev.port_congr {a b : Dev} (h : b.ports = a.ports) (p : Nat) : b.port p = a.port p := by simp only [Dev.port, h]

@[simp] theorem Dev.port_setPort_self (d : Dev) (p : Nat) (x : Port) : (d.setPort p x).port p = x :=
  tgetD_tput_self d.ports p Port.idle x

theorem Dev.charged_ports (d : Dev) (k : Clock) (p key inc burst e : Nat) (ok : Bool) :
    (d.charged k p key inc burst e ok).ports = d.ports := by
  unfold Dev.charged
  split
  · rfl
  · exact (Dev.flagged_event _ k _ (by decide)).bookkept.ports

/-- The shapers' advance leaves the ports. -/
theorem Dev.chargeAll_ports (d : Dev) (k : Clock) (q : Nat) (c : Copy) (e : Nat) (bad : List Nat) :
    (d.chargeAll k q c e bad).ports = d.ports := by
  unfold Dev.chargeAll
  simp only [apply_ite Dev.ports, Dev.charged_ports, ite_self]

theorem Dev.stopSpill_spec (d : Dev) (c : Copy) : (d.stopSpill c).1.fid = c.fid ∧ d.bookkept (d.stopSpill c).2 := by
  unfold Dev.stopSpill
  split
  · exact ⟨rfl, d.bookkept_refl⟩
  · exact ⟨rfl, d.bookkept_bm _⟩

/-- A chosen copy begins to be sent from its queue. -/
theorem Dev.start_sends (d : Dev) (k : Clock) (p : Nat) (h : Nat × Copy × Nat) (bad : List Nat) :
    ∃ u, ((d.start k p h false bad).port p).tx = some u ∧ u.q = 8 * p + h.1 ∧ u.copy.fid = h.2.1.fid ∧ u.read = 0 ∧ u.bytes = [] := by
  obtain ⟨cls, c, e⟩ := h
  unfold Dev.start
  dsimp only
  rw [if_neg Bool.false_ne_true, Dev.port_congr (Dev.flagged_normalQueue _ _).bookkept.ports, Dev.port_setPort_self]
  exact ⟨_, rfl, rfl, (Dev.stopSpill_spec _ c).1, rfl, rfl⟩

/-- One whose descriptor reads uncorrectable is discarded, with BM_STICKY bit 2. -/
theorem Dev.start_discards (d : Dev) (k : Clock) (p : Nat) (h : Nat × Copy × Nat) (bad : List Nat) :
    (d.start k p h true bad).ports = d.ports ∧ bit ((d.start k p h true bad).get F.BM_STICKY) 2 = true := by
  obtain ⟨cls, c, e⟩ := h
  unfold Dev.start
  dsimp only
  rw [if_pos rfl]
  generalize hd1 : ((d.chargeAll k (8 * p + cls) c e bad).perf 34 0).countQueue (8 * p + cls) 15 (d.copyLen c) = d1
  have hports : d1.ports = d.ports := by
    subst hd1
    exact ((Dev.bookkept_countQueue _ _ _ _).ports.trans (Dev.flagged_perf _ _ _).bookkept.ports).trans (d.chargeAll_ports ..)
  have hkept := (((Dev.flagged_event (d1.setBit F.BM_STICKY 2) k (flc 33 6 0) (n := 533) (by decide)).bookkept).trans
    (Dev.bookkept_headDrop _ k (8 * p + cls) c (count := id) (Dev.bookkept_refl _))).trans
    (Dev.flagged_normalQueue _ (8 * p + cls)).bookkept
  exact ⟨hkept.ports.trans hports, by rw [hkept.get _ (by decide)]; exact d1.bit_setBit (by decide)⟩

/-! SCHEDULER_SELECT. -/

/-- A port may send and nothing keeps it from choosing: after the head discards its eligible heads are hs, on the device d1. -/
structure Dev.chooses (d : Dev) (k : Clock) (p : Nat) (hs : List (Nat × Copy × Nat)) (d1 : Dev) : Prop where
  port : p < 518
  notSconce : p ≠ 513
  exists_ : d.portExists p = true
  scheduler : d.isHeld 34 = false
  buffer : d.isHeld 33 = false
  idle : (d.port p).tx = none
  due : d.portDue p = true
  heads : (d.portDrops k p).heads k p = (hs, d1)

section
variable {d d1 d2 : Dev} {k : Clock} {p : Nat} {hs : List (Nat × Copy × Nat)}

theorem Dev.chooses.bookkept (h : d.chooses k p hs d1) : d.bookkept d1 := by
  have hkept := ((d.portDrops k p).heads_spec k p).1
  rw [h.heads] at hkept
  exact (d.bookkept_portDrops k p).trans hkept

theorem Dev.chooses.class_lt (h : d.chooses k p hs d1) : ∀ e ∈ hs, e.1 < 8 := by
  have hcls := ((d.portDrops k p).heads_spec k p).2
  rwa [h.heads] at hcls

/-- Choosing leaves the ports as they were. -/
theorem Dev.chooses.ports (h : d.chooses k p hs d1) {r : Option (Nat × Copy × Nat)} (hpick : d1.pick p hs 64 7 = (r, d2)) :
    d2.ports = d.ports := by
  have hports := d1.pick_ports p hs 64 7
  rw [hpick] at hports
  exact hports.trans h.bookkept.ports

/-- The head chosen is one of those eligible, of the highest strict level that has one (R283). -/
theorem Dev.chooses.highest (h : d.chooses k p hs d1) (hrot : ∀ c < 8, c ∈ d.rotation p) {g : Nat × Copy × Nat}
    (hpick : d1.pick p hs 64 7 = (some g, d2)) :
    g ∈ hs ∧ ∀ e ∈ hs, d.get (F.EGQ_LEVEL (8 * p + e.1)) ≤ d.get (F.EGQ_LEVEL (8 * p + g.1)) := by
  have hlevel : ∀ e ∈ hs, d1.get (F.EGQ_LEVEL (8 * p + e.1)) = d.get (F.EGQ_LEVEL (8 * p + e.1)) := fun e he =>
    h.bookkept.get _ (Fld.steady_level _ (by have := h.class_lt e he; have := h.port; omega))
  have hin : ∀ e ∈ hs, e.1 < 8 ∧ e.1 ∈ d1.rotation p := fun e he =>
    ⟨h.class_lt e he, by rw [Dev.rotation_congr h.bookkept]; exact hrot e.1 (h.class_lt e he)⟩
  obtain ⟨hmem, hmax⟩ := Dev.pick_highest h.port hin
    (fun e _ => Nat.le_of_lt_succ (d1.get_lt (F.EGQ_LEVEL (8 * p + e.1)))) hpick
  exact ⟨hmem, fun e he => by rw [← hlevel e he, ← hlevel g hmem]; exact hmax e he⟩

/-- Head discards, the eligible heads, the choice, and the start of what it chose. -/
theorem Dev.chooses.select_eq (h : d.chooses k p hs d1) {r : Option (Nat × Copy × Nat)} (hpick : d1.pick p hs 64 7 = (r, d2))
    (descBad : Bool) (bad : List Nat) :
    schedulerSelect p descBad bad k d = (match r with
      | none => d2
      | some g => d2.start k p g descBad bad).poolsUpdate k := by
  unfold schedulerSelect
  rw [if_neg (by simp [Nat.not_le.mpr h.port, h.notSconce, h.exists_, h.scheduler, h.buffer, h.idle, h.due]), h.heads]
  dsimp only
  rw [hpick]
  cases r <;> rfl

theorem Dev.poolsUpdate_port (d : Dev) (k : Clock) (p : Nat) : (d.poolsUpdate k).port p = d.port p :=
  Dev.port_congr (d.flagged_poolsUpdate k).bookkept.ports p

/-- The copy chosen begins to be sent. -/
theorem Dev.chooses.sends (h : d.chooses k p hs d1) {g : Nat × Copy × Nat} (hpick : d1.pick p hs 64 7 = (some g, d2))
    (bad : List Nat) :
    ∃ u, ((schedulerSelect p false bad k d).port p).tx = some u ∧ u.q = 8 * p + g.1 ∧ u.copy.fid = g.2.1.fid ∧ u.read = 0 ∧
      u.bytes = [] := by
  rw [h.select_eq hpick, Dev.poolsUpdate_port]
  exact d2.start_sends k p g bad

/-- A copy chosen whose descriptor reads uncorrectable is not sent (R365). -/
theorem Dev.chooses.discards (h : d.chooses k p hs d1) {g : Nat × Copy × Nat} (hpick : d1.pick p hs 64 7 = (some g, d2))
    (bad : List Nat) :
    ((schedulerSelect p true bad k d).port p).tx = none ∧ bit ((schedulerSelect p true bad k d).get F.BM_STICKY) 2 = true := by
  obtain ⟨hports, hbit⟩ := d2.start_discards k p g bad
  rw [h.select_eq hpick, Dev.poolsUpdate_port, Dev.port_congr (hports.trans (h.ports hpick)),
    (Dev.flagged_poolsUpdate _ k).2.2 _ (by decide)]
  exact ⟨h.idle, hbit⟩

/-- With no choice made the port stays idle. -/
theorem Dev.chooses.idles (h : d.chooses k p hs d1) (hpick : d1.pick p hs 64 7 = (none, d2)) (bad : List Nat) :
    ((schedulerSelect p false bad k d).port p).tx = none := by
  rw [h.select_eq hpick, Dev.poolsUpdate_port, Dev.port_congr (h.ports hpick)]
  exact h.idle

end

end Sys2Proof.Machine
end

section
/-! Proofs: the calendar (R285). -/

namespace Sys2Proof.Machine
open Sys2Proof

/-- An entry found is listed. -/
theorem mem_of_tget? {α : Type} {t : Tab α} {key : Nat} {x : α} (h : tget? t key = some x) : (key, x) ∈ t := by
  induction t with
  | nil => cases h
  | cons e t ih =>
    obtain ⟨j, y⟩ := e
    rw [tget?_cons] at h
    split at h
    · rename_i hj
      exact hj ▸ Option.some.inj h ▸ List.mem_cons_self
    · exact List.mem_cons_of_mem _ (ih h)

/-- In a table whose indices rise, an entry listed is found. -/
theorem tget?_of_mem {α : Type} {t : Tab α} (hs : t.Pairwise (fun a b => a.1 < b.1)) {e : Nat × α} (he : e ∈ t) :
    tget? t e.1 = some e.2 := by
  induction t with
  | nil => cases he
  | cons g t ih =>
    obtain ⟨hg, hs⟩ := List.pairwise_cons.mp hs
    rw [tget?_cons]
    rcases List.mem_cons.mp he with rfl | he
    · exact if_pos rfl
    · rw [if_neg (Nat.ne_of_lt (hg e he)), ih hs he]

/-- The wheel slot of a shaper whose next time is t: none when it is due. -/
def wheelSlot (k : Clock) (t : Nat) : Option Nat :=
  if t ≤ k.shaping then none else some (min (t / slotWidth) (k.shaping / slotWidth + 65535))

theorem Dev.filed_setNext_self (d : Dev) (k : Clock) (key t : Nat) : tget? (d.setNext k key t).egr.filed key = wheelSlot k t := by
  unfold Dev.setNext wheelSlot
  dsimp only
  split
  · exact tget?_tdel_self _ _
  · exact tget?_tset_self _ _ _

theorem Dev.filed_setNext_of_ne (d : Dev) (k : Clock) {key j : Nat} (t : Nat) (h : j ≠ key) :
    tget? (d.setNext k key t).egr.filed j = tget? d.egr.filed j := by
  unfold Dev.setNext
  dsimp only
  split
  · exact tget?_tdel_of_ne _ h
  · exact tget?_tset_of_ne _ _ h

/-- The recheck of one entry of the calendar. -/
def Dev.refile (d : Dev) (k : Clock) (key : Nat) : Dev := d.setNext k key (tgetD d.egr.next key 0)

theorem Dev.next_refile (d : Dev) (k : Clock) (key j : Nat) : tgetD (d.refile k key).egr.next j 0 = tgetD d.egr.next j 0 := by
  by_cases h : j = key
  · subst h
    exact tgetD_tset_self _ _ _ _
  · exact tgetD_tset_of_ne _ _ _ h

/-- The recheck of several entries, each once. -/
theorem Dev.filed_foldl_refile (k : Clock) {es : Tab Nat} (hs : es.Pairwise (fun a b => a.1 < b.1)) (d : Dev) :
    (∀ e ∈ es, tget? (es.foldl (fun d e => d.refile k e.1) d).egr.filed e.1 = wheelSlot k (tgetD d.egr.next e.1 0)) ∧
      ∀ j, (∀ e ∈ es, e.1 ≠ j) → tget? (es.foldl (fun d e => d.refile k e.1) d).egr.filed j = tget? d.egr.filed j := by
  induction es generalizing d with
  | nil => exact ⟨fun _ he => (nomatch he), fun _ _ => rfl⟩
  | cons e es ih =>
    obtain ⟨he, hs⟩ := List.pairwise_cons.mp hs
    obtain ⟨hin, hout⟩ := ih hs (d.refile k e.1)
    refine ⟨fun g hg => ?_, fun j hj => ?_⟩
    · rcases List.mem_cons.mp hg with rfl | hg
      · exact (hout g.1 fun x hx => (Nat.ne_of_lt (he x hx)).symm).trans (d.filed_setNext_self k _ _)
      · exact (hin g hg).trans (congrArg _ (d.next_refile k _ _))
    · exact (hout j fun x hx => hj x (List.mem_cons_of_mem _ hx)).trans
        (d.filed_setNext_of_ne k _ (hj e List.mem_cons_self).symm)

/-- CALENDAR_SLOT rechecks the entries of the slots that shaping time has passed, and no other. -/
theorem calendarSlot_spec {d : Dev} (k : Clock) (hheld : d.isHeld 34 = false) (hs : d.egr.filed.Pairwise (fun a b => a.1 < b.1))
    {key slot : Nat} (hkey : tget? d.egr.filed key = some slot) :
    (k.shaping < (slot + 1) * slotWidth → tget? (calendarSlot k d).egr.filed key = some slot) ∧
      ((slot + 1) * slotWidth ≤ k.shaping →
        tget? (calendarSlot k d).egr.filed key = wheelSlot k (tgetD d.egr.next key 0)) := by
  set passed := d.egr.filed.filter (fun e => (e.2 + 1) * slotWidth ≤ k.shaping) with hpassed
  obtain ⟨hin, hout⟩ := Dev.filed_foldl_refile k (hs.filter (fun e => decide ((e.2 + 1) * slotWidth ≤ k.shaping))) d
  have hcal : calendarSlot k d = if passed.isEmpty then d else (passed.foldl (fun d e => d.refile k e.1) d).perf 34 1 := by
    unfold calendarSlot
    simp only [hheld, Bool.or_false]
    rfl
  have hegr : ∀ x : Dev, (x.perf 34 1).egr = x.egr := fun x => (x.flagged_perf 34 1).bookkept.egr
  refine ⟨fun hlate => ?_, fun hpast => ?_⟩
  · have hno : ∀ e ∈ passed, e.1 ≠ key := by
      rintro e he rfl
      obtain ⟨hmem, hpast⟩ := List.mem_filter.mp he
      have hslot : e.2 = slot := Option.some.inj ((tget?_of_mem hs hmem).symm.trans hkey)
      rw [hslot] at hpast
      exact absurd (of_decide_eq_true hpast) (Nat.not_le.mpr hlate)
    rw [hcal]
    split
    · exact hkey
    · rw [hegr, hout key hno, hkey]
  · have hmem : (key, slot) ∈ passed := List.mem_filter.mpr ⟨mem_of_tget? hkey, decide_eq_true hpast⟩
    rw [hcal, if_neg (by simpa using List.ne_nil_of_mem hmem), hegr]
    exact hin (key, slot) hmem

end Sys2Proof.Machine
end

section
/-! Proofs: a copy read leaves the device (R48, R121, R122, R464). -/

namespace Sys2Proof.Machine
open Sys2Proof

/-! What follows every transmission. -/

@[simp] theorem Dev.port_stopTx (d : Dev) (p : Nat) : ((d.stopTx p).port p).tx = none := by
  rw [Dev.stopTx, Dev.port_setPort_self]

theorem Dev.bookkept_afterSend (d : Dev) (p : Nat) (t : Tx) (f : Frame) : (d.stopTx p).bookkept (d.afterSend p t f) := by
  unfold Dev.afterSend
  dsimp only
  split
  · split
    · exact Dev.bookkept_setQueue _ _ _
    · exact Dev.bookkept_releaseFrom _ _ _
  · exact Dev.bookkept_releaseFrom _ _ _

theorem Dev.bookkept_afterCut (d : Dev) (p : Nat) (t : Tx) (f : Frame) : (d.stopTx p).bookkept (d.afterCut p t f) :=
  (Dev.bookkept_setFrame _ _ _).trans (Dev.bookkept_retire _ _)

/-- A transmission that has read everything: its copy leaves, the bytes are tallied, and the rest is bookkeeping. -/
theorem copyTransmit_bookkept {d : Dev} {k : Clock} {p : Nat} {t : Tx} {f : Frame} (ok : Bool) (hp : p < 513)
    (htx : (d.port p).tx = some t) (hf : d.frame? t.copy.fid = some f) (hdone : t.done f = true) :
    (((if p = 512 then d.sendUp t f else d.sendFrame k p t f ok).tallyBytes t.copy t.bytes.length).stopTx p).bookkept
      (copyTransmit p ok k d) := by
  have hgo : ¬ (decide (513 ≤ p) || !t.done f) = true := by simp [hdone, hp]
  unfold copyTransmit
  rw [htx]
  dsimp only
  rw [hf]
  dsimp only
  rw [if_neg hgo]
  generalize (if p = 512 then d.sendUp t f else d.sendFrame k p t f ok).tallyBytes t.copy t.bytes.length = d1
  refine Dev.bookkept.trans ?_ (Dev.flagged_poolsUpdate _ k).bookkept
  split
  · exact Dev.bookkept_afterCut _ p t f
  · exact Dev.bookkept_afterSend _ p t f

/-! A front port. -/

/-- Without transparent correction a forwarded copy leaves unchanged. -/
theorem Dev.stamped_forward {d : Dev} {p : Nat} {c : Copy} (k : Clock) (f : Frame) (b : Bytes) (ok : Bool)
    (hc : ∃ o, c.kind = .forward o) (htc : d.get (F.PTP_TC_MODE p) = 0) : d.stamped k p c f b ok = (b, d) := by
  obtain ⟨o, hc⟩ := hc
  unfold Dev.stamped
  rw [hc]
  dsimp only
  split
  · unfold Dev.correction
    dsimp only
    split
    · rfl
    · exact if_pos (by simp [htc])
  · rfl

/-- A frame that fits leaves with its FCS, stomped when it must be (R121, R122); what follows is bookkeeping. -/
theorem Dev.sendFrame_bookkept {d : Dev} {p : Nat} {t : Tx} {f : Frame} (k : Clock) (ok : Bool)
    (hc : ∃ o, t.copy.kind = .forward o) (htc : d.get (F.PTP_TC_MODE p) = 0)
    (hlen : (d.content t.copy f t.bytes).length + 4 ≤ d.maxFrame p) :
    (d.emit (.frame p (withFcs (padTo (d.content t.copy f t.bytes) 60)
      (t.stomp || f.cut || f.refused || (f.ended.isSome && f.ended != some .good))))).bookkept (d.sendFrame k p t f ok) := by
  obtain ⟨-, -, hstomp⟩ := Fld.steady_mac p
  unfold Dev.sendFrame
  simp only [Nat.not_lt.mpr hlen, decide_false, Bool.or_false, if_false, d.stamped_forward k f _ ok hc htc]
  refine Dev.bookkept.trans ?_ (Dev.bookkept_countQueue _ _ _ _)
  have hsent : ∀ (x : Dev) (b : Bool) (n : Nat), x.bookkept
      (if b = true then (x.count (cPort p 9) n).setB (F.MAC_STICKY_STOMP_SENT p) true else x) := fun x b n => by
    split
    · exact (x.bookkept_count _ _).trans (Dev.flagged_set _ _ hstomp (by simp [F.MAC_STICKY_STOMP_SENT])).bookkept
    · exact x.bookkept_refl
  have hmarked : ∀ (x : Dev) (b : Bool) (n : Nat), x.bookkept (if b = true then x.countQueue t.q 12 n else x) := fun x b n => by
    split
    · exact x.bookkept_countQueue _ _ _
    · exact x.bookkept_refl
  exact ((Dev.bookkept_count _ _ _).trans (hsent _ _ _)).trans (hmarked _ _ _)

/-- An emission that still stands in what a device has emitted is followed by what came after it. -/
theorem out_eq_of_prefix {a b : List Out} {o : Out} (h : a ++ [o] <+: b) : ∃ l, b = a ++ o :: l := by
  obtain ⟨l, rfl⟩ := h
  exact ⟨l, by simp⟩

/-- COPY_TRANSMIT by a front port: one frame leaves, its bytes are tallied, and the port sends nothing. -/
theorem copyTransmit_front {d : Dev} {k : Clock} {p : Nat} {t : Tx} {f : Frame} (ok : Bool) (hp : p < 512)
    (htx : (d.port p).tx = some t) (hf : d.frame? t.copy.fid = some f) (hdone : t.done f = true)
    (hc : ∃ o, t.copy.kind = .forward o) (htc : d.get (F.PTP_TC_MODE p) = 0)
    (hlen : (d.content t.copy f t.bytes).length + 4 ≤ d.maxFrame p) :
    let b := copyTransmit p ok k d
    (b.port p).tx = none ∧ b.chan.bytes = d.chan.bytes + t.bytes.length ∧ ∃ l,
      b.out = d.out ++ .frame p (withFcs (padTo (d.content t.copy f t.bytes) 60)
        (t.stomp || f.cut || f.refused || (f.ended.isSome && f.ended != some .good))) :: l := by
  have hsent := Dev.sendFrame_bookkept k ok hc htc hlen
  have hkept := copyTransmit_bookkept (k := k) ok (Nat.lt_succ_of_lt hp) htx hf hdone
  rw [if_neg (Nat.ne_of_lt hp)] at hkept
  refine ⟨by rw [Dev.port_congr hkept.ports, Dev.port_stopTx], ?_, out_eq_of_prefix (hsent.out.trans hkept.out)⟩
  rw [hkept.chan]
  exact congrArg (fun c : Chan => c.bytes + t.bytes.length) hsent.chan

/-! Port 512. -/

/-- A forwarded copy to port 512 joins the messages of its class (R464). -/
theorem Dev.sendUp_msgs {d : Dev} {t : Tx} {f : Frame} (hstomp : t.stomp = false) (hc : ∃ o, t.copy.kind = .forward o) :
    tgetD (d.sendUp t f).taper.msgs t.copy.cls [] = tgetD d.taper.msgs t.copy.cls [] ++
      [⟨1, upMeta t.copy f (d.content t.copy f t.bytes).length ++ d.content t.copy f t.bytes, false⟩] := by
  obtain ⟨o, hc⟩ := hc
  unfold Dev.sendUp
  rw [hstomp, if_neg Bool.false_ne_true]
  dsimp only
  rw [(Dev.bookkept_countQueue _ _ _ _).taper, hc]
  exact tgetD_tset_self _ _ _ _

/-- COPY_TRANSMIT by port 512: the copy becomes a message of its class, and the port sends nothing. -/
theorem copyTransmit_up {d : Dev} {k : Clock} {t : Tx} {f : Frame} (ok : Bool) (htx : (d.port 512).tx = some t)
    (hf : d.frame? t.copy.fid = some f) (hdone : t.done f = true) (hstomp : t.stomp = false) (hc : ∃ o, t.copy.kind = .forward o) :
    ((copyTransmit 512 ok k d).port 512).tx = none ∧
      tgetD (copyTransmit 512 ok k d).taper.msgs t.copy.cls [] = tgetD d.taper.msgs t.copy.cls [] ++
        [⟨1, upMeta t.copy f (d.content t.copy f t.bytes).length ++ d.content t.copy f t.bytes, false⟩] := by
  have hkept := copyTransmit_bookkept (k := k) ok (by decide) htx hf hdone
  rw [if_pos rfl] at hkept
  refine ⟨by rw [Dev.port_congr hkept.ports, Dev.port_stopTx], ?_⟩
  rw [hkept.taper]
  exact Dev.sendUp_msgs hstomp hc

/-! A recirculation port: the frame's next pass asks for its cells (R48, R235). -/

theorem Dev.frame?_congr {a b : Dev} (h : b.frames = a.frames) (fid : Nat) : b.frame? fid = a.frame? fid := by
  simp only [Dev.frame?, h]

@[simp] theorem Dev.frame?_setFrame_self (d : Dev) (fid : Nat) (f : Frame) : (d.setFrame fid f).frame? fid = some f :=
  tget?_tset_self _ _ _

/-- A grant adds a cell to its frame. -/
theorem Dev.grant_spec {d d1 : Dev} {fid pool : Nat} (h : d.grant fid pool = some d1) :
    d.bookkept d1 ∧ ∃ f n, d.frame? fid = some f ∧ d1.frame? fid = some { f with cells := f.cells ++ [n] } := by
  unfold Dev.grant at h
  split at h
  · rename_i n f _ hf
    cases h
    exact ⟨(d.bookkept_bm _).trans (Dev.bookkept_setFrame _ _ _), f, n, hf, Dev.frame?_setFrame_self _ _ _⟩
  · cases h

theorem Dev.fillCells_spec (d : Dev) (fid : Nat) : d.bookkept (d.fillCells fid) ∧ (d.fillCells fid).frames = d.frames := by
  unfold Dev.fillCells
  split
  · exact ⟨d.bookkept_refl, rfl⟩
  · refine ⟨Dev.bookkept_foldl _ _ (fun d _ _ => d.bookkept_bm _) d, ?_⟩
    exact List.foldlRecOn (motive := fun b : Dev => b.frames = d.frames) _ _ rfl fun b hb _ _ => hb

/-- A whole frame that is granted its cells holds them, and is else as it was. -/
theorem Dev.askWhole_granted {d : Dev} {k : Clock} {fid : Nat} {f : Frame} (hf : d.frame? fid = some f)
    (hask : (d.askWhole k fid).1 = .granted) :
    d.bookkept (d.askWhole k fid).2 ∧ ∃ cells, (d.askWhole k fid).2.frame? fid = some { f with cells := cells } := by
  unfold Dev.askWhole at hask ⊢
  rw [hf] at hask ⊢
  dsimp only at hask ⊢
  split at hask
  · cases hask
  rename_i hwait
  split at hask
  · cases hask
  rename_i habove
  rw [if_neg hwait, if_neg habove]
  split at hask
  · split at hask <;> cases hask
  rename_i d1 hgot
  have hall : d.bookkept d1 ∧ ∃ cells, d1.frame? fid = some { f with cells := cells } := by
    refine List.foldlRecOn (motive := fun a : Option Dev => ∀ x, a = some x →
      d.bookkept x ∧ ∃ cells, x.frame? fid = some { f with cells := cells }) _ _ ?_ (fun a ha _ _ x hx => ?_) d1 hgot
    · rintro x ⟨⟩
      exact ⟨d.bookkept_refl, f.cells, hf⟩
    · split at hx
      · cases hx
      · split at hx
        · obtain ⟨hkept, cells, hcells⟩ := ha _ rfl
          obtain ⟨hgrant, g, n, hg, hx⟩ := Dev.grant_spec hx
          cases hcells.symm.trans hg
          exact ⟨hkept.trans hgrant, _, hx⟩
        · cases hx
  obtain ⟨hkept, cells, hcells⟩ := hall
  obtain ⟨hfill, hframes⟩ := d1.fillCells_spec fid
  have hpool := Dev.flagged_poolUpdate (((d1.fillCells fid).perf 33 0).spend 5 (ceilDiv f.bytes.length 256)) k f.pool
  have hperf := (d1.fillCells fid).flagged_perf 33 0
  exact ⟨((hkept.trans hfill).trans hperf.bookkept).trans ((Dev.bookkept_spend _ _ _).trans hpool.bookkept), cells,
    (Dev.frame?_congr ((hpool.frames_eq.trans hperf.frames_eq).trans hframes) fid).trans hcells⟩

/-- The next pass of a copy that RECIRCULATE gave an opcode. -/
theorem Dev.nextPass_forward {d : Dev} {c : Copy} {op : Nat} (p : Nat) (f : Frame) (body : Bytes) (hc : c.kind = .forward (some op)) :
    (d.nextPass p c f body).2 = d ∧ (d.nextPass p c f body).1.pass = f.pass + 1 ∧ (d.nextPass p c f body).1.entryOp = op ∧
      (d.nextPass p c f body).1.ingress = f.ingress ∧ (d.nextPass p c f body).1.bytes = withFcs (padTo body 60) false := by
  unfold Dev.nextPass
  rw [hc]
  exact ⟨rfl, rfl, rfl, rfl, rfl⟩

/-- The device once a recirculation port has read a copy: counted, tallied and given up. -/
def Dev.recircSent (d : Dev) (p : Nat) (t : Tx) (f : Frame) : Dev :=
  ((d.countQueue t.q 1 (max 64 ((d.content t.copy f t.bytes).length + 4))).tallyBytes t.copy t.bytes.length).afterSend p t f

/-- The number of the frame's next pass, and the device that asks for its cells. -/
def Dev.reentryId (d : Dev) (p : Nat) (t : Tx) (f : Frame) : Nat :=
  ((d.recircSent p t f).nextPass p t.copy f (d.content t.copy f t.bytes)).2.newFrame

def Dev.reentering (d : Dev) (p : Nat) (t : Tx) (f : Frame) : Dev :=
  let r := (d.recircSent p t f).nextPass p t.copy f (d.content t.copy f t.bytes)
  r.2.setFrame (d.reentryId p t f) r.1

/-- RECIRCULATION_ENTRY of a copy whose next pass is granted its cells: the frame joins the lantern where it first entered. -/
theorem recirculate_granted {d : Dev} {k : Clock} {p : Nat} {t : Tx} {f : Frame} (htx : (d.port p).tx = some t)
    (hf : d.frame? t.copy.fid = some f) (hdone : t.done f = true) (hp : 514 ≤ p) (hstomp : t.stomp = false) (hover : t.over_ = false)
    (hpass : f.pass < 4) (hask : ((d.reentering p t f).askWhole k (d.reentryId p t f)).1 = .granted) :
    recirculate p k d = (((d.reentering p t f).askWhole k (d.reentryId p t f)).2.joinRecirc (f.ingress / 16)
      (d.reentryId p t f)).poolsUpdate k := by
  obtain ⟨x, hx⟩ : ∃ x, (d.reentering p t f).askWhole k (d.reentryId p t f) = (.granted, x) := ⟨_, Prod.ext hask rfl⟩
  rw [hx]
  unfold Dev.reentering Dev.reentryId Dev.recircSent at hx
  dsimp only at hx
  unfold recirculate
  rw [htx]
  dsimp only
  rw [hf]
  dsimp only
  rw [if_neg (by simp [hdone, Nat.not_lt.mpr hp])]
  simp only [hstomp, hover, Bool.false_eq_true, if_false, Nat.not_le.mpr hpass, hx]
  rfl

/-- A port that has sent a copy to recirculation sends nothing; the lanterns are as they were. -/
theorem Dev.recircSent_spec (d : Dev) (p : Nat) (t : Tx) (f : Frame) :
    ((d.recircSent p t f).port p).tx = none ∧ (d.recircSent p t f).lanterns = d.lanterns := by
  have hkept := Dev.bookkept_afterSend
    ((d.countQueue t.q 1 (max 64 ((d.content t.copy f t.bytes).length + 4))).tallyBytes t.copy t.bytes.length) p t f
  exact ⟨by rw [Dev.recircSent, Dev.port_congr hkept.ports, Dev.port_stopTx],
    hkept.lanterns.trans (d.bookkept_countQueue _ _ _).lanterns⟩

/-- The device that asks holds the frame of the next pass; its ports and lanterns are as the sending left them. -/
theorem Dev.reentering_spec {d : Dev} {p op : Nat} {t : Tx} {f : Frame} (hop : t.copy.kind = .forward (some op)) :
    ((d.reentering p t f).port p).tx = none ∧ (d.reentering p t f).lanterns = d.lanterns ∧
      ∃ g, (d.reentering p t f).frame? (d.reentryId p t f) = some g ∧ g.pass = f.pass + 1 ∧ g.entryOp = op ∧ g.ingress = f.ingress ∧
        g.bytes = withFcs (padTo (d.content t.copy f t.bytes) 60) false := by
  obtain ⟨hnext, hfields⟩ := (d.recircSent p t f).nextPass_forward p f (d.content t.copy f t.bytes) hop
  obtain ⟨hnone, hlan⟩ := d.recircSent_spec p t f
  have hset := Dev.bookkept_setFrame ((d.recircSent p t f).nextPass p t.copy f (d.content t.copy f t.bytes)).2 (d.reentryId p t f)
    ((d.recircSent p t f).nextPass p t.copy f (d.content t.copy f t.bytes)).1
  rw [hnext] at hset
  have hasks : d.reentering p t f = (d.recircSent p t f).setFrame (d.reentryId p t f)
      ((d.recircSent p t f).nextPass p t.copy f (d.content t.copy f t.bytes)).1 := by
    rw [Dev.reentering, hnext]
  rw [hasks]
  exact ⟨by rw [Dev.port_congr hset.ports, hnone], hset.lanterns.trans hlan, _, Dev.frame?_setFrame_self _ _ _, hfields⟩

/-- The frame that re-enters: its lantern lists it last, and it is the next pass of the copy RECIRCULATE named. -/
theorem recirculate_spec {d : Dev} {k : Clock} {p op : Nat} {t : Tx} {f : Frame} (htx : (d.port p).tx = some t)
    (hf : d.frame? t.copy.fid = some f) (hdone : t.done f = true) (hp : 514 ≤ p) (hstomp : t.stomp = false) (hover : t.over_ = false)
    (hpass : f.pass < 4) (hop : t.copy.kind = .forward (some op))
    (hask : ((d.reentering p t f).askWhole k (d.reentryId p t f)).1 = .granted) :
    let b := recirculate p k d
    (b.port p).tx = none ∧ (b.lantern (f.ingress / 16)).recirc = (d.lantern (f.ingress / 16)).recirc ++ [d.reentryId p t f] ∧
      ∃ e, b.frame? (d.reentryId p t f) = some e ∧ e.pass = f.pass + 1 ∧ e.entryOp = op ∧ e.ingress = f.ingress ∧
        e.bytes = withFcs (padTo (d.content t.copy f t.bytes) 60) false := by
  dsimp only
  rw [recirculate_granted htx hf hdone hp hstomp hover hpass hask]
  obtain ⟨hnone, hlan, g, hg, hfields⟩ := d.reentering_spec (p := p) (f := f) hop
  obtain ⟨hgrant, cells, hcells⟩ := Dev.askWhole_granted hg hask
  generalize ((d.reentering p t f).askWhole k (d.reentryId p t f)).2 = a at hgrant hcells
  have hpools := (a.joinRecirc (f.ingress / 16) (d.reentryId p t f)).flagged_poolsUpdate k
  refine ⟨?_, ?_, { g with cells := cells }, (Dev.frame?_congr hpools.frames_eq _).trans hcells, hfields⟩
  · rw [Dev.port_congr (hpools.bookkept.ports.trans hgrant.ports), hnone]
  · rw [Dev.lantern_congr hpools.bookkept.lanterns, Dev.joinRecirc, Dev.lantern_setLantern_self,
      Dev.lantern_congr (hgrant.lanterns.trans hlan)]

end Sys2Proof.Machine
end

section
/-! Proofs: selection and transmission together. -/

namespace Sys2Proof.Machine
open Sys2Proof

/-- Settles O51: the choice by its level, the calendar entry by entry, and each way a copy leaves by what it does before the
bookkeeping that follows. -/
theorem transmission : Obligations.Transmission := by
  intro s p h hs d1 d2 bad t f ok d k body hp
  refine ⟨fun hlt hne hex hsched hbuf hidle hdue hheads hrot => ?_,
    fun hsched hsorted => ends_onDev rfl hp fun key slot hkey => calendarSlot_spec k hsched hsorted hkey, fun htx hf hdone =>
    ⟨fun hfront hc htc hlen => ends_onDev rfl hp (copyTransmit_front ok hfront htx hf hdone hc htc hlen),
      fun hup hstomp hc => ends_onDev rfl hp ?_, fun hrec hstomp hover hpass op hop hask => ends_onDev rfl hp
        (recirculate_spec htx hf hdone hrec hstomp hover hpass hop hask)⟩⟩
  · have hch : d.chooses k p hs d1 := ⟨hlt, hne, hex, hsched, hbuf, hidle, hdue, hheads⟩
    refine ⟨fun hpick => ?_, fun hpick => ends_onDev rfl hp (hch.idles hpick _)⟩
    obtain ⟨hmem, hmax⟩ := hch.highest hrot hpick
    exact ⟨hmem, hmax, ends_onDev rfl hp (hch.sends hpick _), ends_onDev rfl hp (hch.discards hpick _)⟩
  · subst hup
    exact copyTransmit_up ok htx hf hdone hstomp hc

end Sys2Proof.Machine
end

section
/-! Proofs: a write of a whole register, field by field. -/

namespace Sys2Proof.Machine
open Sys2Proof

/-! The word that carries several fields. -/

/-- One field stands wholly below another. -/
abbrev Fld.below (f g : Fld) : Prop := f.lo + f.w ≤ g.lo

theorem wordOf_cons (p : Fld × Nat) (l : List (Fld × Nat)) : wordOf (p :: l) = p.2 % 2 ^ p.1.w * 2 ^ p.1.lo + wordOf l := by
  have shift : ∀ (l : List (Fld × Nat)) (n : Nat),
      l.foldl (fun w p => w + p.2 % 2 ^ p.1.w * 2 ^ p.1.lo) n = n + wordOf l := by
    intro l
    induction l with
    | nil => intro n; rfl
    | cons p l ih => intro n; rw [wordOf, List.foldl_cons, List.foldl_cons, ih, ih]; omega
  rw [wordOf, List.foldl_cons, shift]
  omega

theorem pow_dvd_wordOf {n : Nat} {l : List (Fld × Nat)} (h : ∀ p ∈ l, n ≤ p.1.lo) : 2 ^ n ∣ wordOf l := by
  induction l with
  | nil => exact Nat.dvd_zero _
  | cons p l ih =>
    rw [wordOf_cons]
    exact Nat.dvd_add ((Nat.pow_dvd_pow 2 (h p List.mem_cons_self)).mul_left _) (ih fun q hq => h q (List.mem_cons_of_mem _ hq))

/-- A field's value is the part of the word it stands in. -/
theorem Fld.take_wordOf {l : List (Fld × Nat)} (h : l.Pairwise fun p q => p.1.below q.1) {p : Fld × Nat} (hp : p ∈ l) :
    p.1.take (wordOf l) = p.2 % 2 ^ p.1.w := by
  induction l with
  | nil => cases hp
  | cons e l ih =>
    obtain ⟨hbelow, hrest⟩ := List.pairwise_cons.mp h
    obtain ⟨q, hq⟩ : 2 ^ (e.1.lo + e.1.w) ∣ wordOf l := pow_dvd_wordOf fun p hp => hbelow p hp
    have hlo : wordOf (e :: l) / 2 ^ e.1.lo = e.2 % 2 ^ e.1.w + 2 ^ e.1.w * q := by
      rw [wordOf_cons, hq, Nat.pow_add, Nat.mul_assoc, Nat.add_comm, Nat.mul_add_div (Nat.two_pow_pos _),
        Nat.mul_div_cancel _ (Nat.two_pow_pos _), Nat.add_comm]
    rcases List.mem_cons.mp hp with rfl | hp
    · rw [Fld.take, bits, hlo, Nat.add_mul_mod_self_left, Nat.mod_mod]
    · have hhead : e.2 % 2 ^ e.1.w < 2 ^ e.1.w := Nat.mod_lt _ (Nat.two_pow_pos _)
      have htop : wordOf (e :: l) / 2 ^ (e.1.lo + e.1.w) = wordOf l / 2 ^ (e.1.lo + e.1.w) := by
        rw [Nat.pow_add, ← Nat.div_div_eq_div_mul, hlo, ← Nat.pow_add, hq, Nat.mul_div_cancel_left _ (Nat.two_pow_pos _),
          Nat.add_mul_div_left _ _ (Nat.two_pow_pos _), Nat.div_eq_of_lt hhead, Nat.zero_add]
      obtain ⟨m, hm⟩ : ∃ m, p.1.lo = e.1.lo + e.1.w + m := ⟨_, (Nat.add_sub_of_le (hbelow p hp)).symm⟩
      rw [← ih hrest hp, Fld.take, Fld.take, bits, bits, hm, Nat.pow_add 2 _ m, ← Nat.div_div_eq_div_mul, htop,
        Nat.div_div_eq_div_mul]

/-! Registers whose write needs no key. -/

/-- The fields of a register, each below the next within 32 bits, that are written without the key. -/
abbrev PlainReg (off : Nat) (fs : List Fld) : Prop :=
  fieldsAt off = fs ∧ fs ≠ [] ∧ fs.Pairwise Fld.below ∧ (∀ f ∈ fs, f.lo + f.w ≤ 32 ∧ 0 < f.w) ∧ ∀ f ∈ fs, f.acc ≠ .krw

/-- A write of a live register acts with a word that carries each field's part of the value written. -/
theorem PlainReg.barWrite {off : Nat} {fs : List Fld} (hr : PlainReg off fs) {d : Dev} (k : Clock) (w : Nat) (hd : d.deaf off = false) :
    ∃ word, d.barWrite k off w = d.writeActs k off fs word ∧ ∀ f ∈ fs, f.take word = f.take w := by
  obtain ⟨hfs, hne, hord, hfit, hfree⟩ := hr
  refine ⟨wordOf (fs.map fun f => (f, f.take w)), ?_, fun f hf => ?_⟩
  · subst hfs
    exact barWrite_plain w hd hfit hne hfree
  · have hpart := Fld.take_wordOf (l := fs.map fun f => (f, f.take w)) (List.pairwise_map.mpr hord)
      (List.mem_map_of_mem (f := fun f => (f, f.take w)) hf)
    exact hpart.trans (Nat.mod_mod _ _)

/-- A command that writes such a register ends as what the register does with a word of the same parts. -/
theorem PlainReg.ends {off : Nat} {fs : List Fld} (hr : PlainReg off fs) {c : Instr} {s : State} {v : Word} {p : Dev → Prop}
    (hc : exec c s = onDev (fun k d => d.barWrite k off v.toNat) s) (hl : s.m.dev.live off)
    (hp : ∀ word, (∀ f ∈ fs, f.take word = f.take v.toNat) → p (s.m.dev.writeActs s.m.clk off fs word)) : ends c s p := by
  obtain ⟨word, hact, hword⟩ := hr.barWrite s.m.clk v.toNat hl.2
  exact ends_onDev hc hl.1 (hact ▸ hp word hword)

theorem Dev.writeFields_congr (d : Dev) {fs : List Fld} {v w : Nat} (h : ∀ f ∈ fs, f.take v = f.take w) :
    d.writeFields fs v = d.writeFields fs w := by
  induction fs generalizing d with
  | nil => rfl
  | cons f fs ih =>
    rw [Dev.writeFields, Dev.writeFields, List.foldl_cons, List.foldl_cons, h f List.mem_cons_self]
    exact ih _ fun g hg => h g (List.mem_cons_of_mem _ hg)

/-! One-bit fields. -/

theorem Fld.take_bit {f : Fld} (h : f.w = 1) (w : Nat) : f.take w = b2n (bit w f.lo) := by
  rw [Fld.take, bits, h, Nat.pow_one, bit, b2n]
  have : w / 2 ^ f.lo % 2 = 0 ∨ w / 2 ^ f.lo % 2 = 1 := by omega
  rcases this with e | e <;> simp [e]

theorem b2n_inj {a b : Bool} (h : b2n a = b2n b) : a = b := by revert h; cases a <;> cases b <;> simp [b2n]

/-- Words that carry the same part of a one-bit field have the same bit. -/
theorem bit_congr {f : Fld} {v w : Nat} (hw : f.w = 1) (h : f.take v = f.take w) : bit v f.lo = bit w f.lo := by
  rw [Fld.take_bit hw, Fld.take_bit hw] at h
  exact b2n_inj h

/-- A 1 clears a one-bit W1C field. -/
theorem Dev.writeField_w1c (d : Dev) {f : Fld} (hacc : f.acc = .w1c) (hw : f.w = 1) (w : Nat) :
    d.writeField f (f.take w) = d.set f (if bit w f.lo then 0 else d.get f) := by
  have hlt := d.get_lt f
  rw [hw] at hlt
  rw [Dev.writeField, hacc, Fld.take_bit hw]
  dsimp only
  rw [hw]
  rcases (by omega : d.get f = 0 ∨ d.get f = 1) with e | e <;> cases bit w f.lo <;> simp [e, b2n, maskOf]

/-- What a W1C field holds after its part of a write fits it. -/
theorem Dev.ite_get_mod (d : Dev) (f : Fld) (c : Bool) :
    (if c then 0 else d.get f) % 2 ^ f.w = if c then 0 else d.get f := by
  cases c with
  | true => exact Nat.zero_mod _
  | false => exact Nat.mod_eq_of_lt (d.get_lt f)

/-! Lists of writes. -/

/-- Writes of fields after writes of fields. -/
theorem Dev.onlyFld_trans {a b c : Dev} (h : b = { a with fld := b.fld }) (g : c = { b with fld := c.fld }) :
    c = { a with fld := c.fld } := by
  rw [h] at g
  exact g

/-- The order of the writes does not matter. -/
theorem Dev.sets.perm {a b : Dev} {l l' : List (Fld × Nat)} (h : a.sets l b) (hp : l.Perm l') : a.sets l' b := by
  obtain ⟨hfld, hin, hout⟩ := h
  exact ⟨hfld, fun p hp' => hin p (hp.mem_iff.mpr hp'), fun f hf => hout f fun p hp' => hf p (hp.mem_iff.mp hp')⟩

/-- A field written under a condition, and that keeps what it holds otherwise. -/
theorem Dev.sets_ite {a b : Dev} {l : List (Fld × Nat)} (h : a.sets l b) (f : Fld) (c : Bool) (v : Nat)
    (hf : ∀ p ∈ l, p.1.key ≠ f.key) : a.sets (l ++ [(f, if c then v else a.get f)]) (if c then b.set f v else b) := by
  cases c with
  | true => exact Dev.sets_snoc h f v hf
  | false =>
    refine Dev.sets_same h ?_
    rw [if_neg Bool.false_ne_true, h.2.2 f fun p hp e => hf p hp e.symm, Nat.mod_eq_of_lt (a.get_lt f)]

/-- What holds of the fields of a list of writes, whatever their values. -/
theorem forall_fst {l : List (Fld × Nat)} {P : Fld → Prop} (h : ∀ f ∈ l.map Prod.fst, P f) : ∀ p ∈ l, P p.1 := fun _ hp =>
  h _ (List.mem_map_of_mem hp)

/-- Two one-bit W1C fields take their parts of a word. -/
theorem Dev.sets_w1c_pair (a : Dev) {f g : Fld} (hf : f.acc = .w1c ∧ f.w = 1) (hg : g.acc = .w1c ∧ g.w = 1) (hne : f.key ≠ g.key)
    (w : Nat) : a.sets [(f, if bit w f.lo then 0 else a.get f), (g, if bit w g.lo then 0 else a.get g)]
      ((a.writeField f (f.take w)).writeField g (g.take w)) := by
  rw [Dev.writeField_w1c _ hf.1 hf.2, Dev.writeField_w1c _ hg.1 hg.2, Dev.get_set_of_ne _ _ hne.symm]
  exact Dev.sets_setAll [(f, _), (g, _)] a (by simpa using hne)

end Sys2Proof.Machine
end

section
/-! Proofs: the strobes of peaks, FIFOs, performance counters and seeds (R74, R179, R193, R321, R330, R530). -/

namespace Sys2Proof.Machine
open Sys2Proof

/-! The registers. -/

theorem plainReg_hdrFifo : ∀ l : Fin 32, PlainReg (F.HDR_FIFO_STATUS_PEAK_CLR l).off
    [F.HDR_FIFO_STATUS_LEVEL l, F.HDR_FIFO_STATUS_PEAK l, F.HDR_FIFO_STATUS_PEAK_CLR l, F.HDR_FIFO_STATUS_HDR_FIFO_DROP l,
      F.HDR_FIFO_STATUS_STORE_ERR l] := by decide +kernel

theorem plainReg_reorder : ∀ l : Fin 32, PlainReg (F.REORDER_STATUS_PEAK_CLR l).off
    [F.REORDER_STATUS_LEVEL l, F.REORDER_STATUS_PEAK l, F.REORDER_STATUS_PEAK_CLR l] := by decide +kernel

theorem plainReg_capPop : ∀ i : Fin 5, PlainReg (F.TU_CAP_POP i).off [F.TU_CAP_POP i] := by decide +kernel

theorem plainReg_tsq : ∀ l : Fin 32, PlainReg (F.TU_TSQ_OVERFLOW l).off
    [F.TU_TSQ_LEVEL l, F.TU_TSQ_OVERFLOW l, F.TU_TSQ_DROPPED l] := by decide +kernel

theorem plainReg_perf : PlainReg 0x3400000 [F.PC_PERF_FREEZE, F.PC_PERF_CLEAR] := by decide +kernel

theorem plainReg_seed : ∀ t : Fin 8, PlainReg (F.TBL_SEED t).off [F.TBL_SEED t] := by decide +kernel

/-! Peaks. -/

theorem hdrFifo_keys (l : Nat) : ([F.HDR_FIFO_STATUS_LEVEL l, F.HDR_FIFO_STATUS_PEAK l, F.HDR_FIFO_STATUS_HDR_FIFO_DROP l,
    F.HDR_FIFO_STATUS_STORE_ERR l].map Fld.key).Nodup := by
  simp [Fld.key, F.HDR_FIFO_STATUS_LEVEL, F.HDR_FIFO_STATUS_PEAK, F.HDR_FIFO_STATUS_HDR_FIFO_DROP, F.HDR_FIFO_STATUS_STORE_ERR]

theorem acts_hdrFifo (d : Dev) (k : Clock) (l : Fin 32) (fs : List Fld) (w : Nat) :
    d.writeActs k (F.HDR_FIFO_STATUS_PEAK_CLR l).off fs w = (d.writeFields fs w).fifoPeak l w := by
  have hl := l.isLt
  have hoff : (F.HDR_FIFO_STATUS_PEAK_CLR l).off = 0x870080 + l.val * 0x80000 := rfl
  have hreg : ((F.HDR_FIFO_STATUS_PEAK_CLR l).off - 0x800000) % 0x80000 = 0x70080 := by omega
  have hlan : ((F.HDR_FIFO_STATUS_PEAK_CLR l).off - 0x800000) / 0x80000 = l := by omega
  rw [acts_lantern d k fs w (by omega) (by omega)]
  simp [Dev.writeLantern, hreg, hlan]

theorem acts_reorder (d : Dev) (k : Clock) (l : Fin 32) (fs : List Fld) (w : Nat) :
    d.writeActs k (F.REORDER_STATUS_PEAK_CLR l).off fs w = (d.writeFields fs w).reorderPeak l w := by
  have hl := l.isLt
  have hoff : (F.REORDER_STATUS_PEAK_CLR l).off = 0x860064 + l.val * 0x80000 := rfl
  have hreg : ((F.REORDER_STATUS_PEAK_CLR l).off - 0x800000) % 0x80000 = 0x60064 := by omega
  have hlan : ((F.REORDER_STATUS_PEAK_CLR l).off - 0x800000) / 0x80000 = l := by omega
  rw [acts_lantern d k fs w (by omega) (by omega)]
  simp [Dev.writeLantern, hreg, hlan]

/-- HDR_FIFO_STATUS: the sticky bits written 1 clear, and PEAK_CLR takes LEVEL into PEAK (R74). -/
theorem ends_hdrFifoPeakClr {l : Fin 32} {v : Word} {s : State} (h : s.m.dev.live (F.HDR_FIFO_STATUS_PEAK_CLR l).off) :
    ends (.hdrFifoPeakClr l v) s fun d => s.m.dev.sets
      [(F.HDR_FIFO_STATUS_PEAK l, if bit v.toNat 16 then s.m.dev.get (F.HDR_FIFO_STATUS_LEVEL l)
          else s.m.dev.get (F.HDR_FIFO_STATUS_PEAK l)),
       (F.HDR_FIFO_STATUS_HDR_FIFO_DROP l, if bit v.toNat 17 then 0 else s.m.dev.get (F.HDR_FIFO_STATUS_HDR_FIFO_DROP l)),
       (F.HDR_FIFO_STATUS_STORE_ERR l, if bit v.toNat 18 then 0 else s.m.dev.get (F.HDR_FIFO_STATUS_STORE_ERR l))] d := by
  refine (plainReg_hdrFifo l).ends rfl h fun word hword => ?_
  have hclr : bit word 16 = bit v.toNat 16 := bit_congr (f := F.HDR_FIFO_STATUS_PEAK_CLR l) rfl (hword _ (by simp))
  obtain ⟨⟨-, hld, hle⟩, ⟨hpd, hpe⟩, hde⟩ := by simpa using hdrFifo_keys l
  have hflags := s.m.dev.sets_w1c_pair (f := F.HDR_FIFO_STATUS_HDR_FIFO_DROP l) (g := F.HDR_FIFO_STATUS_STORE_ERR l)
    ⟨rfl, rfl⟩ ⟨rfl, rfl⟩ hde v.toNat
  have hlevel := hflags.2.2 (F.HDR_FIFO_STATUS_LEVEL l) (by simpa using ⟨hld, hle⟩)
  have hpeak := Dev.sets_ite hflags (F.HDR_FIFO_STATUS_PEAK l) (bit v.toNat 16) (s.m.dev.get (F.HDR_FIFO_STATUS_LEVEL l))
    (by simpa using ⟨Ne.symm hpd, Ne.symm hpe⟩)
  have hfields (w : Nat) : s.m.dev.writeFields [F.HDR_FIFO_STATUS_LEVEL l, F.HDR_FIFO_STATUS_PEAK l, F.HDR_FIFO_STATUS_PEAK_CLR l,
      F.HDR_FIFO_STATUS_HDR_FIFO_DROP l, F.HDR_FIFO_STATUS_STORE_ERR l] w =
    (s.m.dev.writeField (F.HDR_FIFO_STATUS_HDR_FIFO_DROP l) ((F.HDR_FIFO_STATUS_HDR_FIFO_DROP l).take w)).writeField
      (F.HDR_FIFO_STATUS_STORE_ERR l) ((F.HDR_FIFO_STATUS_STORE_ERR l).take w) := rfl
  rw [acts_hdrFifo, Dev.writeFields_congr _ hword, hfields, Dev.fifoPeak, hclr, hlevel]
  exact hpeak.perm (List.perm_append_comm (l₂ := [_]))

/-- REORDER_STATUS: PEAK_CLR takes LEVEL into PEAK (R179). -/
theorem ends_reorderPeakClr {l : Fin 32} {v : Word} {s : State} (h : s.m.dev.live (F.REORDER_STATUS_PEAK_CLR l).off) :
    ends (.reorderPeakClr l v) s fun d => s.m.dev.sets
      [(F.REORDER_STATUS_PEAK l, if bit v.toNat 31 then s.m.dev.get (F.REORDER_STATUS_LEVEL l)
          else s.m.dev.get (F.REORDER_STATUS_PEAK l))] d := by
  refine (plainReg_reorder l).ends rfl h fun word hword => ?_
  have hclr : bit word 31 = bit v.toNat 31 := bit_congr (f := F.REORDER_STATUS_PEAK_CLR l) rfl (hword _ (by simp))
  rw [acts_reorder, Dev.reorderPeak, hclr]
  exact Dev.sets_ite s.m.dev.sets_nil (F.REORDER_STATUS_PEAK l) _ _ (by simp)

/-! The time unit's queues. -/

theorem acts_time (d : Dev) (k : Clock) {off : Nat} (fs : List Fld) (w : Nat) (h1 : 0x200000 ≤ off) (h2 : off < 0x300000) :
    d.writeActs k off fs w = d.writeTime off fs w := by
  have n1 : ¬ off < 0x1000 := by omega
  have n2 : ¬ off < 0x2000 := by omega
  have n3 : ¬ off = 0x100000 := by omega
  have n4 : ¬ off = 0x100010 := by omega
  simp [Dev.writeActs, n1, n2, n3, n4, h1, h2]

/-- CAP_POP removes the oldest capture of its input (R321). -/
theorem ends_capPop {i : Fin 5} {v : Word} {s : State} (h : s.m.dev.live (F.TU_CAP_POP i).off) :
    ends (.capPop i v) s fun d => d = { s.m.dev with timeU := d.timeU } ∧
      d.fifoOf i = (s.m.dev.fifoOf i).drop (v.toNat % 2) ∧ (∀ j, j ≠ i.val → d.fifoOf j = s.m.dev.fifoOf j) ∧
      d.timeU = { s.m.dev.timeU with fifos := d.timeU.fifos } := by
  refine (plainReg_capPop i).ends rfl h fun word hword => ?_
  have hi := i.isLt
  have hoff : (F.TU_CAP_POP i).off = 0x20008c + i.val * 0x10 := rfl
  have hfifo : ((F.TU_CAP_POP i).off - 0x200080) / 16 = i := by omega
  have hpop : s.m.dev.writeActs s.m.clk (F.TU_CAP_POP i).off [F.TU_CAP_POP i] word = s.m.dev.capPop i word := by
    have hlo : 0x200080 ≤ (F.TU_CAP_POP i).off := by omega
    have hhi : (F.TU_CAP_POP i).off < 0x2000d0 := by omega
    have hplace : (F.TU_CAP_POP i).off % 16 = 12 := by omega
    rw [acts_time _ _ _ _ (by omega) (by omega)]
    simp [Dev.writeTime, hlo, hhi, hplace, hfifo]
  have hbit : bit word 0 = bit v.toNat 0 := bit_congr (f := F.TU_CAP_POP i) rfl (hword _ (by simp))
  rw [hpop, Dev.capPop, hbit]
  rcases Nat.mod_two_eq_zero_or_one v.toNat with e | e
  · simp [bit, e]
  · refine ⟨by simp [bit, e], by simp [bit, e, Dev.fifoOf], fun j hj => ?_, by simp [bit, e]⟩
    simp [bit, e, Dev.fifoOf, tgetD_tput_of_ne _ _ _ _ hj]

/-- A 1 in a timestamp queue's OVERFLOW clears it and DROPPED (R330). -/
theorem ends_tsqOverflowClear {l : Fin 32} {v : Word} {s : State} (h : s.m.dev.live (F.TU_TSQ_OVERFLOW l).off) :
    ends (.tsqOverflowClear l v) s fun d => if bit v.toNat 7
      then s.m.dev.sets [(F.TU_TSQ_OVERFLOW l, 0), (F.TU_TSQ_DROPPED l, 0)] d else d = s.m.dev := by
  refine (plainReg_tsq l).ends rfl h fun word hword => ?_
  have hl := l.isLt
  have hoff : (F.TU_TSQ_OVERFLOW l).off = 0x200200 + l.val * 4 := rfl
  have hqueue : ((F.TU_TSQ_OVERFLOW l).off - 0x200200) / 4 = l := by omega
  have hbit : bit word 7 = bit v.toNat 7 := bit_congr (f := F.TU_TSQ_OVERFLOW l) rfl (hword _ (by simp))
  have hclear : s.m.dev.writeActs s.m.clk (F.TU_TSQ_OVERFLOW l).off [F.TU_TSQ_LEVEL l, F.TU_TSQ_OVERFLOW l, F.TU_TSQ_DROPPED l] word =
      s.m.dev.tsqClear l word := by
    have hpop : ¬ (F.TU_TSQ_OVERFLOW l).off < 0x2000d0 := by omega
    have hlo : 0x200200 ≤ (F.TU_TSQ_OVERFLOW l).off := by omega
    have hhi : (F.TU_TSQ_OVERFLOW l).off < 0x200280 := by omega
    rw [acts_time _ _ _ _ (by omega) (by omega)]
    simp [Dev.writeTime, hpop, hlo, hhi, hqueue]
  rw [hclear, Dev.tsqClear, hbit]
  split
  · exact Dev.sets_setAll [(F.TU_TSQ_OVERFLOW l, 0), (F.TU_TSQ_DROPPED l, 0)] _
      (by simp [Fld.key, F.TU_TSQ_OVERFLOW, F.TU_TSQ_DROPPED])
  · rfl

/-! Performance counters. -/

/-- The fields of the 64 performance counts, each with 0. -/
def perfZeros : List (Fld × Nat) := (List.range 64).flatMap fun j => [(F.PC_PERF_COUNT_LO j, 0), (F.PC_PERF_COUNT_HI j, 0)]

theorem Dev.perfZero_eq (d : Dev) : d.perfZero = d.setAll perfZeros := by
  have hpair : (fun (d : Dev) j => d.set64 (F.PC_PERF_COUNT_LO j) (F.PC_PERF_COUNT_HI j) 0) =
      fun d j => d.setAll [(F.PC_PERF_COUNT_LO j, 0), (F.PC_PERF_COUNT_HI j, 0)] := rfl
  have h := d.foldl_setAll (fun j => [(F.PC_PERF_COUNT_LO j, 0), (F.PC_PERF_COUNT_HI j, 0)]) (List.range 64) []
  rw [List.append_nil] at h
  rw [Dev.perfZero, hpair, perfZeros, ← h, Dev.setAll, List.foldl_nil]

theorem perfZeros_keys : ((F.PC_PERF_FREEZE :: perfZeros.map Prod.fst).map Fld.key).Nodup := by decide +kernel

theorem perfZeros_unstill : ∀ p ∈ perfZeros, p.2 = 0 ∧ p.1.still = false ∧ p.1.lo = 0 := by decide +kernel

theorem Fld.still_congr {f g : Fld} (h : f.key = g.key) (hf : f.lo < 32) (hg : g.lo < 32) : f.still = g.still := by
  have hoff : f.off = g.off := by simp only [Fld.key] at h; omega
  simp [Fld.still, hoff, hf, hg]

theorem Fld.still.lo_lt {f : Fld} (h : f.still = true) : f.lo < 32 := by
  simp only [Fld.still, Bool.and_eq_true, decide_eq_true_eq] at h
  exact h.1.1.1

theorem perfZeros_mem {j : Nat} (h : j < 64) : (F.PC_PERF_COUNT_LO j, 0) ∈ perfZeros ∧ (F.PC_PERF_COUNT_HI j, 0) ∈ perfZeros := by
  constructor <;> exact List.mem_flatMap.mpr ⟨j, List.mem_range.mpr h, by simp⟩

/-- Every count takes 0, and no still field changes. -/
theorem Dev.perfZero_spec (d : Dev) : d.perfZero = { d with fld := d.perfZero.fld } ∧
    (∀ j < 64, d.perfZero.get64 (F.PC_PERF_COUNT_LO j) (F.PC_PERF_COUNT_HI j) = 0) ∧
    ∀ f : Fld, f.still = true → d.perfZero.get f = d.get f := by
  have hkeys : (perfZeros.map fun p => p.1.key).Nodup := by
    have h := (List.nodup_cons.mp perfZeros_keys).2
    rwa [List.map_map] at h
  obtain ⟨hfld, hin, hout⟩ := Dev.sets_setAll perfZeros d hkeys
  rw [d.perfZero_eq]
  refine ⟨hfld, fun j hj => ?_, fun f hf => hout f fun p hp e => ?_⟩
  · obtain ⟨hlo, hhi⟩ := perfZeros_mem hj
    simp [Dev.get64, hin _ hlo, hin _ hhi]
  · obtain ⟨-, hunstill, hlo⟩ := perfZeros_unstill p hp
    rw [Fld.still_congr e (Fld.still.lo_lt hf) (by omega), hunstill] at hf
    cases hf

/-- PERF_FREEZE takes its value, and PERF_CLEAR sets the 64 counts to 0 (R530). -/
theorem Dev.perfWrite_spec (a : Dev) (w : Nat) :
    a.perfWrite w = { a with fld := (a.perfWrite w).fld } ∧ (a.perfWrite w).get F.PC_PERF_FREEZE = w % 2 ∧
      (∀ j < 64, (a.perfWrite w).get64 (F.PC_PERF_COUNT_LO j) (F.PC_PERF_COUNT_HI j) =
        if bit w 1 then 0 else a.get64 (F.PC_PERF_COUNT_LO j) (F.PC_PERF_COUNT_HI j)) ∧
      ∀ f : Fld, f.still = true → f.key ≠ F.PC_PERF_FREEZE.key → (a.perfWrite w).get f = a.get f := by
  have hfreeze : (a.setB F.PC_PERF_FREEZE (bit w 0)).get F.PC_PERF_FREEZE = w % 2 := by
    rw [Dev.setB_eq, Dev.get_set_self]
    rcases Nat.mod_two_eq_zero_or_one w with e | e <;> simp [bit, b2n, e, F.PC_PERF_FREEZE]
  have hother {f : Fld} (hf : f.key ≠ F.PC_PERF_FREEZE.key) : (a.setB F.PC_PERF_FREEZE (bit w 0)).get f = a.get f :=
    Dev.get_set_of_ne _ _ hf
  have hcounts {j : Nat} (hj : j < 64) :
      F.PC_PERF_FREEZE.key ≠ (F.PC_PERF_COUNT_LO j).key ∧ F.PC_PERF_FREEZE.key ≠ (F.PC_PERF_COUNT_HI j).key := by
    simp only [Fld.key, F.PC_PERF_FREEZE, F.PC_PERF_COUNT_LO, F.PC_PERF_COUNT_HI]
    omega
  unfold Dev.perfWrite
  dsimp only
  cases bit w 1 with
  | false =>
    refine ⟨rfl, hfreeze, fun j hj => ?_, fun f _ hf => hother hf⟩
    obtain ⟨hlo, hhi⟩ := hcounts hj
    simp [Dev.get64, hother hlo.symm, hother hhi.symm]
  | true =>
    obtain ⟨hfld, hzero, hstill⟩ := (a.setB F.PC_PERF_FREEZE (bit w 0)).perfZero_spec
    refine ⟨hfld.trans rfl, (hstill _ (by decide)).trans hfreeze, fun j hj => by simpa using hzero j hj,
      fun f hf hne => (hstill f hf).trans (hother hne)⟩

theorem ends_perf {v : Word} {s : State} (h : s.m.dev.live 0x3400000) {c : Instr} (hc : c ∈ [Instr.perfClear v, Instr.perfFreeze v]) :
    ends c s fun d => d = { s.m.dev with fld := d.fld } ∧ d.get F.PC_PERF_FREEZE = v.toNat % 2 ∧
      (∀ j : Fin 64, d.get64 (F.PC_PERF_COUNT_LO j) (F.PC_PERF_COUNT_HI j) =
        if bit v.toNat 1 then 0 else s.m.dev.get64 (F.PC_PERF_COUNT_LO j) (F.PC_PERF_COUNT_HI j)) ∧
      ∀ f : Fld, f.still = true → f.key ≠ F.PC_PERF_FREEZE.key → d.get f = s.m.dev.get f := by
  have hexec : exec c s = onDev (fun k d => d.barWrite k 0x3400000 v.toNat) s := by
    rcases List.mem_pair.mp hc with rfl | rfl <;> rfl
  refine plainReg_perf.ends hexec h fun word hword => ?_
  have hfreeze : word % 2 = v.toNat % 2 := by
    simpa [Fld.take, bits, F.PC_PERF_FREEZE] using hword F.PC_PERF_FREEZE (by simp)
  have hclear : bit word 1 = bit v.toNat 1 := bit_congr (f := F.PC_PERF_CLEAR) rfl (hword _ (by simp))
  have hacts : s.m.dev.writeActs s.m.clk 0x3400000 [F.PC_PERF_FREEZE, F.PC_PERF_CLEAR] word = s.m.dev.perfWrite word := by
    simp [Dev.writeActs]
  obtain ⟨hfld, hval, hcount, hstill⟩ := s.m.dev.perfWrite_spec word
  rw [hacts]
  exact ⟨hfld, hval.trans hfreeze, fun j => hclear ▸ hcount j j.isLt, hstill⟩

/-! Seeds. -/

theorem acts_seed (d : Dev) (k : Clock) {off : Nat} (fs : List Fld) (w : Nat) (h1 : 0x1800020 ≤ off) (h2 : off < 0x1800040) :
    d.writeActs k off fs w = d.writeSeed ((off - 0x1800020) / 4) w := by
  have n1 : ¬ off < 0x1000 := by omega
  have n2 : ¬ off < 0x2000 := by omega
  have n3 : ¬ off = 0x100000 := by omega
  have n4 : ¬ off = 0x100010 := by omega
  have n5 : ¬ off < 0x300000 := by omega
  have n6 : ¬ off < 0x408800 := by omega
  have n7 : ¬ off < 0x1800000 := by omega
  simp [Dev.writeActs, n1, n2, n3, n4, n5, n6, n7, h1, h2]

/-- A seed is written while its table holds no entry (R193). -/
theorem ends_tblSeed {t : Fin 8} {v : Word} {s : State} (h : s.m.dev.live (F.TBL_SEED t).off) :
    ends (.tblSeed t v) s fun d => if s.m.dev.ents ([1, 3, 5, 8].getD (t / 2) 1) = []
      then s.m.dev.sets [(F.TBL_SEED t, v.toNat)] d else s.m.dev.sets [(F.BUSHEL_STICKY_SEED_REFUSED, 1)] d := by
  refine (plainReg_seed t).ends rfl h fun word hword => ?_
  have ht := t.isLt
  have hoff : (F.TBL_SEED t).off = 0x1800020 + t.val * 4 := rfl
  have htable : ((F.TBL_SEED t).off - 0x1800020) / 4 = t := by omega
  have hseed : s.m.dev.writeActs s.m.clk (F.TBL_SEED t).off [F.TBL_SEED t] word = s.m.dev.writeSeed t word := by
    rw [acts_seed _ _ _ _ (by omega) (by omega), htable]
  have hword' : word % 2 ^ (F.TBL_SEED t).w = v.toNat % 2 ^ (F.TBL_SEED t).w := by
    simpa [Fld.take, bits, F.TBL_SEED] using hword (F.TBL_SEED t) (by simp)
  rw [hseed, Dev.writeSeed, ← Dev.set_mod, hword', Dev.set_mod]
  simp only [List.isEmpty_iff]
  split
  · exact Dev.sets_one _ _ _
  · exact Dev.sets_one _ _ _

end Sys2Proof.Machine
end

section
/-! Proofs: the strobes of single units (R86, R280, R301, R380, R453, R462, R544). -/

namespace Sys2Proof.Machine
open Sys2Proof

theorem plainReg_push : PlainReg 0x100C [F.BT_PUSH_LEN, F.BT_PUSH_GO] := by decide +kernel

theorem plainReg_cal : PlainReg 0x1018 [F.BT_CAL_START] := by decide +kernel

theorem plainReg_alloc : PlainReg 0x2800004 [F.HBM_WINDOW_GIB, F.HBM_HOG_GIB, F.HBM_ALLOC_GO] := by decide +kernel

/-! Start-up. -/

theorem acts_push (d : Dev) (k : Clock) (fs : List Fld) (w : Nat) : d.writeActs k 0x100C fs w = d.pushWrite w := by
  simp [Dev.writeActs, Dev.writeBoot]

theorem acts_cal (d : Dev) (k : Clock) (fs : List Fld) (w : Nat) :
    d.writeActs k 0x1018 fs w = if bit w 0 then d.calBegin k else d := by
  simp [Dev.writeActs, Dev.writeBoot]

/-- PUSH_LEN is taken, and PUSH_GO starts the read while step 4 waits for it (R544). -/
theorem ends_pushGo {v : Word} {s : State} (h : s.m.dev.live 0x100C) :
    ends (.pushGo v) s fun d => s.m.dev.sets [(F.BT_PUSH_LEN, v.toNat)] { d with boot := s.m.dev.boot } ∧
      d.boot = { s.m.dev.boot with pushGo := s.m.dev.boot.pushGo || bit v.toNat 31 && s.m.dev.boot.pushWait } := by
  refine plainReg_push.ends rfl h fun word hword => ?_
  have hlen : bits word 0 24 = v.toNat % 2 ^ F.BT_PUSH_LEN.w := by
    simpa [Fld.take, bits, F.BT_PUSH_LEN] using hword F.BT_PUSH_LEN (by simp)
  have hgo : bit word 31 = bit v.toNat 31 := bit_congr (f := F.BT_PUSH_GO) rfl (hword _ (by simp))
  rw [acts_push, Dev.pushWrite, hlen, hgo, Dev.set_mod]
  have hsets := Dev.sets_one s.m.dev F.BT_PUSH_LEN v.toNat
  cases hstart : bit v.toNat 31 && s.m.dev.boot.pushWait with
  | false => exact ⟨hsets, by simp⟩
  | true => exact ⟨hsets, by simp⟩

/-- CAL_START begins a calibration of an enabled rail (R86, R545). -/
theorem ends_calStart {v : Word} {s : State} (h : s.m.dev.live 0x1018) (hen : s.m.dev.flag (F.PMBUS_SLOT_EN 0) = true) :
    ends (.calStart v) s fun d => if bit v.toNat 0
      then s.m.dev.sets [(F.CHANDLER_STATUS_CALIBRATED, 0)] { d with chan := s.m.dev.chan } ∧
        d.chan = { s.m.dev.chan with cal := some .awaitReadings }
      else d = s.m.dev := by
  refine plainReg_cal.ends rfl h fun word hword => ?_
  have hgo : bit word 0 = bit v.toNat 0 := bit_congr (f := F.BT_CAL_START) rfl (hword _ (by simp))
  rw [acts_cal, hgo]
  split
  · rw [Dev.calBegin, if_pos hen]
    exact ⟨Dev.sets_one s.m.dev F.CHANDLER_STATUS_CALIBRATED 0, rfl⟩
  · rfl

/-! The allocation of the in-package DRAM. -/

theorem acts_alloc (d : Dev) (k : Clock) (fs : List Fld) (w : Nat) : d.writeActs k 0x2800004 fs w = d.allocWrite k w := by
  simp [Dev.writeActs]

theorem Dev.allocWrite_done {d : Dev} (k : Clock) (w : Nat) (h : d.flag F.HBM_ALLOC_DONE = true) : d.allocWrite k w = d := if_pos h

/-- Before training has ended the sizes are taken and ALLOC_GO is held (R380). -/
theorem Dev.allocWrite_held {d : Dev} (k : Clock) (w : Nat) (hdone : d.flag F.HBM_ALLOC_DONE = false)
    (htrain : d.trainingEnded = false) :
    d.sets [(F.HBM_WINDOW_GIB, bits w 0 5), (F.HBM_HOG_GIB, bits w 8 7),
      (F.HBM_ALLOC_PENDING, if bit w 31 then 1 else d.get F.HBM_ALLOC_PENDING)] (d.allocWrite k w) := by
  have hsizes : d.sets [(F.HBM_WINDOW_GIB, bits w 0 5), (F.HBM_HOG_GIB, bits w 8 7)]
      (d.setAll [(F.HBM_WINDOW_GIB, bits w 0 5), (F.HBM_HOG_GIB, bits w 8 7)]) :=
    Dev.sets_setAll _ d (show ([F.HBM_WINDOW_GIB, F.HBM_HOG_GIB].map Fld.key).Nodup by decide)
  have hgo := Dev.sets_ite hsizes F.HBM_ALLOC_PENDING (bit w 31) 1
    (forall_fst (P := fun f => f.key ≠ F.HBM_ALLOC_PENDING.key)
      (show ∀ f ∈ [F.HBM_WINDOW_GIB, F.HBM_HOG_GIB], f.key ≠ F.HBM_ALLOC_PENDING.key by decide))
  rw [Dev.allocWrite, hdone]
  revert hgo
  cases bit w 31 <;> simp [htrain, Dev.setB_eq, b2n]

/-- ALLOC_GO before training has ended is held, and once ALLOC_DONE is 1 the write is ignored (R380). -/
theorem ends_allocGo {v : Word} {s : State} (h : s.m.dev.live 0x2800004) :
    (s.m.dev.flag F.HBM_ALLOC_DONE = true → ends (.allocGo v) s fun d => d = s.m.dev) ∧
      (s.m.dev.flag F.HBM_ALLOC_DONE = false → s.m.dev.trainingEnded = false → ends (.allocGo v) s fun d => s.m.dev.sets
        [(F.HBM_WINDOW_GIB, v.toNat % 2 ^ 5), (F.HBM_HOG_GIB, v.toNat / 2 ^ 8 % 2 ^ 7),
          (F.HBM_ALLOC_PENDING, if bit v.toNat 31 then 1 else s.m.dev.get F.HBM_ALLOC_PENDING)] d) := by
  refine ⟨fun hdone => plainReg_alloc.ends rfl h fun word _ => ?_,
    fun hdone htrain => plainReg_alloc.ends rfl h fun word hword => ?_⟩
  · rw [acts_alloc, Dev.allocWrite_done _ _ hdone]
  · have hwin : bits word 0 5 = v.toNat % 2 ^ 5 := by
      simpa [Fld.take, bits, F.HBM_WINDOW_GIB] using hword F.HBM_WINDOW_GIB (by simp)
    have hhog : bits word 8 7 = v.toNat / 2 ^ 8 % 2 ^ 7 := by
      simpa [Fld.take, bits, F.HBM_HOG_GIB] using hword F.HBM_HOG_GIB (by simp)
    have hgo : bit word 31 = bit v.toNat 31 := bit_congr (f := F.HBM_ALLOC_GO) rfl (hword _ (by simp))
    have hheld := Dev.allocWrite_held s.m.clk word hdone htrain
    rw [hwin, hhog, hgo] at hheld
    rwa [acts_alloc]

/-! Stream gates. -/

/-- The fields a stream gate's status shows of its list and its closing flags. -/
def sgateShown (n : Nat) : List Fld := [F.SG_OPEN n, F.SG_IPV_VALID n, F.SG_IPV n, F.SG_ENTRY n]

/-- The fields that decide whether a stream gate is open, beside its list. -/
def sgateRead (n : Nat) : List Fld :=
  [F.SG_EN n, F.SG_ADMIN_OPEN n, F.SG_ADMIN_IPV_VALID n, F.SG_ADMIN_IPV n, F.SG_CLOSED_INVALID n, F.SG_CLOSED_OCTETS n]

theorem sgateRead_notShown (n : Nat) : ∀ f ∈ sgateRead n, ∀ g ∈ sgateShown n, f.key ≠ g.key := by
  simp only [sgateRead, sgateShown, List.forall_mem_cons, List.not_mem_nil, false_implies, implies_true, and_true, Fld.key, F.SG_OPEN,
    F.SG_IPV_VALID, F.SG_IPV, F.SG_ENTRY, F.SG_EN, F.SG_ADMIN_OPEN, F.SG_ADMIN_IPV_VALID, F.SG_ADMIN_IPV, F.SG_CLOSED_INVALID,
    F.SG_CLOSED_OCTETS]
  omega

theorem Dev.sgateOpen_congr {a b : Dev} {k : Clock} {n : Nat} (hegr : b.egr = a.egr) (hget : ∀ f ∈ sgateRead n, b.get f = a.get f) :
    b.sgateOpen k n = a.sgateOpen k n := by
  simp only [sgateRead, List.forall_mem_cons] at hget
  obtain ⟨hen, hopen, hvalid, hipv, hinv, hoct, -⟩ := hget
  have hsays : b.sgateSays k n = a.sgateSays k n := by
    unfold Dev.sgateSays Dev.sgate Dev.flag
    rw [hegr, hen, hopen, hvalid, hipv]
  unfold Dev.sgateOpen Dev.flag
  rw [hsays, hinv, hoct]

/-- The status that a stream gate shows agrees with what it shows it of (R301). -/
theorem Dev.sgateShow_spec (d : Dev) (k : Clock) (n : Nat) :
    d.sgateShow k n = { d with fld := (d.sgateShow k n).fld } ∧
      (d.sgateShow k n).get (F.SG_OPEN n) = b2n ((d.sgateShow k n).sgateOpen k n) ∧
      ∀ f : Fld, (∀ g ∈ sgateShown n, f.key ≠ g.key) → (d.sgateShow k n).get f = d.get f := by
  obtain ⟨v1, v2, v3, hshow⟩ : ∃ v1 v2 v3, d.sgateShow k n = d.setAll [(F.SG_OPEN n, b2n (d.sgateOpen k n)), (F.SG_IPV_VALID n, v1),
    (F.SG_IPV n, v2), (F.SG_ENTRY n, v3)] := ⟨_, _, _, rfl⟩
  obtain ⟨hfld, hin, hout⟩ := Dev.sets_setAll [(F.SG_OPEN n, b2n (d.sgateOpen k n)), (F.SG_IPV_VALID n, v1),
    (F.SG_IPV n, v2), (F.SG_ENTRY n, v3)] d (by simp [Fld.key, F.SG_OPEN, F.SG_IPV_VALID, F.SG_IPV, F.SG_ENTRY])
  rw [← hshow] at hfld hin hout
  have hother : ∀ f : Fld, (∀ g ∈ sgateShown n, f.key ≠ g.key) → (d.sgateShow k n).get f = d.get f := fun f hf =>
    hout f (by simpa [sgateShown] using hf)
  have hopen : (d.sgateShow k n).sgateOpen k n = d.sgateOpen k n :=
    Dev.sgateOpen_congr ((congrArg Dev.egr hshow).trans rfl) fun f hf => hother f (sgateRead_notShown n f hf)
  refine ⟨hfld, ?_, hother⟩
  rw [hin (F.SG_OPEN n, _) List.mem_cons_self, hopen]
  cases d.sgateOpen k n <;> rfl

/-- The closing flags written 1 clear. -/
def Dev.sgateCleared (d : Dev) (n w : Nat) : Dev :=
  let d1 := if bit w 5 then d.set (F.SG_CLOSED_INVALID n) 0 else d
  if bit w 6 then d1.set (F.SG_CLOSED_OCTETS n) 0 else d1

theorem Dev.sgateWrite_eq (d : Dev) (k : Clock) (n w : Nat) : d.sgateWrite k n w = (d.sgateCleared n w).sgateShow k n := rfl

theorem Dev.sets_sgateCleared (d : Dev) (n w : Nat) :
    d.sets [(F.SG_CLOSED_INVALID n, if bit w 5 then 0 else d.get (F.SG_CLOSED_INVALID n)),
      (F.SG_CLOSED_OCTETS n, if bit w 6 then 0 else d.get (F.SG_CLOSED_OCTETS n))] (d.sgateCleared n w) :=
  Dev.sets_ite (Dev.sets_ite d.sets_nil (F.SG_CLOSED_INVALID n) (bit w 5) 0 (by simp)) (F.SG_CLOSED_OCTETS n) (bit w 6) 0
    (by simp [Fld.key, F.SG_CLOSED_INVALID, F.SG_CLOSED_OCTETS])

/-- A stream gate's closing flags are cleared by their 1s, and its status follows (R280, R301). -/
theorem ends_streamGateReopen {g : Fin 1024} {v : Word} {s : State} (h : s.m.dev.live (F.SG_CLOSED_INVALID g).off) :
    ends (.streamGateReopen g v) s fun d => d = { s.m.dev with fld := d.fld } ∧
      d.get (F.SG_CLOSED_INVALID g) = (if bit v.toNat 5 then 0 else s.m.dev.get (F.SG_CLOSED_INVALID g)) ∧
      d.get (F.SG_CLOSED_OCTETS g) = (if bit v.toNat 6 then 0 else s.m.dev.get (F.SG_CLOSED_OCTETS g)) ∧
      d.get (F.SG_OPEN g) = b2n (d.sgateOpen s.m.clk g) ∧
      ∀ f : Fld, f.lo < 32 → f.off ≠ (F.SG_OPEN g).off → d.get f = s.m.dev.get f := by
  have hexec : exec (.streamGateReopen g v) s =
    onDev (fun k d => if d.deaf (F.SG_CLOSED_INVALID g).off then d else d.sgateWrite k g v.toNat) s := rfl
  refine ends_onDev hexec h.1 ?_
  rw [h.2, if_neg Bool.false_ne_true, Dev.sgateWrite_eq]
  obtain ⟨hfld, hin, hout⟩ := s.m.dev.sets_sgateCleared g v.toNat
  obtain ⟨hshow, hopen, hother⟩ := (s.m.dev.sgateCleared g v.toNat).sgateShow_spec s.m.clk g
  simp only [List.forall_mem_cons] at hin
  obtain ⟨hinv, hoct, -⟩ := hin
  rw [Dev.ite_get_mod] at hinv hoct
  have hkept := fun f hf => hother f (sgateRead_notShown g f hf)
  refine ⟨Dev.onlyFld_trans hfld hshow, (hkept _ (by simp [sgateRead])).trans hinv, (hkept _ (by simp [sgateRead])).trans hoct, hopen,
    fun f hlo hoff => ?_⟩
  have hplace : ∀ f' : Fld, f'.off = (F.SG_OPEN g).off → f'.lo < 32 → f.key ≠ f'.key := by
    intro f' hoff' hlo'
    simp only [Fld.key]
    omega
  rw [hother f, hout f]
  · simp only [List.forall_mem_cons]
    exact ⟨hplace _ rfl (by simp [F.SG_CLOSED_INVALID]), hplace _ rfl (by simp [F.SG_CLOSED_OCTETS]), by simp⟩
  · simp only [sgateShown, List.forall_mem_cons]
    exact ⟨hplace _ rfl (by simp [F.SG_OPEN]), hplace _ rfl (by simp [F.SG_IPV_VALID]), hplace _ rfl (by simp [F.SG_IPV]),
      hplace _ rfl (by simp [F.SG_ENTRY]), by simp⟩

/-! The Taper's enable. -/

/-- The fields of the register of the Taper's enable. -/
def tapFlds : List Fld := [F.TAP_EN, F.TAP_ETH_MODE, F.TAP_MIN_WIDTH, F.TAP_TRAIN_TIMEOUT]

/-- What they take of a value written. -/
def tapWrites (n : Nat) : List (Fld × Nat) :=
  [(F.TAP_EN, n % 2), (F.TAP_ETH_MODE, n / 2 % 2), (F.TAP_MIN_WIDTH, n / 4 % 4), (F.TAP_TRAIN_TIMEOUT, n / 256 % 256)]

theorem Dev.sets_tapWrites (d : Dev) (n : Nat) : d.sets (tapWrites n) (d.setAll (tapWrites n)) :=
  Dev.sets_setAll _ d (show (tapFlds.map Fld.key).Nodup by decide)

theorem tapWrites_forall {P : Fld → Prop} (h : ∀ f ∈ tapFlds, P f) (n : Nat) : ∀ p ∈ tapWrites n, P p.1 := forall_fst h

/-- The sum of the initial credits (R462). -/
def Dev.initialCredits (d : Dev) : Nat := ((List.range 16).map fun v => d.get (F.TAP_CREDIT_INIT v)).foldl (· + ·) 0

theorem Dev.creditInit_tapWrites (d : Dev) (n v : Nat) :
    (d.setAll (tapWrites n)).get (F.TAP_CREDIT_INIT v) = d.get (F.TAP_CREDIT_INIT v) := by
  refine (d.sets_tapWrites n).2.2 _ (tapWrites_forall (P := fun f => (F.TAP_CREDIT_INIT v).key ≠ f.key) ?_ n)
  have hlow : ∀ f ∈ tapFlds, f.key < 0x2c00040 * 32 := by decide
  intro f hf
  have := hlow f hf
  simp only [Fld.key, F.TAP_CREDIT_INIT] at this ⊢
  omega

/-- From DOWN a 1 starts training and a 0 sets the fields alone. -/
theorem Dev.tapCtrlWrite_down {d : Dev} (k : Clock) (n : Nat) (h : d.get F.TAP_STATE = 0) :
    d.tapCtrlWrite k n = if bit n 0 then (d.setAll (tapWrites n)).tapStart k else d.setAll (tapWrites n) := by
  have hstate : (d.setAll (tapWrites n)).get F.TAP_STATE = 0 := by
    rw [(d.sets_tapWrites n).2.2 _ (tapWrites_forall (P := fun f => F.TAP_STATE.key ≠ f.key) (by decide) n), h]
  have hfields : [(F.TAP_EN, bits n 0 1), (F.TAP_ETH_MODE, bits n 1 1), (F.TAP_MIN_WIDTH, bits n 2 2),
      (F.TAP_TRAIN_TIMEOUT, bits n 8 8)] = tapWrites n := by simp [bits, tapWrites]
  rw [Dev.tapCtrlWrite, hfields]
  cases bit n 0 with
  | false => simp [Dev.tapDrop, Dev.tapState, hstate, tapDown]
  | true => simp [Dev.tapState, h, tapDown]

/-- The initial credits given to the other end as training starts: those that are not 0. -/
theorem Dev.mem_grants_tapFresh (d : Dev) (p : Nat × Nat) :
    p ∈ d.tapFresh.taper.grants ↔ p.1 < 16 ∧ p.2 = d.get (F.TAP_CREDIT_INIT p.1) ∧ p.2 ≠ 0 := by
  obtain ⟨v, n⟩ := p
  simp only [Dev.tapFresh, Dev.onTap, List.mem_filterMap, List.mem_range]
  constructor
  · rintro ⟨u, hu, hg⟩
    split at hg
    · cases hg
    · cases hg
      exact ⟨hu, rfl, ‹_›⟩
  · rintro ⟨hv, rfl, hne⟩
    exact ⟨v, hv, if_neg hne⟩

/-- A write of the Taper's enable while the link is DOWN (R453, R462). -/
theorem ends_taperEnWrite {v : Word} {s : State} {p : Dev → Prop} (hrun : s.m.dev.boot.porN = true) (hheld : s.m.dev.isHeld 40 = false)
    (hfail : s.m.dev.flag F.BT_FAILED = false) (hdown : s.m.dev.get F.TAP_STATE = 0)
    (hp : p (if bit v.toNat 0 then (s.m.dev.setAll (tapWrites v.toNat)).tapStart s.m.clk else s.m.dev.setAll (tapWrites v.toNat))) :
    ends (.taperEnWrite v) s p := by
  have hexec : exec (.taperEnWrite v) s =
    onDev (fun k d => if d.isHeld 40 || d.flag F.BT_FAILED then d else d.tapCtrlWrite k v.toNat) s := rfl
  refine ends_onDev hexec hrun ?_
  rwa [hheld, hfail, Bool.or_self, if_neg Bool.false_ne_true, Dev.tapCtrlWrite_down _ _ hdown]

theorem Dev.initialCredits_tapWrites (d : Dev) (n : Nat) : (d.setAll (tapWrites n)).initialCredits = d.initialCredits := by
  simp only [Dev.initialCredits, Dev.creditInit_tapWrites]

/-- Training starts with fresh counts and the initial credits (R453, R462). -/
theorem Dev.tapStart_fresh {a : Dev} (k : Clock) (n : Nat) (h : a.initialCredits ≤ 8192) :
    let d := (a.setAll (tapWrites n)).tapStart k
    a.sets (tapWrites n ++ [(F.TAP_STATE, 1)]) { d with taper := a.taper } ∧ d.taper.seq = 0 ∧ d.taper.expected = 0 ∧
      d.taper.unacked = [] ∧ d.taper.lastAck = none ∧ d.taper.replays = 0 ∧ d.taper.consumed = [] ∧ d.taper.granted = [] ∧
      ∀ p, p ∈ d.taper.grants ↔ p.1 < 16 ∧ p.2 = a.get (F.TAP_CREDIT_INIT p.1) ∧ p.2 ≠ 0 := by
  have hstart : (a.setAll (tapWrites n)).tapStart k = (a.setAll (tapWrites n)).tapFresh.set F.TAP_STATE tapAdapt :=
    if_neg (Nat.not_lt.mpr ((a.initialCredits_tapWrites n).le.trans h))
  have hstate := Dev.sets_snoc (a.sets_tapWrites n) F.TAP_STATE tapAdapt
    (tapWrites_forall (P := fun f => f.key ≠ F.TAP_STATE.key) (by decide) n)
  dsimp only
  rw [hstart]
  refine ⟨hstate, rfl, rfl, rfl, rfl, rfl, rfl, rfl, fun p => ?_⟩
  rw [← Dev.creditInit_tapWrites a n]
  exact Dev.mem_grants_tapFresh _ p

/-- Training does not start where the initial credits pass the buffer (R462). -/
theorem Dev.tapStart_over {a : Dev} (k : Clock) (n : Nat) (h : 8192 < a.initialCredits) :
    ∃ x, a.sets (tapWrites n ++ [(F.TAP_STICKY, a.get F.TAP_STICKY ||| 4)]) x ∧ x.raises k 642 ((a.setAll (tapWrites n)).tapStart k) := by
  have hstart : (a.setAll (tapWrites n)).tapStart k = ((a.setAll (tapWrites n)).setBit F.TAP_STICKY 2).event k 642 (flcTap 3 0) :=
    if_pos (h.trans_eq (a.initialCredits_tapWrites n).symm)
  have hsticky : (a.setAll (tapWrites n)).get F.TAP_STICKY = a.get F.TAP_STICKY :=
    (a.sets_tapWrites n).2.2 _ (tapWrites_forall (P := fun f => F.TAP_STICKY.key ≠ f.key) (by decide) n)
  have hset := Dev.sets_snoc (a.sets_tapWrites n) F.TAP_STICKY (a.get F.TAP_STICKY ||| 2 ^ 2)
    (tapWrites_forall (P := fun f => f.key ≠ F.TAP_STICKY.key) (by decide) n)
  exact ⟨_, hset, flcTap 3 0, by rw [hstart, Dev.setBit_eq, hsticky]⟩

/-- Settles O21: each strobe by the register it writes. -/
theorem strobes : Obligations.Strobes := by
  refine ⟨fun v s => ⟨fun l => ends_hdrFifoPeakClr, fun l => ends_reorderPeakClr, fun i => ends_capPop, fun l => ends_tsqOverflowClear,
    fun c hc h => ends_perf h hc, fun t => ends_tblSeed⟩, fun v s => ⟨fun g => ends_streamGateReopen, ends_pushGo, ends_calStart,
    ends_allocGo, fun hrun hheld hfail hdown => ⟨fun hoff => ?_, fun hon hle => ?_, fun hon hover => ?_⟩⟩⟩ <;>
    refine ends_taperEnWrite hrun hheld hfail hdown ?_
  · rw [hoff, if_neg Bool.false_ne_true]
    exact s.m.dev.sets_tapWrites _
  · rw [hon, if_pos rfl]
    exact Dev.tapStart_fresh s.m.clk _ hle
  · rw [hon, if_pos rfl]
    exact Dev.tapStart_over s.m.clk _ hover

end Sys2Proof.Machine
end

section
/-! Proofs: clearing a frame away. What it keeps: every property that cells, queues, frames, counts, reports, the pools' status and
stomped transmissions do not touch. -/

namespace Sys2Proof.Machine
open Sys2Proof

/-- A property of the device that clearing a frame away cannot change. -/
structure Dev.Spared (P : Dev → Prop) : Prop where
  tables : ∀ (d : Dev) (bm : Bm) (frames : Tab Frame) (ctrs : Tab Ctr), P d → P { d with bm := bm, frames := frames, ctrs := ctrs }
  report : ∀ a b : Dev, a.alike b → P a → P b
  pool   : ∀ (d : Dev) (p v : Nat), P d → P (d.set (F.POOL_STATUS p) v)
  stomp  : ∀ (d : Dev) (g : Tx → Tx), P d →
    P { d with ports := d.ports.map fun e => (e.1, { e.2 with tx := e.2.tx.map g }) }

section
variable {P : Dev → Prop} (hP : Dev.Spared P) {d : Dev} (h : P d)
include hP h

theorem Dev.Spared.bm (x : Bm) : P { d with bm := x } := hP.tables d x _ _ h

theorem Dev.Spared.frames (x : Tab Frame) : P { d with frames := x } := hP.tables d _ x _ h

theorem Dev.Spared.setFrame (fid : Nat) (f : Frame) : P (d.setFrame fid f) := hP.frames h _

theorem Dev.Spared.count (i n : Nat) : P (d.count i n) := hP.tables d _ _ _ h

theorem Dev.Spared.perf (b n : Nat) : P (d.perf b n) := hP.report _ _ (d.alike_perf b n) h

omit hP in
theorem Dev.kept_foldl {β : Type} {g : Dev → β → Dev} (hg : ∀ d x, P d → P (g d x)) (l : List β) : P (l.foldl g d) :=
  List.foldlRecOn (motive := P) l g h fun d hd x _ => hg d x hd

/-! Cells and copies. -/

theorem Dev.Spared.freeCell (n : Nat) : P (d.freeCell n) := by
  unfold Dev.freeCell
  split
  · exact h
  · exact hP.perf (hP.bm h _) 33 1

theorem Dev.Spared.unref (n : Nat) : P (d.unref n) := by
  unfold Dev.unref
  split
  · exact h
  · split
    · exact hP.freeCell h n
    · exact hP.bm h _

theorem Dev.Spared.retire (fid : Nat) : P (d.retire fid) := by
  unfold Dev.retire
  split
  · exact h
  · split
    · exact hP.frames h _
    · exact h

theorem Dev.Spared.releaseFrom (c : Copy) (n : Nat) : P (d.releaseFrom c n) := by
  unfold Dev.releaseFrom
  split
  · exact h
  · refine hP.retire (hP.bm (hP.setFrame ?_ _ _) _) _
    split
    · exact h
    · exact Dev.kept_foldl h (fun d j hd => hP.unref hd _) _

theorem Dev.Spared.dropCopy (q : Nat) (c : Copy) : P (d.dropCopy q c) := hP.releaseFrom (d := d.setQueue q _) (hP.bm h _) c 0

theorem Dev.Spared.dropBad (fid : Nat) : P (d.dropBad fid) :=
  hP.stomp _ _ (Dev.kept_foldl h (fun _ e hd => hP.dropCopy hd e.1 e.2) _)

theorem Dev.Spared.clearWait (fid : Nat) : P (d.clearWait fid) := hP.bm h _

theorem Dev.Spared.freeCells (l : List Nat) : P (l.foldl Dev.freeCell d) := Dev.kept_foldl h (fun _ n hd => hP.freeCell hd n) l

theorem Dev.Spared.discardFrame (fid : Nat) : P (d.discardFrame fid) := by
  unfold Dev.discardFrame
  split
  · exact h
  · exact hP.frames (hP.freeCells h _) _

/-! The pools' status. -/

theorem Dev.Spared.event (k : Clock) {n : Nat} (c : Nat) (hn : n < 1024) : P (d.event k n c) := hP.report _ _ (d.alike_event k n c hn) h

theorem Dev.Spared.press (k : Clock) (p : Nat) : P (d.press k p) := by
  unfold Dev.press
  split
  · exact h
  · exact hP.perf (hP.event (hP.pool _ _ _ h) k _ (by decide)) 33 4

theorem Dev.Spared.poolUpdate (k : Clock) (p : Nat) : P (d.poolUpdate k p) := by
  unfold Dev.poolUpdate
  split
  · exact h
  · have hpress : P (if d.get (F.POOL_T2 p) ≤ d.ingFill p then d.press k p else d) := by
      split
      · exact hP.press h k p
      · exact h
    revert hpress
    generalize (if d.get (F.POOL_T2 p) ≤ d.ingFill p then d.press k p else d) = d1
    intro hpress
    dsimp only
    split
    · exact hP.event (hP.pool _ _ _ hpress) k _ (by decide)
    · exact hP.pool _ _ _ hpress

theorem Dev.Spared.poolsUpdate (k : Clock) : P (d.poolsUpdate k) := Dev.kept_foldl h (fun _ p hd => hP.poolUpdate hd k p) _

end

/-! What is spared. -/

/-- A field among the lanterns' registers. -/
def Fld.ofLantern (f : Fld) : Bool := decide (f.lo < 32) && decide (0x800000 ≤ f.off) && decide (f.off < 0x1800000)

theorem Fld.ofLantern_iff (f : Fld) : f.ofLantern = true ↔ f.lo < 32 ∧ 0x800000 ≤ f.off ∧ f.off < 0x1800000 := by
  simp [Fld.ofLantern, and_assoc]

theorem Fld.ofLantern.still {f : Fld} (h : f.ofLantern = true) : f.still = true := by
  obtain ⟨hlo, hmin, hmax⟩ := f.ofLantern_iff.mp h
  have hcxl : f.off ≠ 0x3000004 := by omega
  have hlamp : ¬ f.off < 0x400000 := by omega
  have hperf : ¬ 0x3400200 ≤ f.off := by omega
  simp [Fld.still, hlo, hcxl, hlamp, hperf]

/-- What a lantern's register reads is spared. -/
theorem Dev.spared_get {f : Fld} (hf : f.ofLantern = true) (v : Nat) : Dev.Spared fun d => d.get f = v where
  tables := fun _ _ _ _ h => h
  report := fun _ _ hab h => (hab.get_eq f (Fld.ofLantern.still hf)).trans h
  pool := fun d p v h => by
    obtain ⟨hlo, hmin, hmax⟩ := f.ofLantern_iff.mp hf
    refine (Dev.get_set_of_ne d v ?_).trans h
    simp only [Fld.key, F.POOL_STATUS]
    omega
  stomp := fun _ _ h => h

theorem tget?_map {α β : Type} (g : α → β) (t : Tab α) (k : Nat) : tget? (t.map fun e => (e.1, g e.2)) k = (tget? t k).map g := by
  induction t with
  | nil => rfl
  | cons e t ih =>
    obtain ⟨j, x⟩ := e
    rw [List.map_cons, tget?_cons, tget?_cons, ih]
    split <;> rfl

/-- Which frame a port receives is spared. -/
theorem Dev.spared_rx (p : Nat) (r : Option Nat) : Dev.Spared fun d => (d.port p).rx = r where
  tables := fun _ _ _ _ h => h
  report := fun _ _ hab h => (congrArg Port.rx (Dev.port_congr hab.ports_eq p)).trans h
  pool := fun _ _ _ h => h
  stomp := fun d g h => by
    rw [← h]
    simp only [Dev.port, tgetD, tget?_map fun x : Port => { x with tx := x.tx.map g }]
    cases tget? d.ports p <;> rfl

end Sys2Proof.Machine
end

section
/-! Proofs: a frame's cells and its end at the MAC (R119, R120, R122, R123, R229). -/

namespace Sys2Proof.Machine
open Sys2Proof

/-! What leaves the frames and the buffer as they are. -/

@[simp] theorem Dev.poolsUpdate_frame? (d : Dev) (k : Clock) (fid : Nat) : (d.poolsUpdate k).frame? fid = d.frame? fid :=
  Dev.frame?_congr (d.flagged_poolsUpdate k).frames_eq fid

@[simp] theorem Dev.poolsUpdate_bm (d : Dev) (k : Clock) : (d.poolsUpdate k).bm = d.bm :=
  (congrArg Dev.bm (d.flagged_poolsUpdate k).1).trans rfl

@[simp] theorem Dev.freeCell_frames (d : Dev) (n : Nat) : (d.freeCell n).frames = d.frames := by
  unfold Dev.freeCell
  split
  · rfl
  · exact (Dev.alike_perf _ 33 1).frames_eq

@[simp] theorem Dev.clearWait_frame? (d : Dev) (fid i : Nat) : (d.clearWait fid).frame? i = d.frame? i := rfl

/-! CELL_WRITE. -/

theorem cellWrite_eq {d : Dev} {k : Clock} {fid : Nat} {f : Frame} {data : Bytes} (hf : d.frame? fid = some f) (hend : f.ended = none)
    (hcut : f.cut = false) (href : f.refused = false) (hdata : data ≠ []) (hcell : f.bytes.length / 256 < f.cells.length) :
    cellWrite fid data k d = d.writeCell k fid f data := by
  have hgo : (f.ended.isSome || f.cut || f.refused || data.isEmpty || f.cells.length ≤ f.bytes.length / 256) = false := by
    simp [hend, hcut, href, hdata, hcell]
  simp only [cellWrite, hf, hgo]
  rfl

/-- The bytes written go to the frame, up to the end of the present cell (R229). -/
theorem Dev.writeCell_frame? (d : Dev) (k : Clock) (fid : Nat) (f : Frame) (data : Bytes) :
    (d.writeCell k fid f data).frame? fid = some { f with bytes := f.bytes ++ data.take (256 - f.bytes.length % 256) } := by
  unfold Dev.writeCell
  dsimp only
  split
  · rw [Dev.poolsUpdate_frame?]
    split
    · rw [Dev.frame?_congr (Dev.freeCell_frames _ _), Dev.frame?_setFrame_self]
    · exact Dev.frame?_setFrame_self _ _ _
  · rw [Dev.poolsUpdate_frame?]
    exact Dev.frame?_setFrame_self d fid _

/-- Of an undecided frame they stand in that cell (R229). -/
theorem Dev.writeCell_cell (d : Dev) (k : Clock) (fid : Nat) {f : Frame} (data : Bytes) (hdec : f.decided = false) :
    (tget? (d.writeCell k fid f data).bm.cells (f.cells.getD (f.bytes.length / 256) 0)).map CellRec.data =
      some (f.bytes.drop (256 * (f.bytes.length / 256)) ++ data.take (256 - f.bytes.length % 256)) := by
  have hundec : ¬ (f.decided && decide (f.later = 0)) = true := by simp [hdec]
  unfold Dev.writeCell
  dsimp only
  rw [if_neg hundec, Dev.poolsUpdate_bm, tget?_tset_self, Option.map_some]

/-! FRAME_OVERSIZE_CUT. -/

/-- The frame as the MAC closes it, 4 bytes short of MAX_FRAME, with the cells that its bytes take (R122). -/
def Frame.cutShort (f : Frame) (tail : Bytes) : Frame :=
  let keep := (f.bytes ++ tail).take (f.maxFrame - 4)
  let cells := f.cells.take (ceilDiv keep.length 256)
  { f with bytes := keep.take (256 * cells.length), cells := cells, cut := true }

theorem oversizeCut_frame? {d : Dev} (k : Clock) {fid : Nat} {f : Frame} {tail : Bytes} (hf : d.frame? fid = some f)
    (hend : f.ended = none) (hcut : f.cut = false) (href : f.refused = false) (hlen : f.maxFrame - 4 ≤ f.bytes.length + tail.length) :
    (oversizeCut fid tail k d).frame? fid = some (f.cutShort tail) := by
  have hgo : ¬ (f.ended.isSome || f.cut || f.refused || decide (f.bytes.length + tail.length < f.maxFrame - 4)) = true := by
    simp [hend, hcut, href, hlen]
  unfold oversizeCut
  rw [hf]
  dsimp only
  rw [if_neg hgo, Dev.poolsUpdate_frame?]
  split <;> exact Dev.frame?_setFrame_self _ fid _

/-! FRAME_RECEPTION_END. -/

/-- A reception that ends: the port receives nothing more, and the outcome and the discards owed are counted (R120, R123). -/
def Dev.receptionCounted (d : Dev) (f : Frame) (len : Nat) (o : RxEnd) : Dev :=
  f.owes.foldl (fun d i => d.count i len) ((d.setPort f.via { d.port f.via with rx := none }).countRx f.via len o)

theorem Dev.spared_receptionCounted {P : Dev → Prop} (hP : Dev.Spared P) {d : Dev} {f : Frame} {len : Nat} {o : RxEnd}
    (h : P ((d.setPort f.via { d.port f.via with rx := none }).countRx f.via len o)) : P (d.receptionCounted f len o) :=
  Dev.kept_foldl h (fun _ i hd => hP.count hd i len) _

/-- What a frame's end spares holds after it when it holds once the reception is counted, and the frame is no MAC control frame. -/
theorem Dev.Spared.endReception {P : Dev → Prop} (hP : Dev.Spared P) {d : Dev} (k : Clock) (fid : Nat) {f : Frame} (len : Nat)
    (all : Bytes) (o : RxEnd) (hctrl : o = .good ∧ etherType all = 0x8808 → P ((d.receptionCounted f len o).control f.via all))
    (h : P (d.receptionCounted f len o)) : P (d.endReception k fid f len all o) := by
  unfold Dev.receptionCounted at h hctrl
  unfold Dev.endReception
  dsimp only
  generalize f.owes.foldl (fun d i => d.count i len) ((d.setPort f.via { d.port f.via with rx := none }).countRx f.via len o) = d0
    at h hctrl ⊢
  generalize (if (decide (o = .good) && f.refused) = true then RxEnd.refused else o) = o'
  split
  · rename_i hc
    exact hP.poolsUpdate (hP.discardFrame (hctrl (by simpa using hc)) fid) k
  · have hspare := hP.setFrame (hP.freeCells h (f.cells.drop f.written)) fid
    split
    · exact hP.poolsUpdate (hP.clearWait (hspare _) fid) k
    · have hbad := fun g => hP.dropBad (hspare g) fid
      split
      · exact hP.poolsUpdate (hP.setFrame (hP.freeCells (hbad _) _) fid _) k
      · split
        · exact hP.poolsUpdate (hP.discardFrame (hbad _) fid) k
        · exact hP.poolsUpdate (hP.retire (hbad _) fid) k

/-- A MAC control frame leaves the ports as they are: it acts on registers and counts. -/
theorem Dev.control_ports (d : Dev) (p : Nat) (b : Bytes) : (d.control p b).ports = d.ports := by
  unfold Dev.control Dev.hold
  dsimp only
  repeat' split
  all_goals simp [Dev.setB_eq]

theorem Dev.countRx_ports (d : Dev) (p len : Nat) (o : RxEnd) : (d.countRx p len o).ports = d.ports := by
  cases o <;> simp [Dev.countRx, Dev.setB_eq]

/-- The port receives nothing more. -/
theorem Dev.endReception_rx (d : Dev) (k : Clock) (fid : Nat) (f : Frame) (len : Nat) (all : Bytes) (o : RxEnd) :
    ((d.endReception k fid f len all o).port f.via).rx = none := by
  have hP := Dev.spared_rx f.via none
  have hcounted : ((d.receptionCounted f len o).port f.via).rx = none := by
    refine Dev.spared_receptionCounted hP ?_
    rw [Dev.port_congr (Dev.countRx_ports _ _ _ _), Dev.port_setPort_self]
  refine hP.endReception k fid len all o (fun _ => ?_) hcounted
  rwa [Dev.port_congr (Dev.control_ports _ _ _)]

/-- A frame in error sets its port's sticky bit (R120, R123). -/
theorem Dev.countRx_sticky (d : Dev) (p len : Nat) {o : RxEnd} {sticky : Fld} (hb : (o, sticky) ∈
    [(.runt, F.MAC_STICKY_RUNT_SEEN p), (.fcs, F.MAC_STICKY_FCS_ERR_SEEN p), (.oversize, F.MAC_STICKY_OVERSIZE_SEEN p),
      (.jabber, F.MAC_STICKY_JABBER_SEEN p)]) : (d.countRx p len o).get sticky = 1 := by
  simp only [List.mem_cons, Prod.mk.injEq, List.not_mem_nil, or_false] at hb
  rcases hb with ⟨rfl, rfl⟩ | ⟨rfl, rfl⟩ | ⟨rfl, rfl⟩ | ⟨rfl, rfl⟩ <;> exact Dev.get_set_self _ _ _

theorem ofLantern_sticky {p : Nat} (hp : p < 512) : (F.MAC_STICKY_RUNT_SEEN p).ofLantern = true ∧
    (F.MAC_STICKY_FCS_ERR_SEEN p).ofLantern = true ∧ (F.MAC_STICKY_OVERSIZE_SEEN p).ofLantern = true ∧
      (F.MAC_STICKY_JABBER_SEEN p).ofLantern = true := by
  simp only [Fld.ofLantern_iff, F.MAC_STICKY_RUNT_SEEN, F.MAC_STICKY_FCS_ERR_SEEN, F.MAC_STICKY_OVERSIZE_SEEN, F.MAC_STICKY_JABBER_SEEN]
  omega

theorem Dev.endReception_sticky (d : Dev) (k : Clock) (fid : Nat) (f : Frame) (len : Nat) (all : Bytes) {o : RxEnd} {sticky : Fld}
    (hp : f.via < 512) (hb : (o, sticky) ∈ [(.runt, F.MAC_STICKY_RUNT_SEEN f.via), (.fcs, F.MAC_STICKY_FCS_ERR_SEEN f.via),
      (.oversize, F.MAC_STICKY_OVERSIZE_SEEN f.via), (.jabber, F.MAC_STICKY_JABBER_SEEN f.via)]) :
    (d.endReception k fid f len all o).get sticky = 1 := by
  have hlantern : sticky.ofLantern = true ∧ o ≠ .good := by
    obtain ⟨hrunt, hfcs, hover, hjab⟩ := ofLantern_sticky hp
    simp only [List.mem_cons, Prod.mk.injEq, List.not_mem_nil, or_false] at hb
    rcases hb with ⟨rfl, rfl⟩ | ⟨rfl, rfl⟩ | ⟨rfl, rfl⟩ | ⟨rfl, rfl⟩ <;> exact ⟨‹_›, by decide⟩
  have hP := Dev.spared_get hlantern.1 1
  exact hP.endReception k fid len all o (fun h => absurd h.1 hlantern.2) (Dev.spared_receptionCounted hP (Dev.countRx_sticky _ _ _ hb))

/-- A good frame is complete: its length is known and its bytes stand (R120). -/
theorem Dev.endReception_good (d : Dev) (k : Clock) (fid : Nat) {f : Frame} (len : Nat) {all : Bytes} (hmac : etherType all ≠ 0x8808)
    (href : f.refused = false) : (d.endReception k fid f len all .good).frame? fid =
      some { f with ended := some .good, rxLen := len, owes := [], cells := f.cells.take f.written } := by
  unfold Dev.endReception
  dsimp only
  rw [if_neg (by simp [hmac]), if_pos (by simp [href]), Dev.poolsUpdate_frame?, Dev.clearWait_frame?, Dev.frame?_setFrame_self]
  simp [href]

theorem receptionEnd_eq {d : Dev} (k : Clock) {fid : Nat} {f : Frame} (hf : d.frame? fid = some f)
    (hrx : (d.port f.via).rx = some fid) : receptionEnd fid [] false false k d =
      d.endReception k fid f f.bytes.length f.bytes (rxOutcome f.bytes.length f.maxFrame (fcsGood f.bytes)) := by
  simp [receptionEnd, hf, hrx]

end Sys2Proof.Machine
end

section
/-! Proofs: a header whose window is complete (R60). -/

namespace Sys2Proof.Machine
open Sys2Proof

/-- Which headers wait in the FIFOs is spared. -/
theorem Dev.spared_lanterns (x : Tab Lantern) : Dev.Spared fun d => d.lanterns = x where
  tables := fun _ _ _ _ h => h
  report := fun _ _ hab h => hab.lanterns_eq.trans h
  pool := fun _ _ _ h => h
  stomp := fun _ _ h => h

section
variable {P : Dev → Prop} (hP : Dev.Spared P) {d : Dev} (h : P d)
include hP h

theorem Dev.Spared.addRefs (f : Frame) (n : Nat) : P (d.addRefs f n) := by
  refine Dev.kept_foldl h (fun d i hd => ?_) f.cells
  split
  · exact hd
  · exact hP.bm hd _

theorem Dev.Spared.settle (k : Clock) (fid n extra : Nat) : P (d.settle k fid n extra) := by
  unfold Dev.settle
  split
  · exact h
  · refine hP.poolsUpdate (hP.retire ?_ fid) k
    have hframe := fun f g => hP.setFrame (hP.addRefs h f (n + extra)) fid g
    split
    · exact hP.freeCells (hframe _ _) _
    · exact hframe _ _

theorem Dev.Spared.countFrame (fid i : Nat) : P (d.countFrame fid i) := by
  unfold Dev.countFrame
  split
  · exact h
  · split
    · exact hP.count h i _
    · exact hP.setFrame h fid _

theorem Dev.Spared.dropUndecided (k : Clock) (fid i : Nat) : P (d.dropUndecided k fid i) := hP.settle (hP.countFrame h fid i) k fid 0 0

end

/-- The frame's header is to enter its lantern's FIFO: a front-port frame's, whose window is complete (R60). -/
def Frame.windowComplete (f : Frame) (d : Dev) : Prop :=
  f.via < 512 ∧ f.pass = 1 ∧ f.headed = false ∧ f.refused = false ∧ f.decided = false ∧
    (512 ≤ f.bytes.length ∨ f.ended = some .good) ∧ etherType f.bytes ≠ 0x8808 ∧ d.isHeld (f.ingress / 16) = false

/-- The header joins the FIFO. -/
def Dev.headerJoins (d : Dev) (fid : Nat) (f : Frame) : Dev :=
  let l := f.ingress / 16
  ((d.setFrame fid { f with headed := true, staMatch := d.staMatch f.ingress (beAt f.bytes 0 6) }).setLantern l
    { d.lantern l with fifo := (d.lantern l).fifo ++ [fid] }).showFifo l

/-- The header finds the FIFO full. -/
def Dev.headerDropped (d : Dev) (k : Clock) (fid : Nat) (f : Frame) : Dev :=
  ((d.setFrame fid { f with refused := true }).dropUndecided k fid (cPort f.ingress 12)).setB
    (F.HDR_FIFO_STATUS_HDR_FIFO_DROP (f.ingress / 16)) true

theorem headerComplete_eq {d : Dev} (k : Clock) {fid : Nat} {f : Frame} (hf : d.frame? fid = some f) (hwin : f.windowComplete d) :
    headerComplete fid k d =
      if 128 ≤ (d.lantern (f.ingress / 16)).fifo.length then
        (d.headerDropped k fid f).event k (16 * (f.ingress / 16) + 13) (flcMac f.ingress)
      else if (d.lantern (f.ingress / 16)).fifo.length + 1 = 64 then (d.headerJoins fid f).perf (f.ingress / 16) 2
      else d.headerJoins fid f := by
  obtain ⟨hvia, hpass, hhead, href, hdec, hdone, hmac, hheld⟩ := hwin
  have hgo : (decide (512 ≤ f.via) || f.pass != 1 || f.headed || f.refused || f.decided ||
      !(decide (512 ≤ f.bytes.length) || f.ended == some .good) || etherType f.bytes == 0x8808 || d.isHeld (f.ingress / 16)) = false := by
    have hdone' : (decide (512 ≤ f.bytes.length) || f.ended == some .good) = true := by simpa using hdone
    rw [hdone']
    simp [hvia, hpass, hhead, href, hdec, hmac, hheld]
  simp only [headerComplete, hf, hgo]
  rfl

/-! With room in the FIFO. -/

theorem Dev.headerJoins_fifo (d : Dev) (fid : Nat) (f : Frame) :
    ((d.headerJoins fid f).lantern (f.ingress / 16)).fifo = (d.lantern (f.ingress / 16)).fifo ++ [fid] := by
  unfold Dev.headerJoins
  dsimp only
  rw [Dev.lantern_congr (Dev.showFifo_lanterns _ _), Dev.lantern_setLantern_self]

theorem Dev.headerJoins_frame? (d : Dev) (fid : Nat) (f : Frame) : (d.headerJoins fid f).frame? fid =
    some { f with headed := true, staMatch := d.staMatch f.ingress (beAt f.bytes 0 6) } :=
  (Dev.frame?_congr (Dev.setAll_frames _ _) fid).trans (Dev.frame?_setFrame_self _ _ _)

/-- LEVEL shows the headers that wait. -/
theorem Dev.showFifo_level (d : Dev) (l : Nat) :
    (d.showFifo l).get (F.HDR_FIFO_STATUS_LEVEL l) = (d.lantern l).fifo.length % 2 ^ 8 := by
  have hpeak : (F.HDR_FIFO_STATUS_LEVEL l).key ≠ (F.HDR_FIFO_STATUS_PEAK l).key := by
    simp [Fld.key, F.HDR_FIFO_STATUS_LEVEL, F.HDR_FIFO_STATUS_PEAK]
  exact (Dev.get_set_of_ne _ _ hpeak).trans (Dev.get_set_self _ _ _)

theorem Dev.headerJoins_level {d : Dev} (fid : Nat) {f : Frame} (hroom : (d.lantern (f.ingress / 16)).fifo.length < 128) :
    (d.headerJoins fid f).get (F.HDR_FIFO_STATUS_LEVEL (f.ingress / 16)) = (d.lantern (f.ingress / 16)).fifo.length + 1 := by
  unfold Dev.headerJoins
  dsimp only
  rw [Dev.showFifo_level, Dev.lantern_setLantern_self, List.length_append, List.length_singleton]
  omega

theorem ofLantern_hdrFifo {l : Nat} (hl : l < 32) : (F.HDR_FIFO_STATUS_LEVEL l).ofLantern = true ∧
    (F.HDR_FIFO_STATUS_HDR_FIFO_DROP l).ofLantern = true := by
  simp only [Fld.ofLantern_iff, F.HDR_FIFO_STATUS_LEVEL, F.HDR_FIFO_STATUS_HDR_FIFO_DROP]
  omega

theorem headerComplete_room {d : Dev} (k : Clock) {fid : Nat} {f : Frame} (hf : d.frame? fid = some f) (hwin : f.windowComplete d)
    (hing : f.ingress < 512) (hroom : (d.lantern (f.ingress / 16)).fifo.length < 128) :
    (((headerComplete fid k d).lantern (f.ingress / 16)).fifo = (d.lantern (f.ingress / 16)).fifo ++ [fid]) ∧
      (headerComplete fid k d).get (F.HDR_FIFO_STATUS_LEVEL (f.ingress / 16)) = (d.lantern (f.ingress / 16)).fifo.length + 1 ∧
      (headerComplete fid k d).frame? fid =
        some { f with headed := true, staMatch := d.staMatch f.ingress (beAt f.bytes 0 6) } := by
  have hjoins := And.intro (d.headerJoins_fifo fid f) (And.intro (Dev.headerJoins_level fid hroom) (d.headerJoins_frame? fid f))
  rw [headerComplete_eq k hf hwin, if_neg (by omega)]
  split
  · have hperf := (d.headerJoins fid f).alike_perf (f.ingress / 16) 2
    rw [Dev.lantern_congr hperf.lanterns_eq, hperf.get_eq _ (Fld.ofLantern.still (ofLantern_hdrFifo (by omega)).1),
      Dev.frame?_congr hperf.frames_eq]
    exact hjoins
  · exact hjoins

/-! No room. -/

theorem headerComplete_full {d : Dev} (k : Clock) {fid : Nat} {f : Frame} (hf : d.frame? fid = some f) (hwin : f.windowComplete d)
    (hing : f.ingress < 512) (hfull : 128 ≤ (d.lantern (f.ingress / 16)).fifo.length) :
    (headerComplete fid k d).get (F.HDR_FIFO_STATUS_HDR_FIFO_DROP (f.ingress / 16)) = 1 ∧
      ((headerComplete fid k d).lantern (f.ingress / 16)).fifo = (d.lantern (f.ingress / 16)).fifo := by
  have hevent := (d.headerDropped k fid f).alike_event k (16 * (f.ingress / 16) + 13) (flcMac f.ingress) (by omega)
  have hlanterns : (d.headerDropped k fid f).lanterns = d.lanterns := by
    have hP := Dev.spared_lanterns d.lanterns
    exact hP.dropUndecided (hP.setFrame rfl fid _) k fid _
  rw [headerComplete_eq k hf hwin, if_pos hfull]
  constructor
  · rw [hevent.get_eq _ (Fld.ofLantern.still (ofLantern_hdrFifo (by omega)).2)]
    exact Dev.get_set_self _ _ _
  · rw [Dev.lantern_congr (hevent.lanterns_eq.trans hlanterns)]

/-- Settles O44: each command is followed to the frame it leaves; what the release of cells and the reports around it cannot change
is said once, by Dev.Spared. -/
theorem frameReception : Obligations.FrameReception := by
  unfold Obligations.FrameReception
  intro s fid f data d l hp hf
  refine ⟨fun hend hcut href hdata hcell => ends_onDev rfl hp ?_, fun hend hcut href hlen => ends_onDev rfl hp ?_,
    fun hrx hvia href => ?_, fun hvia hing hpass hhead href hdec hdone hmac hheld => ?_⟩
  · rw [cellWrite_eq hf hend hcut href hdata hcell]
    exact ⟨Dev.writeCell_frame? _ _ _ _ _, Dev.writeCell_cell _ _ _ _⟩
  · exact ⟨f.cutShort data, oversizeCut_frame? _ hf hend hcut href hlen, rfl, rfl, rfl⟩
  · intro o
    have heq : receptionEnd fid [] false false s.m.clk s.m.dev = s.m.dev.endReception s.m.clk fid f f.bytes.length f.bytes o :=
      receptionEnd_eq _ hf hrx
    clear_value o
    refine ends_onDev rfl hp ?_
    rw [heq]
    refine ⟨Dev.endReception_rx _ _ _ _ _ _ _, ?_, ?_, ?_, ?_, ?_⟩
    · rintro rfl hmac
      exact ⟨_, Dev.endReception_good _ _ _ _ hmac href, rfl, rfl, rfl⟩
    all_goals rintro rfl; exact Dev.endReception_sticky _ _ _ _ _ _ hvia (by simp)
  · have hwin : f.windowComplete s.m.dev := ⟨hvia, hpass, hhead, href, hdec, hdone, hmac, hheld⟩
    exact ⟨fun hroom => ends_onDev rfl hp (headerComplete_room _ hf hwin hing hroom),
      fun hfull => ends_onDev rfl hp (headerComplete_full _ hf hwin hing hfull)⟩

end Sys2Proof.Machine
end

section
/-! Proofs: what a change leaves of the Chandler, as far as a statement looks. -/

namespace Sys2Proof.Machine
open Sys2Proof

/-- b shows what a shows of the Chandler: the part v of its own state, and the fields listed. -/
structure Dev.keeps {α : Type} (v : Chan → α) (l : List Fld) (a b : Dev) : Prop where
  chan : v b.chan = v a.chan
  get  : ∀ f ∈ l, b.get f = a.get f

section
variable {α : Type} {v : Chan → α} {l : List Fld}

theorem Dev.keeps_refl (a : Dev) : a.keeps v l a := ⟨rfl, fun _ _ => rfl⟩

theorem Dev.keeps.trans {a b c : Dev} (h : a.keeps v l b) (g : b.keeps v l c) : a.keeps v l c :=
  ⟨g.chan.trans h.chan, fun f hf => (g.get f hf).trans (h.get f hf)⟩

/-- What keeps the Chandler's state and every register. -/
theorem Dev.keeps_of_eq {a b : Dev} (hc : b.chan = a.chan) (hf : b.fld = a.fld) : a.keeps v l b :=
  ⟨congrArg v hc, fun f _ => Dev.get_congr hf f⟩

theorem Dev.alike.keeps {a b : Dev} (h : a.alike b) (hl : ∀ f ∈ l, f.still = true) : a.keeps v l b :=
  ⟨congrArg v h.chan_eq, fun f hf => h.get_eq f (hl f hf)⟩

theorem Dev.keeps_set (d : Dev) {g : Fld} (x : Nat) (h : ∀ f ∈ l, f.key ≠ g.key) : d.keeps v l (d.set g x) :=
  ⟨rfl, fun f hf => Dev.get_set_of_ne d x (h f hf)⟩

theorem Dev.keeps_onChan (d : Dev) {g : Chan → Chan} (h : v (g d.chan) = v d.chan) : d.keeps v l (d.onChan g) :=
  ⟨h, fun _ _ => rfl⟩

theorem Dev.keeps_ite {a b c : Dev} {p : Prop} [Decidable p] (hb : a.keeps v l b) (hc : a.keeps v l c) :
    a.keeps v l (if p then b else c) := by
  split
  · exact hb
  · exact hc

theorem Dev.keeps_foldl {β : Type} {g : Dev → β → Dev} (xs : List β) (h : ∀ d, ∀ x ∈ xs, Dev.keeps v l d (g d x)) (d : Dev) :
    d.keeps v l (xs.foldl g d) :=
  List.foldlRecOn (motive := fun b => d.keeps v l b) xs g d.keeps_refl fun b hb x hx => hb.trans (h b x hx)

theorem Dev.keeps_setAll (d : Dev) {xs : List (Fld × Nat)} (h : ∀ p ∈ xs, ∀ f ∈ l, f.key ≠ p.1.key) : d.keeps v l (d.setAll xs) :=
  Dev.keeps_foldl xs (fun e p hp => e.keeps_set p.2 (h p hp)) d

/-- A flag of CHANDLER_FLAGS and its event. -/
theorem Dev.keeps_chFlag (d : Dev) (k : Clock) {n : Nat} (hn : n < 12)
    (hl : ∀ f ∈ l, f.still = true ∧ f.key ≠ F.CHANDLER_FLAGS_FLAGS.key)
    (hv : ∀ c : Chan, v { c with flags := c.flags ||| 2 ^ n } = v c) : d.keeps v l (d.chFlag k n) :=
  ((d.keeps_set _ fun f hf => (hl f hf).2).trans (Dev.keeps_onChan _ (hv _))).trans
    ((Dev.alike_eventOf _ k 37 n _ (by omega)).keeps fun f hf => (hl f hf).1)

/-- A voltage that is sent changes SETPOINT, MOVING and the write under way. -/
theorem Dev.keeps_avsSend (d : Dev) (mv : Nat)
    (hl : ∀ f ∈ l, f.key ≠ F.CHANDLER_STATUS_SETPOINT.key ∧ f.key ≠ F.CHANDLER_STATUS_MOVING.key)
    (hv : ∀ (c : Chan) (w : Option AvsWrite) (m : Nat), v { c with avs := w, moved := m } = v c) : d.keeps v l (d.avsSend mv) :=
  have hshown := (d.keeps_set (v := v) mv fun f hf => (hl f hf).1).trans
    (Dev.keeps_set _ (g := F.CHANDLER_STATUS_MOVING) 1 fun f hf => (hl f hf).2)
  ⟨hv _ _ _, hshown.get⟩

theorem Dev.keeps_raiseTo (d : Dev) (mv : Nat)
    (hl : ∀ f ∈ l, f.key ≠ F.CHANDLER_STATUS_SETPOINT.key ∧ f.key ≠ F.CHANDLER_STATUS_MOVING.key)
    (hv : ∀ (c : Chan) (w : Option AvsWrite) (m : Nat), v { c with avs := w, moved := m } = v c) : d.keeps v l (d.raiseTo mv) :=
  Dev.keeps_ite (d.keeps_avsSend mv hl hv) d.keeps_refl

end

end Sys2Proof.Machine
end

section
/-! Proofs: AVSBus and the calibration (R93, R545). -/

namespace Sys2Proof.Machine
open Sys2Proof

/-! The end of a calibration. -/

/-- The registers of AVSBus and the calibration. -/
def calFields : List Fld := [F.BT_CAL_CODE, F.CHANDLER_STATUS_CALIBRATED, F.CHANDLER_STATUS_MOVING, F.CHANDLER_FLAGS_FLAGS]

/-- A step of bring-up that is completed shows in STEP. -/
theorem Dev.keeps_setStep (d : Dev) (n : Nat) : d.keeps id calFields (d.setStep n) :=
  ⟨rfl, fun f hf => Dev.get_set_of_ne _ n ((by decide : ∀ f ∈ calFields, f.key ≠ F.BT_STEP.key) f hf)⟩

theorem Dev.keeps_fwReady (d : Dev) (k : Clock) : d.keeps id calFields (d.fwReady k) :=
  have hset : d.keeps id calFields (d.setB F.SM_FW_READY true) := d.keeps_set _ (by decide)
  hset.trans ((Dev.alike_eventOf _ k 36 5 0 (by decide)).keeps (by decide))

theorem Dev.keeps_bootDone (d : Dev) (k : Clock) : d.keeps id calFields (d.bootDone k) :=
  have hready := (d.keeps_setStep 9).trans (Dev.keeps_fwReady _ k)
  Dev.keeps_ite (hready.trans ((Dev.alike_event _ k 688 _ (by decide)).keeps (by decide))) hready

/-- Bring-up that goes on with a calibration's end leaves what it shows (R540). -/
theorem Dev.keeps_stepSeven (d : Dev) (k : Clock) : d.keeps id calFields (d.stepSeven k) :=
  Dev.keeps_ite ((d.keeps_setStep 7).trans (Dev.keeps_bootDone _ k)) (d.keeps_setStep 7)

/-- The outcome of a calibration as it is shown. -/
def Dev.calShown (d : Dev) (code : Nat) : Dev :=
  ((d.set F.BT_CAL_CODE code).setB F.CHANDLER_STATUS_CALIBRATED (code == 0)).onChan fun c => { c with cal := none }

theorem Dev.keeps_calEnd (d : Dev) (k : Clock) (code : Nat) : (d.calShown code).keeps id calFields (d.calEnd k code) := by
  have hevent := Dev.keeps_ite (p := 2 ≤ code)
    ((Dev.alike_eventOf (d.calShown code) k 43 2 (if code = 2 ∨ code = 4 then 1 else 2) (by decide)).keeps
      (v := id) (l := calFields) (by decide)) (Dev.keeps_refl _)
  exact Dev.keeps_ite (hevent.trans (Dev.keeps_stepSeven _ k)) hevent

/-- A calibration ends with its code, and CALIBRATED shows code 0 (R545). -/
theorem Dev.calEnd_ends (d : Dev) (k : Clock) {code : Nat} (hcode : code < 16) : (d.calEnd k code).get F.BT_CAL_CODE = code ∧
    (d.calEnd k code).get F.CHANDLER_STATUS_CALIBRATED = b2n (code == 0) ∧ (d.calEnd k code).chan = { d.chan with cal := none } := by
  obtain ⟨hchan, hget⟩ := d.keeps_calEnd k code
  refine ⟨(hget _ (by decide)).trans ?_, (hget _ (by decide)).trans ?_, hchan⟩
  · rw [Dev.calShown, Dev.get_onChan, Dev.setB_eq, Dev.get_set_of_ne _ _ (by decide), Dev.get_set_self]
    exact Nat.mod_eq_of_lt hcode
  · rw [Dev.calShown, Dev.get_onChan, Dev.setB_eq, Dev.get_set_self]
    cases code == 0 <;> rfl

/-- It leaves MOVING and the flags. -/
theorem Dev.calEnd_get (d : Dev) (k : Clock) (code : Nat) {f : Fld}
    (hf : f ∈ [F.CHANDLER_STATUS_MOVING, F.CHANDLER_FLAGS_FLAGS]) : (d.calEnd k code).get f = d.get f := by
  obtain ⟨hin, hcode, hcal⟩ : f ∈ calFields ∧ f.key ≠ F.BT_CAL_CODE.key ∧ f.key ≠ F.CHANDLER_STATUS_CALIBRATED.key := by
    revert f
    decide
  rw [(d.keeps_calEnd k code).get f hin, Dev.calShown, Dev.get_onChan, Dev.setB_eq, Dev.get_set_of_ne _ _ hcal,
    Dev.get_set_of_ne _ _ hcode]

/-- A one-bit field that is cleared reads 0. -/
theorem Dev.get_setB_false (d : Dev) (f : Fld) : (d.setB f false).get f = 0 := (d.get_set_self f 0).trans (Nat.zero_mod _)

/-! VDONE. -/

/-- Waits that end for every port that is listed end for every port. -/
theorem Dev.waitVolt_false {d : Dev} (h : ∀ e ∈ d.ports, e.2.waitVolt = false) (p : Nat) : (d.port p).waitVolt = false := by
  rw [Dev.port, tgetD]
  cases hx : tget? d.ports p with
  | none => rfl
  | some x => exact h _ (mem_of_tget? hx)

/-- VDONE: the voltage written is the one in force, and a calibration that waited for it observes its periods. -/
def Dev.avsSettled (d : Dev) (w : AvsWrite) : Dev :=
  ((if d.chan.cal = some .awaitVDone then d.set F.CH_GAIN 0x8000 else d).setB F.CHANDLER_STATUS_MOVING false).onChan fun c =>
    { c with avs := none, taken := w.mv, hold := 0, cal := if c.cal = some .awaitVDone then some (.observing 0 0) else c.cal }

/-- Every wait for a voltage ends. -/
def Dev.voltWaitsEnd (d : Dev) : Dev :=
  { d with ports := (d.ports.map fun e => (e.1, { e.2 with waitVolt := false })).filter fun e => e.2 != Port.idle }

theorem avsDone_eq {d : Dev} (k : Clock) {w : AvsWrite} (hw : d.chan.avs = some w) : avsDone k d =
    let e := d.avsSettled w
    let need := e.setpointIn e.chan.mode e.forecastColumn
    if !d.flag F.CHANDLER_STATUS_CALIBRATED || need ≤ w.mv then e.voltWaitsEnd else e.raiseTo need := by
  simp only [avsDone, hw]
  rfl

theorem Dev.avsSettled_taken (d : Dev) (w : AvsWrite) : (d.avsSettled w).chan.taken = w.mv ∧ (d.avsSettled w).chan.hold = 0 := ⟨rfl, rfl⟩

theorem Dev.avsSettled_moving (d : Dev) (w : AvsWrite) : (d.avsSettled w).get F.CHANDLER_STATUS_MOVING = 0 := by
  rw [Dev.avsSettled, Dev.get_onChan, Dev.get_setB_false]

/-- The voltage written is in force, whether or not a higher one is needed next (R93). -/
theorem avsDone_taken {d : Dev} (k : Clock) {w : AvsWrite} (hw : d.chan.avs = some w) :
    (avsDone k d).chan.taken = w.mv ∧ (avsDone k d).chan.hold = 0 := by
  rw [avsDone_eq k hw]
  dsimp only
  split
  · exact d.avsSettled_taken w
  · have hraise := Dev.keeps_raiseTo (v := fun c => (c.taken, c.hold)) (l := []) (d.avsSettled w)
      ((d.avsSettled w).setpointIn (d.avsSettled w).chan.mode (d.avsSettled w).forecastColumn) (by simp) (fun _ _ _ => rfl)
    exact Prod.mk.inj hraise.chan

/-- Before calibration the movement and every wait for it end. -/
theorem avsDone_uncalibrated {d : Dev} (k : Clock) {w : AvsWrite} (hw : d.chan.avs = some w)
    (hcal : d.flag F.CHANDLER_STATUS_CALIBRATED = false) : (avsDone k d).chan.avs = none ∧
      (avsDone k d).get F.CHANDLER_STATUS_MOVING = 0 ∧ ∀ p, ((avsDone k d).port p).waitVolt = false := by
  have heq : avsDone k d = (d.avsSettled w).voltWaitsEnd := by
    rw [avsDone_eq k hw]
    exact if_pos (by simp [hcal])
  rw [heq]
  refine ⟨rfl, d.avsSettled_moving w, Dev.waitVolt_false fun e he => ?_⟩
  obtain ⟨x, _, rfl⟩ := List.mem_map.mp (List.mem_filter.mp he).1
  rfl

/-! The settle timeout. -/

/-- A write that does not settle is sent once more. -/
theorem avsTimeout_first {d : Dev} (k : Clock) {w : AvsWrite} (hw : d.chan.avs = some w) (hsent : w.resent = false) :
    avsTimeout k d = { d with
      chan := { d.chan with avs := some { w with resent := true } }, out := d.out ++ [.avs (d.get F.AVS_CTRL_AVS_RAIL) w.mv] } := by
  simp only [avsTimeout, hw, hsent]
  rfl

/-- After that VDD_CORE is taken at the lower of the two values, and the higher is held. -/
def Dev.avsGivenUp (d : Dev) (k : Clock) (w : AvsWrite) : Dev :=
  ((d.setB F.CHANDLER_STATUS_MOVING false).onChan fun c => { c with avs := none, taken := min w.old w.mv, hold := w.old }).chFlag k 6

theorem avsTimeout_second {d : Dev} (k : Clock) {w : AvsWrite} (hw : d.chan.avs = some w) (hsent : w.resent = true) :
    avsTimeout k d = if (d.avsGivenUp k w).chan.cal = some .awaitVDone then (d.avsGivenUp k w).calEnd k 4 else d.avsGivenUp k w := by
  simp only [avsTimeout, hw, hsent]
  rfl

theorem Dev.avsGivenUp_chan (d : Dev) (k : Clock) (w : AvsWrite) : (d.avsGivenUp k w).chan =
    { d.chan with avs := none, taken := min w.old w.mv, hold := w.old, flags := d.chan.flags ||| 2 ^ 6 } :=
  Dev.chFlag_chan _ k (by decide)

theorem Dev.avsGivenUp_shows (d : Dev) (k : Clock) (w : AvsWrite) : (d.avsGivenUp k w).get F.CHANDLER_STATUS_MOVING = 0 ∧
    bit ((d.avsGivenUp k w).get F.CHANDLER_FLAGS_FLAGS) 6 = true := by
  refine ⟨?_, Dev.bit_chFlag _ k (by decide)⟩
  have hflag := fun e : Dev => Dev.keeps_chFlag (v := fun _ => ()) (l := [F.CHANDLER_STATUS_MOVING]) e k (n := 6) (by decide)
    (by decide) fun _ => rfl
  rw [Dev.avsGivenUp, (hflag _).get _ (by simp), Dev.get_onChan, Dev.get_setB_false]

/-- What the second timeout leaves; in a calibration with CAL_CODE 4 (R93, R545). -/
theorem avsTimeout_gives_up {d : Dev} (k : Clock) {w : AvsWrite} (hw : d.chan.avs = some w) (hsent : w.resent = true) :
    let b := avsTimeout k d
    b.chan.avs = none ∧ b.chan.taken = min w.old w.mv ∧ b.chan.hold = w.old ∧ b.get F.CHANDLER_STATUS_MOVING = 0 ∧
      bit (b.get F.CHANDLER_FLAGS_FLAGS) 6 = true ∧
      (d.chan.cal = some .awaitVDone → b.get F.BT_CAL_CODE = 4 ∧ b.chan.cal = none) := by
  obtain ⟨hmoving, hflag⟩ := d.avsGivenUp_shows k w
  have hchan := d.avsGivenUp_chan k w
  have hcal : (d.avsGivenUp k w).chan.cal = d.chan.cal := by rw [hchan]
  dsimp only
  rw [avsTimeout_second k hw hsent]
  split
  · obtain ⟨hcode, _, hend⟩ := (d.avsGivenUp k w).calEnd_ends k (code := 4) (by decide)
    rw [hend, hchan, Dev.calEnd_get _ _ _ (by simp), Dev.calEnd_get _ _ _ (by simp)]
    exact ⟨rfl, rfl, rfl, hmoving, hflag, fun _ => ⟨hcode, rfl⟩⟩
  · rename_i hno
    rw [hchan]
    exact ⟨rfl, rfl, rfl, hmoving, hflag, fun h => absurd (hcal.trans h) hno⟩

/-! The readings. -/

/-- The device with VOUT_MODE read. -/
def Dev.modeRead (d : Dev) (mode : Nat) : Dev := d.onChan fun c => { c with voutMode := mode }

theorem calibration_readings {d : Dev} (k : Clock) (mode : Nat) (avs vout : Option Nat) (hc : d.chan.cal = some .awaitReadings) :
    calibration (.readings mode avs vout) k d = match avs, vout with
      | none, _ => (d.modeRead mode).calEnd k 2
      | some _, none => (d.modeRead mode).calEnd k 3
      | some a, some v =>
        if a * 65536 + 15 * 65536 < linear16 mode v * 1000 || linear16 mode v * 1000 + 15 * 65536 < a * 65536 then
          (d.modeRead mode).calEnd k 3
        else ((d.modeRead mode).avsSend (min 800 (max 750 (d.get F.BT_START_VSET)))).onChan fun c => { c with cal := some .awaitVDone } := by
  simp only [calibration, hc]
  rfl

/-- Readings that agree within 15 mV. -/
theorem readings_agree {a x : Nat} (h : ((a : Int) * 65536 - x * 1000).natAbs ≤ 15 * 65536) :
    ¬ (a * 65536 + 15 * 65536 < x * 1000 || x * 1000 + 15 * 65536 < a * 65536) = true := by
  simp only [Bool.or_eq_true, decide_eq_true_eq]
  omega

theorem readings_disagree {a x : Nat} (h : 15 * 65536 < ((a : Int) * 65536 - x * 1000).natAbs) :
    (a * 65536 + 15 * 65536 < x * 1000 || x * 1000 + 15 * 65536 < a * 65536) = true := by
  simp only [Bool.or_eq_true, decide_eq_true_eq]
  omega

/-- A voltage sent shows in SETPOINT. -/
theorem Dev.avsSend_setpoint (d : Dev) {mv : Nat} (h : mv < 1024) : (d.avsSend mv).get F.CHANDLER_STATUS_SETPOINT = mv := by
  have hmoving : (d.avsSend mv).get F.CHANDLER_STATUS_SETPOINT = (d.set F.CHANDLER_STATUS_SETPOINT mv).get F.CHANDLER_STATUS_SETPOINT :=
    Dev.get_set_of_ne (f := F.CHANDLER_STATUS_MOVING) _ 1 (by decide)
  rw [hmoving, Dev.get_set_self]
  exact Nat.mod_eq_of_lt h

/-- Good readings move VDD_CORE to START_VSET. -/
theorem calibration_agree {d : Dev} (k : Clock) (mode : Nat) {a v : Nat} (hc : d.chan.cal = some .awaitReadings)
    (h : ((a : Int) * 65536 - linear16 mode v * 1000).natAbs ≤ 15 * 65536) :
    let b := calibration (.readings mode (some a) (some v)) k d
    let mv := min 800 (max 750 (d.get F.BT_START_VSET))
    b.chan.cal = some .awaitVDone ∧ b.chan.avs = some ⟨mv, d.chan.taken, false⟩ ∧ b.get F.CHANDLER_STATUS_SETPOINT = mv ∧
      b.out = d.out ++ [.avs (d.get F.AVS_CTRL_AVS_RAIL) mv] := by
  dsimp only
  rw [calibration_readings k mode _ _ hc]
  dsimp only
  rw [if_neg (readings_agree h)]
  exact ⟨rfl, rfl, Dev.avsSend_setpoint _ (by omega), rfl⟩

/-- A missing or a disagreeing reading ends the calibration with its code. -/
theorem calibration_fails {d : Dev} (k : Clock) (mode : Nat) {avs vout : Option Nat} {code : Nat} (hcode : 0 < code ∧ code < 16)
    (he : calibration (.readings mode avs vout) k d = (d.modeRead mode).calEnd k code) :
    let b := calibration (.readings mode avs vout) k d
    b.get F.BT_CAL_CODE = code ∧ b.get F.CHANDLER_STATUS_CALIBRATED = 0 ∧ b.chan.cal = none := by
  obtain ⟨hshown, hcal, hchan⟩ := (d.modeRead mode).calEnd_ends k hcode.2
  have hbad : (code == 0) = false := beq_eq_false_iff_ne.mpr (by omega)
  dsimp only
  rw [he, hchan]
  exact ⟨hshown, hcal.trans (by rw [hbad]; rfl), rfl⟩

/-! The periods observed. -/

theorem calibration_observed {d : Dev} (k : Clock) {failed : Nat} (hc : d.chan.cal = some (.observing 16 failed)) :
    calibration .observed k d = d.calEnd k (if 8 ≤ failed then 5 else 0) := by
  simp only [calibration, hc]

theorem calibration_ends {d : Dev} (k : Clock) {failed : Nat} (hc : d.chan.cal = some (.observing 16 failed)) :
    let b := calibration .observed k d
    b.get F.BT_CAL_CODE = (if 8 ≤ failed then 5 else 0) ∧ b.get F.CHANDLER_STATUS_CALIBRATED = b2n (failed < 8) ∧
      b.chan.cal = none := by
  have hcode : (if 8 ≤ failed then 5 else 0) < 16 := by split <;> decide
  have hgood : ((if 8 ≤ failed then 5 else 0) == 0) = decide (failed < 8) := by
    by_cases h : 8 ≤ failed
    · simp [h]
    · simp [h, Nat.lt_of_not_le h]
  obtain ⟨hshown, hcal, hchan⟩ := d.calEnd_ends k hcode
  dsimp only
  rw [calibration_observed k hc, hchan]
  exact ⟨hshown, hcal.trans (congrArg b2n hgood), rfl⟩

/-- Settles O42: AVSBus by what each of its two answers leaves, the calibration by how its readings and its periods end it. -/
theorem avsAndCalibration : Obligations.AvsAndCalibration := by
  unfold Obligations.AvsAndCalibration
  intro s d hp
  refine ⟨fun w hw => ⟨ends_onDev rfl hp ?_, fun hsent => ends_onDev rfl hp (avsTimeout_first _ hw hsent),
    fun hsent => ends_onDev rfl hp (avsTimeout_gives_up _ hw hsent)⟩, fun mode avs vout hc => ⟨?_, ?_, ?_, ?_⟩,
    fun failed hc => ends_onDev rfl hp (calibration_ends _ hc)⟩
  · obtain ⟨htaken, hhold⟩ := avsDone_taken s.m.clk hw
    exact ⟨htaken, hhold, avsDone_uncalibrated _ hw⟩
  · rintro rfl
    exact ends_onDev rfl hp (calibration_fails _ mode (by decide) (calibration_readings _ mode _ _ hc))
  · intro ha hv
    obtain ⟨a, rfl⟩ := Option.ne_none_iff_exists'.mp ha
    subst hv
    exact ends_onDev rfl hp (calibration_fails _ mode (by decide) (calibration_readings _ mode _ _ hc))
  · rintro a v rfl rfl h
    exact ends_onDev rfl hp (calibration_agree _ mode hc h)
  · rintro a v rfl rfl h
    have hend := (calibration_readings s.m.clk mode (some a) (some v) hc).trans (if_pos (readings_disagree h))
    obtain ⟨hcode, _, hcal⟩ := calibration_fails s.m.clk mode (by decide) hend
    exact ends_onDev rfl hp ⟨hcode, hcal⟩

end Sys2Proof.Machine
end

section
/-! Proofs: what reports, replies, ports and segments leave of the Chandler. -/

namespace Sys2Proof.Machine
open Sys2Proof

/-- A field that stands below Lampblack's registers, and so below those of the ports and of the HBM controller. -/
abbrev Fld.low (f : Fld) : Prop := f.key < 0x300000 * 32

section
variable {α : Type} {v : Chan → α} {l : List Fld} (hl : ∀ f ∈ l, f.low)
include hl

theorem Dev.keeps_set_above (d : Dev) {g : Fld} (x : Nat) (hg : 0x300000 ≤ g.off) : d.keeps v l (d.set g x) :=
  d.keeps_set x fun f hf => by
    have hlow := hl f hf
    simp only [Fld.low, Fld.key] at hlow ⊢
    omega

/-! Events, whatever their source. -/

theorem Dev.keeps_sendMsix (d : Dev) (n : Nat) : d.keeps v l (d.sendMsix n) := by
  unfold Dev.sendMsix
  split
  · exact Dev.keeps_ite d.keeps_refl (Dev.keeps_of_eq rfl rfl)
  · exact Dev.keeps_ite (d.keeps_set_above hl _ (by decide)) (Dev.keeps_of_eq rfl rfl)

theorem Dev.keeps_pend (d : Dev) (s : Nat) : d.keeps v l (d.pend s) := by
  have hset : d.keeps v l (d.setBit (F.LB_EVT_PENDING (s / 32)) (s % 32)) :=
    d.keeps_set_above hl _ (by simp only [F.LB_EVT_PENDING]; omega)
  exact Dev.keeps_ite d.keeps_refl (Dev.keeps_ite (hset.trans (Dev.keeps_sendMsix hl _ _)) hset)

theorem Dev.keeps_lampWrite (d : Dev) (r : LampRec) : d.keeps v l (d.lampWrite r) := by
  have hset := fun (e : Dev) {lo hi : Fld} (n : Nat) (h : 0x300000 ≤ lo.off ∧ 0x300000 ≤ hi.off) =>
    (e.keeps_set_above (v := v) hl n h.1).trans (Dev.keeps_set_above hl (g := hi) _ (n / 2 ^ 32) h.2)
  have hseq := fun ring n o => ((Dev.keeps_of_eq (a := d) (b := { d with lamp := { d.lamp with ring := ring } }) rfl rfl).trans
    (hset _ (lo := F.LB_NEXT_SEQ_LO) (hi := F.LB_NEXT_SEQ_HI) n (by decide))).trans
    (hset _ (lo := F.LB_OLDEST_SEQ_LO) (hi := F.LB_OLDEST_SEQ_HI) o (by decide))
  refine Dev.keeps.trans ?_ (Dev.keeps_pend hl _ _)
  exact Dev.keeps_ite ((hseq _ _ _).trans (Dev.keeps_set_above hl (g := F.LB_STORE_WRAPPED) _ 1 (by decide))) (hseq _ _ _)

theorem Dev.keeps_eventData (d : Dev) (k : Clock) (s form a b : Nat) : d.keeps v l (d.eventData k s form a b) := by
  have hlamp := fun x => Dev.keeps_of_eq (v := v) (l := l) (a := d) (b := { d with lamp := x }) rfl rfl
  unfold Dev.eventData
  dsimp only
  refine Dev.keeps_ite d.keeps_refl (Dev.keeps_ite (Dev.keeps_ite d.keeps_refl (Dev.keeps_ite (hlamp _) ?_)) ?_)
  · exact (hlamp _).trans (Dev.keeps_lampWrite hl _ _)
  · split
    · exact Dev.keeps_ite ((hlamp _).trans (Dev.keeps_pend hl _ _)) (d.keeps_lampWrite hl _)
    · exact d.keeps_lampWrite hl _

theorem Dev.keeps_event (d : Dev) (k : Clock) (s c : Nat) : d.keeps v l (d.event k s c) := d.keeps_eventData hl k s 0 c 0

/-! Ports. -/

omit hl in
theorem Dev.keeps_setPort (d : Dev) (p : Nat) (x : Port) : d.keeps v l (d.setPort p x) := Dev.keeps_of_eq rfl rfl

theorem Dev.spared_keeps (a : Dev) (hs : ∀ f ∈ l, f.still = true) : Dev.Spared fun b => a.keeps v l b where
  tables := fun _ _ _ _ h => h.trans (Dev.keeps_of_eq rfl rfl)
  report := fun _ _ hab h => h.trans (hab.keeps hs)
  pool := fun d p x h => h.trans (d.keeps_set_above hl x (by simp only [F.POOL_STATUS]; omega))
  stomp := fun _ _ h => h.trans (Dev.keeps_of_eq rfl rfl)

omit hl in
theorem Dev.keeps_count (d : Dev) (i n : Nat) : d.keeps v l (d.count i n) := Dev.keeps_of_eq rfl rfl

theorem Dev.keeps_countRx (d : Dev) (p len : Nat) (o : RxEnd) : d.keeps v l (d.countRx p len o) := by
  cases o
  case good => exact d.keeps_count _ _
  case refused => exact d.keeps_count _ _
  all_goals
    refine (d.keeps_count _ _).trans (Dev.keeps_set_above hl _ 1 ?_)
    simp only [F.MAC_STICKY_RUNT_SEEN, F.MAC_STICKY_FCS_ERR_SEEN, F.MAC_STICKY_OVERSIZE_SEEN, F.MAC_STICKY_JABBER_SEEN]
    omega

/-- A reception that ends in error. -/
theorem Dev.keeps_endReception (d : Dev) (k : Clock) (fid : Nat) (f : Frame) (len : Nat) (all : Bytes) {o : RxEnd} (ho : o ≠ .good)
    (hs : ∀ f ∈ l, f.still = true) : d.keeps v l (d.endReception k fid f len all o) := by
  have hP := d.spared_keeps (v := v) hl hs
  refine hP.endReception k fid len all o (fun h => absurd h.1 ho) (Dev.spared_receptionCounted hP ?_)
  exact (d.keeps_setPort _ _).trans (Dev.keeps_countRx hl _ _ _ _)

theorem Dev.keeps_leaveTo (d : Dev) (k : Clock) (p st : Nat) (hs : ∀ f ∈ l, f.still = true) : d.keeps v l (d.leaveTo k p st) := by
  have hstate : ∀ (e : Dev) (x : Nat), e.keeps v l (e.set (F.PORT_STATUS_STATE p) x) := fun e x =>
    e.keeps_set_above hl x (by simp only [F.PORT_STATUS_STATE]; omega)
  have hrx : d.keeps v l (match (d.port p).rx with
      | none => d
      | some fid => match d.frame? fid with
        | none => d
        | some f => d.endReception k fid f f.bytes.length f.bytes .fcs) := by
    split
    · exact d.keeps_refl
    · split
      · exact d.keeps_refl
      · exact d.keeps_endReception hl k _ _ _ _ (by decide) hs
  unfold Dev.leaveTo
  refine Dev.keeps_ite (hstate d st) ?_
  refine Dev.keeps.trans ?_ (Dev.keeps_event hl _ k _ _)
  refine Dev.keeps.trans ?_ (Dev.keeps_set_above hl (g := F.MAC_STICKY_LINK_DOWN_SEEN p) _ 1
    (by simp only [F.MAC_STICKY_LINK_DOWN_SEEN]; omega))
  refine Dev.keeps.trans ?_ (hstate _ st)
  refine Dev.keeps.trans ?_ (Dev.keeps_setPort _ _ _)
  refine Dev.keeps.trans hrx (Dev.keeps_set_above hl _ _ (by simp only [F.PORT_STATUS_HELD]; omega))

/-! Replies. -/

omit hl in
theorem Dev.keeps_finish (d : Dev) (k : Clock) (w : Wait) (rep : Rep) (hq : ∀ f ∈ l, f.quiet = true) :
    d.keeps v l (d.finish k w rep) := by
  have hsmi := Dev.keeps_of_eq (v := v) (l := l) (a := d) (b := { d with smi := { d.smi with waits := d.smi.waits.erase w } }) rfl rfl
  refine Dev.keeps_ite hsmi (hsmi.trans ?_)
  have hreply := Dev.repliesTo_complete { d with smi := { d.smi with waits := d.smi.waits.erase w } } k w.op w.req w.cq w.noReply rep
  exact ⟨congrArg v ((congrArg Dev.chan hreply.1).trans rfl), fun f hf => hreply.2 f (hq f hf)⟩

omit hl in
/-- A configuration change that takes place. -/
theorem Dev.keeps_bumpGen (d : Dev) (hg : ∀ f ∈ l, f.key ≠ F.GL_CONFIG_GEN.key ∧ f.key ≠ F.GL_FP_ABANDONED.key) :
    d.keeps v l d.bumpGen := by
  have hgen : d.keeps v l (d.inc F.GL_CONFIG_GEN) := d.keeps_set _ fun f hf => (hg f hf).1
  exact Dev.keeps_ite (hgen.trans (Dev.keeps_set _ _ fun f hf => (hg f hf).2)) hgen

/-! Segments of the in-package DRAM. -/

omit hl in
theorem Dev.keeps_onHbm (d : Dev) (f : Hbm → Hbm) : d.keeps v l (d.onHbm f) := Dev.keeps_of_eq rfl rfl

theorem Dev.keeps_setDebt (d : Dev) (pc n : Nat) : d.keeps v l (d.setDebt pc n) :=
  (d.keeps_onHbm _).trans (Dev.keeps_set_above hl _ _ (by simp only [F.HBM_DEBT_MAX]; omega))

theorem Dev.keeps_wake (d : Dev) (k : Clock) (s : Nat) : d.keeps v l (d.wake k s) := by
  unfold Dev.wake
  dsimp only
  refine Dev.keeps_ite d.keeps_refl ?_
  have hclear : d.keeps v l (d.clrBit F.HBM_SEG_RESTING s) := Dev.keeps_ite (d.keeps_set_above hl _ (by decide)) d.keeps_refl
  have hdebt := hclear.trans (Dev.keeps_foldl (g := fun d p => d.setDebt p 0) (segmentPcs s) (fun d p _ => d.keeps_setDebt hl p 0) _)
  refine Dev.keeps.trans ?_ (Dev.keeps_event hl _ k _ _)
  refine Dev.keeps.trans ?_ (Dev.keeps_set_above hl (g := F.HBM_STICKY) _ _ (by decide))
  refine Dev.keeps.trans ?_ (Dev.keeps_count _ (cGlobal 57) 0)
  refine Dev.keeps_ite hdebt ?_
  refine Dev.keeps_ite (hdebt.trans (Dev.keeps_onHbm _ _)) ?_
  exact (hdebt.trans (Dev.keeps_onHbm _ _)).trans (Dev.keeps_set_above hl (g := F.HBM_SEG_UNINIT) _ _ (by decide))

theorem Dev.keeps_segmentBoundary (d : Dev) (k : Clock) (planned : Nat) (hq : ∀ f ∈ l, f.quiet = true)
    (hg : ∀ f ∈ l, f.key ≠ F.GL_CONFIG_GEN.key ∧ f.key ≠ F.GL_FP_ABANDONED.key) : d.keeps v l (d.segmentBoundary k planned) := by
  have hmasks : ∀ (e : Dev) (m n : Nat), e.keeps v l (e.setAll [(F.HBM_SEG_ELIGIBLE, m), (F.HBM_SEG_LOSE, n)]) := fun e m n =>
    (e.keeps_set_above hl (g := F.HBM_SEG_ELIGIBLE) m (by decide)).trans (Dev.keeps_set_above hl (g := F.HBM_SEG_LOSE) _ n (by decide))
  unfold Dev.segmentBoundary
  refine Dev.keeps.trans ?_ (Dev.keeps_onHbm _ _)
  refine Dev.keeps.trans ?_ (Dev.keeps_foldl _ (fun e s _ => e.keeps_wake hl k s) _)
  exact Dev.keeps_foldl _ (fun e w _ => ((hmasks e _ _).trans (Dev.keeps_bumpGen _ hg)).trans (Dev.keeps_finish _ k w Rep.ok hq)) d

end

end Sys2Proof.Machine
end

section
/-! Proofs: the period kept. What a tally period's end and the next one's beginning do beside naming the new period. -/

namespace Sys2Proof.Machine
open Sys2Proof

/-- What names the period in progress, and the reports of those before it. -/
def Chan.period (c : Chan) : Bool × Nat × (Nat × Nat) × Nat × Nat × List EnergyRec :=
  (c.inPeriod, c.begun, c.start, c.mode, c.budget, c.records)

/-- The registers that ask for a mode and a budget, and those that show the mode applied and the period's number. -/
def periodFields : List Fld :=
  [F.CHANDLER_CTRL_MODE, F.ENERGY_BUDGET_BUDGET, F.CHANDLER_STATUS_MODE_APPLIED, F.CH_PERIOD_LO]

/-- b is in the period that a is in, with the same registers of it. -/
abbrev Dev.keepsPeriod (a b : Dev) : Prop := a.keeps Chan.period periodFields b

theorem periodFields_low : ∀ f ∈ periodFields, f.low := by decide
theorem periodFields_quiet : ∀ f ∈ periodFields, f.quiet = true := by decide
theorem periodFields_still : ∀ f ∈ periodFields, f.still = true := by decide

theorem periodFields_gen : ∀ f ∈ periodFields, f.key ≠ F.GL_CONFIG_GEN.key ∧ f.key ≠ F.GL_FP_ABANDONED.key := by decide

theorem Dev.keepsPeriod_chFlag (d : Dev) (k : Clock) {n : Nat} (hn : n < 12) : d.keepsPeriod (d.chFlag k n) :=
  d.keeps_chFlag k hn (by decide) fun _ => rfl

theorem Dev.keepsPeriod_avsSend (d : Dev) (mv : Nat) : d.keepsPeriod (d.avsSend mv) :=
  d.keeps_avsSend mv (by decide) fun _ _ _ => rfl

theorem Dev.keepsPeriod_raiseTo (d : Dev) (mv : Nat) : d.keepsPeriod (d.raiseTo mv) :=
  d.keeps_raiseTo mv (by decide) fun _ _ _ => rfl

/-! Darkenings. -/

theorem Dev.keepsPeriod_integrate (d : Dev) (k : Clock) : d.keepsPeriod (d.integrate k) :=
  Dev.keeps_ite d.keeps_refl (d.keeps_onChan rfl)

theorem Dev.keepsPeriod_setLanes (d : Dev) (ls : List Nat) (on : Bool) : d.keepsPeriod (d.setLanes ls on) :=
  Dev.keeps_foldl (g := fun e n => e.setLane n on) ls (fun _ _ _ => Dev.keeps_of_eq rfl rfl) d

theorem Dev.keepsPeriod_darkenNow (d : Dev) (k : Clock) (ls : List Nat) : d.keepsPeriod (d.darkenNow k ls) := by
  unfold Dev.darkenNow
  extract_lets ports d1
  have h1 : d.keepsPeriod d1 := (d.keepsPeriod_integrate k).trans (Dev.keepsPeriod_setLanes _ ls false)
  refine h1.trans (Dev.keeps_foldl ports (fun e p _ => ?_) d1)
  have hleave : e.keepsPeriod (if e.get (F.PORT_STATUS_STATE p) = stRest then e else e.leaveTo k p stDark) :=
    Dev.keeps_ite e.keeps_refl (e.keeps_leaveTo periodFields_low k p stDark periodFields_still)
  exact hleave.trans (Dev.keeps_setPort _ _ _)

theorem Dev.keepsPeriod_darkenPlanned (d : Dev) (k : Clock) : d.keepsPeriod (d.darkenPlanned k) := by
  unfold Dev.darkenPlanned
  extract_lets d1 waits
  have h1 : d.keepsPeriod d1 := (d.keepsPeriod_darkenNow k d.chan.darken).trans (Dev.keeps_onChan _ rfl)
  refine h1.trans (Dev.keeps_foldl waits (fun e w _ => ?_) d1)
  have hgen : e.keepsPeriod (if w.op = 0x0050 then e.bumpGen else e) := Dev.keeps_ite (e.keeps_bumpGen periodFields_gen) e.keeps_refl
  exact hgen.trans (Dev.keeps_finish _ k w Rep.ok periodFields_quiet)

/-! The comparison, the slices due and the plan. -/

theorem Dev.keepsPeriod_correct (d : Dev) (k : Clock) (m : Model) (len : Nat) : d.keepsPeriod (d.correct k m len) := by
  unfold Dev.correct
  extract_lets mask cov d1 d0 tele out run d2 d3
  have h1 : d.keepsPeriod d1 := d.keeps_onChan rfl
  have h0 : d.keepsPeriod d0 := d.keeps_onChan rfl
  have h2 : d0.keepsPeriod d2 := d0.keeps_onChan rfl
  have h3 : d2.keepsPeriod d3 := Dev.keeps_ite (d2.keepsPeriod_chFlag k (by decide)) d2.keeps_refl
  have hrun := (h0.trans h2).trans h3
  exact Dev.keeps_ite (Dev.keeps_ite (h1.trans (d1.keepsPeriod_chFlag k (by decide))) h1)
    (Dev.keeps_ite h0 (Dev.keeps_ite hrun (hrun.trans (d3.keeps_set _ (by decide)))))

theorem Dev.keepsPeriod_rebuild (d : Dev) (x : Bool) : d.keepsPeriod (d.onChan fun c => { c with rebuild := x }) :=
  d.keeps_onChan rfl

theorem Dev.keepsPeriod_dueNow (d : Dev) (period : Nat) : d.keepsPeriod (d.dueNow period) :=
  Dev.keeps_foldl _ (fun e _ _ => e.keeps_onChan rfl) d

/-- The plan's registers stand above those of the period. -/
theorem Dev.keepsPeriod_planRow (d : Dev) {q : Nat} {row : List (Fld × Nat)} (h : ∀ p ∈ row, p.1.off = 0x100110 + q * 4) :
    d.keepsPeriod (d.setAll row) :=
  d.keeps_setAll fun p hp f hf => by
    have hlow : f.key < 0x100110 * 32 := (by decide : ∀ f ∈ periodFields, f.key < 0x100110 * 32) f hf
    have hoff := h p hp
    simp only [Fld.key] at hlow ⊢
    omega

/-- The registers of a planned period. -/
def planRow (q sp work forced thr sr : Nat) : List (Fld × Nat) :=
  [(F.PLAN_SETPOINT q, sp), (F.PLAN_WORK q, work), (F.PLAN_FORCED q, forced), (F.PLAN_THROTTLE q, thr), (F.PLAN_SR_SEGMENTS q, sr)]

theorem planRow_off {q sp work forced thr sr : Nat} : ∀ p ∈ planRow q sp work forced thr sr, p.1.off = 0x100110 + q * 4 := by
  simp [planRow, F.PLAN_SETPOINT, F.PLAN_WORK, F.PLAN_FORCED, F.PLAN_THROTTLE, F.PLAN_SR_SEGMENTS]

/-- The device with its 16 periods planned and the plan noted. -/
def Dev.planNoted (d : Dev) (sp : Nat) (work forced : Nat → Nat) (thr : Nat) (note : Chan → Chan) : Dev :=
  ((List.range 16).foldl (fun d q => d.setAll (planRow q sp (work q) (forced q) thr d.srSegments.length)) d).onChan note

theorem Dev.keepsPeriod_planNoted (d : Dev) (sp : Nat) (work forced : Nat → Nat) (thr : Nat) {note : Chan → Chan}
    (h : ∀ c, (note c).period = c.period) : d.keepsPeriod (d.planNoted sp work forced thr note) :=
  (Dev.keeps_foldl _ (fun e _ _ => e.keepsPeriod_planRow planRow_off) d).trans (Dev.keeps_onChan _ (h _))

/-- A plan made for a mode and a budget: the periods' registers and the Chandler's note of it. Its flags and its raise change
neither the note nor registers apart from theirs. -/
theorem Dev.makePlan_notes {α : Type} {v : Chan → α} {l : List Fld} {d : Dev} (k : Clock) (mode budget : Nat)
    (hcal : d.flag F.CHANDLER_STATUS_CALIBRATED = true)
    (hl : ∀ f ∈ l, (f.still = true ∧ f.key ≠ F.CHANDLER_FLAGS_FLAGS.key) ∧
      f.key ≠ F.CHANDLER_STATUS_SETPOINT.key ∧ f.key ≠ F.CHANDLER_STATUS_MOVING.key)
    (hv : ∀ (c : Chan) (w : Option AvsWrite) (m n : Nat), v { c with avs := w, moved := m } = v c ∧ v { c with flags := n } = v c) :
    ∃ work forced thr note, (d.planNoted (d.setpointIn mode d.forecastColumn) work forced thr note).keeps v l (d.makePlan k mode budget) ∧
      ∀ c, (note c).period = c.period ∧ (note c).rebuild = false ∧ (note c).planMode = mode ∧ (note c).planBudget = budget := by
  have hflag := fun (e : Dev) (n : Nat) (hn : n < 12) => e.keeps_chFlag (v := v) k hn (fun f hf => (hl f hf).1)
    fun c => (hv c none 0 _).2
  have hraise := fun (e : Dev) (mv : Nat) => e.keeps_raiseTo (v := v) mv (fun f hf => (hl f hf).2) fun c w m => (hv c w m 0).1
  unfold Dev.makePlan
  rw [if_neg (by simp [hcal])]
  extract_lets col sp m now floor0 eff0 energy slices placed here forced floor eff thr d1 d2 d3 d4
  have h3 : d2.keeps v l d3 := Dev.keeps_ite (hflag d2 8 (by decide)) d2.keeps_refl
  have h4 : d3.keeps v l d4 := Dev.keeps_ite (hflag d3 3 (by decide)) d3.keeps_refl
  exact ⟨_, _, _, _, (h3.trans h4).trans (hraise d4 sp), fun c => ⟨rfl, rfl, rfl, rfl⟩⟩

theorem Dev.makePlan_uncalibrated {d : Dev} (k : Clock) (mode budget : Nat) (hcal : d.flag F.CHANDLER_STATUS_CALIBRATED = false) :
    d.makePlan k mode budget = d := if_pos (by simp [hcal])

theorem Dev.keepsPeriod_makePlan (d : Dev) (k : Clock) (mode budget : Nat) : d.keepsPeriod (d.makePlan k mode budget) := by
  cases hcal : d.flag F.CHANDLER_STATUS_CALIBRATED with
  | false =>
    rw [Dev.makePlan_uncalibrated k mode budget hcal]
    exact d.keeps_refl
  | true =>
    obtain ⟨work, forced, thr, note, hkeeps, hnote⟩ := Dev.makePlan_notes (v := Chan.period) (l := periodFields) k mode budget hcal
      (by decide) fun _ _ _ _ => ⟨rfl, rfl⟩
    exact (d.keepsPeriod_planNoted _ work forced thr fun c => (hnote c).1).trans hkeeps

end Sys2Proof.Machine
end

section
/-! Proofs: the tally period boundary (R78, R79, R90, R104). -/

namespace Sys2Proof.Machine
open Sys2Proof

/-! The period in progress ends. -/

theorem Dev.keeps.begun {a b : Dev} (h : a.keepsPeriod b) : b.chan.begun = a.chan.begun := congrArg (fun p => p.2.1) h.chan

theorem Dev.keeps.records {a b : Dev} (h : a.keepsPeriod b) : b.chan.records = a.chan.records :=
  congrArg (fun p => p.2.2.2.2.2) h.chan

theorem Dev.keepsPeriod_takeCounts (d : Dev) : d.keepsPeriod d.takeCounts.2 := Dev.keeps_of_eq rfl rfl

theorem Dev.integrate_fld (d : Dev) (k : Clock) : (d.integrate k).fld = d.fld := by
  unfold Dev.integrate
  split <;> rfl

/-- A report of the period that d is in, by what a reader finds it by. -/
def EnergyRec.reports (r : EnergyRec) (d : Dev) : Prop :=
  r.period = d.chan.begun - 1 ∧ r.startNs = d.chan.start.2 ∧ r.mode = d.chan.mode ∧ r.setpoint = d.get F.CHANDLER_STATUS_SETPOINT ∧
    r.gain = d.get F.CH_GAIN

theorem Dev.periodRecord_reports {a b : Dev} (hchan : b.chan.period = a.chan.period) (hfld : b.fld = a.fld) (k : Clock) (m : Model)
    (energy : Nat) (short ok high : Bool) : (b.periodRecord k m energy short ok high).reports a := by
  simp only [Chan.period, Prod.mk.injEq] at hchan
  obtain ⟨-, hbegun, hstart, hmode, -, -⟩ := hchan
  exact ⟨congrArg (· - 1) hbegun, congrArg Prod.snd hstart, hmode, Dev.get_congr hfld _, Dev.get_congr hfld _⟩

/-- b is a with its period ended: the number and what the registers ask of the next one are kept, and a period in progress is
reported. -/
def Dev.periodEnded (a b : Dev) : Prop :=
  b.chan.begun = a.chan.begun ∧ (∀ f ∈ periodFields, b.get f = a.get f) ∧
    (a.chan.inPeriod = true → ∃ r, b.chan.records = r :: a.chan.records.take 255 ∧ r.reports a)

theorem Dev.endPeriod_ended (d : Dev) (k : Clock) (ok : Bool) : d.periodEnded (d.endPeriod k false ok) := by
  unfold Dev.endPeriod
  extract_lets d0
  have htake : d.keepsPeriod d0.takeCounts.2 := (d.keepsPeriod_integrate k).trans d0.keepsPeriod_takeCounts
  have hfld : d0.takeCounts.2.fld = d.fld := d.integrate_fld k
  split
  rename_i n d1 hcounts
  rw [hcounts] at htake hfld
  split
  · rename_i hno
    exact ⟨htake.begun, htake.get, fun h => by simp [h] at hno⟩
  · extract_lets len m energy high r total d2 d3 d4 cal d5
    have h2 : d1.keepsPeriod d2 := d1.keeps_setAll (by simp only [List.forall_mem_cons]; decide)
    have h3 : d2.keepsPeriod d3 := Dev.keeps_ite
      ((d2.keeps_set _ (by decide)).trans (Dev.keeps_set (g := F.CH_ENERGY_TOTAL_HI) _ _ (by decide)))
      (d2.keepsPeriod_chFlag k (by decide))
    have h4 : d3.keepsPeriod d4 := (Dev.keeps_ite (d3.keepsPeriod_chFlag k (by decide)) d3.keeps_refl).trans
      (Dev.keepsPeriod_correct _ k m len)
    have hend : d.keepsPeriod d4 := ((htake.trans h2).trans h3).trans h4
    rw [if_neg Bool.false_ne_true]
    exact ⟨hend.begun, hend.get, fun _ => ⟨r, congrArg (fun l : List EnergyRec => r :: l.take 255) hend.records,
      Dev.periodRecord_reports htake.chan hfld k m energy false ok high⟩⟩

/-! The next period begins. -/

/-- MODE_APPLIED and the period's number are shown. -/
def Dev.periodShown (d : Dev) (mode number : Nat) : Dev :=
  (d.set F.CHANDLER_STATUS_MODE_APPLIED mode).set64 F.CH_PERIOD_LO F.CH_PERIOD_HI number

theorem Dev.get_periodShown (d : Dev) (mode number : Nat) :
    (d.periodShown mode number).get F.CHANDLER_STATUS_MODE_APPLIED = mode % 2 ^ 2 ∧
      (d.periodShown mode number).get F.CH_PERIOD_LO = number % 2 ^ 32 := by
  rw [Dev.periodShown, Dev.set64_eq, Dev.get_set_of_ne _ _ (by decide), Dev.get_set_of_ne _ _ (by decide), Dev.get_set_self,
    Dev.get_set_of_ne _ _ (by decide), Dev.get_set_self]
  exact ⟨rfl, rfl⟩

theorem Dev.periodShown_chan (d : Dev) (mode number : Nat) : (d.periodShown mode number).chan = d.chan := rfl

/-- b is a in the next period: it has the next number, takes the mode and the budget then applied, and shows its number and its
mode (R78, R90). -/
def Dev.periodBegun (k : Clock) (a b : Dev) : Prop :=
  b.chan.period = (true, a.chan.begun + 1, (k.sec % 2 ^ 32, k.ns), a.get F.CHANDLER_CTRL_MODE, a.get F.ENERGY_BUDGET_BUDGET, a.chan.records) ∧
    b.get F.CHANDLER_STATUS_MODE_APPLIED = a.get F.CHANDLER_CTRL_MODE ∧ b.get F.CH_PERIOD_LO = a.chan.begun % 2 ^ 32

theorem Dev.beginPeriod_begun (d : Dev) (k : Clock) : Dev.periodBegun k d (d.beginPeriod k) := by
  unfold Dev.beginPeriod
  extract_lets d0 mode budget number planned changed d1 d2 sp d3 level was d4 d5 d6 d7
  have h0 : d.keepsPeriod d0 := d.keepsPeriod_darkenPlanned k
  have hmode : mode = d.get F.CHANDLER_CTRL_MODE := h0.get _ (by simp [periodFields])
  have hbudget : budget = d.get F.ENERGY_BUDGET_BUDGET := h0.get _ (by simp [periodFields])
  have hnumber : number = d.chan.begun := h0.begun
  have hseg := d0.keeps_segmentBoundary (v := Chan.period) periodFields_low k d0.chan.srMask periodFields_quiet periodFields_gen
  have hrecords : d1.chan.records = d.chan.records :=
    (congrArg Chan.records (Dev.periodShown_chan _ mode number)).trans (h0.trans hseg).records
  have hchan : d2.chan.period = (true, number + 1, (k.sec % 2 ^ 32, k.ns), mode, budget, d1.chan.records) := rfl
  obtain ⟨hmoded, hlo⟩ := (d0.segmentBoundary k d0.chan.srMask).get_periodShown mode number
  have happlied : d1.get F.CHANDLER_STATUS_MODE_APPLIED = mode := hmoded.trans (Nat.mod_eq_of_lt (d0.get_lt F.CHANDLER_CTRL_MODE))
  have hfld : d2.fld = d1.fld := rfl
  -- from here on the period is named, and the rest keeps it
  have h3 : d2.keepsPeriod d3 := Dev.keeps_ite (d2.keepsPeriod_avsSend sp) d2.keeps_refl
  have h4 : d3.keepsPeriod d4 := d3.keeps_set level (by decide)
  have h5 : d4.keepsPeriod d5 := Dev.keeps_ite (d4.keepsPeriod_chFlag k (by decide)) d4.keeps_refl
  have h6 : d5.keepsPeriod d6 := Dev.keeps_ite (d5.keepsPeriod_chFlag k (by decide)) d5.keeps_refl
  have h7 : d6.keepsPeriod d7 := d6.keepsPeriod_dueNow number
  have hrest : d2.keepsPeriod (if changed then d7.onChan (fun c => { c with rebuild := true }) else d7.makePlan k mode budget) :=
    ((((h3.trans h4).trans h5).trans h6).trans h7).trans
      (Dev.keeps_ite (d7.keepsPeriod_rebuild true) (d7.keepsPeriod_makePlan k mode budget))
  rw [Dev.periodBegun, ← hmode, ← hbudget, ← hnumber, ← hrecords]
  refine ⟨hrest.chan.trans hchan, (hrest.get _ (by simp [periodFields])).trans ?_, (hrest.get _ (by simp [periodFields])).trans ?_⟩
  · exact (Dev.get_congr hfld _).trans happlied
  · exact (Dev.get_congr hfld _).trans hlo

/-! TALLY_PERIOD_BOUNDARY. -/

/-- A boundary does not come twice in a tick. -/
theorem tallyBoundary_again {d : Dev} {k : Clock} (ok : Bool) (h : d.chan.lastTick = some k.tick) : tallyBoundary ok k d = d :=
  if_pos (by simp [h])

theorem tallyBoundary_eq {d : Dev} {k : Clock} (ok : Bool) (hms : k.atMs = true) (htick : d.chan.lastTick ≠ some k.tick)
    (hchan : d.isHeld 37 = false) (htime : d.isHeld 38 = false) : tallyBoundary ok k d =
      ((d.endPeriod k false ok).beginPeriod k).onChan fun c => { c with lastTick := some k.tick } :=
  if_neg (by simp [hms, htick, hchan, htime])

/-- A boundary, as far as the statement about it looks. -/
theorem tallyBoundary_begins {d : Dev} {k : Clock} (ok : Bool) (hms : k.atMs = true) (htick : d.chan.lastTick ≠ some k.tick)
    (hchan : d.isHeld 37 = false) (htime : d.isHeld 38 = false) : let b := tallyBoundary ok k d
    b.chan.inPeriod = true ∧ b.chan.begun = d.chan.begun + 1 ∧ b.chan.lastTick = some k.tick ∧
      b.chan.start = (k.sec % 2 ^ 32, k.ns) ∧ b.chan.mode = d.get F.CHANDLER_CTRL_MODE ∧ b.chan.budget = d.get F.ENERGY_BUDGET_BUDGET ∧
      b.get F.CHANDLER_STATUS_MODE_APPLIED = d.get F.CHANDLER_CTRL_MODE ∧ b.get F.CH_PERIOD_LO = d.chan.begun % 2 ^ 32 ∧
      (d.chan.inPeriod = true → ∃ r, b.chan.records = r :: d.chan.records.take 255 ∧ r.reports d) := by
  dsimp only
  rw [tallyBoundary_eq ok hms htick hchan htime]
  have hend := d.endPeriod_ended k ok
  have hbegin := (d.endPeriod k false ok).beginPeriod_begun k
  generalize d.endPeriod k false ok = e at hend hbegin ⊢
  generalize e.beginPeriod k = b at hbegin ⊢
  obtain ⟨hbegun, hget, hreported⟩ := hend
  obtain ⟨hperiod, hmode, hnumber⟩ := hbegin
  simp only [Chan.period, Prod.mk.injEq] at hperiod
  obtain ⟨hin, hnext, hstart, htaken, hbudget, hrecords⟩ := hperiod
  have hasked := hget F.CHANDLER_CTRL_MODE (by simp [periodFields])
  refine ⟨hin, hnext.trans (by rw [hbegun]), rfl, hstart, htaken.trans hasked, hbudget.trans (hget _ (by simp [periodFields])),
    hmode.trans hasked, hnumber.trans (by rw [hbegun]), fun h => ?_⟩
  obtain ⟨r, hr, hreports⟩ := hreported h
  exact ⟨r, hrecords.trans hr, hreports⟩

end Sys2Proof.Machine
end

section
/-! Proofs: PLAN_REBUILD (R91, R94). -/

namespace Sys2Proof.Machine
open Sys2Proof

theorem Dev.setpointIn_le (d : Dev) (mode column : Nat) : d.setpointIn mode column ≤ 800 := Nat.min_le_left _ _

theorem planRow_nodup (q sp work forced thr sr : Nat) : ((planRow q sp work forced thr sr).map fun p => p.1.key).Nodup := by
  simp [planRow, Fld.key, F.PLAN_SETPOINT, F.PLAN_WORK, F.PLAN_FORCED, F.PLAN_THROTTLE, F.PLAN_SR_SEGMENTS]

/-- A planned period's setpoint is the one planned for it, whatever is planned for others. -/
theorem Dev.planRows_setpoint (d : Dev) (sp : Nat) (work forced : Nat → Nat) (thr : Nat) {n q : Nat} (hq : q < n) :
    ((List.range n).foldl (fun d q => d.setAll (planRow q sp (work q) (forced q) thr d.srSegments.length)) d).get (F.PLAN_SETPOINT q) =
      sp % 2 ^ 10 := by
  induction n with
  | zero => omega
  | succ n ih =>
    rw [List.range_succ, List.foldl_append, List.foldl_cons, List.foldl_nil]
    generalize (List.range n).foldl (fun d q => d.setAll (planRow q sp (work q) (forced q) thr d.srSegments.length)) d = e at ih ⊢
    rcases Nat.lt_succ_iff_lt_or_eq.mp hq with hlt | rfl
    · refine (Dev.get_setAll_of_ne e fun p hp => ?_).trans (ih hlt)
      have hoff := planRow_off p hp
      simp only [Fld.key, F.PLAN_SETPOINT, hoff]
      omega
    · exact (Dev.sets_setAll _ e (planRow_nodup _ _ _ _ _ _)).2.1 (F.PLAN_SETPOINT q, sp) List.mem_cons_self

theorem Dev.planNoted_setpoint (d : Dev) {sp : Nat} (hsp : sp ≤ 800) (work forced : Nat → Nat) (thr : Nat) (note : Chan → Chan) {q : Nat}
    (hq : q < 16) : (d.planNoted sp work forced thr note).get (F.PLAN_SETPOINT q) = sp :=
  (d.planRows_setpoint sp work forced thr hq).trans (Nat.mod_eq_of_lt (by omega))

/-- A plan made anew is noted with its mode and budget, and plans the setpoint that they ask for. -/
theorem Dev.makePlan_plans {d : Dev} (k : Clock) (mode budget : Nat) (hcal : d.flag F.CHANDLER_STATUS_CALIBRATED = true) :
    let b := d.makePlan k mode budget
    b.chan.rebuild = false ∧ b.chan.planMode = mode ∧ b.chan.planBudget = budget ∧
      ∀ q < 16, b.get (F.PLAN_SETPOINT q) = d.setpointIn mode d.forecastColumn := by
  obtain ⟨work, forced, thr, note, hkeeps, hnote⟩ := Dev.makePlan_notes (v := fun c => (c.rebuild, c.planMode, c.planBudget))
    (l := (List.range 16).map F.PLAN_SETPOINT) k mode budget hcal (by decide) fun _ _ _ _ => ⟨rfl, rfl⟩
  have hnoted := hkeeps.chan
  obtain ⟨c, hc⟩ : ∃ c, (d.planNoted (d.setpointIn mode d.forecastColumn) work forced thr note).chan = note c := ⟨_, rfl⟩
  obtain ⟨-, hrebuild, hmode, hbudget⟩ := hnote c
  simp only [hc, hrebuild, hmode, hbudget, Prod.mk.injEq] at hnoted
  obtain ⟨hrebuild', hmode', hbudget'⟩ := hnoted
  refine ⟨hrebuild', hmode', hbudget', fun q hq => ?_⟩
  exact (hkeeps.get _ (List.mem_map_of_mem (List.mem_range.mpr hq))).trans
    (d.planNoted_setpoint (d.setpointIn_le mode _) work forced thr note hq)

theorem planRebuild_eq {d : Dev} (k : Clock) (h : d.chan.rebuild = true) :
    planRebuild k d = d.makePlan k d.chan.mode d.chan.budget := if_pos h

theorem planRebuild_idle {d : Dev} (k : Clock) (h : d.chan.rebuild = false) : planRebuild k d = d := if_neg (by simp [h])

end Sys2Proof.Machine
end

section
/-! Proofs: the slices of the maintenance works (R95, R96, R205, R222, R393, R513, R529). -/

namespace Sys2Proof.Machine
open Sys2Proof

/-! A slice that runs. -/

theorem Dev.sliceRan_ran (d : Dev) (w : Nat) (before : Tab Nat) : (d.sliceRan w before).chan.ran = d.chan.ran ||| 2 ^ w := rfl

@[simp] theorem Dev.sliceRan_sconce (d : Dev) (w : Nat) (before : Tab Nat) : (d.sliceRan w before).sconce = d.sconce := rfl
@[simp] theorem Dev.sliceRan_arch (d : Dev) (w : Nat) (before : Tab Nat) : (d.sliceRan w before).arch = d.arch := rfl

/-- A slice that ran shows in FORCED_LAST of its work alone. -/
theorem Dev.get_sliceRan (d : Dev) {w : Nat} (hw : w < 5) (before : Tab Nat) {f : Fld} (hf : 0x100164 * 32 ≤ f.key) :
    (d.sliceRan w before).get f = d.get f :=
  Dev.get_set_of_ne (f := F.WORK_DEFER_FORCED_LAST w) d _ (by
    have hkey : (F.WORK_DEFER_FORCED_LAST w).key = (0x100150 + w * 4) * 32 + 31 := rfl
    omega)

/-! Aging and the compare. -/

theorem agingSlice_runs {d : Dev} (k : Clock) (hen : d.flag F.BUSHEL_CTRL_AGE_EN = true) :
    (agingSlice k d).chan.ran = d.chan.ran ||| 2 ^ 0 ∧ (agingSlice k d).tbl = { d.tbl with owed := d.tbl.owed + sliceVisits } := by
  unfold agingSlice
  rw [if_neg (by simp [hen])]
  exact ⟨rfl, rfl⟩

/-- The differences found are new, and both positions move on. -/
theorem compareSlice_runs (host : List (Nat × Nat × Nat)) {m : Mach} (hen : m.dev.flag F.BUSHEL_CTRL_COMPARE_EN = true) :
    ∃ b, compareSlice host m = m.setDev b ∧ b.chan.ran = m.dev.chan.ran ||| 2 ^ 1 ∧
      b.tbl = { m.dev.tbl with diffs := b.tbl.diffs, ternAt := (m.dev.tbl.ternAt + 1) % 8, otherAt := (m.dev.tbl.otherAt + 1) % 256 } ∧
      ∃ new, b.tbl.diffs = m.dev.tbl.diffs ++ new ∧ ∀ x ∈ new, x ∉ m.dev.tbl.diffs := by
  unfold compareSlice
  extract_lets d found new d1 reads
  rw [if_neg (by simp [d, hen])]
  refine ⟨_, rfl, rfl, rfl, new, rfl, fun x hx => ?_⟩
  have hnew := (List.mem_filter.mp hx).2
  simpa using hnew

/-! The scratchpad test. -/

theorem testSlice_lends {d : Dev} (k : Clock) {n : Nat} (htest : d.sconce.test = none) (hn : d.nextTestBank = some n) :
    (testSlice k d).sconce.test = some ⟨n, 0, 0, false⟩ ∧ (testSlice k d).chan = d.chan ∧
      (testSlice k d).get (F.SC_OWNER n) = 4 ∧ (testSlice k d).get (F.SC_LENT_FROM n) = d.get (F.SC_OWNER n) := by
  have hkeys : (F.SC_LENT_FROM n).key ≠ (F.SC_OWNER n).key := by simp [Fld.key, F.SC_LENT_FROM, F.SC_OWNER]
  simp only [testSlice, htest, hn]
  refine ⟨rfl, rfl, Dev.get_set_self _ _ _, ?_⟩
  refine (Dev.get_set_of_ne _ _ hkeys).trans ((Dev.get_set_self _ _ _).trans (Nat.mod_eq_of_lt ?_))
  exact d.get_lt (F.SC_OWNER n)

theorem testRow_runs {d : Dev} (k : Clock) {n : Nat} (htest : d.sconce.test = none) (hn : d.nextTestBank = some n) :
    let b := (testSlice k d).sliceRan 2 d.energy
    b.chan.ran = d.chan.ran ||| 2 ^ 2 ∧ b.sconce.test = some ⟨n, 0, 0, false⟩ ∧ b.get (F.SC_OWNER n) = 4 ∧
      b.get (F.SC_LENT_FROM n) = d.get (F.SC_OWNER n) := by
  obtain ⟨htested, hchan, howner, hlent⟩ := testSlice_lends k htest hn
  have hget := fun (f : Fld) (hf : 0x100164 * 32 ≤ f.key) => (testSlice k d).get_sliceRan (by decide : 2 < 5) d.energy hf
  refine ⟨?_, (Dev.sliceRan_sconce _ _ _).symm ▸ htested, (hget _ ?_).trans howner, (hget _ ?_).trans hlent⟩
  · rw [Dev.sliceRan_ran, hchan]
  all_goals
    simp only [Fld.key, F.SC_OWNER, F.SC_LENT_FROM]
    omega

/-! The archive. -/

/-- Before a generation's first slice it holds nothing. -/
theorem Dev.archNow_new {d : Dev} (k : Clock) (h : ∀ g ∈ d.arch, g.number = d.archGen → g.complete = true) :
    d.archNow k = ⟨d.archGen, (k.sec, k.ns), (0, 0), false, 0, []⟩ := by
  have hnone : d.arch.find? (fun g => g.number == d.archGen && !g.complete) = none := by
    refine List.find?_eq_none.mpr fun g hg hgen => ?_
    simp only [Bool.and_eq_true, beq_iff_eq, Bool.not_eq_true'] at hgen
    rw [h g hg hgen.1] at hgen
    cases hgen.2
  rw [Dev.archNow, hnone]
  rfl

theorem archiveSlice_begins {d : Dev} (k : Clock) (hen : d.flag F.PC_ARCHIVE_EN = true) (halloc : d.flag F.HBM_ALLOC_DONE = true)
    (h : ∀ g ∈ d.arch, g.number = d.archGen → g.complete = true) : (archiveSlice k d).chan = d.chan ∧
      ∃ g ∈ (archiveSlice k d).arch, g.number = d.archGen ∧ g.complete = false ∧ g.slices = 1 ∧ g.recs = trange d.ctrs 0 131072 := by
  simp only [archiveSlice, hen, halloc, d.archNow_new k h]
  exact ⟨rfl, _, List.mem_append_right _ (List.mem_singleton_self _), rfl, rfl, rfl, rfl⟩

theorem archiveRow_runs {d : Dev} (k : Clock) (hen : d.flag F.PC_ARCHIVE_EN = true) (halloc : d.flag F.HBM_ALLOC_DONE = true)
    (h : ∀ g ∈ d.arch, g.number = d.archGen → g.complete = true) :
    let b := if d.flag F.PC_ARCHIVE_EN && d.flag F.HBM_ALLOC_DONE then (archiveSlice k d).sliceRan 3 d.energy else d
    b.chan.ran = d.chan.ran ||| 2 ^ 3 ∧
      ∃ g ∈ b.arch, g.number = d.archGen ∧ g.complete = false ∧ g.slices = 1 ∧ g.recs = trange d.ctrs 0 131072 := by
  obtain ⟨hchan, hgen⟩ := archiveSlice_begins k hen halloc h
  dsimp only
  rw [if_pos (by simp [hen, halloc]), Dev.sliceRan_ran, Dev.sliceRan_arch, hchan]
  exact ⟨rfl, hgen⟩

/-! The scrub. -/

/-- The slice after the one at SCRUB_NEXT: after the last slice of the allocated extents, the first. -/
def Dev.scrubAfter (d : Dev) : Nat :=
  if d.get F.HBM_SCRUB_NEXT + 1 < 16 * d.allocated.length then d.get F.HBM_SCRUB_NEXT + 1 else 0

/-- There are at most 96 extents (R380), so SCRUB_NEXT can hold every slice's number. -/
theorem Dev.scrubAfter_lt (d : Dev) : d.scrubAfter < 2 ^ 11 := by
  have hlen : d.allocated.length ≤ 96 := (List.length_filter_le _ _).trans_eq List.length_range
  unfold Dev.scrubAfter
  split
  · omega
  · decide

theorem Dev.slicePassed_keeps (d : Dev) (n s : Nat) :
    (d.slicePassed n s).chan = d.chan ∧ (d.slicePassed n s).hbm.regions = d.hbm.regions := by
  unfold Dev.slicePassed Dev.clrBit
  dsimp only
  split
  · split <;> exact ⟨rfl, rfl⟩
  · exact ⟨rfl, rfl⟩

theorem Dev.allocated_congr {a b : Dev} (h : b.hbm.regions = a.hbm.regions) : b.allocated = a.allocated := by
  simp only [Dev.allocated, h]

theorem Mach.setDev_setDev (m : Mach) (a b : Dev) : (m.setDev a).setDev b = m.setDev b := rfl

/-- A slice without errors leaves the Chandler's state, and SCRUB_NEXT at the next slice. -/
theorem scrubSlice_moves {m : Mach} {e o : Nat} (h : m.dev.scrubAt = some (e, o)) :
    ∃ b, scrubSlice [] [] m = m.setDev b ∧ b.chan = m.dev.chan ∧ b.get F.HBM_SCRUB_NEXT = m.dev.scrubAfter := by
  -- SCRUB_NEXT moves on whatever else the slice did, as long as the extents are the same
  have hmoves : ∀ x : Dev, x.hbm.regions = m.dev.hbm.regions →
      (x.set F.HBM_SCRUB_NEXT (if m.dev.get F.HBM_SCRUB_NEXT + 1 < 16 * x.allocated.length then m.dev.get F.HBM_SCRUB_NEXT + 1
        else 0)).get F.HBM_SCRUB_NEXT = m.dev.scrubAfter := by
    intro x hx
    rw [Dev.allocated_congr hx, Dev.get_set_self]
    exact Nat.mod_eq_of_lt m.dev.scrubAfter_lt
  unfold scrubSlice
  rw [h]
  dsimp only [List.foldl_nil, Mach.setDev_dev]
  generalize hread : m.dev.spend 8 (2 ^ 20) = read
  have hchan : read.chan = m.dev.chan := by rw [← hread, Dev.spend_chan]
  have hregions : read.hbm.regions = m.dev.hbm.regions := by rw [← hread, Dev.spend_hbm]
  obtain ⟨hchan', hregions'⟩ := read.slicePassed_keeps (m.dev.get F.HBM_SCRUB_NEXT) (e / 6)
  split
  · exact ⟨_, rfl, rfl, hmoves m.dev rfl⟩
  · exact ⟨_, Mach.setDev_setDev m read _, hchan'.trans hchan, hmoves _ (hregions'.trans hregions)⟩

theorem scrubRow_runs {m : Mach} (hen : m.dev.flag F.HBM_SCRUB_EN = true) (halloc : m.dev.flag F.HBM_ALLOC_DONE = true)
    (hheld : m.dev.isHeld 35 = false) {e o : Nat} (h : m.dev.scrubAt = some (e, o)) :
    ∃ b, scrubRow [] [] m = m.setDev b ∧ b.chan.ran = m.dev.chan.ran ||| 2 ^ 4 ∧ b.get F.HBM_SCRUB_NEXT = m.dev.scrubAfter := by
  obtain ⟨b, hb, hchan, hnext⟩ := scrubSlice_moves h
  have hrow : scrubRow [] [] m = m.setDev (b.sliceRan 4 m.dev.energy) := by
    unfold scrubRow
    rw [if_neg (by simp [hen, halloc, hheld]), hb]
    rfl
  refine ⟨_, hrow, ?_, (b.get_sliceRan (by decide) _ (by decide)).trans hnext⟩
  rw [Dev.sliceRan_ran, hchan]

end Sys2Proof.Machine
end

section
/-! Proofs: tally periods and maintenance together. -/

namespace Sys2Proof.Machine
open Sys2Proof

/-- Settles O41: the boundary by what the period's end and the next one's beginning leave, the plan by what it notes, and each
slice by what its work does before it counts as run. -/
theorem periodsAndSlices : Obligations.PeriodsAndSlices := by
  unfold Obligations.PeriodsAndSlices
  constructor
  · intro s ok d k hp
    refine ⟨fun hms htick hchan htime => ends_onDev rfl hp (tallyBoundary_begins ok hms htick hchan htime),
      fun h => ends_onDev rfl hp (tallyBoundary_again ok h), fun h hcal => ends_onDev rfl hp ?_,
      fun h => ends_onDev rfl hp (planRebuild_idle _ h)⟩
    rw [planRebuild_eq _ h]
    exact Dev.makePlan_plans _ _ _ hcal
  · intro s host d ran hp
    refine ⟨fun hen => ends_onDev rfl hp (agingSlice_runs _ hen), fun hen => ?_, fun n htest hn => ends_onDev rfl hp ?_,
      fun hen halloc h => ends_onDev rfl hp ?_, fun hen halloc hheld e o h => ?_⟩
    · obtain ⟨b, hb, hran⟩ := compareSlice_runs host hen
      exact ⟨b, (onMach_run _ hp).trans (by rw [hb]), hran⟩
    · exact testRow_runs _ htest hn
    · exact archiveRow_runs _ hen halloc h
    · obtain ⟨b, hb, hran⟩ := scrubRow_runs hen halloc hheld h
      exact ⟨b, (onMach_run _ hp).trans (by rw [hb]), hran⟩

end Sys2Proof.Machine
end

section
/-! Proofs: the registers of a front port (R141). -/

namespace Sys2Proof.Machine
open Sys2Proof

/-- Where a field lies within the page of registers that its front port has (R141). -/
def Fld.place (f : Fld) : Nat := f.key % 0x20000

theorem Fld.key_ne_of_place {f g : Fld} (h : f.place ≠ g.place) : f.key ≠ g.key := fun e => h (congrArg (· % 0x20000) e)

theorem nodup_keys_of_places {l : List (Fld × Nat)} (h : (l.map fun e => e.1.place).Nodup) : (l.map fun e => e.1.key).Nodup := by
  refine List.Nodup.of_map (· % 0x20000) ?_
  rwa [List.map_map]

@[simp] theorem place_portCfg (p : Nat) : (F.PORT_CFG_PORT_TYPE p).place = 0 ∧ (F.PORT_CFG_LANES p).place = 4 ∧
    (F.PORT_CFG_FEC p).place = 6 ∧ (F.PORT_CFG_TRAIN_EN p).place = 9 ∧ (F.PTP_RX_TS_ADJ p).place = 0x2080 ∧
    (F.PTP_TX_TS_ADJ p).place = 0x2100 := by
  simp only [Fld.place, Fld.key, F.PORT_CFG_PORT_TYPE, F.PORT_CFG_LANES, F.PORT_CFG_FEC, F.PORT_CFG_TRAIN_EN, F.PTP_RX_TS_ADJ,
    F.PTP_TX_TS_ADJ]
  omega

@[simp] theorem place_portStatus (p : Nat) : (F.PORT_STATUS_STATE p).place = 0x400 ∧ (F.PORT_STATUS_LOCAL_FAULT p).place = 0x403 ∧
    (F.PORT_STATUS_REMOTE_FAULT p).place = 0x404 ∧ (F.PORT_STATUS_HELD p).place = 0x405 ∧
    (F.PORT_STATUS_WD_RECOVERY p).place = 0x40D := by
  simp only [Fld.place, Fld.key, F.PORT_STATUS_STATE, F.PORT_STATUS_LOCAL_FAULT, F.PORT_STATUS_REMOTE_FAULT, F.PORT_STATUS_HELD,
    F.PORT_STATUS_WD_RECOVERY]
  omega

@[simp] theorem place_macSticky (p : Nat) : (F.MAC_STICKY_FCS_ERR_SEEN p).place = 0x483 ∧
    (F.MAC_STICKY_LINK_DOWN_SEEN p).place = 0x486 ∧ (F.MAC_STICKY_PAUSE_WD_FIRED p).place = 0x487 ∧
    (F.MAC_STICKY_WAKE_SEEN p).place = 0x48A ∧ (F.MAC_STICKY_TRAIN_FAIL p).place = 0x48B := by
  simp only [Fld.place, Fld.key, F.MAC_STICKY_FCS_ERR_SEEN, F.MAC_STICKY_LINK_DOWN_SEEN, F.MAC_STICKY_PAUSE_WD_FIRED,
    F.MAC_STICKY_WAKE_SEEN, F.MAC_STICKY_TRAIN_FAIL]
  omega

theorem ofLantern_portCfg {p : Nat} (hp : p < 512) : (F.PORT_CFG_PORT_TYPE p).ofLantern = true ∧
    (F.PORT_CFG_LANES p).ofLantern = true ∧ (F.PORT_CFG_TRAIN_EN p).ofLantern = true := by
  simp only [Fld.ofLantern_iff, F.PORT_CFG_PORT_TYPE, F.PORT_CFG_LANES, F.PORT_CFG_TRAIN_EN]
  omega

theorem ofLantern_portStatus {p : Nat} (hp : p < 512) : (F.PORT_STATUS_STATE p).ofLantern = true ∧
    (F.PORT_STATUS_LOCAL_FAULT p).ofLantern = true ∧ (F.PORT_STATUS_REMOTE_FAULT p).ofLantern = true ∧
    (F.PORT_STATUS_HELD p).ofLantern = true ∧ (F.PORT_STATUS_WD_RECOVERY p).ofLantern = true := by
  simp only [Fld.ofLantern_iff, F.PORT_STATUS_STATE, F.PORT_STATUS_LOCAL_FAULT, F.PORT_STATUS_REMOTE_FAULT, F.PORT_STATUS_HELD,
    F.PORT_STATUS_WD_RECOVERY]
  omega

theorem ofLantern_macSticky {p : Nat} (hp : p < 512) : (F.MAC_STICKY_LINK_DOWN_SEEN p).ofLantern = true ∧
    (F.MAC_STICKY_PAUSE_WD_FIRED p).ofLantern = true ∧ (F.MAC_STICKY_WAKE_SEEN p).ofLantern = true ∧
    (F.MAC_STICKY_TRAIN_FAIL p).ofLantern = true := by
  simp only [Fld.ofLantern_iff, F.MAC_STICKY_LINK_DOWN_SEEN, F.MAC_STICKY_PAUSE_WD_FIRED, F.MAC_STICKY_WAKE_SEEN,
    F.MAC_STICKY_TRAIN_FAIL]
  omega

end Sys2Proof.Machine
end

section
/-! Proofs: what leaves the front ports as they are. -/

namespace Sys2Proof.Machine
open Sys2Proof

theorem Fld.ofLantern.quiet {f : Fld} (h : f.ofLantern = true) : f.quiet = true := by
  obtain ⟨-, hmin, -⟩ := f.ofLantern_iff.mp h
  have hcq : ¬ f.off < 0x408800 := by omega
  simp [Fld.quiet, Fld.ofLantern.still h, hcq]

/-- b shows of the front ports what a shows: their state beside the registers, their lanes, and the lanterns' registers. -/
structure Dev.portsKept (a b : Dev) : Prop where
  ports : b.ports = a.ports
  lanes : b.lanes = a.lanes
  get   : ∀ f : Fld, f.ofLantern = true → b.get f = a.get f

theorem Dev.portsKept_refl (a : Dev) : a.portsKept a := ⟨rfl, rfl, fun _ _ => rfl⟩

theorem Dev.portsKept.trans {a b c : Dev} (h : a.portsKept b) (g : b.portsKept c) : a.portsKept c :=
  ⟨g.ports.trans h.ports, g.lanes.trans h.lanes, fun f hf => (g.get f hf).trans (h.get f hf)⟩

theorem Dev.portsKept_foldl {β : Type} {g : Dev → β → Dev} (xs : List β) (h : ∀ d, ∀ x ∈ xs, Dev.portsKept d (g d x))
    (d : Dev) : d.portsKept (xs.foldl g d) :=
  List.foldlRecOn (motive := fun b => d.portsKept b) xs g d.portsKept_refl fun b hb x hx => hb.trans (h b x hx)

theorem Dev.alike.portsKept {a b : Dev} (h : a.alike b) : a.portsKept b :=
  ⟨h.ports_eq, h.lanes_eq, fun f hf => h.get_eq f (Fld.ofLantern.still hf)⟩

theorem Dev.repliesTo.portsKept {a b : Dev} (h : a.repliesTo b) : a.portsKept b :=
  ⟨(congrArg Dev.ports h.1).trans rfl, (congrArg Dev.lanes h.1).trans rfl, fun f hf => h.2 f (Fld.ofLantern.quiet hf)⟩

@[simp] theorem Dev.get_setPort (d : Dev) (p : Nat) (x : Port) (f : Fld) : (d.setPort p x).get f = d.get f := rfl
@[simp] theorem Dev.get_planDark (d : Dev) (ls : List Nat) (f : Fld) : (d.planDark ls).get f = d.get f := rfl

/-- A write of a register that is no lantern's. -/
theorem Dev.portsKept_set (d : Dev) {g : Fld} (v : Nat) (hlo : g.lo < 32) (hg : g.ofLantern = false) : d.portsKept (d.set g v) := by
  refine ⟨rfl, rfl, fun f hf => Dev.get_set_of_ne d v fun hkey => ?_⟩
  obtain ⟨hflo, hmin, hmax⟩ := f.ofLantern_iff.mp hf
  have hoff : f.off = g.off := by simp only [Fld.key] at hkey; omega
  have hgl : g.ofLantern = true := g.ofLantern_iff.mpr ⟨hlo, hoff ▸ hmin, hoff ▸ hmax⟩
  rw [hg] at hgl
  cases hgl

theorem Dev.portsKept_portEvent (d : Dev) (k : Clock) {p n : Nat} (hp : p < 512) (hn : n < 16) : d.portsKept (d.portEvent k p n) :=
  (d.alike_event k _ _ (by omega)).portsKept

theorem Dev.portsKept_bumpGen (d : Dev) : d.portsKept d.bumpGen := by
  have hgen : d.portsKept (d.inc F.GL_CONFIG_GEN) := d.portsKept_set _ (by decide) (by decide)
  unfold Dev.bumpGen
  dsimp only
  split
  · exact hgen.trans (Dev.portsKept_set _ (g := F.GL_FP_ABANDONED) _ (by decide) (by decide))
  · exact hgen

theorem Dev.portsKept_finish (d : Dev) (k : Clock) (w : Wait) (rep : Rep) : d.portsKept (d.finish k w rep) := by
  have hsmi := (d.repliesTo_smi { d.smi with waits := d.smi.waits.erase w }).portsKept
  unfold Dev.finish
  dsimp only
  split
  · exact hsmi
  · exact hsmi.trans (Dev.repliesTo_complete _ _ _ _ _ _ _).portsKept

theorem Dev.portsKept_finishAll (d : Dev) (k : Clock) (sel : WaitKind → Bool) (rep : Rep) : d.portsKept (d.finishAll k sel rep) :=
  Dev.portsKept_foldl _ (fun e w _ => e.portsKept_finish k w rep) d

/-! A light-up's raise of VDD_CORE (R44). -/

theorem Dev.portsKept_planAtLeast (d : Dev) (mv : Nat) : d.portsKept (d.planAtLeast mv) :=
  Dev.portsKept_foldl _ (fun e i hi => by
    have hi16 := List.mem_range.mp hi
    have hlow : ¬ 0x800000 ≤ 0x100110 + i * 4 := by omega
    split
    · exact e.portsKept_set mv (by simp [F.PLAN_SETPOINT]) (by simp [Fld.ofLantern, F.PLAN_SETPOINT, hlow])
    · exact e.portsKept_refl) d

theorem Dev.portsKept_raiseTo (d : Dev) (mv : Nat) : d.portsKept (d.raiseTo mv) := by
  have hshown := (d.portsKept_set (g := F.CHANDLER_STATUS_SETPOINT) mv (by decide) (by decide)).trans
    (Dev.portsKept_set _ (g := F.CHANDLER_STATUS_MOVING) 1 (by decide) (by decide))
  unfold Dev.raiseTo
  split
  · exact ⟨rfl, rfl, hshown.get⟩
  · exact d.portsKept_refl

/-- A light-up that waits for a raise says so in its port; nothing else of the ports changes. -/
theorem Dev.lightVolt_spec (d : Dev) (p : Nat) (byConfig : Bool) :
    ((d.lightVolt p byConfig).port p).fromRest = (d.port p).fromRest ∧
      ∀ f : Fld, f.ofLantern = true → (d.lightVolt p byConfig).get f = d.get f := by
  unfold Dev.lightVolt
  split
  · exact ⟨rfl, fun _ _ => rfl⟩
  · dsimp only
    generalize d.setpointIn d.chan.mode d.forecastColumn = need
    have hraised := (d.portsKept_planAtLeast need).trans (Dev.portsKept_raiseTo _ need)
    have hport := Dev.port_congr hraised.ports p
    split
    · exact ⟨by rw [Dev.port_setPort_self, hport], hraised.get⟩
    · exact ⟨by rw [hport], hraised.get⟩

/-- A port that begins to light: it is LIGHTING, its other registers keep their values. -/
theorem Dev.beginLight_spec (d : Dev) {p : Nat} (hp : p < 512) (fromRest byConfig : Bool) :
    (d.beginLight p fromRest byConfig).get (F.PORT_STATUS_STATE p) = stLighting ∧
      ((d.beginLight p fromRest byConfig).port p).fromRest = fromRest ∧
      ∀ f : Fld, f.ofLantern = true → f.key ≠ (F.PORT_STATUS_STATE p).key → (d.beginLight p fromRest byConfig).get f = d.get f := by
  unfold Dev.beginLight
  extract_lets d1
  obtain ⟨hport, hget⟩ := Dev.lightVolt_spec ((d1.setPort p { d1.port p with fromRest := fromRest, waitVolt := false }).set
    (F.PORT_STATUS_STATE p) stLighting) p byConfig
  refine ⟨(hget _ (ofLantern_portStatus hp).1).trans (Dev.get_set_self _ _ _), hport.trans ?_, fun f hf hne => (hget f hf).trans ?_⟩
  · rw [Dev.port_congr (Dev.set_ports _ _ _), Dev.port_setPort_self]
  · exact Dev.get_set_of_ne _ _ hne

end Sys2Proof.Machine
end

section
/-! Proofs: lanes (R132, R563). -/

namespace Sys2Proof.Machine
open Sys2Proof

/-- A lane nothing has written. -/
abbrev Lane.dark : Lane := ⟨false, [0, -8, 56, 0]⟩

theorem Dev.laneLit_eq (d : Dev) (n : Nat) : d.laneLit n = (tgetD d.lanes n Lane.dark).lit := by
  unfold Dev.laneLit tgetD
  cases tget? d.lanes n <;> rfl

theorem Dev.laneLit_congr {a b : Dev} (h : b.lanes = a.lanes) (n : Nat) : b.laneLit n = a.laneLit n := by simp only [Dev.laneLit, h]

theorem Dev.laneLit_setLane (d : Dev) (n i : Nat) (on : Bool) : (d.setLane n on).laneLit i = if i = n then on else d.laneLit i := by
  rw [Dev.laneLit_eq, Dev.laneLit_eq]
  split
  · subst i
    exact congrArg Lane.lit (tgetD_tput_self _ _ _ _)
  · exact congrArg Lane.lit (tgetD_tput_of_ne _ _ _ _ ‹_›)

theorem Dev.laneLit_setLanes (d : Dev) (ls : List Nat) (on : Bool) (i : Nat) :
    (d.setLanes ls on).laneLit i = if i ∈ ls then on else d.laneLit i := by
  induction ls generalizing d with
  | nil => simp [Dev.setLanes]
  | cons n ls ih =>
    rw [Dev.setLanes, List.foldl_cons, ← Dev.setLanes, ih, Dev.laneLit_setLane]
    by_cases hls : i ∈ ls <;> simp [hls]

/-- Lighting and darkening lanes changes neither ports, nor registers, nor the Chandler's state. -/
theorem Dev.setLanes_keeps (d : Dev) (ls : List Nat) (on : Bool) :
    (d.setLanes ls on).ports = d.ports ∧ (d.setLanes ls on).fld = d.fld ∧ (d.setLanes ls on).chan = d.chan :=
  List.foldlRecOn (motive := fun b : Dev => b.ports = d.ports ∧ b.fld = d.fld ∧ b.chan = d.chan) ls (fun d n => d.setLane n on)
    ⟨rfl, rfl, rfl⟩ fun _ hb _ _ => hb

theorem Dev.mem_lanesOf (d : Dev) (p i : Nat) (h : i < d.portLanes p) : p + i ∈ d.lanesOf p :=
  List.mem_map_of_mem (List.mem_range.mpr h)

/-- The account of the lanes' times leaves ports and planned darkenings as they are. -/
theorem Dev.integrate_keeps (d : Dev) (k : Clock) : (d.integrate k).ports = d.ports ∧ (d.integrate k).chan.darken = d.chan.darken := by
  unfold Dev.integrate
  split <;> exact ⟨rfl, rfl⟩

/-- The darkening planned is of the lanes named that are lit, beside those planned before. -/
theorem Dev.mem_planDark (d : Dev) (ls : List Nat) (n : Nat) :
    n ∈ (d.planDark ls).chan.darken ↔ n ∈ d.chan.darken ∨ (n ∈ ls ∧ d.laneLit n = true) := by
  simp only [Dev.planDark, Dev.onChan, List.mem_append, List.mem_filter, Bool.and_eq_true, Bool.not_eq_true', List.contains_eq_mem,
    decide_eq_false_iff_not]
  tauto

end Sys2Proof.Machine
end

section
/-! Proofs: a port leaves its state (R117, R131). -/

namespace Sys2Proof.Machine
open Sys2Proof

/-- The reception in progress at a port that leaves UP ends with RX_FCS_ERR (R117). -/
def Dev.rxBroken (d : Dev) (k : Clock) (p : Nat) : Dev :=
  match (d.port p).rx with
  | none => d
  | some fid => match d.frame? fid with
    | none => d
    | some f => d.endReception k fid f f.bytes.length f.bytes .fcs

/-- What a port's registers say when it has left UP for a state (R117). -/
def leftUp (p st : Nat) : List (Fld × Nat) := [(F.PORT_STATUS_HELD p, 0), (F.PORT_STATUS_STATE p, st), (F.MAC_STICKY_LINK_DOWN_SEEN p, 1)]

theorem leftUp_nodup (p st : Nat) : ((leftUp p st).map fun e => e.1.key).Nodup := nodup_keys_of_places (by simp [leftUp])

theorem Dev.leaveTo_of_up {d : Dev} {p : Nat} (k : Clock) (st : Nat) (h : d.get (F.PORT_STATUS_STATE p) = stUp) :
    d.leaveTo k p st = (((d.rxBroken k p).setAll (leftUp p st)).setPort p
      { (d.rxBroken k p).port p with signal := 0, fromRest := false }).portEvent k p 0 :=
  if_neg (by simp [h])

theorem Dev.leaveTo_of_not_up {d : Dev} {p : Nat} (k : Clock) (st : Nat) (h : d.get (F.PORT_STATUS_STATE p) ≠ stUp) :
    d.leaveTo k p st = d.set (F.PORT_STATUS_STATE p) st :=
  if_pos (by simpa using h)

/-- What a frame's end spares, and the count of a reception in error too, holds once the reception has ended. -/
theorem Dev.Spared.rxBroken {P : Dev → Prop} (hP : Dev.Spared P) {d : Dev} (k : Clock) (p : Nat) (h : P d)
    (hcount : ∀ via len : Nat, P ((d.setPort via { d.port via with rx := none }).countRx via len .fcs)) : P (d.rxBroken k p) := by
  unfold Dev.rxBroken
  split
  · exact h
  · split
    · exact h
    · exact hP.endReception k _ _ _ .fcs (fun hgood => absurd hgood.1 (by decide)) (Dev.spared_receptionCounted hP (hcount _ _))

/-- Lanes and planned darkenings are spared. -/
theorem Dev.spared_lanes (a : Dev) : Dev.Spared fun b => b.lanes = a.lanes ∧ b.chan = a.chan where
  tables := fun _ _ _ _ h => h
  report := fun _ _ hab h => ⟨hab.lanes_eq.trans h.1, hab.chan_eq.trans h.2⟩
  pool := fun _ _ _ h => h
  stomp := fun _ _ h => h

theorem Dev.rxBroken_lanes (d : Dev) (k : Clock) (p : Nat) : (d.rxBroken k p).lanes = d.lanes ∧ (d.rxBroken k p).chan = d.chan :=
  d.spared_lanes.rxBroken k p ⟨rfl, rfl⟩ fun _ _ => ⟨rfl, rfl⟩

/-- The registers of the lanterns keep their values, but FCS_ERR_SEEN. -/
theorem Dev.rxBroken_get (d : Dev) (k : Clock) (p : Nat) {f : Fld} (hf : f.ofLantern = true)
    (hne : ∀ via, f.key ≠ (F.MAC_STICKY_FCS_ERR_SEEN via).key) : (d.rxBroken k p).get f = d.get f :=
  (Dev.spared_get hf (d.get f)).rxBroken k p rfl fun via _ => Dev.get_set_of_ne _ 1 (hne via)

theorem Dev.leaveTo_lanes (d : Dev) (k : Clock) {p : Nat} (st : Nat) (hp : p < 512) :
    (d.leaveTo k p st).lanes = d.lanes ∧ (d.leaveTo k p st).chan = d.chan := by
  by_cases hup : d.get (F.PORT_STATUS_STATE p) = stUp
  · rw [Dev.leaveTo_of_up k st hup]
    obtain ⟨hlanes, hchan⟩ := d.rxBroken_lanes k p
    have hreport := fun e : Dev => e.alike_event k (16 * (p / 16) + 0) (flcMac p) (by omega)
    exact ⟨(hreport _).lanes_eq.trans hlanes, (hreport _).chan_eq.trans hchan⟩
  · rw [Dev.leaveTo_of_not_up k st hup]
    exact ⟨rfl, rfl⟩

/-- What a port that leaves UP shows: its new state, no hold, nothing signalled, LINK_DOWN_SEEN, and its faults as they were. -/
theorem Dev.leaveTo_shows {d : Dev} {p : Nat} (k : Clock) (st : Nat) (hp : p < 512) (hup : d.get (F.PORT_STATUS_STATE p) = stUp) :
    let b := d.leaveTo k p st
    b.get (F.PORT_STATUS_STATE p) = st % 8 ∧ b.get (F.PORT_STATUS_HELD p) = 0 ∧ b.get (F.MAC_STICKY_LINK_DOWN_SEEN p) = 1 ∧
      (b.port p).signal = 0 ∧ b.get (F.PORT_STATUS_LOCAL_FAULT p) = d.get (F.PORT_STATUS_LOCAL_FAULT p) ∧
      b.get (F.PORT_STATUS_REMOTE_FAULT p) = d.get (F.PORT_STATUS_REMOTE_FAULT p) := by
  obtain ⟨hstate, hlocal, hremote, hheld, -⟩ := ofLantern_portStatus hp
  obtain ⟨hseen, -⟩ := ofLantern_macSticky hp
  have hbroken := fun (f : Fld) (hf : f.ofLantern = true) (h : f.place ≠ 0x483) =>
    d.rxBroken_get k p hf fun via => Fld.key_ne_of_place (by simpa using h)
  dsimp only
  rw [Dev.leaveTo_of_up k st hup]
  generalize d.rxBroken k p = e at hbroken
  obtain ⟨-, hleft, hother⟩ := Dev.sets_setAll _ e (leftUp_nodup p st)
  have hkept := ((e.setAll (leftUp p st)).setPort p { e.port p with signal := 0, fromRest := false }).portsKept_portEvent k
    (n := 0) hp (by decide)
  have hshown := fun (f : Fld) (hf : f.ofLantern = true) => (hkept.get f hf).trans (Dev.get_setPort _ _ _ f)
  have hfault := fun (f : Fld) (hf : f.ofLantern = true) (h : f.place ≠ 0x483) (hne : ∀ w ∈ leftUp p st, f.place ≠ w.1.place) =>
    (hshown f hf).trans ((hother f fun w hw => Fld.key_ne_of_place (hne w hw)).trans (hbroken f hf h))
  refine ⟨?_, ?_, ?_, ?_, hfault _ hlocal (by simp) (by simp [leftUp]), hfault _ hremote (by simp) (by simp [leftUp])⟩
  · exact (hshown _ hstate).trans (hleft (F.PORT_STATUS_STATE p, st) (by simp [leftUp]))
  · exact (hshown _ hheld).trans (hleft (F.PORT_STATUS_HELD p, 0) (by simp [leftUp]))
  · exact (hshown _ hseen).trans (hleft (F.MAC_STICKY_LINK_DOWN_SEEN p, 1) (by simp [leftUp]))
  · rw [Dev.port_congr hkept.ports, Dev.port_setPort_self]

theorem Dev.leaveTo_state (d : Dev) (k : Clock) {p : Nat} (st : Nat) (hp : p < 512) :
    (d.leaveTo k p st).get (F.PORT_STATUS_STATE p) = st % 8 := by
  by_cases hup : d.get (F.PORT_STATUS_STATE p) = stUp
  · exact (Dev.leaveTo_shows k st hp hup).1
  · rw [Dev.leaveTo_of_not_up k st hup]
    exact Dev.get_set_self _ _ _

end Sys2Proof.Machine
end

section
/-! Proofs: flow control sent (R129). -/

namespace Sys2Proof.Machine
open Sys2Proof

/-- A MAC control frame is emitted, whatever its source address; the ports stay. -/
theorem Dev.sendControl_spec (d : Dev) (p : Nat) (body : Bytes) :
    (∃ sa < 2 ^ 48, (d.sendControl p body).out = d.out ++ [.frame p (controlFrame sa body)]) ∧
      (d.sendControl p body).ports = d.ports :=
  ⟨⟨Config.freeValue d.free % 2 ^ 48, Nat.mod_lt _ (by decide), rfl⟩, rfl⟩

/-! Priority masks. -/

/-- An octet's ones less a priority mask are the mask's complement. -/
theorem testBit_255_sub {n : Nat} (h : n < 256) (i : Nat) : (255 - n).testBit i = (decide (i < 8) && !n.testBit i) := by
  have hsub : 255 - n = 2 ^ 8 - (n + 1) := by omega
  rw [hsub, Nat.testBit_two_pow_sub_succ (by simpa using h)]

/-- Masks with no priority to begin and none to end are equal. -/
theorem eq_of_no_change {a b : Nat} (ha : a < 256) (hb : b < 256) (hon : b &&& (255 - a) = 0) (hoff : a &&& (255 - b) = 0) :
    a = b := by
  refine Nat.eq_of_testBit_eq fun i => ?_
  have h1 := congrArg (·.testBit i) hon
  have h2 := congrArg (·.testBit i) hoff
  simp only [Nat.testBit_and, testBit_255_sub ha, testBit_255_sub hb, Nat.zero_testBit] at h1 h2
  by_cases hi : i < 8
  · have hba : b.testBit i = true → a.testBit i = true := by simpa [hi] using h1
    have hab : a.testBit i = true → b.testBit i = true := by simpa [hi] using h2
    exact Bool.eq_iff_iff.mpr ⟨hab, hba⟩
  · have hlt : ∀ n < 256, n.testBit i = false := fun n hn =>
      Nat.testBit_lt_two_pow (hn.trans_le (Nat.pow_le_pow_right (n := 2) (i := 8) (by decide) (by omega)))
    rw [hlt a ha, hlt b hb]

/-- Flow control codes below 256 signal no pause. -/
theorem bit_eight_of_lt {n : Nat} (h : n < 256) : bit n 8 = false := by simp [bit, Nat.div_eq_of_lt h]

theorem bits_byte_of_lt {n : Nat} (h : n < 256) : bits n 0 8 = n := by simpa [bits] using Nat.mod_eq_of_lt h

/-! FLOW_CONTROL_FRAME_SEND (R129). -/

/-- The partner is told of the flow control wanted. -/
abbrev Dev.signalled (d : Dev) (p want : Nat) : Dev := d.setPort p { d.port p with signal := want }

theorem Dev.signalNow_idle {d : Dev} {p : Nat} (h : d.get (F.PORT_STATUS_STATE p) ≠ stUp ∨ (d.port p).signal = d.wantSignal p) :
    d.signalNow p = d := if_pos (by simpa using h)

theorem Dev.signalNow_changed {d : Dev} {p was want : Nat} (hup : d.get (F.PORT_STATUS_STATE p) = stUp)
    (hwas : (d.port p).signal = was) (hwant : d.wantSignal p = want) (hne : was ≠ want) : d.signalNow p =
      let d1 := if bit was 8 && !bit want 8 then (d.signalled p want).sendPause p 0 else d.signalled p want
      let on := bits want 0 8 &&& (255 - bits was 0 8)
      let off := bits was 0 8 &&& (255 - bits want 0 8)
      let d2 := if on = 0 && off = 0 then d1 else d1.sendPfc p on off
      if bit want 8 && !bit was 8 then d2.sendPause p (d.get (F.PAUSE_TX_PAUSE_QUANTA p)) else d2 := by
  subst hwas hwant
  exact if_neg (by simpa using ⟨hup, hne⟩)

/-- Back-pressure that begins is sent as a pause of PAUSE_QUANTA. -/
theorem Dev.signalNow_pause {d : Dev} {p : Nat} (hup : d.get (F.PORT_STATUS_STATE p) = stUp) (hwas : (d.port p).signal = 0)
    (hwant : d.wantSignal p = 256) : d.signalNow p = (d.signalled p 256).sendPause p (d.get (F.PAUSE_TX_PAUSE_QUANTA p)) :=
  Dev.signalNow_changed hup hwas hwant (by decide)

/-- Back-pressure that ends is sent as a pause of 0. -/
theorem Dev.signalNow_resume {d : Dev} {p : Nat} (hup : d.get (F.PORT_STATUS_STATE p) = stUp) (hwas : (d.port p).signal = 256)
    (hwant : d.wantSignal p = 0) : d.signalNow p = (d.signalled p 0).sendPause p 0 :=
  Dev.signalNow_changed hup hwas hwant (by decide)

/-- Priorities that change are sent in one priority flow control frame. -/
theorem Dev.signalNow_priorities {d : Dev} {p : Nat} (hup : d.get (F.PORT_STATUS_STATE p) = stUp) (hwas : (d.port p).signal < 256)
    (hwant : d.wantSignal p < 256) (hne : (d.port p).signal ≠ d.wantSignal p) : d.signalNow p =
      (d.signalled p (d.wantSignal p)).sendPfc p (d.wantSignal p &&& (255 - (d.port p).signal))
        ((d.port p).signal &&& (255 - d.wantSignal p)) := by
  have hchange : ¬ (d.wantSignal p &&& (255 - (d.port p).signal) = 0 ∧ (d.port p).signal &&& (255 - d.wantSignal p) = 0) :=
    fun h => hne (eq_of_no_change hwas hwant h.1 h.2)
  rw [Dev.signalNow_changed hup rfl rfl hne]
  simp [bit_eight_of_lt hwas, bit_eight_of_lt hwant, bits_byte_of_lt hwas, bits_byte_of_lt hwant, hchange]

/-! PAUSE_REFRESH (R129). -/

theorem pauseRefresh_idle {d : Dev} {p : Nat} (k : Clock) (h : d.get (F.PORT_STATUS_STATE p) ≠ stUp ∨ d.wantSignal p = 0) :
    pauseRefresh p k d = d := by
  rcases h with h | h
  · exact if_pos (by simp [h])
  · simp [pauseRefresh, h, bit, bits]

theorem pauseRefresh_pause {d : Dev} {p : Nat} (k : Clock) (hp : p < 512) (hup : d.get (F.PORT_STATUS_STATE p) = stUp)
    (hwas : (d.port p).signal = 256) (hwant : d.wantSignal p = 256) :
    pauseRefresh p k d = d.sendPause p (d.get (F.PAUSE_TX_PAUSE_QUANTA p)) := by
  simp [pauseRefresh, hp, hup, hwas, hwant, bit, bits]

end Sys2Proof.Machine
end

section
/-! Proofs: holds and the watchdog (R128, R130). -/

namespace Sys2Proof.Machine
open Sys2Proof

/-- Classes released, as the register HELD shows. -/
theorem Dev.hold_release (d : Dev) (p : Nat) {off : Nat} (h : off < 256) :
    d.hold p 0 off = d.set (F.PORT_STATUS_HELD p) (d.get (F.PORT_STATUS_HELD p) &&& (255 - off)) := by
  have hheld : d.get (F.PORT_STATUS_HELD p) < 256 := d.get_lt _
  simp [Dev.hold, bits_byte_of_lt hheld, Nat.mod_eq_of_lt h]

/-- A bit that is set, taken away: the other bits stay. -/
theorem testBit_sub_two_pow {v n : Nat} (h : v.testBit n = true) (i : Nat) :
    (v - 2 ^ n).testBit i = (v.testBit i && decide (i ≠ n)) := by
  induction n generalizing v i with
  | zero =>
    have hodd : v % 2 = 1 := by simpa [Nat.testBit_zero] using h
    cases i with
    | zero => simp [Nat.testBit_zero]; omega
    | succ i =>
      have hhalf : (v - 1) / 2 = v / 2 := by omega
      simp [Nat.testBit_add_one, hhalf]
  | succ n ih =>
    have hhalf : (v - 2 ^ (n + 1)) / 2 = v / 2 - 2 ^ n := by omega
    rw [Nat.testBit_add_one] at h
    cases i with
    | zero =>
      have hle : 2 ^ n ≤ v / 2 := Nat.ge_two_pow_of_testBit h
      have hparity : (v - 2 ^ (n + 1)) % 2 = v % 2 := by omega
      simp [Nat.testBit_zero, hparity]
    | succ i => simp [Nat.testBit_add_one, hhalf, ih h]

/-- A bit cleared in a field reads 0, and the others as before. -/
theorem Dev.bit_clrBit (d : Dev) (f : Fld) (n i : Nat) : bit ((d.clrBit f n).get f) i = (bit (d.get f) i && decide (i ≠ n)) := by
  unfold Dev.clrBit
  split
  · rename_i h
    rw [bit_eq_testBit] at h
    rw [Dev.get_set_self, Nat.mod_eq_of_lt ((Nat.sub_le _ _).trans_lt (d.get_lt f)), bit_eq_testBit, bit_eq_testBit,
      testBit_sub_two_pow h]
  · rename_i h
    by_cases hi : i = n
    · subst hi; simpa using h
    · simp [hi]

theorem Dev.clrBit_eq (d : Dev) (f : Fld) (n : Nat) : d.clrBit f n = { d with fld := (d.clrBit f n).fld } := by
  unfold Dev.clrBit
  split <;> rfl

/-- The watchdog on a class held: it is released and ignored from now on, and the bit that says so is set. -/
theorem watchdog_fires {d : Dev} {p c : Nat} (k : Clock) (hp : p < 512) (hc : c < 8) (hen : d.flag (F.WD_CFG_WD_EN p) = true)
    (hheld : bit (d.get (F.PORT_STATUS_HELD p)) c = true) :
    let b := watchdog p c k d
    b.get (F.PORT_STATUS_HELD p) = d.get (F.PORT_STATUS_HELD p) &&& (255 - 2 ^ c) ∧ b.get (F.MAC_STICKY_PAUSE_WD_FIRED p) = 1 ∧
      b.get (F.PORT_STATUS_WD_RECOVERY p) = d.get (F.PORT_STATUS_WD_RECOVERY p) ||| 2 ^ c := by
  have hmask : 2 ^ c < 256 := Nat.pow_lt_pow_right (n := 8) (by decide) hc
  obtain ⟨-, -, -, hheldF, hrecF⟩ := ofLantern_portStatus hp
  obtain ⟨-, hfiredF, -⟩ := ofLantern_macSticky hp
  have heq : watchdog p c k d = ((((d.hold p 0 (2 ^ c)).setBit (F.PORT_STATUS_WD_RECOVERY p) c).setB
      (F.MAC_STICKY_PAUSE_WD_FIRED p) true).count (cPort p 7) 0).eventData k (16 * (p / 16) + 1) 0 (flcMac p) c :=
    if_neg (by simp [hp, hen, hheld])
  have hreport := fun (e : Dev) (f : Fld) (hf : f.ofLantern = true) =>
    (e.alike_eventData k (16 * (p / 16) + 1) 0 (flcMac p) c (by omega)).get_eq f (Fld.ofLantern.still hf)
  have hother := fun (e : Dev) (v : Nat) {f g : Fld} (h : f.place ≠ g.place) => e.get_set_of_ne v (Fld.key_ne_of_place h)
  dsimp only
  rw [heq, d.hold_release p hmask]
  refine ⟨?_, ?_, ?_⟩
  · rw [hreport _ _ hheldF, Dev.get_count, Dev.setB_eq, hother _ _ (by simp), Dev.setBit_eq, hother _ _ (by simp), Dev.get_set_self]
    exact Nat.mod_eq_of_lt (Nat.and_le_left.trans_lt (d.get_lt _))
  · rw [hreport _ _ hfiredF, Dev.get_count, Dev.setB_eq, Dev.get_set_self]
    rfl
  · rw [hreport _ _ hrecF, Dev.get_count, Dev.setB_eq, hother _ _ (by simp), Dev.setBit_eq, Dev.get_set_self, hother _ _ (by simp)]
    exact Nat.mod_eq_of_lt (Nat.or_lt_two_pow (d.get_lt _) hmask)

end Sys2Proof.Machine
end

section
/-! Proofs: flow control together. -/

namespace Sys2Proof.Machine
open Sys2Proof

theorem ends_flowControlFrameSend {s : State} (p : Fin 512) {q : Dev → Prop} (hp : s.m.dev.boot.porN = true)
    (h : q (s.m.dev.signalNow p)) : ends (.flowControlFrameSend p) s q :=
  ends_onDev rfl hp (by rwa [if_pos p.isLt])

/-- A frame sent once the partner's view is brought up to date. -/
theorem Dev.sendControl_signalled (d : Dev) (p want : Nat) (body : Bytes) :
    (∃ sa < 2 ^ 48, ((d.signalled p want).sendControl p body).out = d.out ++ [.frame p (controlFrame sa body)]) ∧
      ((d.signalled p want).sendControl p body).port p = { d.port p with signal := want } := by
  obtain ⟨hout, hports⟩ := (d.signalled p want).sendControl_spec p body
  exact ⟨hout, (Dev.port_congr hports p).trans (Dev.port_setPort_self _ _ _)⟩

/-- Settles O54: a change of what is wanted is one frame, by the cases of the change; pause times, the watchdog and its recovery
act on the registers HELD and WD_RECOVERY. -/
theorem flowControl : Obligations.FlowControl := by
  unfold Obligations.FlowControl
  intro s p c m d x want up held quanta sent hp
  refine ⟨fun hup hwas hwant => ends_flowControlFrameSend p hp ?_, fun hup hwas hwant => ends_flowControlFrameSend p hp ?_,
    fun hup hwas hwant hne => ends_flowControlFrameSend p hp ?_, fun h => ends_flowControlFrameSend p hp (Dev.signalNow_idle h),
    fun hup hwas hwant => ends_onDev rfl hp ?_, fun h => ends_onDev rfl hp (pauseRefresh_idle _ h), ends_onDev rfl hp ?_,
    fun hen hheld => ends_onDev rfl hp (watchdog_fires _ p.isLt c.isLt hen hheld), ends_onDev rfl hp ?_⟩
  · rw [Dev.signalNow_pause hup hwas hwant]
    exact d.sendControl_signalled p 256 _
  · rw [Dev.signalNow_resume hup hwas hwant]
    exact d.sendControl_signalled p 0 _
  · rw [Dev.signalNow_priorities hup hwas hwant hne]
    exact (d.sendControl_signalled p want _).symm
  · rw [pauseRefresh_pause _ p.isLt hup hwas hwant]
    exact (d.sendControl_spec p _).1
  · rw [if_pos p.isLt, Dev.hold_release _ _ m.isLt]
    exact d.sets_one _ _
  · rw [if_pos p.isLt]
    refine ⟨d.clrBit_eq _ _, ?_, fun i hi => ?_⟩
    · exact (Dev.bit_clrBit _ _ _ _).trans (by simp)
    · exact (Dev.bit_clrBit _ _ _ _).trans (by simp [Fin.val_ne_of_ne hi, d])

end Sys2Proof.Machine
end

section
/-! Proofs: links of front ports (R114, R116, R117, R118, R133, R134, R135, R136). -/

namespace Sys2Proof.Machine
open Sys2Proof

/-! LINK_UP and TRAIN_TIMEOUT. -/

/-- What a port's registers say when its link is up. -/
def linkedUp (p : Nat) : List (Fld × Nat) :=
  [(F.PORT_STATUS_STATE p, stUp), (F.PORT_STATUS_LOCAL_FAULT p, 0), (F.PORT_STATUS_REMOTE_FAULT p, 0)]

/-- The port whose link has come up (R117). -/
def Dev.linked (d : Dev) (p : Nat) : Dev :=
  (d.setAll (linkedUp p)).setPort p { (d.setAll (linkedUp p)).port p with fromRest := false }

theorem linkUp_eq {d : Dev} {p : Nat} (k : Clock) (hp : p < 512) (hex : d.portExists p = true)
    (hst : d.get (F.PORT_STATUS_STATE p) = stDown ∨ d.get (F.PORT_STATUS_STATE p) = stLighting) (hlit : (d.port p).lit = true)
    (hheld : d.isHeld (p / 16) = false) : ∃ sel, linkUp p k d = ((d.linked p).portEvent k p 0).finishAll k sel Rep.ok :=
  ⟨_, if_neg (by simpa [hp, hex, hlit, hheld] using or_iff_not_imp_left.mp hst)⟩

theorem linkUp_shows {d : Dev} {p : Nat} (k : Clock) (hp : p < 512) (hex : d.portExists p = true)
    (hst : d.get (F.PORT_STATUS_STATE p) = stDown ∨ d.get (F.PORT_STATUS_STATE p) = stLighting) (hlit : (d.port p).lit = true)
    (hheld : d.isHeld (p / 16) = false) :
    let b := linkUp p k d
    b.get (F.PORT_STATUS_STATE p) = stUp ∧ b.get (F.PORT_STATUS_LOCAL_FAULT p) = 0 ∧ b.get (F.PORT_STATUS_REMOTE_FAULT p) = 0 ∧
      b.port p = { d.port p with fromRest := false } := by
  obtain ⟨hstate, hlocal, hremote, -⟩ := ofLantern_portStatus hp
  obtain ⟨sel, heq⟩ := linkUp_eq k hp hex hst hlit hheld
  have hkept := ((d.linked p).portsKept_portEvent k (n := 0) hp (by decide)).trans (Dev.portsKept_finishAll _ k sel Rep.ok)
  obtain ⟨-, hset, -⟩ := Dev.sets_setAll (linkedUp p) d (nodup_keys_of_places (by simp [linkedUp]))
  have hshown := fun (f : Fld) (hf : f.ofLantern = true) => (hkept.get f hf).trans (Dev.get_setPort (d.setAll (linkedUp p)) p _ f)
  have hport : (d.setAll (linkedUp p)).port p = d.port p := Dev.port_congr (by rw [Dev.setAll_eq]) p
  dsimp only
  rw [heq]
  refine ⟨?_, ?_, ?_, ?_⟩
  · exact (hshown _ hstate).trans (hset (F.PORT_STATUS_STATE p, stUp) (by simp [linkedUp]))
  · exact (hshown _ hlocal).trans (hset (F.PORT_STATUS_LOCAL_FAULT p, 0) (by simp [linkedUp]))
  · exact (hshown _ hremote).trans (hset (F.PORT_STATUS_REMOTE_FAULT p, 0) (by simp [linkedUp]))
  · rw [Dev.port_congr hkept.ports, Dev.linked, Dev.port_setPort_self, hport]

theorem trainTimeout_shows {d : Dev} {p : Nat} (k : Clock) (hp : p < 512) (hen : d.flag (F.PORT_CFG_TRAIN_EN p) = true)
    (hlit : (d.port p).lit = true) (hst : d.get (F.PORT_STATUS_STATE p) = stDown ∨ d.get (F.PORT_STATUS_STATE p) = stLighting) :
    let b := trainTimeout p k d
    b.get (F.MAC_STICKY_TRAIN_FAIL p) = 1 ∧ b.get (F.PORT_STATUS_STATE p) = d.get (F.PORT_STATUS_STATE p) ∧ b.ports = d.ports := by
  have hkept : (d.setB (F.MAC_STICKY_TRAIN_FAIL p) true).portsKept (trainTimeout p k d) := by
    unfold trainTimeout
    rw [if_neg (by simpa [hp, hen, hlit] using or_iff_not_imp_left.mp hst)]
    exact (Dev.portsKept_portEvent _ k hp (by decide)).trans (Dev.portsKept_finishAll _ _ _ _)
  obtain ⟨-, -, -, hfail⟩ := ofLantern_macSticky hp
  refine ⟨(hkept.get _ hfail).trans (Dev.get_set_self _ _ _), (hkept.get _ (ofLantern_portStatus hp).1).trans ?_, hkept.ports⟩
  exact Dev.get_set_of_ne _ _ (Fld.key_ne_of_place (by simp))

/-! LINK_DOWN. -/

theorem b2n_mod_two (b : Bool) : b2n b % 2 ^ 1 = b2n b := by cases b <;> rfl

/-- The faults recorded; the port's other fields keep their values. -/
theorem Dev.faults_recorded (d : Dev) (p : Nat) (lf rf : Bool) :
    let b := (d.setB (F.PORT_STATUS_LOCAL_FAULT p) lf).setB (F.PORT_STATUS_REMOTE_FAULT p) rf
    b.get (F.PORT_STATUS_LOCAL_FAULT p) = b2n lf ∧ b.get (F.PORT_STATUS_REMOTE_FAULT p) = b2n rf ∧
      b.get (F.PORT_STATUS_STATE p) = d.get (F.PORT_STATUS_STATE p) := by
  obtain ⟨-, hset, hother⟩ := Dev.sets_setAll [(F.PORT_STATUS_LOCAL_FAULT p, b2n lf), (F.PORT_STATUS_REMOTE_FAULT p, b2n rf)] d
    (nodup_keys_of_places (by simp))
  exact ⟨(hset (F.PORT_STATUS_LOCAL_FAULT p, b2n lf) (by simp)).trans (b2n_mod_two lf),
    (hset (F.PORT_STATUS_REMOTE_FAULT p, b2n rf) (by simp)).trans (b2n_mod_two rf),
    hother _ fun w hw => Fld.key_ne_of_place (by revert w; simp)⟩

theorem linkDown_shows {d : Dev} {p : Nat} (k : Clock) (lf rf : Bool) (hp : p < 512) (hex : d.portExists p = true) :
    let b := linkDown p lf rf k d
    b.get (F.PORT_STATUS_LOCAL_FAULT p) = b2n lf ∧ b.get (F.PORT_STATUS_REMOTE_FAULT p) = b2n rf ∧
      (d.get (F.PORT_STATUS_STATE p) ≠ stUp → b.get (F.PORT_STATUS_STATE p) = d.get (F.PORT_STATUS_STATE p)) ∧
      (d.get (F.PORT_STATUS_STATE p) = stUp → b.get (F.PORT_STATUS_STATE p) = stDown ∧ b.get (F.PORT_STATUS_HELD p) = 0 ∧
        b.get (F.MAC_STICKY_LINK_DOWN_SEEN p) = 1 ∧ (b.port p).signal = 0) := by
  obtain ⟨hlocal, hremote, hstate⟩ := d.faults_recorded p lf rf
  unfold linkDown
  rw [if_neg (by simp [hp, hex])]
  dsimp only
  split
  · rename_i hup
    obtain ⟨hdown, hheld, hseen, hsignal, hlf, hrf⟩ := Dev.leaveTo_shows k stDown hp (hstate.trans hup)
    exact ⟨hlf.trans hlocal, hrf.trans hremote, fun h => absurd hup h, fun _ => ⟨hdown, hheld, hseen, hsignal⟩⟩
  · rename_i hup
    exact ⟨hlocal, hremote, fun _ => hstate, fun h => absurd h hup⟩

/-! LIGHT_UP. -/

/-- A port whose lanes begin to transmit: from REST it stays LIGHTING, else it is DOWN. -/
def Dev.litUp (d : Dev) (k : Clock) (p : Nat) : Dev :=
  let d1 := (d.integrate k).setLanes (d.lanesOf p) true
  let d2 := d1.setPort p { d1.port p with lit := true }
  if (d.port p).fromRest then d2 else d2.set (F.PORT_STATUS_STATE p) stDown

theorem Dev.litUp_shows {d : Dev} {p : Nat} (k : Clock) (hst : d.get (F.PORT_STATUS_STATE p) = stLighting) :
    (d.litUp k p).port p = { d.port p with lit := true } ∧ (∀ i < d.portLanes p, (d.litUp k p).laneLit (p + i) = true) ∧
      (d.litUp k p).get (F.PORT_STATUS_STATE p) = if (d.port p).fromRest then stLighting else stDown := by
  obtain ⟨hports, hfld, -⟩ := (d.integrate k).setLanes_keeps (d.lanesOf p) true
  have hlanes : ∀ i < d.portLanes p, ((d.integrate k).setLanes (d.lanesOf p) true).laneLit (p + i) = true := fun i hi => by
    rw [Dev.laneLit_setLanes, if_pos (d.mem_lanesOf p i hi)]
  unfold Dev.litUp
  generalize (d.integrate k).setLanes (d.lanesOf p) true = d1 at hports hfld hlanes
  have hport : d1.port p = d.port p := Dev.port_congr (hports.trans (d.integrate_keeps k).1) p
  have hget : d1.get (F.PORT_STATUS_STATE p) = stLighting := (Dev.get_congr (hfld.trans (d.integrate_fld k)) _).trans hst
  dsimp only
  split
  · exact ⟨by rw [Dev.port_setPort_self, hport], hlanes, hget⟩
  · exact ⟨by rw [Dev.port_congr (Dev.set_ports _ _ _), Dev.port_setPort_self, hport], hlanes, Dev.get_set_self _ _ _⟩

theorem lightUp_shows {d : Dev} {p : Nat} (k : Clock) (hp : p < 512) (hst : d.get (F.PORT_STATUS_STATE p) = stLighting)
    (hvolt : (d.port p).waitVolt = false) (hlit : (d.port p).lit = false) :
    let b := lightUp p k d
    b.port p = { d.port p with lit := true } ∧ (∀ i < d.portLanes p, b.laneLit (p + i) = true) ∧
      b.get (F.PORT_STATUS_STATE p) = if (d.port p).fromRest then stLighting else stDown := by
  have hkept : (d.litUp k p).portsKept (lightUp p k d) := by
    unfold lightUp
    rw [if_neg (by simp [hp, hst, hvolt, hlit])]
    exact Dev.portsKept_foldl _ (fun e w _ => e.portsKept_bumpGen.trans (Dev.portsKept_finish _ k w Rep.ok)) (d.litUp k p)
  obtain ⟨hport, hlanes, hstate⟩ := d.litUp_shows k hst
  exact ⟨(Dev.port_congr hkept.ports p).trans hport, fun i hi => (Dev.laneLit_congr hkept.lanes _).trans (hlanes i hi),
    (hkept.get _ (ofLantern_portStatus hp).1).trans hstate⟩

/-! WAKE_PATTERN. -/

/-- A dark lane's wake pattern is reported (R133). -/
def Dev.woken (d : Dev) (k : Clock) (p : Nat) : Dev := (d.setB (F.MAC_STICKY_WAKE_SEEN p) true).portEvent k p 3

theorem Dev.woken_shows (d : Dev) (k : Clock) {p : Nat} (hp : p < 512) : (d.woken k p).get (F.MAC_STICKY_WAKE_SEEN p) = 1 ∧
    (d.woken k p).get (F.PORT_STATUS_STATE p) = d.get (F.PORT_STATUS_STATE p) ∧ (d.woken k p).ports = d.ports := by
  have hkept := (d.setB (F.MAC_STICKY_WAKE_SEEN p) true).portsKept_portEvent k (n := 3) hp (by decide)
  obtain ⟨-, -, hseen, -⟩ := ofLantern_macSticky hp
  exact ⟨(hkept.get _ hseen).trans (Dev.get_set_self _ _ _), (hkept.get _ (ofLantern_portStatus hp).1).trans
    (Dev.get_set_of_ne _ _ (Fld.key_ne_of_place (by simp))), hkept.ports⟩

theorem wakePattern_eq {d : Dev} {p n : Nat} (k : Clock) (hdark : d.laneLit n = false) (hof : d.portOf n = some p) :
    wakePattern n k d =
      if d.get (F.PORT_STATUS_STATE p) = stRest then (d.woken k p).beginLight p true false
      else if d.get (F.PORT_STATUS_STATE p) = stDark && d.flag (F.LINK_CFG_WAKE_EN p) then (d.woken k p).beginLight p false false
      else d.woken k p := by
  simp only [wakePattern, hdark, hof, Bool.false_eq_true, if_false, Dev.woken]

theorem wakePattern_shows {d : Dev} {p n : Nat} (k : Clock) (hp : p < 512) (hdark : d.laneLit n = false) (hof : d.portOf n = some p) :
    let b := wakePattern n k d
    let st := d.get (F.PORT_STATUS_STATE p)
    b.get (F.MAC_STICKY_WAKE_SEEN p) = 1 ∧
      (st = stRest ∨ st = stDark ∧ d.flag (F.LINK_CFG_WAKE_EN p) = true → b.get (F.PORT_STATUS_STATE p) = stLighting ∧
        ((b.port p).fromRest = true ↔ st = stRest)) ∧
      (st = stDark → d.flag (F.LINK_CFG_WAKE_EN p) = false → b.get (F.PORT_STATUS_STATE p) = stDark ∧ b.ports = d.ports) := by
  obtain ⟨hseen, hstate, hports⟩ := d.woken_shows k hp
  obtain ⟨-, -, hseenF, -⟩ := ofLantern_macSticky hp
  have hlight := fun fromRest => (d.woken k p).beginLight_spec hp fromRest false
  have hseenL := fun fromRest => ((hlight fromRest).2.2 _ hseenF (Fld.key_ne_of_place (by simp))).trans hseen
  have hne : stDark ≠ stRest := by decide
  dsimp only
  rw [wakePattern_eq k hdark hof]
  by_cases hrest : d.get (F.PORT_STATUS_STATE p) = stRest
  · rw [if_pos hrest]
    exact ⟨hseenL true, fun _ => ⟨(hlight true).1, by simp [(hlight true).2.1, hrest]⟩, fun h => absurd (h.symm.trans hrest) hne⟩
  · rw [if_neg hrest]
    by_cases hen : d.get (F.PORT_STATUS_STATE p) = stDark ∧ d.flag (F.LINK_CFG_WAKE_EN p) = true
    · rw [if_pos (by simpa using hen)]
      exact ⟨hseenL false, fun _ => ⟨(hlight false).1, by simp [(hlight false).2.1, hrest]⟩, fun _ h => by simp [hen.2] at h⟩
    · rw [if_neg (by simpa using hen)]
      exact ⟨hseen, fun h => absurd h (by simp [hrest, hen]), fun h _ => ⟨hstate.trans h, hports⟩⟩

/-! IDLE_HOLD_EXPIRY. -/

theorem idleExpiry_shows {d : Dev} {p : Nat} (k : Clock) (hp : p < 512) (hex : d.portExists p = true)
    (hen : d.flag (F.LINK_CFG_IDLE_EN p) = true)
    (hst : d.get (F.PORT_STATUS_STATE p) = stUp ∨ d.get (F.PORT_STATUS_STATE p) = stDown)
    (hqueues : ∀ c < 8, d.queue (8 * p + c) = []) (htx : (d.port p).tx = none) (hsignal : (d.port p).signal = 0)
    (hwant : d.wantSignal p = 0) :
    let b := idleExpiry p k d
    b.get (F.PORT_STATUS_STATE p) = stRest ∧ (b.port p).lit = false ∧
      b.chan.darken = d.chan.darken ++ (d.lanesOf p).filter fun i => d.laneLit i && !d.chan.darken.contains i := by
  have hgo : ¬ (512 ≤ p || !d.portExists p || !d.flag (F.LINK_CFG_IDLE_EN p) ||
      !(d.get (F.PORT_STATUS_STATE p) == stUp || d.get (F.PORT_STATUS_STATE p) == stDown) ||
      !((List.range 8).all (fun c => (d.queue (8 * p + c)).isEmpty) && (d.port p).tx.isNone) ||
      (d.port p).signal != 0 || d.wantSignal p != 0) = true := by
    simpa [hp, hex, hen, htx, hsignal, hwant] using ⟨or_iff_not_imp_left.mp hst, hqueues⟩
  obtain ⟨hlanes, hchan⟩ := d.leaveTo_lanes k stRest hp
  have hstate := d.leaveTo_state k stRest hp
  unfold idleExpiry
  dsimp only
  rw [if_neg hgo]
  generalize d.leaveTo k p stRest = e at hlanes hchan hstate
  refine ⟨by rw [Dev.get_setPort, Dev.get_planDark, hstate]; rfl, by rw [Dev.port_setPort_self], ?_⟩
  simp only [Dev.setPort, Dev.planDark, Dev.onChan, hchan, Dev.laneLit_congr hlanes]

end Sys2Proof.Machine
end

section
/-! Proofs: links of front ports together. -/

namespace Sys2Proof.Machine
open Sys2Proof

/-- Settles O53: each command by what its port shows after it, whatever the replies and events that follow. -/
theorem portLinks : Obligations.PortLinks := by
  unfold Obligations.PortLinks
  intro s p n lf rf d st x hpor
  exact ⟨fun hex hst hlit hheld => ends_onDev rfl hpor (linkUp_shows _ p.isLt hex hst hlit hheld),
    fun hex => ends_onDev rfl hpor (linkDown_shows _ lf rf p.isLt hex),
    fun hen hlit hst => ends_onDev rfl hpor (trainTimeout_shows _ p.isLt hen hlit hst),
    fun hst hvolt hlit => ends_onDev rfl hpor (lightUp_shows _ p.isLt hst hvolt hlit),
    fun hdark hof => ends_onDev rfl hpor (wakePattern_shows _ p.isLt hdark hof),
    fun hex hen hst hqueues htx hsignal hwant =>
      ends_onDev rfl hpor (idleExpiry_shows _ p.isLt hex hen hst hqueues htx hsignal hwant)⟩

end Sys2Proof.Machine
end

section
/-! Proofs: what the checks of port and lane commands let pass, and how a ready command completes (R425). -/

namespace Sys2Proof.Machine
open Sys2Proof

/-! Parameter checks. -/

/-- Parameters that pass hold no field given as bad. -/
theorem badParam_none_fields {len : Nat} {used : List (Nat × Nat)} {bad : List (Nat × Bool)} {p : Bytes}
    (h : badParam len used bad p = none) {o : Nat} {x : Bool} (hb : (o, x) ∈ bad) (ho : o < len) : x = false := by
  unfold badParam at h
  split at h
  · cases h
  · rw [List.head?_eq_none_iff, List.filter_eq_nil_iff] at h
    have hclear := h o (List.mem_range.mpr ho)
    simp only [Bool.or_eq_true, not_or, List.any_eq_true, not_exists, not_and] at hclear
    simpa using hclear.2 (o, x) hb

theorem portConfigCheck_bounds {q : Req} {m : Mach} (h : portConfigCheck q m = none) :
    q.u 0 2 < 512 ∧ q.u 2 1 ≤ 8 ∧ (q.u 2 1 ≠ 0 → q.u 3 1 ≤ 3 ∧ q.u 5 1 < 2) := by
  unfold portConfigCheck at h
  dsimp only at h
  split at h
  · cases h
  · rename_i hpass
    have hport : decide (511 < q.u 0 2) = false := badParam_none_fields (o := 0) hpass (by simp) (by decide)
    have htype : decide (8 < q.u 2 1) = false := badParam_none_fields (o := 2) hpass (by simp) (by decide)
    have hlanes : (q.u 2 1 != 0 && decide (3 < q.u 3 1)) = false := badParam_none_fields (o := 3) hpass (by simp) (by decide)
    have htrain : (q.u 2 1 != 0 && decide (2 ≤ q.u 5 1)) = false := badParam_none_fields (o := 5) hpass (by simp) (by decide)
    simp only [Bool.and_eq_false_iff, bne_eq_false_iff_eq, decide_eq_false_iff_not] at hport htype hlanes htrain
    omega

theorem lanesCheck_bounds {q : Req} {m : Mach} (h : lanesCheck q m = none) : q.u 0 2 + q.u 2 2 ≤ 512 ∧ 0 < q.u 2 2 := by
  unfold lanesCheck at h
  split at h
  · cases h
  · rename_i hpass
    have hlanes : (decide (q.u 2 2 = 0) || decide (512 < q.u 2 2) || decide (512 < q.u 0 2 + q.u 2 2)) = false :=
      badParam_none_fields (o := 2) hpass (by simp) (by decide)
    simp only [Bool.or_eq_false_iff, decide_eq_false_iff_not] at hlanes
    omega

/-! How a ready command completes. -/

/-- A ready command whose body replies at once. -/
theorem answers_smiem {c : Instr} {op : Nat} {q : Req} {s : State} {check : Req → Mach → Option Nat} {later : Req → Bool}
    {body : Req → Mach → Res} {m' : Mach} {rep : Rep} {p : Mach → Rep → Prop}
    (hc : exec c s = onMach (smiem op check later body q) s) (h : s.m.ready op q) (hcheck : check q (s.m.taken op q) = none)
    (hb : body q (s.m.taken op q) = .done m' rep) (hp : p m' rep) : answers c op q s p :=
  ⟨m', rep, by rw [hc, onMach_run _ h.1, smiem_done h hcheck hb], hp⟩

/-- A ready command whose body waits. -/
theorem begins_smiem {c : Instr} {op : Nat} {q : Req} {s : State} {check : Req → Mach → Option Nat} {later : Req → Bool}
    {body : Req → Mach → Res} {m' : Mach} {kind : WaitKind} {p : Mach → WaitKind → Prop}
    (hc : exec c s = onMach (smiem op check later body q) s) (h : s.m.ready op q) (hcheck : check q (s.m.taken op q) = none)
    (hb : body q (s.m.taken op q) = .later m' kind) (hp : p m' kind) : begins c op q s p :=
  ⟨m', kind, by rw [hc, onMach_run _ h.1, smiem_later h hcheck hb], hp⟩

/-- A ready command whose body works on the device alone. -/
theorem answers_smiemDev {c : Instr} {op : Nat} {q : Req} {s : State} {check : Req → Dev → Option Nat}
    {body : Req → Clock → Dev → Dev × Rep} {b : Dev} {rep : Rep} {p : Mach → Rep → Prop}
    (hc : exec c s = onMach (smiemDev op check body q) s) (h : s.m.ready op q) (hcheck : check q (s.m.taken op q).dev = none)
    (hb : body q s.m.clk (s.m.taken op q).dev = (b, rep)) (hp : p ((s.m.taken op q).setDev b) rep) : answers c op q s p :=
  ⟨_, rep, by rw [hc, onMach_run _ h.1, smiemDev_done h hcheck, hb], hp⟩

end Sys2Proof.Machine
end

section
/-! Proofs: port and lane commands (R114, R132, R135, R439, R563). -/

namespace Sys2Proof.Machine
open Sys2Proof

/-! PORT_CONFIG (R114, R439). -/

/-- Removing a port that does not exist counts a generation (log entry 60). -/
theorem portConfig_absent {q : Req} {m : Mach} (ht : q.u 2 1 = 0) (hp : m.dev.get (F.PORT_CFG_PORT_TYPE (q.u 0 2)) = 0) :
    portConfig q m = .done (m.setDev m.dev.bumpGen) Rep.ok := by
  simp only [portConfig, ht, hp, if_true]

/-- The registers of a port's configuration. -/
def configured (p type lanes fec train : Nat) : List (Fld × Nat) :=
  [(F.PORT_CFG_PORT_TYPE p, type), (F.PORT_CFG_LANES p, lanes), (F.PORT_CFG_FEC p, fec), (F.PORT_CFG_TRAIN_EN p, train),
    (F.PTP_RX_TS_ADJ p, Config.rxTsAdj type fec), (F.PTP_TX_TS_ADJ p, Config.txTsAdj type fec)]

theorem configured_nodup (p type lanes fec train : Nat) : ((configured p type lanes fec train).map fun e => e.1.key).Nodup :=
  nodup_keys_of_places (by simp [configured])

/-- A configuration of a type is written, whatever the port was before, and the port begins to light. -/
theorem portConfig_lights {q : Req} {m : Mach} (ht : q.u 2 1 ≠ 0) : ∃ (d : Dev) (fec : Nat), portConfig q m =
    .later (m.setDev ((d.setAll (configured (q.u 0 2) (q.u 2 1) (q.u 3 1) fec (q.u 5 1))).beginLight (q.u 0 2) false true))
      (.portConfig (q.u 0 2)) :=
  ⟨_, _, if_neg ht⟩

/-- The port is LIGHTING with the type, lanes and training asked for. -/
theorem Dev.configured_lighting (d : Dev) {p type lanes train : Nat} (fec : Nat) (hp : p < 512) (htype : type ≤ 8) (hlanes : lanes ≤ 3)
    (htrain : train < 2) :
    let b := (d.setAll (configured p type lanes fec train)).beginLight p false true
    b.get (F.PORT_CFG_PORT_TYPE p) = type ∧ b.get (F.PORT_CFG_LANES p) = lanes ∧ b.get (F.PORT_CFG_TRAIN_EN p) = train ∧
      b.get (F.PORT_STATUS_STATE p) = stLighting := by
  obtain ⟨htypeF, hlanesF, htrainF⟩ := ofLantern_portCfg hp
  obtain ⟨hstate, -, hother⟩ := (d.setAll (configured p type lanes fec train)).beginLight_spec hp false true
  obtain ⟨-, hset, -⟩ := Dev.sets_setAll _ d (configured_nodup p type lanes fec train)
  have hwritten := fun (f : Fld) (v : Nat) (hf : f.ofLantern = true) (hne : f.place ≠ (F.PORT_STATUS_STATE p).place)
    (hmem : (f, v) ∈ configured p type lanes fec train) => (hother f hf (Fld.key_ne_of_place hne)).trans (hset (f, v) hmem)
  refine ⟨?_, ?_, ?_, hstate⟩
  · exact (hwritten _ type htypeF (by simp) (by simp [configured])).trans (Nat.mod_eq_of_lt (show type < 16 by omega))
  · exact (hwritten _ lanes hlanesF (by simp) (by simp [configured])).trans (Nat.mod_eq_of_lt (show lanes < 4 by omega))
  · exact (hwritten _ train htrainF (by simp) (by simp [configured])).trans (Nat.mod_eq_of_lt (show train < 2 by omega))

/-! LANE_DARK (R132). -/

/-- Lanes of ports that neither light nor rest: those lit are planned to darken, and the command waits while there is one. -/
theorem laneDark_plans {q : Req} {m : Mach} (h : ∀ n ∈ m.dev.namedPorts q, m.dev.get (F.PORT_STATUS_STATE n) ≠ stLighting ∧
      m.dev.get (F.PORT_STATUS_STATE n) ≠ stRest) :
    laneDark q m = if (namedLanes q).any m.dev.laneLit
      then .later (m.setDev (m.dev.planDark (namedLanes q))) (.portDark (m.dev.namedPorts q))
      else .done (m.setDev (m.dev.planDark (namedLanes q))) Rep.ok := by
  have hnow : (m.dev.namedPorts q).filter (fun p => m.dev.get (F.PORT_STATUS_STATE p) == stLighting ||
      m.dev.get (F.PORT_STATUS_STATE p) == stRest) = [] := by
    simpa [List.filter_eq_nil_iff] using h
  simp [laneDark, hnow, Dev.laneLit_congr (show (m.dev.planDark (namedLanes q)).lanes = m.dev.lanes from rfl)]

/-- Lanes none of which is lit leave the plan as it is. -/
theorem Dev.planDark_dark {d : Dev} {ls : List Nat} (h : ∀ n ∈ ls, d.laneLit n = false) : d.planDark ls = d := by
  have hnone : ls.filter (fun n => d.laneLit n && !d.chan.darken.contains n) = [] := by
    rw [List.filter_eq_nil_iff]
    intro n hn
    simp [h n hn]
  simp only [Dev.planDark, Dev.onChan, hnone, List.append_nil]

/-! LANE_LIGHT (R135). -/

theorem Dev.portOf_le {d : Dev} {n p : Nat} (h : d.portOf n = some p) : p ≤ n := by
  have hfound := List.find?_some h
  simp only [Bool.and_eq_true, decide_eq_true_eq] at hfound
  exact hfound.1

theorem namedPorts_lt {q : Req} {m : Mach} (d : Dev) (h : lanesCheck q m = none) {n : Nat} (hn : n ∈ d.namedPorts q) : n < 512 := by
  obtain ⟨hbound, -⟩ := lanesCheck_bounds h
  obtain ⟨x, hx, hof⟩ := List.mem_filterMap.mp (List.mem_eraseDups.mp hn)
  obtain ⟨i, hi, rfl⟩ := List.mem_map.mp hx
  have hle := Dev.portOf_le hof
  have hlt := List.mem_range.mp hi
  omega

theorem Dev.lightPort_dark {d : Dev} {p : Nat} (k : Clock) (hst : d.get (F.PORT_STATUS_STATE p) = stDark)
    (hplan : ∀ x ∈ d.lanesOf p, x ∉ d.chan.darken) : d.lightPort k p = d.beginLight p false false := by
  have hnone : ¬ (d.lanesOf p).any d.chan.darken.contains = true := by simpa using hplan
  simp only [Dev.lightPort, if_neg hnone, hst, if_true]

/-- The lanes of no port that a LANE_LIGHT names, lit alone. -/
def Dev.litAlone (d : Dev) (k : Clock) (alone : List Nat) : Dev :=
  ((d.integrate k).setLanes alone true).onChan fun c => { c with darken := c.darken.filter fun n => !alone.contains n }

theorem Dev.litAlone_keeps (d : Dev) (k : Clock) (alone : List Nat) :
    (d.litAlone k alone).fld = d.fld ∧ ∀ x ∈ (d.litAlone k alone).chan.darken, x ∈ d.chan.darken := by
  obtain ⟨-, hfld, hchan⟩ := (d.integrate k).setLanes_keeps alone true
  refine ⟨hfld.trans (d.integrate_fld k), fun x hx => ?_⟩
  have hplanned := List.mem_of_mem_filter hx
  rwa [hchan, (d.integrate_keeps k).2] at hplanned

theorem Dev.lanesOf_congr {a b : Dev} (h : b.fld = a.fld) (p : Nat) : b.lanesOf p = a.lanesOf p := by
  simp only [Dev.lanesOf, Dev.portLanes, Dev.get_congr h]

theorem laneLight_eq {q : Req} {m : Mach} {n : Nat} (hports : m.dev.namedPorts q = [n]) : ∃ alone, laneLight q m =
    let d := (m.dev.litAlone m.clk alone).lightPort m.clk n
    if [n].all fun p => d.get (F.PORT_STATUS_STATE p) == stUp then .done (m.setDev d) Rep.ok else .later (m.setDev d) (.portUp [n]) := by
  refine ⟨(namedLanes q).filter fun x => (m.dev.portOf x).isNone, ?_⟩
  unfold laneLight
  dsimp only
  rw [hports, List.foldl_cons, List.foldl_nil, ← Dev.litAlone]

/-- The lanes of one dark port: it is LIGHTING, and the command waits for it to be UP. -/
theorem laneLight_waits {q : Req} {m : Mach} {n : Nat} (hn : n < 512) (hports : m.dev.namedPorts q = [n])
    (hst : m.dev.get (F.PORT_STATUS_STATE n) = stDark) (hplan : ∀ x ∈ m.dev.lanesOf n, x ∉ m.dev.chan.darken) :
    ∃ d : Dev, laneLight q m = .later (m.setDev d) (.portUp [n]) ∧ d.get (F.PORT_STATUS_STATE n) = stLighting := by
  obtain ⟨alone, heq⟩ := laneLight_eq hports
  obtain ⟨hfld, hdarken⟩ := m.dev.litAlone_keeps m.clk alone
  rw [heq]
  generalize m.dev.litAlone m.clk alone = e at hfld hdarken
  have hlight : e.lightPort m.clk n = e.beginLight n false false := by
    refine Dev.lightPort_dark m.clk ((Dev.get_congr hfld _).trans hst) fun x hx hmem => ?_
    rw [Dev.lanesOf_congr hfld] at hx
    exact hplan x hx (hdarken x hmem)
  have hlit := (e.beginLight_spec hn false false).1
  refine ⟨e.beginLight n false false, ?_, hlit⟩
  rw [hlight]
  exact if_neg (by simp [hlit, stLighting, stUp])

/-! SERDES_TUNE (R563). -/

theorem serdesTune_dark {q : Req} {d : Dev} (k : Clock) (hn : q.u 0 2 < 512) (hdark : d.laneLit (q.u 0 2) = false) :
    serdesTune q k d = (d, ⟨stBusy, 0, 0⟩) := by
  simp [serdesTune, hn, hdark]

/-- A lit lane is one that is held. -/
theorem Dev.lane_of_lit {d : Dev} {n : Nat} (h : d.laneLit n = true) : ∃ l, tget? d.lanes n = some l ∧ l.lit = true := by
  simpa [Dev.laneLit, Option.map_eq_some_iff, Option.getD_eq_iff] using h

/-- The taps that a SERDES_TUNE leaves in force: with OP 1 its own, else those before. -/
def tapsAfter (q : Req) (l : Lane) : List Int := if q.u 2 1 = 1 then [q.s 4 1, q.s 5 1, q.s 6 1, q.s 7 1] else l.taps

theorem serdesTune_lit {q : Req} {d : Dev} (k : Clock) {l : Lane} (hn : q.u 0 2 < 512) (hl : tget? d.lanes (q.u 0 2) = some l)
    (hlit : l.lit = true) (hst : ∀ p, d.portOf (q.u 0 2) = some p → d.get (F.PORT_STATUS_STATE p) ≠ stLighting) :
    serdesTune q k d = ({ d with lanes := tset d.lanes (q.u 0 2) { l with taps := tapsAfter q l }, free := d.free + 1 },
      ⟨stOk, 0, leNat ((tapsAfter q l).map fun t => byte (unsign 8 t)) + 2 ^ 32 * (Config.freeValue d.free % 2 ^ 16)⟩) := by
  have hon : d.laneLit (q.u 0 2) = true := by simp [Dev.laneLit, hl, hlit]
  have hready : ((d.portOf (q.u 0 2)).map fun p => d.get (F.PORT_STATUS_STATE p) == stLighting).getD false = false := by
    cases hof : d.portOf (q.u 0 2) with
    | none => rfl
    | some p => simpa using hst p hof
  have hlane : (if q.u 2 1 = 1 then { l with taps := [q.s 4 1, q.s 5 1, q.s 6 1, q.s 7 1] } else l : Lane) =
      { l with taps := tapsAfter q l } := by
    unfold tapsAfter
    split <;> rfl
  have hkept : ({ l with taps := tapsAfter q l } : Lane) ≠ ⟨false, [0, -8, 56, 0]⟩ := by simp [hlit]
  unfold serdesTune
  dsimp only
  rw [if_neg (by simp [hn, hon, hready])]
  simp only [hl, Option.getD_some, hlane, tput, if_neg hkept, Dev.draw]

end Sys2Proof.Machine
end

section
/-! Proofs: port and lane commands together. -/

namespace Sys2Proof.Machine
open Sys2Proof

/-- Settles O31: each command by what its body answers. A PORT_CONFIG of a type writes its fields whatever it removed before; a
LANE_DARK only plans, its ports neither lighting nor resting; a LANE_LIGHT of a dark port with no darkening planned lights it. -/
theorem portCommands : Obligations.PortCommands := by
  unfold Obligations.PortCommands
  intro q s p
  refine ⟨?_, ?_, ?_, ?_⟩
  · intro hready hcheck a
    refine ⟨fun ht habsent => answers_smiem rfl hready hcheck (portConfig_absent ht habsent) ⟨rfl, rfl⟩, fun ht => ?_⟩
    obtain ⟨hp, htype, hbounds⟩ := portConfigCheck_bounds hcheck
    obtain ⟨hlanes, htrain⟩ := hbounds ht
    obtain ⟨d, fec, hbody⟩ := portConfig_lights (m := a) ht
    exact begins_smiem rfl hready hcheck hbody ⟨rfl, rfl, d.configured_lighting fec hp htype hlanes htrain⟩
  · intro hready hcheck a hstates
    refine ⟨fun hlit => ?_, fun hdark => ?_⟩
    · have hany : (namedLanes q).any a.dev.laneLit = true := List.any_eq_true.mpr hlit
      refine begins_smiem rfl hready hcheck ((laneDark_plans hstates).trans (if_pos hany)) ⟨rfl, rfl, ?_⟩
      exact a.dev.mem_planDark (namedLanes q)
    · have hnone : ¬ (namedLanes q).any a.dev.laneLit = true := by simpa using hdark
      refine answers_smiem rfl hready hcheck ((laneDark_plans hstates).trans (if_neg hnone)) ⟨?_, rfl⟩
      rw [Dev.planDark_dark hdark]
      rfl
  · intro hready hcheck a n hports hof hst hplan
    have hn : n < 512 := namedPorts_lt a.dev hcheck (hports ▸ List.mem_singleton_self n)
    obtain ⟨d, hbody, hlighting⟩ := laneLight_waits hn hports hst hplan
    exact begins_smiem rfl hready hcheck hbody ⟨rfl, rfl, hlighting⟩
  · intro hready hcheck hp a ln
    refine ⟨fun hdark => answers_smiemDev rfl hready hcheck (serdesTune_dark _ hp hdark) ⟨rfl, rfl⟩, fun hlit hst => ?_⟩
    obtain ⟨l, hl, hon⟩ := Dev.lane_of_lit hlit
    have hln : ln = l := congrArg (·.getD Lane.dark) hl
    refine answers_smiemDev rfl hready hcheck (serdesTune_lit _ hp hl hon hst) ?_
    rw [hln]
    exact ⟨rfl, rfl, tget?_tset_self _ _ _, fun n hne => tget?_tset_of_ne _ _ hne⟩

end Sys2Proof.Machine
end

section
/-! Proofs: fields of byte strings (R7), and indexed records after writes (R435). -/

namespace Sys2Proof.Machine
open Sys2Proof

/-! Fields of byte strings. -/

theorem sliceZ_eq_map (b : Bytes) (o w : Nat) : sliceZ b o w = (List.range w).map fun i => byteAt b (o + i) := by
  refine List.ext_getElem (by simp [sliceZ]) fun i h1 h2 => ?_
  simp only [sliceZ, byteAt, List.getElem_append, List.getD_eq_getElem?_getD, List.getElem_map, List.getElem_range]
  grind

/-- A field depends on its own bytes alone. -/
theorem leAt_congr {a b : Bytes} {o w : Nat} (h : ∀ i, o ≤ i → i < o + w → byteAt a i = byteAt b i) : leAt a o w = leAt b o w := by
  have hmap : sliceZ a o w = sliceZ b o w := by
    rw [sliceZ_eq_map, sliceZ_eq_map]
    refine List.map_congr_left fun i hi => h _ (Nat.le_add_right o i) ?_
    have := List.mem_range.mp hi
    omega
  exact congrArg leNat hmap

@[simp] theorem toLE_length (n w : Nat) : (toLE n w).length = w := by
  induction w generalizing n with
  | zero => rfl
  | succ w ih => simp [toLE, ih]

@[simp] theorem leNat_toLE (n w : Nat) : leNat (toLE n w) = n % 256 ^ w := by
  induction w generalizing n with
  | zero => simp [toLE, leNat, Nat.mod_one]
  | succ w ih =>
    have hbyte : (byte n).toNat = n % 256 := BitVec.toNat_ofNat n 8
    rw [toLE, leNat, ih, hbyte, Nat.pow_succ', Nat.mod_mul]

theorem sliceZ_append_left {b c : Bytes} {w : Nat} (h : b.length = w) : sliceZ (b ++ c) 0 w = b := by
  simp [sliceZ, ← h]

theorem leAt_toLE (n w : Nat) : leAt (toLE n w) 0 w = n % 256 ^ w := by
  rw [leAt, ← List.append_nil (toLE n w), sliceZ_append_left (toLE_length n w), leNat_toLE]

@[simp] theorem byteAt_padTo (b : Bytes) (n i : Nat) : byteAt (padTo b n) i = byteAt b i := by
  simp only [byteAt, padTo, List.getD_eq_getElem?_getD, List.getElem?_append, List.getElem?_replicate]
  grind

theorem leAt_padTo (b : Bytes) (n o w : Nat) : leAt (padTo b n) o w = leAt b o w := leAt_congr fun _ _ _ => byteAt_padTo b n _

theorem padTo_of_le {b : Bytes} {n : Nat} (h : n ≤ b.length) : padTo b n = b := by simp [padTo, h]

theorem le_length_padTo (b : Bytes) (n : Nat) : n ≤ (padTo b n).length := by simp [padTo]; omega

theorem leNat_append_zeros (b : Bytes) (n : Nat) : leNat (b ++ List.replicate n 0) = leNat b := by
  induction b with
  | nil =>
    induction n with
    | zero => rfl
    | succ n ih => simpa [List.replicate_succ, leNat] using ih
  | cons x b ih => exact congrArg (x.toNat + 256 * ·) ih

@[simp] theorem leNat_padTo (b : Bytes) (n : Nat) : leNat (padTo b n) = leNat b := leNat_append_zeros b _

/-- Zeros are the empty string as far as any byte read goes. -/
theorem eq_replicate_of_zeros {b : Bytes} (h : b.all (· == 0) = true) : b = padTo [] b.length :=
  List.eq_replicate_iff.mpr ⟨by simp, by simpa using h⟩

/-! Writing a field. -/

@[simp] theorem putBytes_length (b : Bytes) (o : Nat) (v : Bytes) : (putBytes b o v).length = b.length := by
  fun_induction putBytes b o v <;> simp_all

theorem byteAt_putBytes (b : Bytes) (o : Nat) (v : Bytes) (i : Nat) :
    byteAt (putBytes b o v) i = if o ≤ i ∧ i < o + v.length ∧ i < b.length then byteAt v (i - o) else byteAt b i := by
  fun_induction putBytes b o v generalizing i with
  | case1 => simp
  | case2 b => rw [if_neg (by simp)]
  | case3 x b v vs ih =>
    cases i with
    | zero => simp [byteAt]
    | succ i => simpa [byteAt] using ih i
  | case4 x b o vs ih =>
    cases i with
    | zero => simp [byteAt]
    | succ i =>
      have hin : (o + 1 ≤ i + 1 ∧ i + 1 < o + 1 + vs.length ∧ i + 1 < (x :: b).length) ↔
          (o ≤ i ∧ i < o + vs.length ∧ i < b.length) := by rw [List.length_cons]; omega
      rw [if_congr hin (congrArg (byteAt vs) (Nat.add_sub_add_right i 1 o)) rfl]
      exact ih i

/-- A field written reads back. -/
theorem leAt_putLE_self {r : Bytes} {o w : Nat} (v : Nat) (h : o + w ≤ r.length) : leAt (putLE r o w v) o w = v % 256 ^ w := by
  have hslice : sliceZ (putLE r o w v) o w = sliceZ (toLE v w) 0 w := by
    rw [sliceZ_eq_map, sliceZ_eq_map]
    refine List.map_congr_left fun i hi => ?_
    have hiw := List.mem_range.mp hi
    rw [putLE, byteAt_putBytes, if_pos (by rw [toLE_length]; omega), Nat.add_sub_cancel_left, Nat.zero_add]
  rw [leAt, hslice, ← leAt, leAt_toLE]

/-- A field written leaves the others. -/
theorem leAt_putLE_of_disjoint (r : Bytes) {o w o' w' : Nat} (v : Nat) (h : o' + w' ≤ o ∨ o + w ≤ o') :
    leAt (putLE r o w v) o' w' = leAt r o' w' := by
  refine leAt_congr fun i hlo hhi => ?_
  rw [putLE, byteAt_putBytes, if_neg (by rw [toLE_length]; omega)]

@[simp] theorem putLE_length (r : Bytes) (o w v : Nat) : (putLE r o w v).length = r.length := putBytes_length r o _

/-! Indexed records. -/

/-- What a record's write leaves at its index: nothing for zeros, since a record never written reads as zeros. -/
def stored (b : Bytes) : Option Bytes := if b.all (· == 0) then none else some b

theorem stored_reads (b : Bytes) : leNat ((stored b).getD []) = leNat b ∧ ∀ i, byteAt ((stored b).getD []) i = byteAt b i := by
  unfold stored
  split
  · rename_i hz
    rw [eq_replicate_of_zeros hz]
    simp
  · exact ⟨rfl, fun _ => rfl⟩

@[simp] theorem Dev.tget?_setRec_self (d : Dev) (t i : Nat) (b : Bytes) :
    tget? (d.setRec t i b).index (t * 2 ^ 24 + i) = stored b := by
  simp only [Dev.setRec, stored]
  split
  · exact tget?_tdel_self _ _
  · exact tget?_tset_self _ _ _

theorem Dev.tget?_setRec_of_ne (d : Dev) {t i k : Nat} (b : Bytes) (h : k ≠ t * 2 ^ 24 + i) :
    tget? (d.setRec t i b).index k = tget? d.index k := by
  simp only [Dev.setRec]
  split
  · exact tget?_tdel_of_ne _ h
  · exact tget?_tset_of_ne _ _ h

theorem Dev.record_congr {a b : Dev} {t i : Nat} (h : tget? b.index (t * 2 ^ 24 + i) = tget? a.index (t * 2 ^ 24 + i)) (n : Nat) :
    b.record t i n = a.record t i n := by
  simp only [Dev.record, tgetD, h]

theorem Dev.record_eq {d : Dev} {t i : Nat} {o : Option Bytes} (h : tget? d.index (t * 2 ^ 24 + i) = o) (n : Nat) :
    d.record t i n = padTo (o.getD []) n := by
  simp only [Dev.record, tgetD, h]

/-- A record's fields are those of what was stored. -/
theorem Dev.leAt_record {d : Dev} {t i : Nat} {b : Bytes} (h : tget? d.index (t * 2 ^ 24 + i) = stored b) (n o w : Nat) :
    leAt (d.record t i n) o w = leAt b o w := by
  rw [Dev.record_eq h, leAt_padTo]
  exact leAt_congr fun j _ _ => (stored_reads b).2 j

theorem Dev.leNat_record {d : Dev} {t i : Nat} {b : Bytes} (h : tget? d.index (t * 2 ^ 24 + i) = stored b) (n : Nat) :
    leNat (d.record t i n) = leNat b := by
  rw [Dev.record_eq h, leNat_padTo, (stored_reads b).1]

/-! Several records written. -/

/-- The records of a table written one after another. -/
def Dev.setRecs (d : Dev) (t : Nat) (l : List (Nat × Bytes)) : Dev := l.foldl (fun d e => d.setRec t e.1 e.2) d

theorem Dev.setRecs_cons (d : Dev) (t : Nat) (e : Nat × Bytes) (l : List (Nat × Bytes)) :
    d.setRecs t (e :: l) = (d.setRec t e.1 e.2).setRecs t l := rfl

/-- Writing records changes the records alone. -/
theorem Dev.setRecs_eq (d : Dev) (t : Nat) (l : List (Nat × Bytes)) : d.setRecs t l = { d with index := (d.setRecs t l).index } := by
  induction l generalizing d with
  | nil => rfl
  | cons e l ih => exact ih (d.setRec t e.1 e.2)

theorem Dev.tget?_setRecs_of_ne (d : Dev) {t k : Nat} {l : List (Nat × Bytes)} (h : ∀ e ∈ l, k ≠ t * 2 ^ 24 + e.1) :
    tget? (d.setRecs t l).index k = tget? d.index k := by
  induction l generalizing d with
  | nil => rfl
  | cons e l ih =>
    rw [Dev.setRecs_cons, ih _ fun x hx => h x (List.mem_cons_of_mem e hx), d.tget?_setRec_of_ne _ (h e List.mem_cons_self)]

/-- Of records at different indices each stands as written. -/
theorem Dev.tget?_setRecs_of_mem (d : Dev) {t : Nat} {l : List (Nat × Bytes)} (hl : l.Pairwise (fun a b => a.1 < b.1))
    {e : Nat × Bytes} (he : e ∈ l) : tget? (d.setRecs t l).index (t * 2 ^ 24 + e.1) = stored e.2 := by
  induction l generalizing d with
  | nil => cases he
  | cons x l ih =>
    obtain ⟨hx, hl⟩ := List.pairwise_cons.mp hl
    rw [Dev.setRecs_cons]
    rcases List.mem_cons.mp he with rfl | he
    · rw [Dev.tget?_setRecs_of_ne _ fun y hy => by have := hx y hy; omega, Dev.tget?_setRec_self]
    · exact ih _ hl he

end Sys2Proof.Machine
end

section
/-! Proofs: the rule-set commands (R151, R175, R177, R437). -/

namespace Sys2Proof.Machine
open Sys2Proof

/-! What a load reads. -/

theorem chunks_getD (b : Bytes) (size : Nat) {n i : Nat} (h : i < n) : (chunks b size n).getD i [] = sliceZ b (i * size) size := by
  simp [chunks, h]

/-- The source of a CSTORE_LOAD. -/
def cstoreSrc (q : Req) (m : Mach) : HostRead := m.bulk q (q.u 8 1) (q.u 16 8) (64 * q.u 4 2)

/-- A control word that a CSTORE_LOAD reads. -/
def cstoreWord (q : Req) (m : Mach) (i : Nat) : Bytes := sliceZ (cstoreSrc q m).bytes (i * 64) 64

/-- The source of a DISPATCH_LOAD. -/
def dispatchSrc (q : Req) (m : Mach) : HostRead := m.bulk q (q.u 8 1) (q.u 16 8) (2 * q.u 4 2)

/-! CSTORE_LOAD (R151, R175). -/

theorem cstoreLoad_short {q : Req} {m : Mach} (h : (cstoreSrc q m).ended ≠ .whole) :
    cstoreLoad q m = .done m ⟨endStatus (cstoreSrc q m).ended, 0, 0⟩ := if_pos (by simpa [cstoreSrc] using h)

section
variable {q : Req} {m : Mach} (hw : (cstoreSrc q m).ended = .whole)
include hw

/-- A load with a word that breaks a rule writes nothing and names the first such word. -/
theorem cstoreLoad_badWord {j : Nat} (hj : j < q.u 4 2) (hbad : wordOk (leNat (cstoreWord q m j)) = false)
    (hok : ∀ i < j, wordOk (leNat (cstoreWord q m i)) = true) : cstoreLoad q m = .done m ⟨stBadParam, 2 ^ 31 + j, 0⟩ := by
  have hfirst : firstAt (List.range (q.u 4 2))
      (fun i => !wordOk (leNat ((chunks (cstoreSrc q m).bytes 64 (q.u 4 2)).getD i []))) = some j := by
    refine List.find?_range_eq_some.mpr ⟨?_, List.mem_range.mpr hj, fun i hi => ?_⟩
    · rw [chunks_getD _ _ hj, ← cstoreWord, hbad]
      rfl
    · rw [chunks_getD _ _ (hi.trans hj), ← cstoreWord, hok i hi]
      rfl
  unfold cstoreLoad
  dsimp only
  rw [← cstoreSrc, if_neg (by simp [hw]), hfirst]

variable (hok : ∀ i < q.u 4 2, wordOk (leNat (cstoreWord q m i)) = true)

omit hw in
include hok in
theorem cstoreWords_sound :
    firstAt (List.range (q.u 4 2)) (fun i => !wordOk (leNat ((chunks (cstoreSrc q m).bytes 64 (q.u 4 2)).getD i []))) = none := by
  refine List.find?_range_eq_none.mpr fun i hi => ?_
  rw [chunks_getD _ _ hi, ← cstoreWord, hok i hi]
  rfl

include hok

/-- So does a load of sound words with one that is live. -/
theorem cstoreLoad_live {j : Nat} (hj : j < q.u 4 2) (hlive : m.dev.wordLive (q.u 0 1) (q.u 2 2 + j) = true)
    (hfree : ∀ i < j, m.dev.wordLive (q.u 0 1) (q.u 2 2 + i) = false) : cstoreLoad q m = .done m ⟨stLocked, 2 ^ 31 + j, 0⟩ := by
  have hfirst : firstAt (List.range (q.u 4 2)) (fun i => m.dev.wordLive (q.u 0 1) (q.u 2 2 + i)) = some j :=
    List.find?_range_eq_some.mpr ⟨hlive, List.mem_range.mpr hj, fun i hi => by simp [hfree i hi]⟩
  unfold cstoreLoad
  dsimp only
  rw [← cstoreSrc, if_neg (by simp [hw]), cstoreWords_sound hok, hfirst]

/-- A load of sound words, none of them live, writes every word. -/
theorem cstoreLoad_writes (hfree : ∀ i < q.u 4 2, m.dev.wordLive (q.u 0 1) (q.u 2 2 + i) = false) :
    cstoreLoad q m = .done (m.setDev (m.dev.setRecs 0x20 ((List.range (q.u 4 2)).map fun i =>
      (storeIndex (q.u 0 1) (q.u 2 2 + i), cstoreWord q m i))).bumpGen) ⟨stOk, q.u 4 2, 0⟩ := by
  have hfirst : firstAt (List.range (q.u 4 2)) (fun i => m.dev.wordLive (q.u 0 1) (q.u 2 2 + i)) = none :=
    List.find?_range_eq_none.mpr fun i hi => by simp [hfree i hi]
  have hwrite : (List.range (q.u 4 2)).foldl (fun d i => d.setRec 0x20 (storeIndex (q.u 0 1) (q.u 2 2 + i))
      ((chunks (cstoreSrc q m).bytes 64 (q.u 4 2)).getD i [])) m.dev =
      m.dev.setRecs 0x20 ((List.range (q.u 4 2)).map fun i => (storeIndex (q.u 0 1) (q.u 2 2 + i), cstoreWord q m i)) := by
    rw [Dev.setRecs, List.foldl_map]
    refine List.foldl_ext _ _ _ fun d i hi => ?_
    rw [chunks_getD _ _ (List.mem_range.mp hi), ← cstoreWord]
  unfold cstoreLoad
  dsimp only
  rw [← cstoreSrc, if_neg (by simp [hw]), cstoreWords_sound hok, hfirst, hwrite]

end

/-! DISPATCH_LOAD (R175). -/

theorem dispatchLoad_busy {q : Req} {m : Mach} (h : m.dev.standbyBusy = true) : dispatchLoad q m = .done m ⟨stBusy, 0, 0⟩ := if_pos h

/-- Writing records leaves the bank that stands by. -/
theorem Dev.foldl_setRec_standby (g : Nat → Nat → Nat) (b : Nat → Bytes) (l : List Nat) (d : Dev) :
    l.foldl (fun d i => d.setRec 0x21 (g d.standbyBank i) (b i)) d = d.setRecs 0x21 (l.map fun i => (g d.standbyBank i, b i)) := by
  induction l generalizing d with
  | nil => rfl
  | cons i l ih => exact ih (d.setRec 0x21 (g d.standbyBank i) (b i))

/-- A standby bank that is free takes the entries. -/
theorem dispatchLoad_writes {q : Req} {m : Mach} (hfree : m.dev.standbyBusy = false) (hw : (dispatchSrc q m).ended = .whole) :
    dispatchLoad q m = .done (m.setDev (m.dev.setRecs 0x21 ((List.range (q.u 4 2)).map fun i =>
      (dispIndex m.dev.standbyBank (q.u 0 1) (q.u 2 2 + i), toLE (leAt (dispatchSrc q m).bytes (2 * i) 2 % 1024) 2))).bumpGen) Rep.ok := by
  have hwrite : (List.range (q.u 4 2)).foldl (fun d i => d.setRec 0x21 (dispIndex d.standbyBank (q.u 0 1) (q.u 2 2 + i))
      (toLE (leNat ((chunks (dispatchSrc q m).bytes 2 (q.u 4 2)).getD i []) % 1024) 2)) m.dev =
      m.dev.setRecs 0x21 ((List.range (q.u 4 2)).map fun i =>
        (dispIndex m.dev.standbyBank (q.u 0 1) (q.u 2 2 + i), toLE (leAt (dispatchSrc q m).bytes (2 * i) 2 % 1024) 2)) := by
    rw [← Dev.foldl_setRec_standby fun bank i => dispIndex bank (q.u 0 1) (q.u 2 2 + i)]
    refine List.foldl_ext _ _ _ fun d i hi => ?_
    rw [chunks_getD _ _ (List.mem_range.mp hi), Nat.mul_comm i 2, ← leAt]
  unfold dispatchLoad
  dsimp only
  rw [← dispatchSrc, if_neg (by simp [hfree]), if_neg (by simp [hw]), hwrite]

/-! RULESET_SWAP (R177). -/

theorem rulesetSwap_busy {q : Req} {m : Mach} (h : m.dev.rules.held ≠ none) : rulesetSwap q m = .done m ⟨stBusy, 0, 0⟩ :=
  if_pos (Option.isSome_iff_ne_none.mpr h)

theorem rulesetSwap_held {q : Req} {m : Mach} (h : m.dev.rules.held = none) :
    rulesetSwap q m = .later (m.setDev (m.dev.onRules fun r => { r with held := some ⟨q.u 0 1, q.flagAt 1 0, false⟩ }))
      (.swap (q.u 0 1) m.dev.rules.gen) := if_neg (by simp [h])

/-! Records loaded and counted as one generation. -/

@[simp] theorem Dev.bumpGen_index (d : Dev) : d.bumpGen.index = d.index := by
  unfold Dev.bumpGen
  dsimp only
  split <;> rfl

@[simp] theorem Dev.bumpGen_rules (d : Dev) : d.bumpGen.rules = d.rules := by
  unfold Dev.bumpGen
  dsimp only
  split <;> rfl

/-- A load changes the records and counts one generation. -/
theorem Dev.setRecs_bumpGen (d : Dev) (t : Nat) (l : List (Nat × Bytes)) :
    (d.setRecs t l).bumpGen = ({ d with index := (d.setRecs t l).bumpGen.index } : Dev).bumpGen := by
  rw [Dev.bumpGen_index]
  exact congrArg Dev.bumpGen (d.setRecs_eq t l)

/-- Records loaded at rising indices each stand as loaded. -/
theorem Dev.tget?_setRecs_run (d : Dev) (t : Nat) {g : Nat → Nat} (hg : ∀ i j, i < j → g i < g j) (b : Nat → Bytes)
    {n i : Nat} (hi : i < n) :
    tget? (d.setRecs t ((List.range n).map fun i => (g i, b i))).bumpGen.index (t * 2 ^ 24 + g i) = stored (b i) := by
  rw [Dev.bumpGen_index]
  exact d.tget?_setRecs_of_mem (e := (g i, b i)) (List.pairwise_map.mpr (List.pairwise_lt_range.imp (hg _ _)))
    (List.mem_map.mpr ⟨i, List.mem_range.mpr hi, rfl⟩)

end Sys2Proof.Machine
end

section
/-! Proofs: rule-set commands together. -/

namespace Sys2Proof.Machine
open Sys2Proof

/-- Settles O30: each load by what it finds first, and what the records written then read; a swap by whether one is held. -/
theorem ruleCommands : Obligations.RuleCommands := by
  unfold Obligations.RuleCommands
  intro q s
  refine ⟨fun hready hcheck => ?_, fun hready hcheck => ?_, fun hready hcheck => ?_⟩
  · intro a n stage first src word
    refine ⟨fun hshort => ?_, fun hw hok j hj hlive hfree => ?_, fun hw j hj hbad hok => ?_, fun hw hok hfree => ?_⟩
    · exact answers_smiem rfl hready hcheck (cstoreLoad_short hshort) ⟨rfl, rfl⟩
    · exact answers_smiem rfl hready hcheck (cstoreLoad_live hw hok hj hlive hfree) ⟨rfl, rfl⟩
    · exact answers_smiem rfl hready hcheck (cstoreLoad_badWord hw hj hbad hok) ⟨rfl, rfl⟩
    · refine answers_smiem rfl hready hcheck (cstoreLoad_writes hw hok hfree)
        ⟨rfl, congrArg a.setDev (a.dev.setRecs_bumpGen _ _), fun i hi => ?_, fun j hj => ?_⟩
      · exact Dev.leNat_record (a.dev.tget?_setRecs_run 0x20 (g := fun i => storeIndex stage (first + i))
          (fun i j hij => by simp only [storeIndex]; omega) word hi) 64
      · rw [Mach.setDev_dev, Dev.bumpGen_index]
        refine a.dev.tget?_setRecs_of_ne fun e he => ?_
        obtain ⟨i, hi, rfl⟩ := List.mem_map.mp he
        exact hj i (List.mem_range.mp hi)
  · intro a n src
    refine ⟨fun hbusy => answers_smiem rfl hready hcheck (dispatchLoad_busy hbusy) ⟨rfl, rfl⟩, fun hfree hw => ?_⟩
    refine answers_smiem rfl hready hcheck (dispatchLoad_writes hfree hw)
      ⟨rfl, congrArg a.setDev (a.dev.setRecs_bumpGen _ _), fun i hi => ?_⟩
    have hentry := a.dev.tget?_setRecs_run 0x21 (g := fun i => dispIndex a.dev.standbyBank (q.u 0 1) (q.u 2 2 + i))
      (fun i j hij => by simp only [dispIndex]; omega) (fun i => toLE (leAt src.bytes (2 * i) 2 % 1024) 2) hi
    refine (Dev.leAt_record hentry 2 0 2).trans ?_
    rw [leAt_toLE]
    omega
  · intro a
    exact ⟨fun hheld => answers_smiem rfl hready hcheck (rulesetSwap_busy hheld) ⟨rfl, rfl⟩,
      fun hfree => begins_smiem rfl hready hcheck (rulesetSwap_held hfree) ⟨rfl, rfl⟩⟩

end Sys2Proof.Machine
end

section
/-! Proofs: the serialised works of the rule-set: a held swap applied, and the copy to the standby bank (R176, R177). -/

namespace Sys2Proof.Machine
open Sys2Proof

/-! A copy of records. -/

/-- A filter leaves the entries it keeps. -/
theorem tget?_filter_keep {α : Type} {t : Tab α} {p : Nat × α → Bool} {k : Nat} (h : ∀ x, p (k, x) = true) :
    tget? (t.filter p) k = tget? t k := by
  induction t with
  | nil => rfl
  | cons e t ih =>
    obtain ⟨j, x⟩ := e
    by_cases hj : j = k
    · subst hj
      rw [List.filter_cons, if_pos (h x), tget?_cons, tget?_cons, if_pos rfl, if_pos rfl]
    · rw [tget?_cons, if_neg hj, ← ih, List.filter_cons]
      split
      · rw [tget?_cons, if_neg hj]
      · rfl

/-- The records of a range, moved to another and padded. -/
def movedRecs (t : Tab Bytes) (base src dst n len : Nat) : List (Nat × Bytes) :=
  (trange t (base + src) (base + src + n)).map fun e => (dst + (e.1 - base - src), padTo e.2 len)

theorem mem_movedRecs {t : Tab Bytes} {base src dst n len : Nat} {e : Nat × Bytes} :
    e ∈ movedRecs t base src dst n len ↔ ∃ i x, i < n ∧ (base + (src + i), x) ∈ t ∧ e = (dst + i, padTo x len) := by
  simp only [movedRecs, trange, List.mem_map, List.mem_filter, Bool.and_eq_true, decide_eq_true_eq]
  constructor
  · rintro ⟨⟨k, x⟩, ⟨hmem, hlo, hhi⟩, rfl⟩
    dsimp only at hlo hhi ⊢
    have hk : base + (src + (k - base - src)) = k := by omega
    exact ⟨k - base - src, x, by omega, hk.symm ▸ hmem, rfl⟩
  · rintro ⟨i, x, hi, hmem, rfl⟩
    exact ⟨_, ⟨hmem, by dsimp only; omega, by dsimp only; omega⟩, by dsimp only; congr 1; omega⟩

theorem movedRecs_sorted {t : Tab Bytes} (ht : t.Pairwise (fun a b => a.1 < b.1)) (base src dst n len : Nat) :
    (movedRecs t base src dst n len).Pairwise (fun a b => a.1 < b.1) := by
  refine List.pairwise_map.mpr (List.Pairwise.imp_of_mem (fun ha _ hab => ?_) (ht.filter _))
  have hlo := (List.mem_filter.mp ha).2
  simp only [Bool.and_eq_true, decide_eq_true_eq] at hlo
  omega

theorem Dev.copyRecs_eq (d : Dev) (t src dst n len : Nat) : d.copyRecs t src dst n len =
    ({ d with index := tclear d.index (t * 2 ^ 24 + dst) (t * 2 ^ 24 + dst + n) } : Dev).setRecs t
      (movedRecs d.index (t * 2 ^ 24) src dst n len) := by
  rw [Dev.setRecs, movedRecs, List.foldl_map]
  rfl

@[simp] theorem Dev.copyRecs_rules (d : Dev) (t src dst n len : Nat) : (d.copyRecs t src dst n len).rules = d.rules := by
  rw [Dev.copyRecs_eq, Dev.setRecs_eq]

/-- Outside its destination a copy changes nothing. -/
theorem Dev.tget?_copyRecs_outside (d : Dev) {t src dst n k : Nat} (len : Nat) (h : k < t * 2 ^ 24 + dst ∨ t * 2 ^ 24 + dst + n ≤ k) :
    tget? (d.copyRecs t src dst n len).index k = tget? d.index k := by
  rw [Dev.copyRecs_eq, Dev.tget?_setRecs_of_ne]
  · exact tget?_filter_keep fun x => by
      simp only [Bool.not_eq_true', Bool.and_eq_false_iff, decide_eq_false_iff_not]
      omega
  · intro e he
    obtain ⟨i, x, hi, -, rfl⟩ := mem_movedRecs.mp he
    dsimp only
    omega

/-- In its destination stand the records of its source. -/
theorem Dev.tget?_copyRecs (d : Dev) (t src dst : Nat) {n i : Nat} (len : Nat) (hs : d.index.Pairwise (fun a b => a.1 < b.1)) (hi : i < n) :
    tget? (d.copyRecs t src dst n len).index (t * 2 ^ 24 + (dst + i)) =
      (tget? d.index (t * 2 ^ 24 + (src + i))).bind fun x => stored (padTo x len) := by
  rw [Dev.copyRecs_eq]
  cases hx : tget? d.index (t * 2 ^ 24 + (src + i)) with
  | some x =>
    have hmem : (dst + i, padTo x len) ∈ movedRecs d.index (t * 2 ^ 24) src dst n len :=
      mem_movedRecs.mpr ⟨i, x, hi, mem_of_tget? hx, rfl⟩
    exact Dev.tget?_setRecs_of_mem _ (movedRecs_sorted hs _ _ dst n len) hmem
  | none =>
    rw [Dev.tget?_setRecs_of_ne]
    · exact tget?_filter_none fun x => by
        simp only [Bool.not_eq_false', Bool.and_eq_true, decide_eq_true_eq]
        omega
    · intro e he heq
      obtain ⟨j, x, -, hmem, rfl⟩ := mem_movedRecs.mp he
      have hij : j = i := by dsimp only at heq; omega
      rw [hij] at hmem
      exact nomatch hx.symm.trans (tget?_of_mem hs hmem)

/-- The fields of a record copied are those of its source. -/
theorem Dev.leAt_record_copyRecs (d : Dev) (t src dst : Nat) {n i : Nat} (len : Nat) (hs : d.index.Pairwise (fun a b => a.1 < b.1))
    (hi : i < n) (m o w : Nat) : leAt ((d.copyRecs t src dst n len).record t (dst + i) m) o w = leAt (d.record t (src + i) m) o w := by
  have hcopy := d.tget?_copyRecs t src dst len hs hi
  cases hx : tget? d.index (t * 2 ^ 24 + (src + i)) with
  | some x =>
    rw [hx] at hcopy
    rw [Dev.leAt_record hcopy, leAt_padTo, Dev.record_eq hx, leAt_padTo]
    rfl
  | none =>
    rw [hx] at hcopy
    rw [Dev.record_eq hcopy, Dev.record_eq hx]
    rfl

/-! DISPATCH_COPY_COMPLETE (R176). -/

/-- The dispatch entries copied to the standby bank. -/
def Dev.dispatchCopied (d : Dev) : Dev := d.copyRecs 0x21 (dispIndex d.activeBank 0 0) (dispIndex d.standbyBank 0 0) 5120 2

/-- The ternary arrays copied to the standby bank. -/
def Dev.ternCopied (d : Dev) (a b : Nat) : Dev :=
  (List.range 32).foldl (fun d l => d.copyRecs 0x14 (ternIndex l a 0) (ternIndex l b 0) 2048 96) d

theorem copyComplete_eq {d : Dev} (k : Clock) (hc : d.rules.copying = true) (ho : d.oldResident = false) :
    copyComplete k d = (d.dispatchCopied.ternCopied d.activeBank d.standbyBank).onRules fun r => { r with copying := false } :=
  if_neg (by simp [hc, ho])

/-- The ternary arrays' copy leaves the rules and the dispatch entries. -/
theorem Dev.ternCopied_keeps (d : Dev) (a : Nat) {b : Nat} (hb : b < 2) : (d.ternCopied a b).rules = d.rules ∧
    ∀ k, 0x21 * 2 ^ 24 ≤ k → tget? (d.ternCopied a b).index k = tget? d.index k := by
  refine List.foldlRecOn (motive := fun e : Dev => e.rules = d.rules ∧ ∀ k, 0x21 * 2 ^ 24 ≤ k → tget? e.index k = tget? d.index k)
    (List.range 32) _ ⟨rfl, fun _ _ => rfl⟩ fun e ⟨hrules, hindex⟩ l hl =>
      ⟨(e.copyRecs_rules _ _ _ _ _).trans hrules, fun k hk => ?_⟩
  have hl32 := List.mem_range.mp hl
  exact (e.tget?_copyRecs_outside 96 (Or.inr (by simp only [ternIndex]; omega))).trans (hindex k hk)

theorem Dev.banks (d : Dev) : d.activeBank < 2 ∧ d.standbyBank < 2 ∧ d.activeBank ≠ d.standbyBank := by
  simp only [Dev.activeBank, Dev.standbyBank]
  omega

theorem dispIndex_eq (bank st op : Nat) : dispIndex bank st op = dispIndex bank 0 0 + (st * 256 + op) := by
  simp only [dispIndex]
  omega

section
variable {d : Dev} {st op : Nat} (hst : st < 20) (hop : op < 256)
include hst hop

theorem Dev.dispatchCopied_active :
    tget? d.dispatchCopied.index (0x21 * 2 ^ 24 + dispIndex d.activeBank st op) =
      tget? d.index (0x21 * 2 ^ 24 + dispIndex d.activeBank st op) := by
  obtain ⟨hactive, hstandby, hne⟩ := d.banks
  refine d.tget?_copyRecs_outside 2 ?_
  simp only [dispIndex]
  omega

theorem Dev.dispatchCopied_standby (hs : d.index.Pairwise (fun a b => a.1 < b.1)) :
    leAt (d.dispatchCopied.record 0x21 (dispIndex d.standbyBank st op) 2) 0 2 =
      leAt (d.record 0x21 (dispIndex d.activeBank st op) 2) 0 2 := by
  rw [dispIndex_eq d.standbyBank, dispIndex_eq d.activeBank]
  exact d.leAt_record_copyRecs 0x21 _ _ 2 hs (by omega) 2 0 2

theorem copyComplete_spec (k : Clock) (hc : d.rules.copying = true) (ho : d.oldResident = false)
    (hs : d.index.Pairwise (fun a b => a.1 < b.1)) :
    (copyComplete k d).rules = { d.rules with copying := false } ∧
      tget? (copyComplete k d).index (0x21 * 2 ^ 24 + dispIndex d.activeBank st op) =
        tget? d.index (0x21 * 2 ^ 24 + dispIndex d.activeBank st op) ∧
      leAt ((copyComplete k d).record 0x21 (dispIndex d.standbyBank st op) 2) 0 2 =
        leAt (d.record 0x21 (dispIndex d.activeBank st op) 2) 0 2 := by
  obtain ⟨hrules, hindex⟩ := d.dispatchCopied.ternCopied_keeps d.activeBank d.banks.2.1
  rw [copyComplete_eq k hc ho]
  generalize d.dispatchCopied.ternCopied d.activeBank d.standbyBank = b at hrules hindex
  refine ⟨?_, (hindex _ (Nat.le_add_right _ _)).trans (Dev.dispatchCopied_active hst hop), ?_⟩
  · rw [Dev.onRules, hrules, Dev.dispatchCopied, Dev.copyRecs_rules]
  · rw [← Dev.dispatchCopied_standby hst hop hs]
    exact congrArg (leAt · 0 2) (Dev.record_congr (hindex _ (Nat.le_add_right _ _)) 2)

end

/-! RULESET_SWAP_APPLY (R177). -/

theorem Dev.finish_rules (d : Dev) (k : Clock) (w : Wait) (rep : Rep) : (d.finish k w rep).rules = d.rules := by
  unfold Dev.finish
  dsimp only
  split
  · rfl
  · exact (congrArg Dev.rules (Dev.repliesTo_complete _ _ _ _ _ _ _).1).trans rfl

/-- Replies leave the rules. -/
@[simp] theorem Dev.finishAll_rules (d : Dev) (k : Clock) (p : WaitKind → Bool) (rep : Rep) : (d.finishAll k p rep).rules = d.rules :=
  List.foldlRecOn (motive := fun e : Dev => e.rules = d.rules) _ _ rfl fun e he w _ => (e.finish_rules k w rep).trans he

/-- A swap whose waiting commands ask for no generation is applied. -/
theorem Dev.applySwap_fresh {d : Dev} (k : Clock) (h : SwapHeld)
    (hw : ∀ w ∈ d.smi.waits, isSwap w.kind = true → w.req.genCheck = false) :
    (d.applySwap k h).1 = true ∧ (d.applySwap k h).2.rules = ⟨(d.rules.gen + 1) % 65536, none, h.copy⟩ := by
  have hfresh : d.smi.waits.any (fun w => isSwap w.kind && w.req.genCheck && w.req.expectGen.toNat != d.get F.GL_CONFIG_GEN) = false := by
    refine List.any_eq_false.mpr fun w hmem => ?_
    cases hk : isSwap w.kind with
    | false => simp
    | true => simp [hw w hmem hk]
  unfold Dev.applySwap
  dsimp only
  rw [if_neg (by simp [hfresh])]
  exact ⟨rfl, Dev.finishAll_rules _ _ _ _⟩

theorem swapLater_applied {d : Dev} (k : Clock) {h : SwapHeld} (hh : d.rules.held = some h) (hc : h.committed = true)
    (hb : d.standbyBusy = false) (hw : ∀ w ∈ d.smi.waits, isSwap w.kind = true → w.req.genCheck = false) :
    (swapLater k d).rules = ⟨(d.rules.gen + 1) % 65536, none, h.copy⟩ := by
  obtain ⟨hdone, hrules⟩ := Dev.applySwap_fresh k h hw
  have hswap : swapLater k d = (d.applySwap k h).2.bumpGen := by
    simp only [swapLater, hh, hc, hb, Bool.not_true, Bool.or_self, Bool.false_eq_true, if_false, hdone, if_true]
  rw [hswap, Dev.bumpGen_rules, hrules]

end Sys2Proof.Machine
end

section
/-! Proofs: what the admission of copies leaves of the records (R245, R250, R357). -/

namespace Sys2Proof.Machine
open Sys2Proof

/-- The records are spared. -/
theorem Dev.spared_index (x : Tab Bytes) : Dev.Spared fun d => d.index = x where
  tables := fun _ _ _ _ h => h
  report := fun _ _ hab h => hab.index_eq.trans h
  pool := fun _ _ _ h => h
  stomp := fun _ _ h => h

theorem Dev.index_foldl {β : Type} {g : Dev → β → Dev} (h : ∀ d x, (g d x).index = d.index) (l : List β) (d : Dev) :
    (l.foldl g d).index = d.index :=
  List.foldlRecOn (motive := fun e : Dev => e.index = d.index) l g rfl fun e he x _ => (h e x).trans he

@[simp] theorem Dev.setBit_index (d : Dev) (f : Fld) (n : Nat) : (d.setBit f n).index = d.index := rfl
@[simp] theorem Dev.setB_index (d : Dev) (f : Fld) (b : Bool) : (d.setB f b).index = d.index := rfl
@[simp] theorem Dev.setPort_index (d : Dev) (p : Nat) (x : Port) : (d.setPort p x).index = d.index := rfl
@[simp] theorem Dev.setQueue_index (d : Dev) (q : Nat) (l : List Copy) : (d.setQueue q l).index = d.index := rfl
@[simp] theorem Dev.setFrame_index (d : Dev) (fid : Nat) (f : Frame) : (d.setFrame fid f).index = d.index := rfl
@[simp] theorem Dev.perf_index (d : Dev) (b n : Nat) : (d.perf b n).index = d.index := (d.alike_perf b n).index_eq

theorem Dev.eventOf_index (d : Dev) (k : Clock) {b i : Nat} (u : Nat) (h : 16 * b + i < 1024) : (d.eventOf k b i u).index = d.index :=
  (d.alike_eventOf k b i u h).index_eq

/-! Refusal, WRED and acceptance. -/

@[simp] theorem Dev.countQueue_index (d : Dev) (q i n : Nat) : (d.countQueue q i n).index = d.index := by
  unfold Dev.countQueue
  dsimp only
  split <;> rfl

@[simp] theorem Dev.refuse_index (d : Dev) (q off : Nat) (c : Copy) : (d.refuse q off c).2.index = d.index := by
  simp [Dev.refuse]

@[simp] theorem Dev.enqueue_index (d : Dev) (q : Nat) (c : Copy) : (d.enqueue q c).2.index = d.index := by
  simp [Dev.enqueue]

@[simp] theorem Dev.wred_index (d : Dev) (q w : Nat) : (d.wred q w).2.index = d.index := by
  unfold Dev.wred
  dsimp only
  split
  · rfl
  · split <;> rfl

@[simp] theorem Dev.admitWred_index (d : Dev) (q : Nat) (c : Copy) : (d.admitWred q c).2.index = d.index := by
  unfold Dev.admitWred
  dsimp only
  split
  · simp
  · split
    · simp
    · split <;> simp
  · split
    · split <;> simp
    · simp

/-! Push-out and spill. -/

theorem Dev.tsqPut_index (d : Dev) (k : Clock) (l : Nat) (e : TsqEntry) : (d.tsqPut k l e).index = d.index := by
  unfold Dev.tsqPut
  dsimp only
  split
  · exact Dev.eventOf_index _ k 0 (by decide)
  · split
    · exact Dev.eventOf_index _ k 0 (by decide)
    · rfl

@[simp] theorem Dev.tsLost_index (d : Dev) (k : Clock) (q : Nat) (c : Copy) : (d.tsLost k q c).index = d.index := by
  have hlost : ∀ r : TsReq, (match r.tsId with
      | some id => if q / 8 < 512 then d.tsqDiscard k (q / 8) id else d
      | none => d).index = d.index := by
    intro r
    split
    · split
      · exact d.tsqPut_index k _ _
      · rfl
    · rfl
  unfold Dev.tsLost
  dsimp only
  split
  · exact hlost _
  · exact hlost _
  · rfl

@[simp] theorem Dev.dropCopy_index (d : Dev) (q : Nat) (c : Copy) : (d.dropCopy q c).index = d.index :=
  (Dev.spared_index d.index).dropCopy rfl q c

@[simp] theorem Dev.admitPool_index (d : Dev) (k : Clock) (q n : Nat) (c : Copy) : (d.admitPool k q n c).2.index = d.index := by
  unfold Dev.admitPool
  dsimp only
  generalize (if d.classHeld c.cls then _ else _ : Nat) = limit
  split
  · simp
  · split
    · split
      · simp
      · rw [Dev.admitWred_index]
        exact Dev.index_foldl (fun d v => by simp) _ d
    · simp

theorem Dev.nextChunk_index {d e : Dev} {c : Nat} (h : d.nextChunk = some (c, e)) : e.index = d.index := by
  unfold Dev.nextChunk at h
  dsimp only at h
  split at h
  · obtain ⟨x, -, hx⟩ := Option.map_eq_some_iff.mp h
    rw [← (Prod.mk.inj hx).2]
  · obtain ⟨x, -, hx⟩ := Option.map_eq_some_iff.mp h
    rw [← (Prod.mk.inj hx).2]

@[simp] theorem Dev.takeChunks_index (d : Dev) (n : Nat) : (d.takeChunks n).2.index = d.index := by
  induction n generalizing d with
  | zero => rfl
  | succ n ih =>
    unfold Dev.takeChunks
    split
    · rfl
    · rename_i hnext
      exact (ih _).trans (Dev.nextChunk_index hnext)

@[simp] theorem Dev.admitCopy_index (d : Dev) (k : Clock) (q n : Nat) (only : Bool) (c : Copy) :
    (d.admitCopy k q n only c).2.index = d.index := by
  unfold Dev.admitCopy
  dsimp only
  split
  · simp
  split
  · rw [Dev.refuse_index, Dev.eventOf_index _ k 6 (by decide), Dev.setBit_index]
  split
  · simp
  split
  · simp
  have hover : ∀ b : Bool,
      (if b = true then ((d.count (cGlobal 33) 0).setBit F.BM_STICKY 6).eventOf k 33 6 7 else d).index = d.index := by
    intro b
    split
    · rw [Dev.eventOf_index _ k 7 (by decide), Dev.setBit_index, Dev.count_index]
    · rfl
  split
  · rw [Dev.refuse_index, hover]
  · rw [Dev.admitPool_index, hover]

/-! A port that wakes for a frame (R136). -/

theorem Dev.planAtLeast_index (d : Dev) (mv : Nat) : (d.planAtLeast mv).index = d.index :=
  Dev.index_foldl (fun d i => by split <;> rfl) _ d

theorem Dev.raiseTo_index (d : Dev) (mv : Nat) : (d.raiseTo mv).index = d.index := by
  unfold Dev.raiseTo
  split <;> rfl

theorem Dev.lightVolt_index (d : Dev) (p : Nat) (byConfig : Bool) : (d.lightVolt p byConfig).index = d.index := by
  unfold Dev.lightVolt
  split
  · rfl
  · dsimp only
    split
    · rw [Dev.setPort_index, Dev.raiseTo_index, Dev.planAtLeast_index]
    · rw [Dev.raiseTo_index, Dev.planAtLeast_index]

@[simp] theorem Dev.wakeRest_index (d : Dev) (p : Nat) : (d.wakeRest p).index = d.index := by
  unfold Dev.wakeRest
  split
  · exact Dev.lightVolt_index _ p false
  · rfl

/-! The copies of a frame. -/

@[simp] theorem Dev.admitAll_index (d : Dev) (k : Clock) (fid : Nat) (cs : List (Nat × Copy)) :
    (d.admitAll k fid cs).2.2.index = d.index := by
  unfold Dev.admitAll
  split
  · rfl
  · refine List.foldlRecOn (motive := fun acc : Nat × Admit × Dev => acc.2.2.index = d.index) cs _ rfl fun acc hacc e _ => ?_
    dsimp only
    split <;> simp [hacc]

@[simp] theorem Dev.admitStream_index (d : Dev) (k : Clock) (q : StreamReq) (fwd : List (Nat × Copy)) :
    (d.admitStream k q fwd).index = d.index :=
  ((Dev.spared_index _).settle rfl k q.fid _ q.extra).trans (d.admitAll_index k q.fid _)

@[simp] theorem Dev.beaconCopies_index (d : Dev) (ports : List Nat) (c : Copy) : (d.beaconCopies ports c).2.index = d.index := by
  refine List.foldlRecOn (motive := fun acc : List (Nat × Copy) × Dev => acc.2.index = d.index) ports _ rfl fun acc hacc p _ => ?_
  dsimp only [Dev.toPort]
  split
  · exact hacc
  · split <;> exact hacc

@[simp] theorem Dev.countStream_index (d : Dev) (s len : Nat) (cs : List (Nat × Nat)) : (d.countStream s len cs).index = d.index := by
  refine Dev.index_foldl (fun d c => ?_) cs d
  exact Dev.index_foldl (fun e _ => e.count_index (cStream s c.1) len) (List.range c.2) d

end Sys2Proof.Machine
end

section
/-! Proofs: stream requests (R352, R355, R356). -/

namespace Sys2Proof.Machine
open Sys2Proof

/-! The entry that recovery leaves. -/

theorem recover_length (r : Bytes) (now seq : Nat) : (recover r now seq).entry.length = r.length := by
  unfold recover
  dsimp only
  split
  · simp
  split
  · split <;> simp
  split
  · rfl
  split
  · split <;> simp
  · simp

theorem leAt_one (b : Bytes) (o : Nat) : leAt b o 1 = (byteAt b o).toNat := by
  rw [leAt, sliceZ_eq_map]
  simp [leNat]

/-- Of an entry's flags recovery changes RESET alone, which it clears. -/
theorem recover_flags {r : Bytes} (hlen : 17 < r.length) (now seq : Nat) :
    leAt (recover r now seq).entry 17 1 = leAt r 17 1 - 64 * b2n (stFlag r 6) := by
  have hother := fun (r : Bytes) {o w : Nat} (v : Nat) (h : 18 ≤ o ∨ o + w ≤ 17) =>
    leAt_putLE_of_disjoint r (o := o) (w := w) (o' := 17) (w' := 1) v (by omega)
  have hbyte : leAt r 17 1 < 256 := leAt_one r 17 ▸ (byteAt r 17).isLt
  unfold recover
  dsimp only
  split
  · rw [hother _ _ (by decide), leAt_putLE_self _ (by simp; omega)]
    exact Nat.mod_eq_of_lt (Nat.lt_of_le_of_lt (Nat.sub_le _ _) hbyte)
  · rename_i hkeep
    have hreset : stFlag r 6 = false := (Bool.or_eq_false_iff.mp (Bool.eq_false_of_not_eq_true hkeep)).1
    rw [hreset, b2n, if_neg Bool.false_ne_true, Nat.mul_zero, Nat.sub_zero]
    split
    · split
      · rfl
      · rw [hother _ _ (by decide), hother _ _ (by decide)]
    · split
      · rfl
      · split
        · split
          · rfl
          · rw [hother _ _ (by decide), hother _ _ (by decide)]
        · rw [hother _ _ (by decide), hother _ _ (by decide), hother _ _ (by decide)]

theorem recover_valid {r : Bytes} (hlen : 17 < r.length) (hv : stFlag r 0 = true) (now seq : Nat) :
    stFlag (recover r now seq).entry 0 = true := by
  rw [stFlag, recover_flags hlen]
  cases hreset : stFlag r 6 with
  | false => exact hv
  | true =>
    simp only [stFlag, bit, beq_iff_eq, b2n, if_true] at hreset hv ⊢
    omega

/-- A valid entry is not all zeros. -/
theorem stored_of_stFlag {r : Bytes} {n : Nat} (h : stFlag r n = true) : stored r = some r := by
  refine if_neg fun hz => ?_
  rw [eq_replicate_of_zeros hz, stFlag, leAt_padTo] at h
  simp [bit, leAt, sliceZ, leNat] at h

/-! STREAM_REQUEST_APPLY. -/

theorem Dev.le_length_stream (d : Dev) (s : Nat) : 32 ≤ (d.stream s).length := le_length_padTo _ 32

/-- Taking the next request leaves the frames and the entries. -/
theorem Dev.nextStream_keeps {d n : Dev} {q : StreamReq} (h : d.nextStream = some (q, n)) :
    n.frame? = d.frame? ∧ n.streamValid = d.streamValid ∧ n.stream = d.stream := by
  unfold Dev.nextStream at h
  dsimp only at h
  split at h
  · cases h
  · obtain ⟨-, rfl⟩ := Prod.mk.inj (Option.some.inj h)
    exact ⟨rfl, rfl, rfl⟩
  · obtain ⟨-, rfl⟩ := Prod.mk.inj (Option.some.inj h)
    exact ⟨rfl, rfl, rfl⟩
  · split at h
    all_goals
      obtain ⟨-, rfl⟩ := Prod.mk.inj (Option.some.inj h)
      exact ⟨rfl, rfl, rfl⟩

theorem Dev.tget?_setStream (d : Dev) (s : Nat) (r : Bytes) : tget? (d.setStream s r).index (0x09 * 2 ^ 24 + s) = stored r :=
  d.tget?_setRec_self 0x09 s r

section
variable {d : Dev} (k : Clock) {q : StreamReq} {f : Frame} (hf : d.frame? q.fid = some f) (hv : d.streamValid q.stream = true)
include hf hv

/-- A generating stream's entry holds the number after the one taken. -/
theorem Dev.streamApply_generates (hgen : stFlag (d.stream q.stream) 1 = true) :
    leAt ((d.streamApply k q).stream q.stream) 0 2 = (leAt (d.stream q.stream) 0 2 + 1) % 65536 := by
  have hindex : tget? (d.streamApply k q).index (0x09 * 2 ^ 24 + q.stream) =
      stored (putLE (d.stream q.stream) 0 2 ((leAt (d.stream q.stream) 0 2 + 1) % 65536)) := by
    rw [← d.tget?_setStream q.stream]
    unfold Dev.streamApply
    simp only [hf, hv, hgen, Bool.not_true, Bool.false_eq_true, if_false, if_true, Dev.admitStream_index, Dev.beaconCopies_index,
      Dev.setFrame_index]
  rw [Dev.stream, Dev.leAt_record hindex, leAt_putLE_self _ (by have := d.le_length_stream q.stream; omega)]
  exact Nat.mod_mod _ _

/-- Another stream's entry is what recovery makes of it. -/
theorem Dev.streamApply_recovers {seq : Nat} (hrec : stFlag (d.stream q.stream) 1 = false) (hseq : rtagSeq f.bytes = some seq) :
    (d.streamApply k q).stream q.stream = (recover (d.stream q.stream) k.us seq).entry := by
  have hlen := d.le_length_stream q.stream
  have hvalid : stFlag (d.stream q.stream) 0 = true := by
    simp only [Dev.streamValid, Bool.and_eq_true] at hv
    exact hv.1.1
  have hindex : tget? (d.streamApply k q).index (0x09 * 2 ^ 24 + q.stream) =
      some (recover (d.stream q.stream) k.us seq).entry := by
    rw [← stored_of_stFlag (recover_valid (by omega) hvalid k.us seq), ← d.tget?_setStream q.stream]
    unfold Dev.streamApply
    simp only [hf, hv, hrec, hseq, Bool.not_true, Bool.false_eq_true, if_false]
    split <;> simp only [Dev.admitStream_index, Dev.beaconCopies_index, Dev.countStream_index]
  rw [Dev.stream, Dev.record_eq hindex]
  exact padTo_of_le (by rw [Option.getD_some, recover_length]; exact hlen)

end

/-! POOL_SLOT_RELEASE and COMPARE_CONFIRM (R218, R222). -/

theorem poolRelease_found {d : Dev} (k : Clock) {g : Nat} {p : Nat × Nat × Nat} (h : d.tbl.released.find? (fun r => r.1 == g) = some p) :
    poolRelease g k d = { d with tbl := { d.tbl with released := d.tbl.released.erase p } } := by
  simp only [poolRelease, h]
  rfl

section
variable {m : Mach} {x : Diff} {rest : List Diff} {sh : Shadow} (hd : m.dev.tbl.diffs = x :: rest)
  (hs : m.dev.tbl.shadows.find? (fun y => y.table == x.table && y.lantern == x.lantern) = some sh) (hloc : sh.loc = 0)
include hd hs hloc

/-- A difference in host memory that is gone is forgotten. -/
theorem compareConfirm_gone : compareConfirm false m = m.setDev { m.dev with tbl := { m.dev.tbl with diffs := rest } } := by
  simp [compareConfirm, hd, hs, hloc, Dev.onTbl]

/-- One that is still there is reported. -/
theorem compareConfirm_still : ∃ b : Dev, compareConfirm true m = m.setDev b ∧ b.tbl = { m.dev.tbl with diffs := rest } ∧
    b.get F.BUSHEL_STICKY_COMPARE_DIFF = 1 := by
  refine ⟨((({ m.dev with tbl := { m.dev.tbl with diffs := rest } } : Dev).count (cGlobal 13) 0).setB F.BUSHEL_STICKY_COMPARE_DIFF
    true).eventData m.clk 519 0 (flcEntry x.table x.lantern x.slot) (x.table % 256 + x.slot % 2 ^ 24 * 256), ?_, ?_, ?_⟩
  · simp [compareConfirm, hd, hs, hloc, Dev.onTbl]
  · exact (Dev.alike_eventData _ m.clk 519 0 _ _ (by decide)).tbl_eq
  · rw [(Dev.alike_eventData _ m.clk 519 0 _ _ (by decide)).get_eq _ (by decide)]
    exact Dev.get_set_self _ _ _

end

end Sys2Proof.Machine
end

section
/-! Proofs: the serialised works together. -/

namespace Sys2Proof.Machine
open Sys2Proof

/-- Once POR_N is released, a command on the machine ends with the device that its effect leaves. -/
theorem ends_onMach {c : Instr} {s : State} {f : Mach → Mach} {b : Dev} {p : Dev → Prop} (hc : exec c s = onMach f s)
    (h : s.m.dev.boot.porN = true) (hf : f s.m = s.m.setDev b) (hp : p b) : ends c s p :=
  ⟨b, by rw [hc, onMach_run f h, hf], hp⟩

/-- Settles O48: each work by what its unit holds. A stream request's entry stands as written, since the admission of its copies
leaves the records; the copy to the standby bank is followed by the keys of the records moved. -/
theorem serialisedWork : Obligations.SerialisedWork := by
  unfold Obligations.SerialisedWork
  intro s q n f x rest sh g st op seq p h d k hp
  refine ⟨fun hnone => ends_onDev rfl hp ?_, fun hnext hf hv => ?_, fun hd hs hloc => ?_, fun hfound => ?_, fun hh hc hb hw => ?_,
    fun hc ho hs hst hop => ?_⟩
  · simp only [streamRequest, Dev.streamTurn]
    rw [hnone]
    rfl
  · have hturn : streamRequest false k d = n.streamApply k q := by simp [streamRequest, Dev.streamTurn, hnext]
    obtain ⟨hframe, hvalid, hstream⟩ := Dev.nextStream_keeps hnext
    rw [← hframe] at hf
    rw [← hvalid] at hv
    rw [← hstream]
    exact ⟨fun hgen => ends_onDev rfl hp (hturn ▸ Dev.streamApply_generates k hf hv hgen),
      fun hrec hseq => ends_onDev rfl hp (hturn ▸ Dev.streamApply_recovers k hf hv hrec hseq)⟩
  · obtain ⟨b, hstill, hafter⟩ := compareConfirm_still hd hs hloc
    exact ⟨ends_onMach rfl hp (compareConfirm_gone hd hs hloc) rfl, ends_onMach rfl hp hstill hafter⟩
  · exact ends_onDev rfl hp (poolRelease_found k hfound)
  · exact ends_onDev rfl hp (swapLater_applied k hh hc hb hw)
  · exact ends_onDev rfl hp (copyComplete_spec hst hop k hc ho hs)

end Sys2Proof.Machine
end

section
/-! Proofs: the Bushel's hashed tables. What a change of entries leaves, and where an entry written stands (R190 to R192). -/

namespace Sys2Proof.Machine
open Sys2Proof

/-! What leaves the tables as they are. -/

@[simp] theorem Dev.perf_tbl (d : Dev) (b n : Nat) : (d.perf b n).tbl = d.tbl := (d.alike_perf b n).tbl_eq

theorem Dev.event_tbl (d : Dev) (k : Clock) {n : Nat} (c : Nat) (h : n < 1024) : (d.event k n c).tbl = d.tbl :=
  (d.alike_event k n c h).tbl_eq

@[simp] theorem Dev.onTbl_tbl (d : Dev) (f : Tables → Tables) : (d.onTbl f).tbl = f d.tbl := rfl

theorem Dev.noSpace_tbl (d : Dev) (k : Clock) (reason : Nat) : (d.noSpace k reason).tbl = d.tbl := by
  unfold Dev.noSpace
  split
  · exact d.event_tbl k _ (by decide)
  split
  · exact d.event_tbl k _ (by decide)
  · exact Dev.event_tbl _ k _ (by decide)

/-! Reading the entries. -/

theorem Dev.ents_congr {a b : Dev} (h : b.tbl.hash = a.tbl.hash) (t : Nat) : b.ents t = a.ents t := by rw [Dev.ents, Dev.ents, h]

theorem Dev.slotDead_congr {a b : Dev} (hpoison : b.tbl.poison = a.tbl.poison) (h : HSpec) (slot : Nat) :
    b.slotDead h slot = a.slotDead h slot := by simp only [Dev.slotDead, Dev.rowDead, Dev.rowBadIn, hpoison]

theorem Dev.findKey_congr {a b : Dev} (hhash : b.tbl.hash = a.tbl.hash) (hpoison : b.tbl.poison = a.tbl.poison) (h : HSpec)
    (key : Bytes) : b.findKey h key = a.findKey h key := by
  simp only [Dev.findKey, Dev.slotDead_congr hpoison, Dev.ents_congr hhash]

@[simp] theorem Dev.ents_setEnts (d : Dev) (t : Nat) (es : Tab Ent) : (d.setEnts t es).ents t = es := tgetD_tput_self _ t [] es

/-- An entry written stands at its slot, and every other slot of the table is as it was. -/
theorem Dev.tget?_ents_tset {a b : Dev} {t i : Nat} {e : Ent} (h : b.tbl.hash = (a.setEnts t (tset (a.ents t) i e)).tbl.hash) :
    tget? (b.ents t) i = some e ∧ ∀ j, j ≠ i → tget? (b.ents t) j = tget? (a.ents t) j := by
  rw [Dev.ents_congr h, Dev.ents_setEnts]
  exact ⟨tget?_tset_self _ i e, fun j hj => tget?_tset_of_ne _ e hj⟩

theorem Dev.putEnt_tbl (d : Dev) (h : HSpec) (i : Nat) (e : Ent) :
    (d.putEnt h i e).tbl = (d.setEnts h.id (tset (d.ents h.id) i e)).tbl := by rw [Dev.putEnt, Dev.perf_tbl, Dev.spend_tbl]

theorem Dev.tget?_ents_putEnt (d : Dev) (h : HSpec) (i : Nat) (e : Ent) :
    tget? ((d.putEnt h i e).ents h.id) i = some e ∧ ∀ j, j ≠ i → tget? ((d.putEnt h i e).ents h.id) j = tget? (d.ents h.id) j :=
  Dev.tget?_ents_tset (congrArg Tables.hash (d.putEnt_tbl h i e))

theorem Dev.delEnt_tbl (d : Dev) (h : HSpec) (i : Nat) :
    (d.delEnt h i).tbl = (d.setEnts h.id (tdel (d.ents h.id) i)).tbl := by rw [Dev.delEnt, Dev.perf_tbl, Dev.spend_tbl]

/-! Placing and removing. -/

/-- Of the tables' state, b may differ from a in the entries, the poisoned rows and the span entries alone. -/
def Dev.restocked (a b : Dev) : Prop :=
  b.tbl = { a.tbl with hash := b.tbl.hash, poison := b.tbl.poison, span := b.tbl.span }

theorem Dev.restocked_refl (a : Dev) : a.restocked a := rfl

theorem Dev.restocked.trans {a b c : Dev} (h : a.restocked b) (g : b.restocked c) : a.restocked c := by
  unfold Dev.restocked at g
  rw [h] at g
  exact g

theorem Dev.restocked.keeps {a b : Dev} (h : a.restocked b) : b.tbl.learnE = a.tbl.learnE ∧ b.tbl.learnW = a.tbl.learnW ∧
    b.tbl.sweep = a.tbl.sweep ∧ b.tbl.owed = a.tbl.owed := by
  rw [h]
  exact ⟨rfl, rfl, rfl, rfl⟩

theorem Dev.restocked_putEnt (d : Dev) (h : HSpec) (i : Nat) (e : Ent) : d.restocked (d.putEnt h i e) := by
  rw [Dev.restocked, d.putEnt_tbl]
  rfl

theorem Dev.restocked_delEnt (d : Dev) (h : HSpec) (i : Nat) : d.restocked (d.delEnt h i) := by
  rw [Dev.restocked, d.delEnt_tbl]
  rfl

theorem Dev.restocked_foldl {β : Type} {g : Dev → β → Dev} (hg : ∀ d x, Dev.restocked d (g d x)) (l : List β) (d : Dev) :
    d.restocked (l.foldl g d) :=
  List.foldlRecOn (motive := d.restocked) l g d.restocked_refl fun e he x _ => he.trans (hg e x)

theorem Dev.restocked_relocate (d : Dev) (h : HSpec) (m : Nat × Nat) : d.restocked (d.relocate h m) := by
  unfold Dev.relocate
  split
  · exact d.restocked_refl
  · exact (d.restocked_putEnt h _ _).trans (Dev.restocked_delEnt _ h _)

theorem Dev.restocked_unstash (d : Dev) (h : HSpec) : d.restocked (d.unstash h) := by
  refine Dev.restocked_foldl (fun d e => ?_) _ d
  split
  · exact d.restocked_refl
  split
  · exact (d.restocked_putEnt h _ _).trans (Dev.restocked_delEnt _ h _)
  · exact d.restocked_refl

theorem Dev.restocked_clearPoison (d : Dev) (h : HSpec) (row : Nat) : d.restocked (d.clearPoison h row) := by
  unfold Dev.clearPoison
  split
  · rfl
  · exact d.restocked_refl

theorem Dev.restocked_remove (d : Dev) (h : HSpec) (slot : Nat) (e : Ent) : d.restocked (d.remove h slot e) := by
  unfold Dev.remove
  dsimp only
  refine Dev.restocked.trans ?_ (Dev.restocked_unstash _ h)
  have hdel : ∀ (route v6 : Bool) (vrf : Nat) (x : Span),
      d.restocked ((if route then d.setSpan v6 vrf x else d).delEnt h slot) := by
    intro route v6 vrf x
    refine Dev.restocked.trans ?_ (Dev.restocked_delEnt _ h slot)
    split <;> rfl
  split
  · exact (hdel _ _ _ _).trans (Dev.restocked_clearPoison _ h _)
  · exact hdel _ _ _ _

/-- A new key placed stands at the slot given: it is written last, after what relocations it takes (R191). -/
theorem Dev.place_ok {d b : Dev} {h : HSpec} {e : Ent} {i : Nat} (hp : d.place h e = .ok (i, b)) :
    tget? (b.ents h.id) i = some e ∧ d.restocked b := by
  have hwritten : ∀ {c : Dev} {s : Nat}, d.restocked c → (Except.ok (s, c.putEnt h s e) : Except Nat (Nat × Dev)) = .ok (i, b) →
      tget? (b.ents h.id) i = some e ∧ d.restocked b := by
    rintro c s hc ⟨⟩
    exact ⟨(c.tget?_ents_putEnt h i e).1, hc.trans (c.restocked_putEnt h i e)⟩
  unfold Dev.place at hp
  dsimp only at hp
  split at hp
  · cases hp
  split at hp
  · exact hwritten d.restocked_refl hp
  split at hp
  · exact hwritten (Dev.restocked_foldl (fun d m => d.restocked_relocate h m) _ d) hp
  split at hp
  · exact hwritten d.restocked_refl hp
  · cases hp

end Sys2Proof.Machine
end

section
/-! Proofs: changes of the Bushel's tables by command (R201, R207, R220, R436). -/

namespace Sys2Proof.Machine
open Sys2Proof

/-! An entry that is no default, inserted or deleted. -/

section
variable {d : Dev} {h : HSpec} {r : Bytes} {own : Bool} {i : Nat} {e : Ent} (hkeyed : isRoute h.id = true → recLen h.id r ≠ 0)
include hkeyed

theorem recDefault_eq_false : (isRoute h.id && decide (recLen h.id r = 0)) = false := by simpa using hkeyed

theorem Dev.tabInsert_locked (k : Clock) (hf : d.findKey h (recKey h.id r) = some (i, e)) (hlock : e.lock = true) (hown : own = false) :
    d.tabInsert k h r own = (.locked, d) := by
  simp [Dev.tabInsert, recDefault_eq_false hkeyed, recEnt, hf, hlock, hown]

theorem Dev.tabInsert_replaces (k : Clock) (hf : d.findKey h (recKey h.id r) = some (i, e)) (hfree : e.lock = false ∨ own = true) :
    d.tabInsert k h r own = (.ok i true, d.putEnt h i { e with
      data := (recEnt h.id r).data, static := (recEnt h.id r).static, lock := (recEnt h.id r).lock, opsel := (recEnt h.id r).opsel }) := by
  have hfree : (e.lock && !own) = false := by rcases hfree with hl | ho <;> simp [*]
  simp [Dev.tabInsert, recDefault_eq_false hkeyed, recEnt, hf, hfree]

/-- A new key is placed, or refused for want of space. -/
theorem Dev.tabInsert_new (k : Clock) (hf : d.findKey h (recKey h.id r) = none) :
    (∃ i b, d.tabInsert k h r own = (.ok i false, b) ∧ tget? (b.ents h.id) i = some (recEnt h.id r)) ∨
      ∃ reason, d.tabInsert k h r own = (.noSpace reason, d.noSpace k reason) := by
  have hf : d.findKey h (recEnt h.id r).key = none := hf
  unfold Dev.tabInsert
  simp only [recDefault_eq_false hkeyed, Bool.false_eq_true, if_false, hf]
  split
  · exact .inr ⟨_, rfl⟩
  · split
    · exact .inr ⟨_, rfl⟩
    · rename_i hplace
      refine .inl ⟨_, _, rfl, ?_⟩
      split
      · exact (Dev.place_ok hplace).1
      · exact (Dev.place_ok hplace).1

theorem Dev.tabDelete_locked (hp : (d.purge h (recKey h.id r)).1 = []) (hf : d.findKey h (recKey h.id r) = some (i, e))
    (hlock : e.lock = true) (hown : own = false) : d.tabDelete h r own = (.locked, d) := by
  obtain ⟨_, hp⟩ : ∃ b, d.purge h (recKey h.id r) = ([], b) := ⟨_, Prod.ext hp rfl⟩
  simp [Dev.tabDelete, recDefault_eq_false hkeyed, hp, hf, hlock, hown]

theorem Dev.tabDelete_removes (hp : (d.purge h (recKey h.id r)).1 = []) (hf : d.findKey h (recKey h.id r) = some (i, e))
    (hfree : e.lock = false ∨ own = true) : d.tabDelete h r own = (.ok i true, d.remove h i e) := by
  have hfree : (e.lock && !own) = false := by rcases hfree with hl | ho <;> simp [*]
  obtain ⟨_, hp⟩ : ∃ b, d.purge h (recKey h.id r) = ([], b) := ⟨_, Prod.ext hp rfl⟩
  simp [Dev.tabDelete, recDefault_eq_false hkeyed, hp, hf, hfree]

theorem Dev.tabDelete_absent (hp : (d.purge h (recKey h.id r)).1 = []) (hf : d.findKey h (recKey h.id r) = none) :
    d.tabDelete h r own = (.notFound, d) := by
  obtain ⟨_, hp⟩ : ∃ b, d.purge h (recKey h.id r) = ([], b) := ⟨_, Prod.ext hp rfl⟩
  simp [Dev.tabDelete, recDefault_eq_false hkeyed, hp, hf]

end

/-! The commands. -/

/-- The device at a command's turn of the serialiser: stream requests that wait have gone before it (R201). -/
def Mach.atTurn (m : Mach) : Dev := (m.dev.streamsFirst m.clk).setTurn 2

section
variable {q : Req} {m : Mach} {h : HSpec} (hh : hspec? (q.u 0 2) = some h)
include hh

theorem serialised_eq (f : HSpec → Dev → TabOut × Dev) : serialised m f q = ((f h m.atTurn).1, m.setDev (f h m.atTurn).2) := by
  simp only [serialised, hh]
  rfl

theorem tableInsert_eq {o : TabOut} {b : Dev}
    (hi : m.atTurn.tabInsert m.clk h (sliceZ q.params 4 (recSize h.id)) (q.flagAt 2 0) = (o, b)) :
    tableInsert q m = .done (m.setDev b) o.rep := by
  simp only [tableInsert, serialised_eq hh, hi]

section
variable {o : TabOut} {b : Dev}
  (hd : m.atTurn.tabDelete h (sliceZ q.params 4 (recSize h.id)) (q.flagAt 2 0) = (o, b))
include hd

theorem tableDelete_done {i : Nat} {x : Bool} (ho : o = .ok i x) : tableDelete q m = .done (m.setDev b) ⟨stOk, 0, i⟩ := by
  simp only [tableDelete, serialised_eq hh, hd, ho]

theorem tableDelete_refused (ho : ∀ i x, o ≠ .ok i x) : tableDelete q m = .done (m.setDev b) o.rep := by
  simp only [tableDelete, serialised_eq hh, hd]

end

theorem tableLock_found {i : Nat} {e : Ent} (hf : m.atTurn.findKey h (recKey h.id (sliceZ q.params 4 (recSize h.id))) = some (i, e)) :
    tableLock q m = .done (m.setDev (m.atTurn.putEnt h i { e with lock := q.flagAt 2 0 })) Rep.ok := by
  simp only [tableLock, serialised_eq hh, hf]

theorem tableLock_absent (hf : m.atTurn.findKey h (recKey h.id (sliceZ q.params 4 (recSize h.id))) = none) :
    tableLock q m = .done (m.setDev m.atTurn) ⟨stNotFound, 0, 0⟩ := by
  simp only [tableLock, serialised_eq hh, hf]
  rfl

end

/-- Settles O28: each command by what its key finds once the stream requests are done. -/
theorem tableChanges : Obligations.TableChanges := by
  unfold Obligations.TableChanges
  intro q s h hh k r own hkeyed
  refine ⟨fun hr hc => ⟨fun i e hf hlock hown => ?_, fun i e hf hfree => ?_, fun hf => ?_⟩,
    fun hr hc hpurge => ⟨fun i e hf hlock hown => ?_, fun i e hf hfree => ?_, fun hf => ?_⟩,
    fun hr hc => ⟨fun i e hf => ?_, fun hf => ?_⟩⟩
  · exact answers_smiem rfl hr hc (tableInsert_eq hh (Dev.tabInsert_locked hkeyed k hf hlock hown)) ⟨rfl, rfl⟩
  · exact answers_smiem rfl hr hc (tableInsert_eq hh (Dev.tabInsert_replaces hkeyed k hf hfree))
      ⟨rfl, rfl, Dev.tget?_ents_putEnt _ h i _⟩
  · rcases Dev.tabInsert_new hkeyed (own := own) k hf with ⟨i, b, hins, hent⟩ | ⟨reason, hins⟩
    · exact answers_smiem rfl hr hc (tableInsert_eq hh hins) (.inl ⟨i, rfl, hent⟩)
    · exact answers_smiem rfl hr hc (tableInsert_eq hh hins) (.inr ⟨reason, rfl, congrArg Tables.hash (Dev.noSpace_tbl _ k reason)⟩)
  · exact answers_smiem rfl hr hc (tableDelete_refused hh (Dev.tabDelete_locked hkeyed hpurge hf hlock hown) nofun) ⟨rfl, rfl⟩
  · exact answers_smiem rfl hr hc (tableDelete_done hh (Dev.tabDelete_removes hkeyed hpurge hf hfree) rfl) ⟨rfl, rfl⟩
  · exact answers_smiem rfl hr hc (tableDelete_refused hh (Dev.tabDelete_absent hkeyed hpurge hf) nofun) ⟨rfl, rfl⟩
  · exact answers_smiem rfl hr hc (tableLock_found hh hf) ⟨rfl, rfl, Dev.tget?_ents_putEnt _ h i _⟩
  · exact answers_smiem rfl hr hc (tableLock_absent hh hf) ⟨rfl, rfl⟩

end Sys2Proof.Machine
end

section
/-! Proofs: reads, bulk writes and shadows of the Bushel's tables (R220, R221, R429, R436). -/

namespace Sys2Proof.Machine
open Sys2Proof

/-! TABLE_LOOKUP. -/

theorem recSize_of_hspec {t : Nat} {h : HSpec} (hh : hspec? t = some h) : h.id = t ∧ 0 < recSize h.id := by
  have hall : ∀ x ∈ hspecs, 0 < recSize x.id := by decide
  unfold hspec? at hh
  exact ⟨beq_iff_eq.mp (List.find?_some hh :), hall h (List.mem_of_find?_eq_some hh)⟩

/-- A record that fits is written. -/
theorem Dev.bufWrite_one (d : Dev) (addr : Nat) {len size : Nat} (b : Bytes) (hpos : 0 < size) (hfit : size ≤ len) :
    d.bufWrite addr len size [b] = (1, d.emit (.hostWrite addr b)) := by
  have hn : min 1 (len / size) = 1 := Nat.min_eq_left (Nat.div_pos hfit hpos)
  simp [Dev.bufWrite, hn]

section
variable {q : Req} {m : Mach} {h : HSpec} (hh : hspec? (q.u 0 2) = some h)
  (hkeyed : isRoute h.id = true → recLen h.id (sliceZ q.params 16 (recSize h.id)) ≠ 0) {bad : Bool} {d : Dev}
include hh hkeyed

theorem tableLookup_absent (hr : m.dev.hashRead m.clk (q.flagAt 2 0) h
      (recKey h.id (sliceZ q.params 16 (recSize h.id))) .clean .clean = (bad, none, d)) :
    tableLookup q m = .done (m.setDev d) ⟨stNotFound, 0, 0⟩ := by
  obtain ⟨hid, -⟩ := recSize_of_hspec hh
  have hdefault := recDefault_eq_false hkeyed
  rw [hid] at hdefault hr
  simp only [tableLookup, hh, hdefault, Bool.false_eq_true, if_false, hr]

theorem tableLookup_found {i : Nat} {e : Ent} (hr : m.dev.hashRead m.clk (q.flagAt 2 0) h
      (recKey h.id (sliceZ q.params 16 (recSize h.id))) .clean .clean = (bad, some (i, e), d))
    (hfit : recSize h.id ≤ q.u 12 4) :
    tableLookup q m = .done (m.setDev (d.emit (.hostWrite (q.u 4 8) (entRec h.id e)))) ⟨stOk, 0, i⟩ := by
  obtain ⟨hid, hpos⟩ := recSize_of_hspec hh
  have hwrite := d.bufWrite_one (q.u 4 8) (entRec h.id e) hpos hfit
  have hdefault := recDefault_eq_false hkeyed
  rw [hid] at hdefault hr hwrite
  simp only [tableLookup, hh, hdefault, Bool.false_eq_true, if_false, hr, hwrite, hid]
  rfl

end

/-! SHADOW_BIND. -/

/-- Is a shadow that of the table a packet names. -/
def Shadow.namedBy (q : Req) (x : Shadow) : Bool := x.table == q.u 0 2 && x.lantern == q.u 3 1

/-- The shadow a packet binds. -/
def Shadow.boundBy (q : Req) : Shadow := ⟨q.u 0 2, q.u 3 1, q.u 4 1, q.u 8 8⟩

/-- Shadows after a SHADOW_BIND. -/
def rebound (q : Req) (l : List Shadow) : List Shadow :=
  if q.flagAt 2 0 then l.filter (fun x => !x.namedBy q) else l.filter (fun x => !x.namedBy q) ++ [Shadow.boundBy q]

def Dev.rebind (d : Dev) (q : Req) : Dev := { d with tbl := { d.tbl with shadows := rebound q d.tbl.shadows } }

theorem shadowBind_eq (q : Req) (k : Clock) (d : Dev) : shadowBind q k d = (d.rebind q, ⟨0, 0, 0⟩) := rfl

theorem namedBy_boundBy (q : Req) : (Shadow.boundBy q).namedBy q = true := by simp [Shadow.namedBy, Shadow.boundBy]

theorem rebound_others (q : Req) (l : List Shadow) :
    (rebound q l).filter (fun x => !x.namedBy q) = l.filter (fun x => !x.namedBy q) := by
  unfold rebound
  split <;> simp [namedBy_boundBy]

theorem rebound_named (q : Req) (l : List Shadow) :
    (rebound q l).filter (fun x => x.namedBy q) = if q.flagAt 2 0 then [] else [Shadow.boundBy q] := by
  unfold rebound
  split <;> simp [namedBy_boundBy]

/-! TABLE_DMA_WRITE. -/

theorem recSize_of_dmaWriteCheck {q : Req} {m : Mach} (h : dmaWriteCheck q m = none) : 0 < recSize (q.u 0 2) := by
  refine Nat.pos_of_ne_zero fun hz => ?_
  simp [dmaWriteCheck, hz] at h

/-- The reply to a write of one record. -/
def RecOut.repOne : RecOut → Rep
  | .written => ⟨stOk, 1, 0⟩
  | .skipped => ⟨stPartial, 0, 1⟩
  | .refused => ⟨stPartial, 0, 2 ^ 32⟩

/-- What a command that writes one record reads. -/
def oneRecord (q : Req) (m : Mach) : HostRead := m.bulk q (q.u 12 1) (q.u 16 8) (recSize (q.u 0 2))

section
variable {q : Req} {m : Mach} (ht : q.u 0 2 ≠ 0x14) (hcount : q.u 8 4 = 1)
  (hpos : 0 < recSize (q.u 0 2)) (hfit : recSize (q.u 0 2) ≤ q.u 24 4)
include ht hcount hpos hfit

/-- One record whose source reads whole is one turn of the serialiser. -/
theorem dmaWrite_whole (hw : (oneRecord q m).ended = .whole) {o : RecOut} {b : Dev}
    (hone : m.dev.writeRecord m.clk (q.u 0 2) (q.u 3 1) (q.u 4 4) (sliceZ (oneRecord q m).bytes 0 (recSize (q.u 0 2))) = (o, b)) :
    dmaWrite q m = .done (m.setDev b) o.repOne := by
  have hwant : min 1 (q.u 24 4 / recSize (q.u 0 2)) = 1 := Nat.min_eq_left (Nat.div_pos hfit hpos)
  have hone : m.dev.writeRecord m.clk (q.u 0 2) (q.u 3 1) (q.u 4 4 + 0)
      (sliceZ (oneRecord q m).bytes (0 * recSize (q.u 0 2)) (recSize (q.u 0 2))) = (o, b) := by rwa [Nat.zero_mul]
  unfold oneRecord at hw hone
  simp only [dmaWrite, hcount, hwant, Nat.one_mul, hw, ht, chunks, List.range_one, List.map_cons, List.map_nil, if_true,
    List.foldl_cons, List.foldl_nil, hone, decide_false, Bool.false_and, Bool.false_eq_true, if_false]
  cases o <;> rfl

/-- A source that ends before the record does writes nothing. -/
theorem dmaWrite_short (he : (oneRecord q m).ended ≠ .whole)
    (hshort : (oneRecord q m).bytes.length < recSize (q.u 0 2)) :
    dmaWrite q m = .done m ⟨endStatus (oneRecord q m).ended, 0, 0⟩ := by
  have hwant : min 1 (q.u 24 4 / recSize (q.u 0 2)) = 1 := Nat.min_eq_left (Nat.div_pos hfit hpos)
  unfold oneRecord at he hshort ⊢
  have hend : (((m.bulk q (q.u 12 1) (q.u 16 8) (recSize (q.u 0 2))).ended != .whole) = true) := bne_iff_ne.mpr he
  simp only [dmaWrite, hcount, hwant, Nat.one_mul, he, hend, ht, chunks, Nat.div_eq_of_lt hshort, List.range_zero, List.map_nil,
    List.foldl_nil, decide_false, Bool.false_and, Bool.false_eq_true, if_false, if_true]
  rfl

end

/-- Settles O29: a lookup by what the read of its key finds, a bulk write by how its source ends. -/
theorem tableReading : Obligations.TableReading := by
  unfold Obligations.TableReading
  refine ⟨fun q s => ⟨fun hr hc h hh hkeyed bad hit d hread => ⟨fun hnone => ?_, fun i e hsome hfit => ?_⟩,
    fun hr hc => answers_smiem rfl hr hc rfl ⟨rfl, rfl⟩, fun hr hc => ?_⟩, fun q s hr hc ht hcount hfit => ?_⟩
  · exact answers_smiem rfl hr hc (tableLookup_absent hh hkeyed (hnone ▸ hread)) ⟨rfl, rfl⟩
  · exact answers_smiem rfl hr hc (tableLookup_found hh hkeyed (hsome ▸ hread) hfit) ⟨rfl, rfl⟩
  · have hbind := shadowBind_eq q s.m.clk (s.m.taken 0x0026 q).dev
    refine answers_smiem (m' := (s.m.taken 0x0026 q).setDev ((s.m.taken 0x0026 q).dev.rebind q)) rfl hr hc
      (congrArg (fun x => Res.done ((s.m.taken 0x0026 q).setDev x.1) x.2) hbind)
      ⟨rfl, rfl, ?_, rebound_named q (s.m.taken 0x0026 q).dev.tbl.shadows⟩
    exact (rebound_others q _).trans (by rw [Mach.taken_tbl]; rfl)
  · have hpos := recSize_of_dmaWriteCheck hc
    refine ⟨fun hw => ?_, fun hp hshort => ?_, fun htime hshort => ?_⟩
    · exact answers_smiem rfl hr hc (dmaWrite_whole ht hcount hpos hfit hw rfl)
        ⟨rfl, congrArg RecOut.repOne, congrArg RecOut.repOne, congrArg RecOut.repOne⟩
    · have hend : (oneRecord q (s.m.taken 0x0025 q)).ended = .poisoned := hp
      exact answers_smiem rfl hr hc (dmaWrite_short ht hcount hpos hfit (by rw [hend]; decide) hshort) ⟨rfl, by rw [hend]; rfl⟩
    · have hend : (oneRecord q (s.m.taken 0x0025 q)).ended = .timedOut := htime
      exact answers_smiem rfl hr hc (dmaWrite_short ht hcount hpos hfit (by rw [hend]; decide) hshort) ⟨rfl, by rw [hend]; rfl⟩

end Sys2Proof.Machine
end

section
/-! Proofs: learning, freezes and aging of stations (R200 to R206). -/

namespace Sys2Proof.Machine
open Sys2Proof

/-! Learn requests (R200). -/

theorem Dev.retire_tbl (d : Dev) (fid : Nat) : (d.retire fid).tbl = d.tbl := by
  unfold Dev.retire
  split
  · rfl
  · split <;> rfl

/-- The queue of a lantern's replica. -/
def Dev.learnQueue (d : Dev) (l : Nat) : List LearnReq := if 16 ≤ l then d.tbl.learnW else d.tbl.learnE

theorem Dev.learnQueue_congr {a b : Dev} (h : b.tbl = a.tbl) (l : Nat) : b.learnQueue l = a.learnQueue l := by
  rw [Dev.learnQueue, Dev.learnQueue, h]

/-- The device with a request at the end of its queue. -/
def Dev.learnQueued (d : Dev) (r : LearnReq) : Dev := d.onTbl fun b =>
  if 16 ≤ r.lantern then { b with learnW := d.learnQueue r.lantern ++ [r] } else { b with learnE := d.learnQueue r.lantern ++ [r] }

theorem Dev.learnQueue_learnQueued (d : Dev) (r : LearnReq) :
    (d.learnQueued r).learnQueue r.lantern = d.learnQueue r.lantern ++ [r] := by
  unfold Dev.learnQueued
  rw [Dev.learnQueue, Dev.onTbl_tbl]
  split <;> rfl

/-- A request that its queue does not hold yet enters a queue with room. -/
theorem Dev.learnEnter_queued {d : Dev} (k : Clock) {r : LearnReq}
    (hnew : ∀ x ∈ d.learnQueue r.lantern, x.key ≠ r.key ∨ x.port ≠ r.port)
    (hroom : (d.learnQueue r.lantern).length < 4096) :
    (d.learnEnter k r).lanterns = d.lanterns ∧ (d.learnEnter k r).learnQueue r.lantern = d.learnQueue r.lantern ++ [r] := by
  have hheld : (d.learnQueue r.lantern).any (fun x => x.key == r.key && x.port == r.port) = false := by
    simpa [List.any_eq_false, ← imp_iff_not_or] using hnew
  have henter : d.learnEnter k r =
      if (d.learnQueue r.lantern).isEmpty then (d.learnQueued r).perf 32 3 else d.learnQueued r :=
    (if_neg (Bool.eq_false_iff.mp hheld)).trans (if_neg (Nat.not_le.mpr hroom))
  rw [henter]
  split
  · exact ⟨(d.learnQueued r).perf_lanterns 32 3,
      (Dev.learnQueue_congr (Dev.perf_tbl _ 32 3) _).trans (d.learnQueue_learnQueued r)⟩
  · exact ⟨rfl, d.learnQueue_learnQueued r⟩

theorem learnRequest_queued {d : Dev} {fid : Nat} {f : Frame} {key : Bytes} (k : Clock) (hf : d.frame? fid = some f)
    (hgood : f.ended = some .good) (hheld : (d.lantern (f.ingress / 16)).learns.find? (fun e => e.1 == fid) = some (fid, key))
    (hen : d.flag F.BUSHEL_CTRL_LEARN_EN = true)
    (hnew : ∀ x ∈ d.learnQueue (f.ingress / 16), x.key ≠ key ∨ x.port ≠ f.ingress)
    (hroom : (d.learnQueue (f.ingress / 16)).length < 4096) :
    ((learnRequest fid k d).lantern (f.ingress / 16)).learns = (d.lantern (f.ingress / 16)).learns.erase (fid, key) ∧
      (learnRequest fid k d).learnQueue (f.ingress / 16) = d.learnQueue (f.ingress / 16) ++ [⟨key, f.ingress, f.ingress / 16⟩] := by
  have hreq : learnRequest fid k d = ((d.setLantern (f.ingress / 16) { d.lantern (f.ingress / 16) with
      learns := (d.lantern (f.ingress / 16)).learns.erase (fid, key) }).learnEnter k ⟨key, f.ingress, f.ingress / 16⟩).retire fid := by
    simp [learnRequest, hf, hgood, hheld, hen]
  obtain ⟨hlanterns, hqueue⟩ := Dev.learnEnter_queued (d := d.setLantern (f.ingress / 16) { d.lantern (f.ingress / 16) with
    learns := (d.lantern (f.ingress / 16)).learns.erase (fid, key) }) k (r := ⟨key, f.ingress, f.ingress / 16⟩) hnew hroom
  rw [hreq]
  refine ⟨?_, (Dev.learnQueue_congr (Dev.retire_tbl _ fid) _).trans hqueue⟩
  rw [Dev.lantern_congr ((Dev.bookkept_retire _ fid).lanterns.trans hlanterns), Dev.lantern_setLantern_self]

/-! The serialiser's turn of a learn request (R201, R202). -/

/-- Taking the next request leaves the entries and the poisoned rows. -/
theorem Dev.nextLearn_keeps {d n : Dev} {r : LearnReq} (h : d.nextLearn = some (r, n)) :
    n.tbl.hash = d.tbl.hash ∧ n.tbl.poison = d.tbl.poison := by
  unfold Dev.nextLearn at h
  cases hE : d.tbl.learnE <;> cases hW : d.tbl.learnW <;> simp only [hE, hW] at h
  all_goals split at h <;> cases h <;> exact ⟨rfl, rfl⟩

theorem learnApply_next {d n : Dev} {r : LearnReq} (k : Clock) (hs : d.noStreams = true) (hn : d.nextLearn = some (r, n)) :
    learnApply false k d = n.learnOne k r := by
  simp [learnApply, hs, hn]

/-- Counting a signal leaves what a key finds. -/
theorem Dev.findKey_perf (d : Dev) (b n : Nat) (h : HSpec) (key : Bytes) : (d.perf b n).findKey h key = d.findKey h key :=
  Dev.findKey_congr (congrArg Tables.hash (d.perf_tbl b n)) (congrArg Tables.poison (d.perf_tbl b n)) h key

/-- The entry a request makes of a station that the table does not hold: both hit bits are set. -/
def LearnReq.station (r : LearnReq) : Ent := ⟨r.key, toLE r.port 2, false, false, false, false, 0, true, true⟩

section
variable {d : Dev} (k : Clock) {r : LearnReq} {i : Nat} {e : Ent}

theorem Dev.learnOne_refused (hf : d.findKey stations r.key = some (i, e)) (hfix : e.static = true ∨ e.lock = true ∨ e.frozen = true) :
    (d.learnOne k r).tbl = d.tbl := by
  unfold Dev.learnOne
  simp only [Dev.findKey_perf, hf]
  cases hkept : e.static || e.lock
  · have hfrozen : e.frozen = true := by
      obtain ⟨hstatic, hlock⟩ := Bool.or_eq_false_iff.mp hkept
      simpa [hstatic, hlock] using hfix
    rw [if_neg Bool.false_ne_true, if_pos hfrozen]
    exact d.perf_tbl 32 2
  · exact d.perf_tbl 32 2

theorem Dev.learnOne_hit (hf : d.findKey stations r.key = some (i, e)) (hstatic : e.static = false) (hlock : e.lock = false)
    (hfrozen : e.frozen = false) (hport : leNat e.data = r.port) :
    tget? ((d.learnOne k r).ents 1) i = some (if 16 ≤ r.lantern then { e with hitW := true } else { e with hitE := true }) := by
  have hone : d.learnOne k r = (d.perf 32 2).setHit stations i e (16 ≤ r.lantern) := by
    simp [Dev.learnOne, Dev.findKey_perf, hf, hstatic, hlock, hfrozen, hport]
  have hset := (Dev.tget?_ents_tset (congrArg (fun x : Dev => x.tbl.hash) hone)).1
  change tget? ((d.learnOne k r).ents stations.id) i = _
  simpa using hset

/-- A station new to the table is entered, or the tables stay as they are. -/
theorem Dev.learnNew_spec : (d.learnNew k r).tbl = d.tbl ∨
    d.restocked (d.learnNew k r) ∧ ∃ i, tget? ((d.learnNew k r).ents 1) i = some r.station := by
  unfold Dev.learnNew
  split
  · rename_i hplace
    obtain ⟨hent, hrest⟩ := Dev.place_ok hplace
    exact .inr ⟨hrest, _, hent⟩
  · split
    · exact .inl (Dev.event_tbl _ k _ (by decide))
    · exact .inl (Dev.event_tbl _ k _ (by decide))

theorem Dev.learnOne_new (hf : d.findKey stations r.key = none) : d.learnOne k r = (d.perf 32 2).learnNew k r := by
  simp only [Dev.learnOne, Dev.findKey_perf, hf]

end

/-! Freezes (R203). -/

theorem Dev.unfreeze_spec (d : Dev) (t : Track) : (d.unfreeze t).tbl.track = d.tbl.track.erase t ∧
    ∀ i e, d.findKey stations t.key = some (i, e) → tget? ((d.unfreeze t).ents 1) i = some { e with frozen := false } := by
  have hfind : (d.onTbl fun b => { b with track := b.track.erase t }).findKey stations t.key = d.findKey stations t.key :=
    Dev.findKey_congr rfl rfl stations t.key
  unfold Dev.unfreeze
  dsimp only
  rw [hfind]
  split
  · rename_i hf
    refine ⟨rfl, fun i e hf' => ?_⟩
    cases hf.symm.trans hf'
    exact (Dev.tget?_ents_tset rfl).1
  · rename_i hf
    exact ⟨rfl, fun i e hf' => nomatch hf.symm.trans hf'⟩

section
variable {d : Dev} {k : Clock} {key : Bytes} {t : Track} {at_ : Nat} (ht : d.tbl.track.find? (fun t => t.key == key) = some t)
  (hfrozen : t.frozen = some at_)
include ht hfrozen

theorem freezeExpiry_due (hdue : at_ ≤ k.abs) : freezeExpiry key false k d = d.unfreeze t := by
  simp [freezeExpiry, ht, hfrozen, hdue]

theorem freezeExpiry_early (hearly : k.abs < at_) : freezeExpiry key false k d = d := by
  simp [freezeExpiry, ht, hfrozen, Nat.not_le.mpr hearly]

end

/-! The sweep (R205, R206). -/

theorem Dev.restocked_ageEntry (d : Dev) (slot : Nat) (e : Ent) : d.restocked (d.ageEntry slot e) := by
  unfold Dev.ageEntry
  split
  · exact d.restocked_refl
  split
  · rfl
  split
  · rfl
  · exact d.restocked_remove stations slot e

theorem Dev.ageEntry_kept {d : Dev} {slot : Nat} {e : Ent} (h : e.static = true ∨ e.lock = true) : d.ageEntry slot e = d := by
  rcases h with h | h <;> simp [Dev.ageEntry, h]

section
variable {d : Dev} {slot : Nat} {e : Ent} (hstatic : e.static = false) (hlock : e.lock = false)
  (hlive : d.slotDead stations slot = false)
include hstatic hlock hlive

theorem Dev.ageEntry_hit (h : e.hitE = true ∨ e.hitW = true) :
    d.ageEntry slot e = d.setStation slot { e with hitE := false, hitW := false, aged := false } := by
  rcases h with h | h <;> simp [Dev.ageEntry, hstatic, hlock, hlive, h]

theorem Dev.ageEntry_idle (hE : e.hitE = false) (hW : e.hitW = false) (haged : e.aged = false) :
    d.ageEntry slot e = d.setStation slot { e with aged := true } := by
  simp [Dev.ageEntry, hstatic, hlock, hlive, hE, hW, haged]

end

/-- The device as a visit finds its slot: the sweeper has moved on to the next. -/
def Dev.swept (d : Dev) : Dev :=
  ((d.onTbl (fun b => { b with sweep := (d.tbl.sweep + 1) % stationSlots, owed := b.owed - 1, turn := 3 })).spend 2 1).perf 32 1

theorem Dev.swept_tbl (d : Dev) :
    d.swept.tbl = { d.tbl with sweep := (d.tbl.sweep + 1) % stationSlots, owed := d.tbl.owed - 1, turn := 3 } :=
  Dev.perf_tbl _ 32 1

section
variable {d : Dev} (k : Clock) (hen : d.flag F.BUSHEL_CTRL_AGE_EN = true) (howed : d.tbl.owed ≠ 0) (hs : d.noStreams = true)
include hen howed hs

theorem agingVisit_some {e : Ent} (hent : tget? (d.ents 1) d.tbl.sweep = some e) :
    agingVisit k d = d.swept.ageEntry d.tbl.sweep e := by
  rw [← Dev.ents_congr (a := d) (b := d.swept) (by rw [Dev.swept_tbl])] at hent
  unfold Dev.swept at hent ⊢
  simp [agingVisit, hen, howed, hs, hent]

theorem agingVisit_none (hent : tget? (d.ents 1) d.tbl.sweep = none) : agingVisit k d = d.swept := by
  rw [← Dev.ents_congr (a := d) (b := d.swept) (by rw [Dev.swept_tbl])] at hent
  unfold Dev.swept at hent ⊢
  simp [agingVisit, hen, howed, hs, hent]

/-- A visit moves the sweep on, whatever becomes of the entry visited. -/
theorem restocked_agingVisit : d.swept.restocked (agingVisit k d) := by
  cases hent : tget? (d.ents 1) d.tbl.sweep with
  | none =>
    rw [agingVisit_none k hen howed hs hent]
    exact d.swept.restocked_refl
  | some e =>
    rw [agingVisit_some k hen howed hs hent]
    exact d.swept.restocked_ageEntry _ e

end

/-- Settles O47: a request by its queue, its turn by what its key finds, a freeze by its time, and a visit by the entry at the
sweeper's slot. -/
theorem stationLearning : Obligations.StationLearning := by
  unfold Obligations.StationLearning
  intro s fid f key r n t d l queue hp
  refine ⟨fun hf hgood hheld hen hnew hroom => ends_onDev rfl hp (learnRequest_queued s.m.clk hf hgood hheld hen hnew hroom),
    fun hs hn => ?_, fun ht at_ hfrozen => ⟨fun hdue => ?_, fun hearly => ends_onDev rfl hp (freezeExpiry_early ht hfrozen hearly)⟩,
    fun hen howed hs => ends_onDev rfl hp ?_⟩
  · obtain ⟨hhash, hpoison⟩ := Dev.nextLearn_keeps hn
    have happly := learnApply_next s.m.clk hs hn
    rw [← Dev.findKey_congr hhash hpoison]
    refine ⟨fun i e hf => ⟨fun hfix => ?_, fun hstatic hlock hfrozen hport => ?_⟩, fun hnone => ?_⟩
    · exact ends_onDev rfl hp (happly ▸ Dev.learnOne_refused s.m.clk hf hfix)
    · exact ends_onDev rfl hp (happly ▸ Dev.learnOne_hit s.m.clk hf hstatic hlock hfrozen hport)
    · refine ends_onDev rfl hp ?_
      rw [happly, Dev.learnOne_new s.m.clk hnone, ← hhash, ← n.perf_tbl 32 2]
      rcases (n.perf 32 2).learnNew_spec s.m.clk (r := r) with hsame | ⟨hrest, i, hent⟩
      · rw [hsame]
        exact ⟨rfl, rfl, .inl rfl⟩
      · obtain ⟨hE, hW, -⟩ := hrest.keeps
        exact ⟨hE, hW, .inr ⟨i, hent⟩⟩
  · exact ends_onDev rfl hp (freezeExpiry_due ht hfrozen hdue ▸ d.unfreeze_spec t)
  · obtain ⟨-, -, hsweep, howes⟩ := (restocked_agingVisit s.m.clk hen howed hs).keeps
    rw [Dev.swept_tbl] at hsweep howes
    refine ⟨hsweep, howes, fun e hent hlive => ?_⟩
    have hlive : d.swept.slotDead stations d.tbl.sweep = false :=
      (Dev.slotDead_congr (by rw [Dev.swept_tbl]) stations _).trans hlive
    rw [agingVisit_some s.m.clk hen howed hs hent]
    refine ⟨fun hfix => ?_, fun hstatic hlock hhit => ?_, fun hstatic hlock hE hW haged => ?_⟩
    · rw [Dev.ageEntry_kept hfix, Dev.swept_tbl]
    · rw [Dev.ageEntry_hit hstatic hlock hlive hhit]
      exact (Dev.tget?_ents_tset rfl).1
    · rw [Dev.ageEntry_idle hstatic hlock hlive hE hW haged]
      exact (Dev.tget?_ents_tset rfl).1

end Sys2Proof.Machine
end

section
/-! Proofs: the gate lists of ports and stream gates (R278, R290 to R294). -/

namespace Sys2Proof.Machine
open Sys2Proof

/-! Reading and writing a gate's lists. -/

theorem Dev.gateOf_congr {a b : Dev} (h : b.egr = a.egr) (stream : Bool) (n : Nat) : b.gateOf stream n = a.gateOf stream n := by
  unfold Dev.gateOf Dev.gate Dev.sgate
  rw [h]

@[simp] theorem Dev.gateOf_setGateOf_self (d : Dev) (stream : Bool) (n : Nat) (g : Gate) :
    (d.setGateOf stream n g).gateOf stream n = g := by
  cases stream
  · exact tgetD_tput_self d.egr.gates n Gate.idle g
  · exact tgetD_tput_self d.egr.sgates n Gate.idle g

@[simp] theorem Dev.bumpGen_egr (d : Dev) : d.bumpGen.egr = d.egr := by
  unfold Dev.bumpGen
  dsimp only
  split <;> rfl

theorem Dev.setAll_egr (d : Dev) (l : List (Fld × Nat)) : (d.setAll l).egr = d.egr := by rw [d.setAll_eq l]

@[simp] theorem Dev.gateAccepted_egr (d : Dev) (stream : Bool) (n : Nat) (l : GList) : (d.gateAccepted stream n l).egr = d.egr := by
  unfold Dev.gateAccepted
  cases stream <;> exact Dev.setAll_egr _ _

/-! The instant at which a list starts (R292). -/

/-- The least number of whole cycles that covers a span overshoots it by less than a cycle. -/
theorem ceilDiv_mul_bounds (n : Nat) {cycle : Nat} (h : 0 < cycle) :
    n ≤ ceilDiv n cycle * cycle ∧ ceilDiv n cycle * cycle < n + cycle := by
  have hdiv : (n + cycle - 1) / cycle * cycle + (n + cycle - 1) % cycle = n + cycle - 1 := Nat.div_add_mod' _ _
  have hmod := Nat.mod_lt (n + cycle - 1) h
  unfold ceilDiv
  omega

/-- CONFIG_CHANGE_TIME lies on the list's grid, at least 10 µs away, and is the base or less than a cycle later than that. -/
theorem changeTime_spec (base acc : Nat) {cycle : Nat} (h : 0 < cycle) :
    (∃ n, changeTime base cycle acc = base + n * cycle) ∧
    (changeTime base cycle acc = base ∨ changeTime base cycle acc < acc + 10000 + cycle) ∧ acc + 10000 ≤ changeTime base cycle acc := by
  unfold changeTime
  split
  · rename_i hfar
    exact ⟨⟨0, by omega⟩, .inl rfl, hfar⟩
  · obtain ⟨hle, hlt⟩ := ceilDiv_mul_bounds (acc + 10000 - base) h
    exact ⟨⟨_, rfl⟩, .inr (by omega), by omega⟩

end Sys2Proof.Machine
end

section
/-! Proofs: the commands of gates, shapers and policers (R276, R286, R291, R292, R440). -/

namespace Sys2Proof.Machine
open Sys2Proof

/-! Commands whose refusal acts. -/

/-- What a refusal does is of no account to a packet whose parameters pass. -/
theorem smiemOr_passed {onBad : Mach → Mach} {op : Nat} {check : Req → Mach → Option Nat} {later : Req → Bool}
    {body : Req → Mach → Res} {q : Req} {m : Mach} (h : check q (m.taken op q) = none) :
    smiemOr onBad op check later body q m = smiem op check later body q m := by
  simp only [Mach.taken] at h
  unfold smiem smiemOr
  simp only [h]

theorem onMach_smiemOr_passed {onBad : Mach → Mach} {op : Nat} {check : Req → Mach → Option Nat} {later : Req → Bool}
    {body : Req → Mach → Res} {q : Req} {s : State} (h : check q (s.m.taken op q) = none) :
    onMach (smiemOr onBad op check later body q) s = onMach (smiem op check later body q) s := by
  unfold onMach
  rw [smiemOr_passed h]

/-! GATE_LIST_LOAD. -/

theorem gateLoadCheck_cycle {q : Req} {m : Mach} (h : gateLoadCheck q m = none) (hchange : q.flagAt 1 0 = true) : 64 ≤ q.u 20 4 := by
  unfold gateLoadCheck at h
  dsimp only at h
  split at h
  · cases h
  · rename_i hpass
    have hcycle : (q.flagAt 1 0 && (decide (q.u 20 4 < 64) || decide (1000000000 < q.u 20 4))) = false :=
      badParam_none_fields (o := 20) hpass (by simp) (by omega)
    simp only [hchange, Bool.true_and, Bool.or_eq_false_iff, decide_eq_false_iff_not] at hcycle
    omega

section
variable {q : Req} {d : Dev}

/-- The list that a packet with CHANGE makes of its target's store. -/
def gateListOf (q : Req) (k : Clock) (g : Gate) : GList :=
  ⟨(List.range (q.u 8 2)).map fun i => tgetD (gateStore q g) i [], (q.u 10 6, q.u 16 4), q.u 20 4, q.u 24 4,
    changeTime (q.u 10 6 * 1000000000 + q.u 16 4) (q.u 20 4) k.abs, k.abs⟩

theorem gateLoad_store (k : Clock) (h : q.flagAt 1 0 = false) : gateLoad q k d =
    (d.setGateOf (q.u 0 1 == 1) (q.u 2 2) { d.gateOf (q.u 0 1 == 1) (q.u 2 2) with
      store := gateStore q (d.gateOf (q.u 0 1 == 1) (q.u 2 2)) }, ⟨0, 0, 0⟩) := if_pos (by rw [h]; rfl)

/-- With CHANGE the target's list is pending, and the one that runs goes on. -/
theorem gateLoad_change (k : Clock) (h : q.flagAt 1 0 = true) :
    let g := d.gateOf (q.u 0 1 == 1) (q.u 2 2)
    let l := gateListOf q k g
    ∃ b : Dev, gateLoad q k d = (b, ⟨0, l.change / 1000000000 / 2 ^ 32 % 65536,
        l.change % 1000000000 + l.change / 1000000000 % 2 ^ 32 * 2 ^ 32⟩) ∧
      (b.gateOf (q.u 0 1 == 1) (q.u 2 2)).pend = some l ∧ (b.gateOf (q.u 0 1 == 1) (q.u 2 2)).run = g.run := by
  intro g l
  refine ⟨((d.setGateOf (q.u 0 1 == 1) (q.u 2 2) { g with store := gateStore q g, pend := some l }).gateAccepted
    (q.u 0 1 == 1) (q.u 2 2) l).bumpGen, if_neg (by simp [h]), ?_⟩
  rw [Dev.gateOf_congr ((Dev.bumpGen_egr _).trans (Dev.gateAccepted_egr _ _ _ _)), Dev.gateOf_setGateOf_self]
  exact ⟨rfl, rfl⟩

/-! SHAPER_SET. -/

/-- The low bits of a signed byte. -/
theorem unsign_signed_byte (v : Nat) : unsign 7 (signed (8 * 1) v) = v % 128 := by
  unfold unsign signed
  split <;> omega

/-- The fields of a queue's shaper, with the values that a packet gives them. -/
def queueShaper (q : Req) : List (Fld × Nat) :=
  [(F.EGQ_SHAPE_EN (q.u 2 2), b2n (q.flagAt 1 0)), (F.EGQ_OVERHEAD (q.u 2 2), q.u 4 1 % 128), (F.EGQ_INC (q.u 2 2), q.u 8 4),
    (F.EGQ_BURST (q.u 2 2), q.u 12 4)]

/-- The fields of a port's shaper, with the values that a packet gives them. -/
def portShaper (q : Req) : List (Fld × Nat) :=
  [(F.EGP_SHAPE_EN (q.u 2 2), b2n (q.flagAt 1 0)), (F.EGP_OVERHEAD (q.u 2 2), q.u 4 1 % 128), (F.EGP_INC (q.u 2 2), q.u 8 4),
    (F.EGP_BURST (q.u 2 2), q.u 12 4)]

theorem Dev.sets_queueShaper (d : Dev) (q : Req) : d.sets (queueShaper q) (d.setAll (queueShaper q)) :=
  Dev.sets_setAll _ d <| by
  simp only [queueShaper, Fld.key, F.EGQ_SHAPE_EN, F.EGQ_OVERHEAD, F.EGQ_INC, F.EGQ_BURST, List.map_cons, List.map_nil,
    List.nodup_cons, List.mem_cons, List.not_mem_nil, List.nodup_nil, or_false, not_false_eq_true, and_true]
  omega

theorem Dev.sets_portShaper (d : Dev) (q : Req) : d.sets (portShaper q) (d.setAll (portShaper q)) :=
  Dev.sets_setAll _ d <| by
  simp only [portShaper, Fld.key, F.EGP_SHAPE_EN, F.EGP_OVERHEAD, F.EGP_INC, F.EGP_BURST, List.map_cons, List.map_nil,
    List.nodup_cons, List.mem_cons, List.not_mem_nil, List.nodup_nil, or_false, not_false_eq_true, and_true]
  omega

theorem shaperSet_eq (k : Clock) :
    shaperSet q k d = ((d.setAll (if q.u 0 1 = 0 then queueShaper q else portShaper q)).bumpGen, ⟨0, 0, 0⟩) := by
  unfold shaperSet queueShaper portShaper Req.s
  rw [unsign_signed_byte]
  split <;> rfl

/-! POLICER_SET. -/

/-- A record written reads as written, zeros included. -/
theorem padTo_stored {b : Bytes} {n : Nat} (h : b.length ≤ n) : padTo ((stored b).getD []) n = padTo b n := by
  unfold stored
  split
  · rename_i hz
    rw [eq_replicate_of_zeros hz]
    simp [padTo, h]
  · rfl

theorem Dev.record_stored {d : Dev} {t i n : Nat} {b : Bytes} (h : tget? d.index (t * 2 ^ 24 + i) = stored b) (hb : b.length ≤ n) :
    d.record t i n = padTo b n := by rw [Dev.record_eq h, padTo_stored hb]

theorem sliceZ_length (b : Bytes) (o w : Nat) : (sliceZ b o w).length = w := by simp [sliceZ_eq_map]

variable {m : Mach}

/-- The refill that a policer's command waits for. -/
abbrev Dev.nextRefill (d : Dev) : Nat := d.get64 F.EG_REFILL_NUM_LO F.EG_REFILL_NUM_HI + 1

theorem policerSet_assigns (h : q.u 0 1 = 1) : policerSet q m = .later m (.policer m.dev.nextRefill) := if_pos h

/-- A profile is written as its pending copy. -/
theorem policerSet_profile (h : q.u 0 1 ≠ 1) : ∃ b : Dev, policerSet q m = .later (m.setDev b) (.policer m.dev.nextRefill) ∧
    b.record 0x13 (8192 + q.u 4 4) 16 = sliceZ q.params 8 16 := by
  refine ⟨_, if_neg h, ?_⟩
  have hlen := sliceZ_length q.params 8 16
  rw [Dev.record_stored (b := sliceZ q.params 8 16) _ hlen.le, padTo_of_le hlen.ge]
  split <;> exact Dev.tget?_setRec_self _ _ _ _

end

/-! The commands. -/

section
variable {q : Req} {s : State}

theorem answers_gateListLoad {b : Dev} {rep : Rep} {p : Mach → Rep → Prop} (hready : s.m.ready 0x0060 q)
    (hcheck : gateLoadCheck q (s.m.taken 0x0060 q) = none) (hb : gateLoad q s.m.clk (s.m.taken 0x0060 q).dev = (b, rep))
    (hp : p ((s.m.taken 0x0060 q).setDev b) rep) : answers (.gateListLoad q) 0x0060 q s p :=
  answers_smiem (body := fun q m => let (d, r) := gateLoad q m.clk m.dev; .done (m.setDev d) r) (onMach_smiemOr_passed hcheck) hready
    hcheck (congrArg (fun r : Dev × Rep => Res.done ((s.m.taken 0x0060 q).setDev r.1) r.2) hb) hp

theorem begins_policerSet {m' : Mach} {kind : WaitKind} {p : Mach → WaitKind → Prop} (hready : s.m.ready 0x0062 q)
    (hcheck : policerSetCheck q s.m = none) (hb : policerSet q (s.m.taken 0x0062 q) = .later m' kind) (hp : p m' kind) :
    begins (.policerSet q) 0x0062 q s p :=
  begins_smiem (onMach_smiemOr_passed hcheck) hready hcheck hb hp

end

/-- Settles O32: a packet with CHANGE makes its target's list pending at CONFIG_CHANGE_TIME, a shaper's fields are written as one
chain, and POLICER_SET waits for the next refill. -/
theorem scheduleCommands : Obligations.ScheduleCommands := by
  unfold Obligations.ScheduleCommands
  intro q s
  refine ⟨fun hready hcheck => ⟨fun hstore => answers_gateListLoad hready hcheck (gateLoad_store _ hstore) ⟨rfl, rfl⟩,
    fun hchange => ?_⟩, fun hready hcheck => ?_, fun hready hcheck => ⟨fun hassign => ?_, fun hprofile => ?_⟩⟩
  · obtain ⟨b, hload, hpend, hrun⟩ := gateLoad_change (d := (s.m.taken 0x0060 q).dev) s.m.clk hchange
    have hcycle := gateLoadCheck_cycle hcheck hchange
    obtain ⟨hgrid, hnear, hfar⟩ := changeTime_spec (q.u 10 6 * 1000000000 + q.u 16 4) s.m.clk.abs (cycle := q.u 20 4) (by omega)
    exact answers_gateListLoad hready hcheck hload ⟨rfl, _, _, hpend, hrun, rfl, rfl, rfl, rfl,
      hgrid, hnear, hfar, rfl⟩
  · refine answers_smiemDev rfl hready hcheck (shaperSet_eq _) ⟨rfl, _, rfl, fun hqueue => ?_, fun hport => ?_⟩
    · rw [if_pos (show q.u 0 1 = 0 from hqueue)]
      exact Dev.sets_queueShaper _ q
    · rw [if_neg (by rw [Req.u, hport]; decide)]
      exact Dev.sets_portShaper _ q
  · exact begins_policerSet hready hcheck (policerSet_assigns hassign) ⟨rfl, rfl⟩
  · obtain ⟨b, hset, hrecord⟩ := policerSet_profile (q := q) (m := s.m.taken 0x0062 q) (by rw [Req.u, hprofile]; decide)
    exact begins_policerSet hready hcheck hset ⟨rfl, rfl, hrecord⟩

end Sys2Proof.Machine
end

section
/-! Proofs: a pending list starts, and an entry boundary is shown (R279, R292, R293, R294, R301). -/

namespace Sys2Proof.Machine
open Sys2Proof

/-! What a port shows of its gates. -/

/-- No report changes a register of the egress schedulers, their gates and their policers. -/
theorem Fld.still_of_egress {f : Fld} (hlo : f.lo < 32) (h : 0x2000000 ≤ f.off ∧ f.off < 0x2400000) : f.still = true := by
  simp only [Fld.still, Bool.and_eq_true, Bool.not_eq_true', Bool.and_eq_false_iff, decide_eq_true_eq, decide_eq_false_iff_not,
    bne_iff_ne]
  omega

/-- The fields that show a port's gates. -/
def gatesShown (p : Nat) : List Fld := [F.EGP_OPER_GATE_STATES p, F.EGP_ENTRY p]

/-- The fields that decide a port's gate states, beside its lists. -/
def gatesRead (p : Nat) : List Fld := [F.EGP_GATE_EN p, F.EGP_ADMIN_GATE_STATES p, F.EGP_TX_ADVANCE p]

/-- The fields that a list's start writes, with their values. -/
def listStarted (p len : Nat) : List (Fld × Nat) :=
  [(F.EGP_PENDING p, 0), (F.EGP_OPER_VALID p, 1), (F.EGP_OPER_LEN p, len), (F.EGP_PENDING_LEN p, 0)]

theorem listStarted_nodup (p len : Nat) : ((listStarted p len).map fun e => e.1.key).Nodup := by
  simp only [listStarted, Fld.key, F.EGP_PENDING, F.EGP_OPER_VALID, F.EGP_OPER_LEN, F.EGP_PENDING_LEN, List.map_cons, List.map_nil,
    List.nodup_cons, List.mem_cons, List.not_mem_nil, List.nodup_nil, or_false, not_false_eq_true, and_true]
  omega

theorem gatesRead_notShown (p : Nat) : ∀ f ∈ gatesRead p, ∀ g ∈ gatesShown p, f.key ≠ g.key := by
  simp only [gatesRead, gatesShown, List.forall_mem_cons, List.not_mem_nil, false_implies, implies_true, and_true, Fld.key,
    F.EGP_GATE_EN, F.EGP_ADMIN_GATE_STATES, F.EGP_TX_ADVANCE, F.EGP_OPER_GATE_STATES, F.EGP_ENTRY]
  omega

theorem listStarted_notShown (p len : Nat) : ∀ e ∈ listStarted p len, ∀ g ∈ gatesShown p, e.1.key ≠ g.key := by
  simp only [listStarted, gatesShown, List.forall_mem_cons, List.not_mem_nil, false_implies, implies_true, and_true, Fld.key,
    F.EGP_PENDING, F.EGP_OPER_VALID, F.EGP_OPER_LEN, F.EGP_PENDING_LEN, F.EGP_OPER_GATE_STATES, F.EGP_ENTRY]
  omega

theorem advance_notStarted (p len : Nat) : ∀ e ∈ listStarted p len, (F.EGP_TX_ADVANCE p).key ≠ e.1.key := by
  simp only [listStarted, List.forall_mem_cons, List.not_mem_nil, false_implies, implies_true, and_true, Fld.key, F.EGP_TX_ADVANCE,
    F.EGP_PENDING, F.EGP_OPER_VALID, F.EGP_OPER_LEN, F.EGP_PENDING_LEN]
  omega

theorem still_advance {p : Nat} (hp : p < 512) : (F.EGP_TX_ADVANCE p).still = true :=
  Fld.still_of_egress (by decide : 18 < 32) (by simp only [F.EGP_TX_ADVANCE]; omega)

theorem still_listStarted {p : Nat} (hp : p < 512) (len : Nat) : ∀ e ∈ listStarted p len, e.1.still = true := by
  have hrange : ∀ e ∈ listStarted p len, e.1.lo < 32 ∧ 0x2000000 ≤ e.1.off ∧ e.1.off < 0x2400000 := by
    simp only [listStarted, List.forall_mem_cons, F.EGP_PENDING, F.EGP_OPER_VALID, F.EGP_OPER_LEN, F.EGP_PENDING_LEN,
      List.not_mem_nil, false_implies, implies_true, and_true]
    omega
  exact fun e he => Fld.still_of_egress (hrange e he).1 (hrange e he).2

theorem Dev.gateStates_congr {a b : Dev} {p : Nat} (hegr : b.egr = a.egr) (hget : ∀ f ∈ gatesRead p, b.get f = a.get f) (t : Nat) :
    b.gateStates p t = a.gateStates p t := by
  simp only [gatesRead, List.forall_mem_cons] at hget
  obtain ⟨hen, hadmin, -⟩ := hget
  unfold Dev.gateStates Dev.gate Dev.flag
  rw [hegr, hen, hadmin]

/-- Gate states are a byte. -/
theorem Dev.gateStates_lt (d : Dev) (p t : Nat) : d.gateStates p t < 256 := by
  unfold Dev.gateStates entStates
  split
  · decide
  split
  · exact d.get_lt _
  · rw [leAt_one]
    exact BitVec.isLt _

/-- The instant of network time at which a port's gates are read. -/
def Dev.handOff (d : Dev) (k : Clock) (p : Nat) : Nat := k.abs + d.get (F.EGP_TX_ADVANCE p)

/-- What the registers of a port's gates come to at an entry boundary. -/
theorem Dev.sets_gateShow (d : Dev) (k : Clock) (p : Nat) : d.sets [(F.EGP_OPER_GATE_STATES p, d.gateStates p (d.handOff k p)),
    (F.EGP_ENTRY p, (((d.gate p).pos (d.handOff k p)).map GatePos.entry).getD 0)] (d.gateShow k p) :=
  Dev.sets_setAll _ d (by simp [Fld.key, F.EGP_OPER_GATE_STATES, F.EGP_ENTRY])

/-- The states that a port shows are those of its lists. -/
theorem Dev.gateShow_spec (d : Dev) (k : Clock) (p : Nat) : (d.gateShow k p).egr = d.egr ∧
    (d.gateShow k p).get (F.EGP_OPER_GATE_STATES p) = (d.gateShow k p).gateStates p (d.handOff k p) ∧
    ∀ f : Fld, (∀ g ∈ gatesShown p, f.key ≠ g.key) → (d.gateShow k p).get f = d.get f := by
  obtain ⟨-, hin, hout⟩ := d.sets_gateShow k p
  have hegr : (d.gateShow k p).egr = d.egr := Dev.setAll_egr d _
  have hother : ∀ f : Fld, (∀ g ∈ gatesShown p, f.key ≠ g.key) → (d.gateShow k p).get f = d.get f := fun f hf =>
    hout f (by simpa [gatesShown] using hf)
  refine ⟨hegr, ?_, hother⟩
  rw [Dev.gateStates_congr hegr fun f hf => hother f (gatesRead_notShown p f hf)]
  exact (hin _ List.mem_cons_self).trans (Nat.mod_eq_of_lt (d.gateStates_lt p _))

/-! A pending list starts (R292). -/

section
variable {d : Dev} {k : Clock} {l : GList}

/-- A target whose pending list runs. -/
def Dev.listRuns (d : Dev) (stream : Bool) (n : Nat) (l : GList) : Dev :=
  d.setGateOf stream n { d.gateOf stream n with run := some l, pend := none, octE := 0, octW := 0, at_ := 0 }

theorem gateListStart_early {stream : Bool} {n : Nat} (hpend : (d.gateOf stream n).pend = some l) (hearly : k.abs < l.change) :
    gateListStart stream n k d = d := by
  unfold gateListStart
  rw [hpend]
  exact if_neg (by simp [hearly])

theorem gateListStart_due {stream : Bool} {n : Nat} (hheld : d.isHeld 34 = false) (hpend : (d.gateOf stream n).pend = some l)
    (hdue : l.change ≤ k.abs) : gateListStart stream n k d = d.gateStart k stream n := by
  unfold gateListStart
  rw [hpend]
  exact if_pos (by simp [hdue, hheld])

/-- A port whose pending list has started, before its gates are shown anew. -/
def Dev.portStarted (d : Dev) (k : Clock) (p : Nat) (l : GList) : Dev :=
  ((d.listRuns false p l).setAll (listStarted p l.entries.length)).event k 544 (flcGates p)

theorem Dev.gateStart_port {p : Nat} (hpend : (d.gate p).pend = some l) :
    d.gateStart k false p = (d.portStarted k p l).gateShow k p := by
  have hpend' : (d.gateOf false p).pend = some l := hpend
  unfold Dev.gateStart
  dsimp only
  rw [hpend']
  rfl

/-- A stream gate whose pending list has started, before its status is shown anew. -/
def Dev.sgateStarted (d : Dev) (k : Clock) (n : Nat) (l : GList) : Dev :=
  ((d.listRuns true n l).set (F.SG_PENDING n) 0).event k 544 flcSgate

theorem Dev.gateStart_stream {n : Nat} (hpend : (d.sgate n).pend = some l) :
    d.gateStart k true n = (d.sgateStarted k n l).sgateShow k n := by
  have hpend' : (d.gateOf true n).pend = some l := hpend
  unfold Dev.gateStart
  dsimp only
  rw [hpend']
  rfl

theorem Dev.portStarted_spec (d : Dev) (k : Clock) {p : Nat} (hp : p < 512) (l : GList) :
    (d.portStarted k p l).egr = (d.listRuns false p l).egr ∧
      (∀ e ∈ listStarted p l.entries.length, (d.portStarted k p l).get e.1 = e.2 % 2 ^ e.1.w) ∧
      (d.portStarted k p l).get (F.EGP_TX_ADVANCE p) = d.get (F.EGP_TX_ADVANCE p) := by
  have hevent := ((d.listRuns false p l).setAll (listStarted p l.entries.length)).alike_event k 544 (flcGates p) (by decide)
  obtain ⟨-, hin, hout⟩ := Dev.sets_setAll _ (d.listRuns false p l) (listStarted_nodup p l.entries.length)
  exact ⟨hevent.egr_eq.trans (Dev.setAll_egr _ _), fun e he => (hevent.get_eq _ (still_listStarted hp _ e he)).trans (hin e he),
    (hevent.get_eq _ (still_advance hp)).trans (hout _ (advance_notStarted p _))⟩

/-- A port's list that is due runs, and the port's registers show it. -/
theorem Dev.gateStart_port_shows {p : Nat} (hp : p < 512) (hpend : (d.gate p).pend = some l) : let b := d.gateStart k false p
    (b.gate p).run = some l ∧ (b.gate p).pend = none ∧ b.get (F.EGP_PENDING p) = 0 ∧ b.get (F.EGP_OPER_VALID p) = 1 ∧
      b.get (F.EGP_OPER_LEN p) = l.entries.length % 2048 ∧ b.get (F.EGP_OPER_GATE_STATES p) = b.gateStates p (d.handOff k p) := by
  rw [Dev.gateStart_port hpend]
  obtain ⟨hegr, hin, hadvance⟩ := d.portStarted_spec k hp l
  obtain ⟨hshow, hstates, hother⟩ := (d.portStarted k p l).gateShow_spec k p
  have hgate := (Dev.gateOf_congr (hshow.trans hegr) false p).trans (d.gateOf_setGateOf_self false p _)
  have hget : ∀ e ∈ listStarted p l.entries.length, ((d.portStarted k p l).gateShow k p).get e.1 = e.2 % 2 ^ e.1.w := fun e he =>
    (hother e.1 (listStarted_notShown p _ e he)).trans (hin e he)
  simp only [listStarted, List.forall_mem_cons] at hget
  obtain ⟨hpending, hvalid, hlen, -⟩ := hget
  rw [Dev.handOff, hadvance] at hstates
  exact ⟨congrArg Gate.run hgate, congrArg Gate.pend hgate, hpending, hvalid, hlen, hstates⟩

theorem still_sgPending {n : Nat} (hn : n < 1024) : (F.SG_PENDING n).still = true :=
  Fld.still_of_egress (by decide : 7 < 32) (by simp only [F.SG_PENDING]; omega)

theorem sgPending_notShown (n : Nat) : ∀ g ∈ sgateShown n, (F.SG_PENDING n).key ≠ g.key := by
  simp [sgateShown, Fld.key, F.SG_PENDING, F.SG_OPEN, F.SG_IPV_VALID, F.SG_IPV, F.SG_ENTRY]

/-- A stream gate's list that is due runs, and the gate's status shows it. -/
theorem Dev.gateStart_stream_shows {n : Nat} (hn : n < 1024) (hpend : (d.sgate n).pend = some l) : let b := d.gateStart k true n
    (b.sgate n).run = some l ∧ (b.sgate n).pend = none ∧ b.get (F.SG_PENDING n) = 0 ∧
      b.get (F.SG_OPEN n) = b2n (b.sgateOpen k n) := by
  rw [Dev.gateStart_stream hpend]
  obtain ⟨hshow, hopen, hother⟩ := (d.sgateStarted k n l).sgateShow_spec k n
  have hevent := ((d.listRuns true n l).set (F.SG_PENDING n) 0).alike_event k 544 flcSgate (by decide)
  have hegr : ((d.sgateStarted k n l).sgateShow k n).egr = (d.listRuns true n l).egr := (congrArg Dev.egr hshow).trans hevent.egr_eq
  have hgate := (Dev.gateOf_congr hegr true n).trans (d.gateOf_setGateOf_self true n _)
  have hpending : (d.sgateStarted k n l).get (F.SG_PENDING n) = 0 := (hevent.get_eq _ (still_sgPending hn)).trans (Dev.get_set_self _ _ _)
  exact ⟨congrArg Gate.run hgate, congrArg Gate.pend hgate, (hother _ (sgPending_notShown n)).trans hpending, hopen⟩

end

/-! An entry boundary of a stream gate (R279, R293). -/

/-- The entry that a stream gate's status shows. -/
theorem Dev.sgateShow_entry (d : Dev) (k : Clock) (n : Nat) :
    (d.sgateShow k n).get (F.SG_ENTRY n) = (((d.sgate n).pos k.abs).map GatePos.entry).getD 0 % 64 :=
  Dev.get_set_self _ (F.SG_ENTRY n) _

/-- What a stream gate's list says depends on where the list stands, and not on the octets counted. -/
theorem Dev.sgateOpen_of_pos {a b : Dev} {k : Clock} {n : Nat} (hfld : b.fld = a.fld)
    (hpos : (b.sgate n).pos k.abs = (a.sgate n).pos k.abs) :
    b.sgateOpen k n = a.sgateOpen k n := by
  unfold Dev.sgateOpen Dev.sgateSays Dev.flag
  simp only [Dev.get_congr hfld, hpos]

/-- A stream gate at an entry boundary, before its status is shown anew. -/
def Dev.entryBegun (d : Dev) (k : Clock) (n : Nat) : Dev :=
  match (d.sgateSays k n).start with
  | none => d
  | some start => if (d.sgate n).at_ = start then d else d.setOctets n false start 0

theorem sgateEntry_eq {d : Dev} {n : Nat} (k : Clock) (hheld : d.isHeld 34 = false) :
    sgateEntry n k d = (d.entryBegun k n).sgateShow k n := if_neg (by simp [hheld])

@[simp] theorem Dev.sgate_setSgate_self (d : Dev) (n : Nat) (g : Gate) : (d.setSgate n g).sgate n = g :=
  tgetD_tput_self d.egr.sgates n Gate.idle g

/-- An entry boundary moves no list and writes no register. -/
theorem Dev.entryBegun_keeps (d : Dev) (k : Clock) (n : Nat) : (d.entryBegun k n).fld = d.fld ∧
    ((d.entryBegun k n).sgate n).pos k.abs = (d.sgate n).pos k.abs := by
  unfold Dev.entryBegun
  split
  · exact ⟨rfl, rfl⟩
  split
  · exact ⟨rfl, rfl⟩
  · rename_i start _ hat
    refine ⟨rfl, ?_⟩
    unfold Dev.setOctets
    simp only [hat, if_false, Bool.false_eq_true, Dev.sgate_setSgate_self]
    rfl

/-- The octets counted begin at 0 with a new entry. -/
theorem Dev.octets_entryBegun {d : Dev} {k : Clock} {n start : Nat} (hstart : (d.sgateSays k n).start = some start)
    (hat : (d.sgate n).at_ ≠ start) (west : Bool) : (d.entryBegun k n).octets n west start = 0 := by
  unfold Dev.entryBegun
  rw [hstart]
  unfold Dev.octets Dev.setOctets
  simp only [hat, if_false, Bool.false_eq_true, Dev.sgate_setSgate_self, ite_self]

/-- What an entry boundary of a stream gate comes to. -/
theorem sgateEntry_shows {d : Dev} {n : Nat} (k : Clock) (hheld : d.isHeld 34 = false) : let b := sgateEntry n k d
    b.get (F.SG_OPEN n) = b2n (d.sgateOpen k n) ∧ b.get (F.SG_ENTRY n) = (((d.sgate n).pos k.abs).map GatePos.entry).getD 0 % 64 ∧
      ∀ start west, (d.sgateSays k n).start = some start → (d.sgate n).at_ ≠ start → b.octets n west start = 0 := by
  rw [sgateEntry_eq k hheld]
  obtain ⟨hfld, hpos⟩ := d.entryBegun_keeps k n
  obtain ⟨hshow, hopen, hother⟩ := (d.entryBegun k n).sgateShow_spec k n
  have hegr : ((d.entryBegun k n).sgateShow k n).egr = (d.entryBegun k n).egr := (congrArg Dev.egr hshow).trans rfl
  have hsame := (Dev.sgateOpen_congr hegr fun f hf => hother f (sgateRead_notShown n f hf)).trans (Dev.sgateOpen_of_pos hfld hpos)
  refine ⟨hsame ▸ hopen, hpos ▸ Dev.sgateShow_entry _ k n, fun start west hstart hat => ?_⟩
  rw [← Dev.octets_entryBegun hstart hat west]
  unfold Dev.octets
  rw [Dev.sgate, Dev.sgate, hegr]

end Sys2Proof.Machine
end

section
/-! Proofs: the refill tick (R275, R277). -/

namespace Sys2Proof.Machine
open Sys2Proof

/-! What visits leave as it is. -/

/-- The fields that the refill tick shows. -/
def refillShown : List Fld := [F.EG_REFILL_NUM_LO, F.EG_REFILL_NUM_HI, F.EG_PROFILE_PENDING]

theorem refillShown_still : ∀ f ∈ refillShown, f.still = true ∧ f.key ≠ F.EG_SCHED_STICKY.key := by decide

/-- Where a policer's word stands among the records. -/
abbrev policerKey (n : Nat) : Nat := 0x12 * 2 ^ 24 + n

/-- b is a but for the words of the policers listed, and what a report changes. -/
structure Dev.refills (ns : List Nat) (a b : Dev) : Prop where
  smi   : b.smi = a.smi
  get   : ∀ f ∈ refillShown, b.get f = a.get f
  words : ∀ key, (∀ n ∈ ns, key ≠ policerKey n) → tget? b.index key = tget? a.index key

section
variable {ns : List Nat}

theorem Dev.refills_refl (a : Dev) : a.refills ns a := ⟨rfl, fun _ _ => rfl, fun _ _ => rfl⟩

theorem Dev.refills.trans {a b c : Dev} (h : a.refills ns b) (g : b.refills ns c) : a.refills ns c :=
  ⟨g.smi.trans h.smi, fun f hf => (g.get f hf).trans (h.get f hf), fun key hkey => (g.words key hkey).trans (h.words key hkey)⟩

theorem Dev.refills.mono {a b : Dev} {ms : List Nat} (h : a.refills ns b) (hsub : ns ⊆ ms) : a.refills ms b :=
  ⟨h.smi, h.get, fun key hkey => h.words key fun n hn => hkey n (hsub hn)⟩

end

theorem Dev.refills_setRec (d : Dev) (n : Nat) (b : Bytes) : d.refills [n] (d.setRec 0x12 n b) :=
  ⟨rfl, fun _ _ => rfl, fun _ hkey => d.tget?_setRec_of_ne _ (hkey n List.mem_cons_self)⟩

theorem Dev.refills_setPolicer (d : Dev) (n : Nat) (w : PolWord) : d.refills [n] (d.setPolicer n w) := d.refills_setRec n _

/-- The report of a failed residue. -/
theorem Dev.refills_report (d : Dev) (k : Clock) : d.refills [] ((d.setBit F.EG_SCHED_STICKY 0).event k 548 flcRefill) := by
  have hevent := (d.setBit F.EG_SCHED_STICKY 0).alike_event k 548 flcRefill (by decide)
  refine ⟨hevent.smi_eq, fun f hf => ?_, fun key _ => congrArg (tget? · key) hevent.index_eq⟩
  obtain ⟨hstill, hne⟩ := refillShown_still f hf
  exact (hevent.get_eq f hstill).trans (Dev.get_set_of_ne _ _ hne)

theorem Dev.refills_policerFault (d : Dev) (k : Clock) (n : Nat) : d.refills [n] (d.policerFault k n) :=
  (d.refills_setPolicer n _).trans ((Dev.refills_report _ k).mono (List.nil_subset _))

/-- A visit reaches its policer's word alone. -/
theorem Dev.refills_visit (d : Dev) (k : Clock) (t n : Nat) (ok : Bool) : d.refills [n] (d.visit k t n ok) := by
  unfold Dev.visit
  dsimp only
  split
  · exact d.refills_setPolicer n _
  split
  · exact d.refills_setPolicer n _
  · exact (d.refills_setPolicer n _).trans (Dev.refills_policerFault _ k n)

/-- The visits of one tick. -/
def Dev.visitAll (d : Dev) (k : Clock) (t : Nat) (bad : List Nat) (ns : List Nat) : Dev :=
  ns.foldl (fun d i => d.visit k t i (!bad.contains i)) d

theorem Dev.refills_visitAll (d : Dev) (k : Clock) (t : Nat) (bad ns : List Nat) : d.refills ns (d.visitAll k t bad ns) :=
  List.foldlRecOn (motive := fun b => d.refills ns b) ns _ d.refills_refl fun b hb i hi =>
    hb.trans ((b.refills_visit k t i _).mono (by simpa using hi))

/-! The word that a visit leaves. -/

/-- A policer's word after a visit in tick t: filled when INIT stands, and credited when its divider is due. -/
def PolWord.refilled (w : PolWord) (f : Profile) (t : Nat) : PolWord :=
  let w1 : PolWord := if w.init then { w with c := f.cbs, e := f.ebs, init := false } else w
  if t % 2 ^ f.div = 0 then w1.credit f else w1

theorem Dev.visit_unassigned {d : Dev} (h : d.assigned = []) (k : Clock) (t n : Nat) :
    d.visit k t n true = d.setPolicer n ((d.policer n).refilled (d.profile (d.policer n).prof) t) := by
  unfold Dev.visit PolWord.refilled
  simp only [h, List.filter_nil, List.foldl_nil, bne_iff_ne, if_true, ite_not]
  split <;> rfl

theorem Dev.assigned_congr {a b : Dev} (h : b.smi = a.smi) : b.assigned = a.assigned := by rw [Dev.assigned, Dev.assigned, h]

/-- A profile's number is less than where the pending copies begin. -/
theorem PolWord.prof_of_lt (w : Nat) : (PolWord.of w).prof < 8192 := Nat.mod_lt _ (by decide)

/-- A policer visited once, its residue good, takes its refill. -/
theorem Dev.policer_visitAll {d : Dev} {bad ns : List Nat} {n : Nat} (hassigned : d.assigned = []) (hnodup : ns.Nodup)
    (hsmall : ∀ i ∈ ns, i < 262144) (hn : n ∈ ns) (hgood : n ∉ bad) (k : Clock) (t : Nat) :
    tget? (d.visitAll k t bad ns).index (policerKey n) =
      stored (toLE ((d.policer n).refilled (d.profile (d.policer n).prof) t).word 8) := by
  obtain ⟨before, after, rfl⟩ := List.append_of_mem hn
  obtain ⟨-, hafter, hdisj⟩ := List.nodup_append.mp hnodup
  have hkey : ∀ i, i ≠ n → policerKey n ≠ policerKey i := fun i hi => by unfold policerKey; omega
  set a := d.visitAll k t bad before with ha
  have hbefore : d.refills before a := d.refills_visitAll k t bad before
  have hword : a.policer n = d.policer n := congrArg (PolWord.of ∘ leNat)
    (Dev.record_congr (hbefore.words _ fun i hi => hkey i (hdisj i hi n List.mem_cons_self)) 8)
  have hprofile : a.profile (d.policer n).prof = d.profile (d.policer n).prof := congrArg Profile.of
    (Dev.record_congr (hbefore.words _ fun i hi => by
      have hi := hsmall i (List.mem_append_left _ hi)
      unfold policerKey
      omega) 16)
  have hvisit : d.visitAll k t bad (before ++ n :: after) = (a.visit k t n true).visitAll k t bad after := by
    have hok : (!bad.contains n) = true := by simpa using hgood
    rw [ha, ← hok]
    exact List.foldl_append
  rw [hvisit, (Dev.refills_visitAll _ k t bad after).words _ fun i hi => hkey i fun h => (List.nodup_cons.mp hafter).1 (h ▸ hi),
    Dev.visit_unassigned ((Dev.assigned_congr hbefore.smi).trans hassigned), hword, hprofile]
  exact Dev.tget?_setRec_self _ _ _ _

/-! The pending profiles become active. -/

section
variable {d : Dev}

/-- The pending copies, by the profiles they are of. -/
def Dev.pendingProfiles (d : Dev) : List (Nat × Bytes) :=
  (trange d.index (0x13 * 2 ^ 24 + 8192) (0x13 * 2 ^ 24 + 8192 + 8192)).map fun e => (e.1 - (0x13 * 2 ^ 24 + 8192), e.2)

/-- The records without the pending copies. -/
def Dev.withoutPending (d : Dev) : Dev :=
  { d with index := tclear d.index (0x13 * 2 ^ 24 + 8192) (0x13 * 2 ^ 24 + 8192 + 8192) }

theorem Dev.profilesTake_eq (d : Dev) :
    d.profilesTake = (d.withoutPending.setRecs 0x13 d.pendingProfiles).set F.EG_PROFILE_PENDING 0 := by
  unfold Dev.pendingProfiles Dev.setRecs
  rw [List.foldl_map]
  rfl

theorem mem_pendingProfiles {e : Nat × Bytes} :
    e ∈ d.pendingProfiles ↔ e.1 < 8192 ∧ (0x13 * 2 ^ 24 + 8192 + e.1, e.2) ∈ d.index := by
  simp only [Dev.pendingProfiles, trange, List.mem_map, List.mem_filter, Bool.and_eq_true, decide_eq_true_eq]
  constructor
  · rintro ⟨⟨key, x⟩, ⟨hmem, hlo, hhi⟩, rfl⟩
    dsimp only at hlo hhi ⊢
    have hkey : 0x13 * 2 ^ 24 + 8192 + (key - (0x13 * 2 ^ 24 + 8192)) = key := by omega
    exact ⟨by omega, hkey.symm ▸ hmem⟩
  · rintro ⟨hlt, hmem⟩
    exact ⟨_, ⟨hmem, by omega, by omega⟩, by rw [Nat.add_sub_cancel_left]⟩

theorem pendingProfiles_sorted (hs : d.index.Pairwise (fun a b => a.1 < b.1)) : d.pendingProfiles.Pairwise (fun a b => a.1 < b.1) := by
  refine List.pairwise_map.mpr (List.Pairwise.imp_of_mem (fun ha _ hab => ?_) (hs.filter _))
  have hlo := (List.mem_filter.mp ha).2
  simp only [Bool.and_eq_true, decide_eq_true_eq] at hlo
  omega

theorem Dev.profilesTake_smi (d : Dev) : d.profilesTake.smi = d.smi := by
  rw [d.profilesTake_eq, Dev.setRecs_eq]
  rfl

theorem Dev.profilesTake_get (d : Dev) {f : Fld} (hf : f.key ≠ F.EG_PROFILE_PENDING.key) : d.profilesTake.get f = d.get f := by
  rw [d.profilesTake_eq, Dev.get_set_of_ne _ _ hf, Dev.setRecs_eq]
  rfl

theorem Dev.profilesTake_none (d : Dev) : d.profilesTake.get F.EG_PROFILE_PENDING = 0 := by
  rw [d.profilesTake_eq, Dev.get_set_self]
  rfl

/-- A pending copy becomes its profile's record. -/
theorem Dev.profilesTake_takes (hs : d.index.Pairwise (fun a b => a.1 < b.1)) {j : Nat} {r : Bytes} (hj : j < 8192)
    (hr : tget? d.index (0x13 * 2 ^ 24 + 8192 + j) = some r) : tget? d.profilesTake.index (0x13 * 2 ^ 24 + j) = stored r := by
  rw [d.profilesTake_eq]
  exact Dev.tget?_setRecs_of_mem _ (pendingProfiles_sorted hs) (e := (j, r)) (mem_pendingProfiles.mpr ⟨hj, mem_of_tget? hr⟩)

/-- Without pending copies the records stay as they are. -/
theorem Dev.profilesTake_index (hs : d.index.Pairwise (fun a b => a.1 < b.1))
    (hnone : ∀ i < 8192, tget? d.index (0x13 * 2 ^ 24 + 8192 + i) = none) : d.profilesTake.index = d.withoutPending.index := by
  have hempty : d.pendingProfiles = [] := List.eq_nil_iff_forall_not_mem.mpr fun e he => by
    obtain ⟨hlt, hmem⟩ := mem_pendingProfiles.mp he
    exact Option.some_ne_none _ ((tget?_of_mem hs hmem).symm.trans (hnone e.1 hlt))
  rw [d.profilesTake_eq, hempty]
  rfl

theorem Dev.tget?_withoutPending {key : Nat} (h : key < 0x13 * 2 ^ 24 + 8192) : tget? d.withoutPending.index key = tget? d.index key :=
  tget?_filter_keep fun _ => by simp only [Bool.not_eq_true', Bool.and_eq_false_iff, decide_eq_false_iff_not]; omega

/-! The policers visited. -/

theorem Dev.visited_unassigned (h : d.assigned = []) : d.visited = if (PolWord.of 0).credit (d.profile 0) = PolWord.of 0 then
    (trange d.index (policerKey 0) (policerKey 262144)).map fun e => e.1 - policerKey 0 else List.range 262144 := by
  unfold Dev.visited
  rw [h]
  simp only [List.map_nil, List.eraseDups_nil, List.filter_nil, List.append_nil]
  rfl

theorem Dev.visited_lt (h : d.assigned = []) : ∀ i ∈ d.visited, i < 262144 := by
  rw [Dev.visited_unassigned h]
  split
  · simp only [trange, List.mem_map, List.mem_filter, Bool.and_eq_true, decide_eq_true_eq, policerKey]
    rintro _ ⟨e, ⟨-, hlo, hhi⟩, rfl⟩
    omega
  · exact fun i => List.mem_range.mp

theorem Dev.visited_nodup (h : d.assigned = []) (hs : d.index.Pairwise (fun a b => a.1 < b.1)) : d.visited.Nodup := by
  rw [Dev.visited_unassigned h]
  split
  · refine List.pairwise_map.mpr (List.Pairwise.imp_of_mem (fun ha _ hab => ?_) (hs.filter _))
    have hlo := (List.mem_filter.mp ha).2
    simp only [Bool.and_eq_true, decide_eq_true_eq] at hlo
    omega
  · exact List.nodup_range

/-- A policer whose word is kept is visited. -/
theorem Dev.mem_visited (h : d.assigned = []) {n : Nat} {r : Bytes} (hn : n < 262144) (hr : tget? d.index (policerKey n) = some r) :
    n ∈ d.visited := by
  rw [Dev.visited_unassigned h]
  split
  · refine List.mem_map.mpr ⟨_, List.mem_filter.mpr ⟨mem_of_tget? hr, ?_⟩, ?_⟩
    · simp only [policerKey, Bool.and_eq_true, decide_eq_true_eq]
      omega
    · simp [policerKey]
  · exact List.mem_range.mpr hn

/-! The tick. -/

theorem refillTick_early {k : Clock} {bad : List Nat} (h : k.shape < d.nextRefill * 8192 * 2 ^ 32) : refillTick bad k d = d :=
  if_pos (by rw [Bool.or_eq_true]; exact .inr (decide_eq_true h))

/-- The device once the tick is counted and its pending profiles are active. -/
def Dev.tickBegun (d : Dev) : Dev := (d.set64 F.EG_REFILL_NUM_LO F.EG_REFILL_NUM_HI d.nextRefill).profilesTake

theorem Dev.assigned_of_noWaits (h : ∀ w ∈ d.smi.waits, ∀ n, w.kind ≠ .policer n) : d.assigned = [] := by
  refine List.filter_eq_nil_iff.mpr fun w hw => ?_
  split
  · rename_i n hkind
    exact absurd hkind (h w hw n)
  · decide

/-- Without commands that wait for it, the tick is its visits. -/
theorem refillTick_due {k : Clock} {bad : List Nat} (hheld : d.isHeld 34 = false) (hdue : d.nextRefill * 8192 * 2 ^ 32 ≤ k.shape)
    (hwaits : ∀ w ∈ d.smi.waits, ∀ n, w.kind ≠ .policer n) :
    refillTick bad k d = d.tickBegun.visitAll k d.nextRefill bad d.tickBegun.visited := by
  have hsmi : (d.tickBegun.visitAll k d.nextRefill bad d.tickBegun.visited).smi = d.smi :=
    (Dev.refills_visitAll _ k _ bad _).smi.trans (Dev.profilesTake_smi _)
  have hcomes : ¬(d.isHeld 34 || decide (k.shape < d.nextRefill * 8192 * 2 ^ 32)) = true := by simpa [hheld] using hdue
  unfold refillTick
  dsimp only
  rw [if_neg hcomes, List.filter_eq_nil_iff.mpr fun w hw => ?_, List.foldl_nil]
  · rfl
  · have hw : w ∈ d.smi.waits := hsmi ▸ hw
    split
    · rename_i n hkind
      exact absurd hkind (hwaits w hw n)
    · decide

/-- The registers of a tick begun: its number, and no profile pending. -/
theorem Dev.tickBegun_shows (d : Dev) : d.tickBegun.get64 F.EG_REFILL_NUM_LO F.EG_REFILL_NUM_HI = d.nextRefill % 2 ^ 64 ∧
    d.tickBegun.get F.EG_PROFILE_PENDING = 0 := by
  have hlo : d.tickBegun.get F.EG_REFILL_NUM_LO = d.nextRefill % 2 ^ 32 :=
    (Dev.profilesTake_get _ (by decide)).trans ((Dev.get_set_of_ne _ _ (by decide)).trans (Dev.get_set_self _ _ _))
  have hhi : d.tickBegun.get F.EG_REFILL_NUM_HI = d.nextRefill / 2 ^ 32 % 2 ^ 32 :=
    (Dev.profilesTake_get _ (by decide)).trans (Dev.get_set_self _ _ _)
  refine ⟨?_, Dev.profilesTake_none _⟩
  rw [Dev.get64, hlo, hhi]
  omega

theorem Dev.tickBegun_unassigned (h : ∀ w ∈ d.smi.waits, ∀ n, w.kind ≠ .policer n) : d.tickBegun.assigned = [] :=
  (Dev.assigned_congr (Dev.profilesTake_smi _)).trans (Dev.assigned_of_noWaits h)

section
variable {k : Clock} {bad : List Nat} (hheld : d.isHeld 34 = false) (hdue : d.nextRefill * 8192 * 2 ^ 32 ≤ k.shape)
  (hwaits : ∀ w ∈ d.smi.waits, ∀ n, w.kind ≠ .policer n)
include hheld hdue hwaits

theorem refillTick_shows : let b := refillTick bad k d
    b.get64 F.EG_REFILL_NUM_LO F.EG_REFILL_NUM_HI = d.nextRefill % 2 ^ 64 ∧ b.get F.EG_PROFILE_PENDING = 0 := by
  rw [refillTick_due hheld hdue hwaits]
  obtain ⟨-, hget, -⟩ := d.tickBegun.refills_visitAll k d.nextRefill bad d.tickBegun.visited
  obtain ⟨hnumber, hnone⟩ := d.tickBegun_shows
  refine ⟨?_, (hget _ (by decide)).trans hnone⟩
  rw [← hnumber, Dev.get64, Dev.get64, hget _ (by decide), hget _ (by decide)]

variable (hs : d.index.Pairwise (fun a b => a.1 < b.1))
include hs

/-- A pending profile is active once the tick has come. -/
theorem refillTick_profile {j : Nat} {r : Bytes} (hj : j < 8192) (hlen : r.length ≤ 16)
    (hr : tget? d.index (0x13 * 2 ^ 24 + 8192 + j) = some r) : (refillTick bad k d).record 0x13 j 16 = padTo r 16 := by
  refine Dev.record_stored ?_ hlen
  rw [refillTick_due hheld hdue hwaits, (Dev.refills_visitAll _ k _ bad _).words _ fun n hn => ?_]
  · exact Dev.profilesTake_takes (d := d.set64 F.EG_REFILL_NUM_LO F.EG_REFILL_NUM_HI d.nextRefill) hs hj hr
  · have hn := Dev.visited_lt (Dev.tickBegun_unassigned hwaits) n hn
    unfold policerKey
    omega

/-- A policer whose residue is good takes its refill, when no profile changes at the tick. -/
theorem refillTick_policer {n : Nat} {r : Bytes} (hnone : ∀ i < 8192, tget? d.index (0x13 * 2 ^ 24 + 8192 + i) = none) (hn : n < 262144)
    (hgood : n ∉ bad) (hr : tget? d.index (policerKey n) = some r) : leNat ((refillTick bad k d).record 0x12 n 8) =
      ((d.policer n).refilled (d.profile (d.policer n).prof) d.nextRefill).word % 2 ^ 64 := by
  have hindex : d.tickBegun.index = d.withoutPending.index :=
    Dev.profilesTake_index (d := d.set64 F.EG_REFILL_NUM_LO F.EG_REFILL_NUM_HI d.nextRefill) hs hnone
  have hkeeps : ∀ key, key < 0x13 * 2 ^ 24 + 8192 → tget? d.tickBegun.index key = tget? d.index key := fun key hkey =>
    (congrArg (tget? · key) hindex).trans (Dev.tget?_withoutPending hkey)
  have hword : d.tickBegun.policer n = d.policer n := congrArg (PolWord.of ∘ leNat) (Dev.record_congr (hkeeps _ (by omega)) 8)
  have hprofile : d.tickBegun.profile (d.policer n).prof = d.profile (d.policer n).prof := congrArg Profile.of
    (Dev.record_congr (hkeeps _ (by have := PolWord.prof_of_lt (leNat (d.record 0x12 n 8)); unfold Dev.policer; omega)) 16)
  have hfree := Dev.tickBegun_unassigned hwaits
  have hvisit := Dev.policer_visitAll hfree (Dev.visited_nodup hfree (hindex ▸ hs.filter _)) (Dev.visited_lt hfree)
    (Dev.mem_visited hfree hn ((hkeeps _ (by unfold policerKey; omega)).trans hr)) hgood k d.nextRefill
  rw [refillTick_due hheld hdue hwaits, Dev.leNat_record hvisit, leNat_toLE, hword, hprofile]
  rfl

end

end

/-- Settles O52: a list's start and an entry boundary by what they show anew, the tick by its visits, each of which reaches one
policer's word. -/
theorem gatesAndRefill : Obligations.GatesAndRefill := by
  unfold Obligations.GatesAndRefill
  intro s p g l n j r bad d k tick hp hheld
  refine ⟨fun hpend => ⟨fun hdue => ?_, fun hearly => ends_onDev rfl hp (gateListStart_early hpend hearly)⟩,
    fun hpend => ⟨fun hdue => ?_, fun hearly => ends_onDev rfl hp (gateListStart_early hpend hearly)⟩,
    fun hport => ends_onDev rfl hp ?_, ends_onDev rfl hp (sgateEntry_shows k hheld),
    fun hearly => ends_onDev rfl hp (refillTick_early hearly), fun hdue hwaits hs => ends_onDev rfl hp ?_⟩
  · exact ends_onDev rfl hp (gateListStart_due (stream := false) hheld hpend hdue ▸ Dev.gateStart_port_shows p.isLt hpend)
  · exact ends_onDev rfl hp (gateListStart_due (stream := true) hheld hpend hdue ▸ Dev.gateStart_stream_shows g.isLt hpend)
  · rw [if_pos (by simp [d, hport, hheld])]
    exact d.sets_gateShow k p
  · obtain ⟨hnumber, hnone⟩ := refillTick_shows (bad := bad) hheld hdue hwaits
    exact ⟨hnumber, hnone, fun hj hlen hr => refillTick_profile hheld hdue hwaits hs hj hlen hr,
      fun hfree hn hgood _ hr => refillTick_policer hheld hdue hwaits hs hfree hn hgood hr⟩

end Sys2Proof.Machine
end

section
/-! Proofs: the invariant of a run (R302, R305, R308). -/

namespace Sys2Proof.Machine
open Sys2Proof

/-- A step carries out the command at the front of the queue, or there is none and nothing changes. -/
theorem step_cases {s t : State} (h : step s = .next t) :
    (s.pending = [] ∧ t = s) ∨ ∃ c rest, s.pending = c :: rest ∧ exec c { s with pending := rest } = .next t := by
  unfold step at h
  split at h
  · rename_i hp
    exact .inl ⟨hp, (Host.Outcome.next.inj h).symm⟩
  · rename_i c rest hp
    exact .inr ⟨c, rest, hp, h⟩

/-- Settles O5: every command keeps the machine well-formed, and an idle step keeps the machine. -/
theorem stepsKeepWellFormed : Obligations.StepsKeepWellFormed := by
  unfold Obligations.StepsKeepWellFormed
  intro s t hok hstep
  obtain ⟨-, rfl⟩ | ⟨c, rest, -, hexec⟩ := step_cases hstep
  · exact hok
  · exact exec_ok (s := { s with pending := rest }) hok hexec

end Sys2Proof.Machine
end

section
/-! Proofs: what reset leaves (R302, R305, R306, R450, R480, R487). -/

namespace Sys2Proof.Machine
open Sys2Proof

/-- At reset every register field reads its reset value (R13). -/
theorem reset_get (f : Fld) : State.reset.m.dev.get f = f.reset := Nat.mod_mod f.rst _

/-- A submission ring and the completion ring of its number at reset (R450). -/
theorem reset_ring (r : Fin 16) : State.reset.m.dev.get (F.SQ_EN r) = 0 ∧ State.reset.m.dev.get (F.CQ_EN r) = 0 ∧
    State.reset.m.dev.get (F.SQ_CQ r) = r ∧ State.reset.m.dev.get (F.CQ_PHASE r) = 1 ∧ State.reset.m.dev.get (F.SQ_SIZE_LOG2 r) = 6 := by
  have hring : (F.SQ_CQ r).reset = r := (Nat.mod_eq_of_lt (by omega : 0 + r.val < 2 ^ 4)).trans (Nat.zero_add _)
  exact ⟨reset_get _, reset_get _, (reset_get _).trans hring, reset_get _, reset_get _⟩

/-- Settles O4: the clock and the pins as reset holds them, each field at its reset value. -/
theorem resetLeaves : Obligations.ResetLeaves := by
  unfold Obligations.ResetLeaves
  exact ⟨rfl, rfl, rfl, rfl, rfl, rfl, rfl, reset_get _, reset_get _, reset_get _, reset_get _, reset_get _, reset_get _,
    reset_get _, reset_ring⟩

end Sys2Proof.Machine
end

section
/-! Proofs: time commands (R306 to R308, R318, R319, R441). -/

namespace Sys2Proof.Machine
open Sys2Proof

/-! What the parameters that pass the checks bound. -/

/-- A little-endian value is below the power of its length. -/
theorem leNat_lt (b : Bytes) : leNat b < 256 ^ b.length := by
  induction b with
  | nil => simp [leNat]
  | cons x xs ih =>
    have hx := x.isLt
    rw [leNat, List.length_cons, pow_succ]
    omega

theorem leAt_lt (b : Bytes) (o w : Nat) : leAt b o w < 256 ^ w := by
  simpa [leAt, sliceZ_length] using leNat_lt (sliceZ b o w)

theorem timeSetCheck_ns {q : Req} {m : Mach} (h : timeSetCheck q m = none) : q.u 6 4 < 1000000000 := by
  have hns : decide (1000000000 ≤ q.u 6 4) = false := badParam_none_fields (o := 6) h (by simp) (by decide)
  simpa using hns

/-- An increment that is set is one that R308 allows. -/
theorem timeAdjustCheck_inc {q : Req} {m : Mach} (h : timeAdjustCheck q m = none) (hrate : q.flagAt 0 1 = true) :
    incBad (q.u 16 4 * 2 ^ 32 + q.u 20 4) = false := by
  have hinc : (q.flagAt 0 1 && incBad (q.u 16 4 * 2 ^ 32 + q.u 20 4)) = false :=
    badParam_none_fields (o := 16) h (by simp) (by decide)
  simpa [hrate] using hinc

/-! How a step moves network time (R306, R307). -/

theorem Clock.setTime_eq (k : Clock) {sec ns : Nat} (hsec : sec < 2 ^ 48) (hns : ns < 1000000000) :
    k.setTime sec ns = { k with sec := sec, sub := ns * 2 ^ 32 } := by
  simp only [Clock.setTime, Nat.mod_eq_of_lt hsec, Nat.mod_eq_of_lt hns]

/-- A step keeps what lies below a nanosecond. -/
theorem Clock.stepBy_fraction (k : Clock) (off : Int) : (k.stepBy off).sub % 2 ^ 32 = k.sub % 2 ^ 32 := by
  simp only [Clock.stepBy]
  omega

/-- A step moves whole nanoseconds, modulo the 48-bit seconds. -/
theorem Clock.stepBy_abs (k : Clock) (off : Int) : ((k.stepBy off).abs : Int) = (k.abs + off) % (2 ^ 48 * 1000000000) := by
  simp only [Clock.stepBy, Clock.abs, Clock.ns]
  omega

/-! TIME_SET and TIME_ADJUST (R441). -/

section
variable {q : Req} {m : Mach}

theorem timeCommand_runs {op : Nat} (h : m.dev.isHeld 38 = false) :
    timeCommand op q m = .done (timeApply op q m).1 (timeApply op q m).2 := if_neg (by simp [h])

theorem timeApply_set_clk (hns : q.u 6 4 < 1000000000) :
    (timeApply 0x0070 q m).1.clk = { m.clk with sec := q.u 0 6, sub := q.u 6 4 * 2 ^ 32 } :=
  m.clk.setTime_eq (leAt_lt q.params 0 6) hns

theorem timeApply_set_valid : (timeApply 0x0070 q m).1.dev.get F.TU_TIME_VALID = 1 := Dev.get_set_self _ _ _

/-- The machine once a step asked for has been taken. -/
def stepTaken (q : Req) (m : Mach) : Mach := if q.flagAt 0 0 then m.stepTo (m.clk.stepBy (q.s 8 8)) else m

theorem stepTaken_clk : (stepTaken q m).clk = if q.flagAt 0 0 then m.clk.stepBy (q.s 8 8) else m.clk := by
  unfold stepTaken
  split <;> rfl

variable (hinc : q.flagAt 0 1 = true → incBad (q.u 16 4 * 2 ^ 32 + q.u 20 4) = false)
include hinc

/-- TIME_ADJUST is its step and then its rate. -/
theorem timeApply_adjust :
    (timeApply 0x0071 q m).1 = { stepTaken q m with clk := { (stepTaken q m).clk with
      inc := if q.flagAt 0 1 then q.u 16 4 * 2 ^ 32 + q.u 20 4 else (stepTaken q m).clk.inc } } := by
  change (if q.flagAt 0 1 && !incBad (q.u 16 4 * 2 ^ 32 + q.u 20 4) then _ else stepTaken q m) = _
  cases hrate : q.flagAt 0 1 with
  | false => rfl
  | true => rw [hinc hrate]; rfl

/-- TIME_ADJUST leaves TICK_COUNT and the fraction of a nanosecond; its step moves network time, and its rate is the increment. -/
theorem timeApply_adjust_clk : let k := (timeApply 0x0071 q m).1.clk
    k.tick = m.clk.tick ∧ k.sub % 2 ^ 32 = m.clk.sub % 2 ^ 32 ∧
      (q.flagAt 0 0 = true → (k.abs : Int) = (m.clk.abs + q.s 8 8) % (2 ^ 48 * 1000000000)) ∧
      k.inc = if q.flagAt 0 1 then q.u 16 4 * 2 ^ 32 + q.u 20 4 else m.clk.inc := by
  rw [timeApply_adjust hinc, stepTaken_clk]
  cases q.flagAt 0 0 with
  | false => exact ⟨rfl, rfl, nofun, rfl⟩
  | true => exact ⟨rfl, m.clk.stepBy_fraction _, fun _ => m.clk.stepBy_abs _, rfl⟩

/-- Without a step TIME_ADJUST leaves network time and the device. -/
theorem timeApply_adjust_rateOnly (h : q.flagAt 0 0 = false) : let n := (timeApply 0x0071 q m).1
    n.clk.sec = m.clk.sec ∧ n.clk.sub = m.clk.sub ∧ n.dev = m.dev := by
  have hnone : stepTaken q m = m := if_neg (by simp [h])
  rw [timeApply_adjust hinc, hnone]
  exact ⟨rfl, rfl, rfl⟩

end

/-! TSQ_READ (R319, R441). -/

/-- How many entries TSQ_READ writes: those asked for, up to what the buffer holds. -/
def tsqTaken (q : Req) (d : Dev) : Nat := min ((d.tsqOf (q.u 0 1)).take (q.u 1 1)).length (q.u 16 4 / 16)

/-- Whole records go to the buffer as one write, or none goes. -/
theorem Dev.bufWrite_spec (d : Dev) (addr len size : Nat) (recs : List Bytes) :
    let n := min recs.length (len / size)
    (d.bufWrite addr len size recs).1 = n ∧ (d.bufWrite addr len size recs).2 = { d with
      out := d.out ++ if n = 0 then [] else [.hostWrite addr (recs.take n).flatten] } := by
  unfold Dev.bufWrite
  dsimp only
  split
  · exact ⟨rfl, by simp⟩
  · exact ⟨rfl, rfl⟩

/-- TSQ_READ writes the oldest entries and takes them from the queue; the queues of other lanterns stay. -/
theorem tsqRead_spec (q : Req) (k : Clock) (d : Dev) :
    let l := q.u 0 1
    let es := (d.tsqOf l).take (q.u 1 1)
    let n := tsqTaken q d
    let b := (tsqRead q k d).1
    (tsqRead q k d).2 = ⟨if n < es.length then stPartial else stOk, n, 0⟩ ∧ b.tsqOf l = (d.tsqOf l).drop n ∧
      (∀ j, j ≠ l → b.tsqOf j = d.tsqOf j) ∧
      b.out = d.out ++ if n = 0 then [] else [.hostWrite (q.u 8 8) ((es.take n).map TsqEntry.bytes).flatten] := by
  intro l es n b
  obtain ⟨hn, hd⟩ := d.bufWrite_spec (q.u 8 8) (q.u 16 4) 16 (es.map TsqEntry.bytes)
  rw [List.length_map, ← List.map_take] at hd
  rw [List.length_map] at hn
  have hread : tsqRead q k d = ({ d with
      timeU := { d.timeU with tsq := tput d.timeU.tsq l [] ((d.tsqOf l).drop n) }
      out := d.out ++ if n = 0 then [] else [.hostWrite (q.u 8 8) ((es.take n).map TsqEntry.bytes).flatten] },
      ⟨if n < es.length then stPartial else stOk, n, 0⟩) := by
    unfold tsqRead
    dsimp only
    rw [hn, hd]
    rfl
  have hb : b = _ := congrArg Prod.fst hread
  rw [hb]
  exact ⟨congrArg Prod.snd hread, tgetD_tput_self _ _ _ _, fun j hj => tgetD_tput_of_ne _ _ _ _ hj, rfl⟩

/-- Settles O33: each command by its body. A step moves the clock by Clock.setTime or Clock.stepBy, whatever the armed actions
it passes do; TSQ_READ takes from the queue what its buffer holds. -/
theorem timeCommands : Obligations.TimeCommands := by
  unfold Obligations.TimeCommands
  intro q s
  have held {op : Nat} (h : s.m.dev.isHeld 38 = false) : (s.m.taken op q).dev.isHeld 38 = false := by
    rwa [Dev.isHeld, Mach.taken_boot]
  refine ⟨fun hready hcheck hrun => ?_, fun hready hcheck hrun => ?_, fun hready hcheck => ?_⟩
  · exact answers_smiem rfl hready hcheck (timeCommand_runs (held hrun))
      ⟨rfl, timeApply_set_clk (timeSetCheck_ns hcheck), timeApply_set_valid⟩
  · have hinc := timeAdjustCheck_inc hcheck
    obtain ⟨htick, hfraction, hstep, hrate⟩ := timeApply_adjust_clk (m := s.m.taken 0x0071 q) hinc
    exact answers_smiem rfl hready hcheck (timeCommand_runs (held hrun))
      ⟨rfl, htick, hfraction, hstep, timeApply_adjust_rateOnly hinc, hrate⟩
  · exact answers_smiemDev rfl hready hcheck rfl (tsqRead_spec q s.m.clk _)

end Sys2Proof.Machine
end

section
/-! Proofs: fields written and an event reported (R26, R517). -/

namespace Sys2Proof.Machine
open Sys2Proof

/-- Fields written and then an event: each field reads what was written, and the rest is as before but for the report. -/
theorem Dev.setAll_event_shows (d : Dev) (k : Clock) {l : List (Fld × Nat)} {fs : List Fld} {n : Nat} (c : Nat)
    (hl : l.map Prod.fst = fs) (hn : n < 1024) (hnodup : (fs.map Fld.key).Nodup) (hstill : ∀ f ∈ fs, f.still = true) :
    (∀ p ∈ l, ((d.setAll l).event k n c).get p.1 = p.2 % 2 ^ p.1.w) ∧ d.alikeBut fs ((d.setAll l).event k n c) := by
  subst hl
  obtain ⟨heq, hget, hkeep⟩ := Dev.sets_setAll l d (by rwa [List.map_map] at hnodup)
  obtain ⟨hreport, hfields⟩ := (d.setAll l).alike_event k n c hn
  refine ⟨fun p hp => (hfields p.1 (hstill _ (List.mem_map_of_mem hp))).trans (hget p hp), ?_, fun f hf hne => ?_⟩
  · rw [hreport, heq]
  · exact (hfields f hf).trans (hkeep f fun p hp => hne p.1 (List.mem_map_of_mem hp))

/-- A bit set in a still field reads 1 after the event that reports it. -/
theorem Dev.bit_setBit_event (d : Dev) (k : Clock) {f : Fld} {i n : Nat} (c : Nat) (hi : i < f.w) (hf : f.still = true) (hn : n < 1024) :
    bit (((d.setBit f i).event k n c).get f) i = true := by
  rw [((d.setBit f i).alike_event k n c hn).get_eq f hf, Dev.bit_setBit d hi]

end Sys2Proof.Machine
end

section
/-! Proofs: the pins of the time unit (R303, R320 to R323). -/

namespace Sys2Proof.Machine
open Sys2Proof

/-! The reference (R303). -/

theorem refLost_shows (k : Clock) (d : Dev) : let b := refLost k d
    b.get F.TU_HOLDOVER = 1 ∧ b.get F.TU_REF_LOCKED = 0 ∧ d.alikeBut [F.TU_HOLDOVER, F.TU_REF_LOCKED, F.TU_TIME_STICKY] b := by
  obtain ⟨hget, hbut⟩ := d.setAll_event_shows k (fs := [F.TU_HOLDOVER, F.TU_REF_LOCKED, F.TU_TIME_STICKY])
    (l := [(F.TU_HOLDOVER, 1), (F.TU_REF_LOCKED, 0),
      (F.TU_TIME_STICKY, ((d.setB F.TU_HOLDOVER true).setB F.TU_REF_LOCKED false).get F.TU_TIME_STICKY ||| 2 ^ 0)])
    (n := 16 * 38 + 2) (flc 38 1 0) rfl (by decide) (by decide) (by decide)
  exact ⟨hget (F.TU_HOLDOVER, 1) (by simp), hget (F.TU_REF_LOCKED, 0) (by simp), hbut⟩

theorem refRestored_shows (k : Clock) (d : Dev) : let b := refRestored k d
    b.get F.TU_HOLDOVER = 0 ∧ b.get F.TU_REF_LOCKED = 1 ∧ d.alikeBut [F.TU_HOLDOVER, F.TU_REF_LOCKED] b := by
  obtain ⟨hget, hbut⟩ := d.setAll_event_shows k (l := [(F.TU_REF_LOCKED, 1), (F.TU_HOLDOVER, 0)]) (n := 16 * 38 + 3) (flc 38 1 0)
    rfl (by decide) (by decide) (by decide)
  refine ⟨hget (F.TU_HOLDOVER, 0) (by simp), hget (F.TU_REF_LOCKED, 1) (by simp), hbut.1, fun f hf hne => hbut.2 f hf fun g hg => ?_⟩
  exact hne g (by simpa [or_comm] using hg)

/-! Timed inputs (R320, R321, R322). -/

/-- An edge follows the last one detected at its input by 40 ns. -/
def Dev.edgeFar (d : Dev) (k : Clock) (i : Nat) : Prop := ∀ t, tget? d.timeU.lastEdge i = some t → 40 ≤ tickNs t k.tick

/-- The device once an edge has been detected, before its capture. -/
def Dev.edgeSeen (d : Dev) (k : Clock) (i : Fin 5) : Dev :=
  let d1 := { d with timeU := { d.timeU with lastEdge := tset d.timeU.lastEdge i k.tick } }
  if i.val = 0 then d1.setB F.TU_PPS_PRESENT true else d1

theorem Dev.edgeSeen_shows (d : Dev) (k : Clock) (i : Fin 5) :
    (d.edgeSeen k i).timeU = { d.timeU with lastEdge := tset d.timeU.lastEdge i k.tick } ∧
      (i = 0 → (d.edgeSeen k i).get F.TU_PPS_PRESENT = 1) := by
  unfold Dev.edgeSeen
  dsimp only
  split
  · exact ⟨rfl, fun _ => Dev.get_set_self _ _ _⟩
  · rename_i hi
    exact ⟨rfl, fun h => absurd (congrArg Fin.val h) hi⟩

section
variable {d : Dev} {k : Clock} {i : Fin 5} {width : Nat}

theorem timedEdge_off (hoff : d.inputOn i = false) : timedEdge i width k d = d := if_pos (by simp [hoff])

theorem timedEdge_detected (hon : d.inputOn i = true) (hwide : 8 ≤ width) (hfar : d.edgeFar k i) :
    timedEdge i width k d = (d.edgeSeen k i).capture k i := by
  have hnarrow : ¬ width < 8 := Nat.not_lt.mpr hwide
  unfold timedEdge
  cases hlast : tget? d.timeU.lastEdge i with
  | none => simp only [hon, hnarrow, Bool.not_true, Bool.false_eq_true, if_false, decide_false, Bool.or_self]; rfl
  | some t =>
    have hns : decide (40 ≤ tickNs t k.tick) = true := decide_eq_true (hfar t hlast)
    simp only [hon, hnarrow, hns, Bool.not_true, Bool.false_eq_true, if_false, decide_false, Bool.or_self]; rfl

theorem timedEdge_merged (hon : d.inputOn i = true) (h : width < 8 ∨ ¬ d.edgeFar k i) :
    timedEdge i width k d = (d.setB (F.TU_OVERRUN i) true).event k (16 * 38 + 5) (flc 38 2 i) := by
  unfold timedEdge
  dsimp only
  rw [if_neg (by simp [hon]), if_pos]
  rcases h with hnarrow | hnear
  · simp [hnarrow]
  · obtain ⟨t, hlast, hns⟩ : ∃ t, tget? d.timeU.lastEdge i = some t ∧ ¬ 40 ≤ tickNs t k.tick := by
      simpa [Dev.edgeFar] using hnear
    simp [hlast, hns]

/-- The flags of the capture FIFOs are still. -/
theorem still_capture : ∀ i : Fin 5, (F.TU_OVERRUN i).still = true ∧ (F.TU_OVERFLOW i).still = true := by decide

theorem Dev.capture_room (hroom : (d.fifoOf i).length < 16) :
    ∃ b : Dev, b.alike (d.capture k i) ∧ b.fld = d.fld ∧
      b.timeU = { d.timeU with fifos := tput d.timeU.fifos i [] (d.fifoOf i ++ [(k.sec, k.ns)]) } := by
  refine ⟨{ d with timeU := { d.timeU with fifos := tput d.timeU.fifos i [] (d.fifoOf i ++ [(k.sec, k.ns)]) } }, ?_, rfl, rfl⟩
  unfold Dev.capture
  dsimp only
  rw [if_neg (by omega)]
  split
  · exact Dev.alike_event _ k _ _ (by decide)
  · exact Dev.alike_refl _

theorem Dev.capture_full (hfull : 16 ≤ (d.fifoOf i).length) :
    d.capture k i = (d.setB (F.TU_OVERFLOW i) true).event k (16 * 38 + 6) (flc 38 2 i) := if_pos hfull

theorem Dev.fifoOf_congr {a b : Dev} (h : b.timeU.fifos = a.timeU.fifos) (j : Nat) : b.fifoOf j = a.fifoOf j := by
  rw [Dev.fifoOf, Dev.fifoOf, h]

theorem timedEdge_captured (hon : d.inputOn i = true) (hwide : 8 ≤ width) (hfar : d.edgeFar k i) (hroom : (d.fifoOf i).length < 16) :
    let b := timedEdge i width k d
    b.fifoOf i = d.fifoOf i ++ [(k.sec, k.ns)] ∧ tget? b.timeU.lastEdge i = some k.tick ∧ (i = 0 → b.get F.TU_PPS_PRESENT = 1) := by
  rw [timedEdge_detected hon hwide hfar]
  obtain ⟨hseen, hpresent⟩ := d.edgeSeen_shows k i
  have hfifo : (d.edgeSeen k i).fifoOf i = d.fifoOf i := Dev.fifoOf_congr (by rw [hseen]) i
  obtain ⟨b, hreport, hfld, htime⟩ := Dev.capture_room (k := k) (hfifo ▸ hroom)
  rw [hfifo, hseen] at htime
  refine ⟨?_, ?_, fun hi => ?_⟩
  · rw [Dev.fifoOf_congr (congrArg TimeU.fifos hreport.timeU_eq), Dev.fifoOf, htime]
    exact tgetD_tput_self _ _ _ _
  · rw [hreport.timeU_eq, htime]
    exact tget?_tset_self _ _ _
  · rw [hreport.get_eq _ (by decide), Dev.get_congr hfld, hpresent hi]

theorem timedEdge_dropped (hon : d.inputOn i = true) (hwide : 8 ≤ width) (hfar : d.edgeFar k i) (hfull : 16 ≤ (d.fifoOf i).length) :
    let b := timedEdge i width k d
    b.fifoOf i = d.fifoOf i ∧ b.get (F.TU_OVERFLOW i) = 1 ∧ tget? b.timeU.lastEdge i = some k.tick := by
  rw [timedEdge_detected hon hwide hfar]
  obtain ⟨hseen, -⟩ := d.edgeSeen_shows k i
  have hfifo : (d.edgeSeen k i).fifoOf i = d.fifoOf i := Dev.fifoOf_congr (by rw [hseen]) i
  rw [Dev.capture_full (hfifo ▸ hfull)]
  have hreport := ((d.edgeSeen k i).setB (F.TU_OVERFLOW i) true).alike_event k (16 * 38 + 6) (flc 38 2 i) (by decide)
  refine ⟨?_, ?_, ?_⟩
  · rw [Dev.fifoOf_congr (congrArg TimeU.fifos hreport.timeU_eq)]
    exact hfifo
  · rw [hreport.get_eq _ (still_capture i).2]
    exact Dev.get_set_self _ _ _
  · rw [hreport.timeU_eq]
    exact (congrArg (fun u => tget? u.lastEdge i) hseen).trans (tget?_tset_self _ _ _)

theorem timedEdge_merged_shows (hon : d.inputOn i = true) (h : width < 8 ∨ ¬ d.edgeFar k i) :
    let b := timedEdge i width k d
    b.get (F.TU_OVERRUN i) = 1 ∧ b.timeU = d.timeU := by
  rw [timedEdge_merged hon h]
  have hreport := (d.setB (F.TU_OVERRUN i) true).alike_event k (16 * 38 + 5) (flc 38 2 i) (by decide)
  exact ⟨(hreport.get_eq _ (still_capture i).1).trans (Dev.get_set_self _ _ _), hreport.timeU_eq⟩

end

theorem ppsTimeout_shows {d : Dev} (k : Clock) (hen : d.flag F.TU_PPS_IN_EN = true) : let b := ppsTimeout k d
    b.get F.TU_PPS_PRESENT = 0 ∧ bit (b.get F.TU_TIME_STICKY) 1 = true ∧ d.alikeBut [F.TU_PPS_PRESENT, F.TU_TIME_STICKY] b := by
  have heq : ppsTimeout k d = ((d.setB F.TU_PPS_PRESENT false).setBit F.TU_TIME_STICKY 1).event k (16 * 38 + 4) (flc 38 2 0) := if_pos hen
  obtain ⟨hget, hbut⟩ := d.setAll_event_shows k (fs := [F.TU_PPS_PRESENT, F.TU_TIME_STICKY])
    (l := [(F.TU_PPS_PRESENT, 0), (F.TU_TIME_STICKY, (d.setB F.TU_PPS_PRESENT false).get F.TU_TIME_STICKY ||| 2 ^ 1)]) (n := 16 * 38 + 4)
    (flc 38 2 0) rfl (by decide) (by decide) (by decide)
  rw [heq]
  exact ⟨hget (F.TU_PPS_PRESENT, 0) (by simp), Dev.bit_setBit_event _ k _ (by decide) (by decide) (by decide), hbut⟩

/-! PPS_OUT (R323). -/

/-- A rise now would follow the last by less than half of PPS_OUT_PERIOD. -/
def Dev.riseSoon (d : Dev) (k : Clock) : Prop := ∃ t, d.timeU.lastRise = some t ∧ 2 * tickNs t k.tick < d.ppsPeriod

section
variable {d : Dev} {k : Clock}
variable (hheld : d.isHeld 38 = false) (hen : d.flag F.TU_PPS_OUT_EN = true) (hvalid : d.flag F.TU_TIME_VALID = true)
variable (hdue : d.ppsDue k = true)
include hheld hen hvalid hdue

theorem ppsRise_rises (hsoon : ¬ d.riseSoon k) : ppsRise k d = { d with
    timeU := { d.timeU with pps := true, lastRise := some k.tick }, out := d.out ++ [.pps true] } := by
  unfold ppsRise
  dsimp only
  rw [if_neg (by simp [hheld, hen, hvalid, hdue]), if_neg]
  · rfl
  · intro h
    cases hlast : d.timeU.lastRise with
    | none => simp [hlast] at h
    | some t => exact hsoon ⟨t, hlast, by simpa [hlast] using h⟩

theorem ppsRise_skips (hsoon : d.riseSoon k) : ppsRise k d = (d.setBit F.TU_TIME_STICKY 5).event k (16 * 38 + 11) (flc 38 3 0) := by
  obtain ⟨t, hlast, hns⟩ := hsoon
  unfold ppsRise
  dsimp only
  rw [if_neg (by simp [hheld, hen, hvalid, hdue]), if_pos (by simp [hlast, hns])]

theorem ppsRise_skips_shows (hsoon : d.riseSoon k) : let b := ppsRise k d
    bit (b.get F.TU_TIME_STICKY) 5 = true ∧ d.alikeBut [F.TU_TIME_STICKY] b := by
  rw [ppsRise_skips hheld hen hvalid hdue hsoon]
  exact ⟨Dev.bit_setBit_event _ k _ (by decide) (by decide) (by decide),
    (d.setAll_event_shows k (fs := [F.TU_TIME_STICKY]) (l := [(F.TU_TIME_STICKY, d.get F.TU_TIME_STICKY ||| 2 ^ 5)]) _ rfl
      (by decide) (by decide) (by decide)).2⟩

end

end Sys2Proof.Machine
end

section
/-! Proofs: the end of a command that waited (R422, R427). -/

namespace Sys2Proof.Machine
open Sys2Proof

theorem Dev.sendMsix_smi (d : Dev) (v : Nat) : (d.sendMsix v).smi = d.smi := (d.alike_sendMsix v).smi_eq

theorem Dev.perf_smi (d : Dev) (b n : Nat) : (d.perf b n).smi = d.smi := (d.alike_perf b n).smi_eq

theorem Dev.coalesce_waits (d : Dev) (c : Nat) (quiet : Bool) : (d.coalesce c quiet).smi.waits = d.smi.waits := by
  unfold Dev.coalesce Dev.cqMessage
  dsimp only
  split
  · rw [Dev.sendMsix_smi]
  · rfl

theorem Dev.reply_waits (d : Dev) (k : Clock) (op : Nat) (q : Req) (c : Fin 16) (hw : Bool) (rep : Rep) :
    (d.reply k op q c hw rep).smi.waits = d.smi.waits := by
  unfold Dev.reply
  dsimp only
  rw [Dev.perf_smi, Dev.coalesce_waits]
  split <;> rfl

theorem Dev.complete_waits (d : Dev) (k : Clock) (op : Nat) (q : Req) (c : Fin 16) (noReply : Bool) (rep : Rep) :
    (d.complete k op q c noReply rep).smi.waits = d.smi.waits := by
  unfold Dev.complete
  split
  · rw [Dev.perf_smi]
  · exact d.reply_waits k op q c _ rep

/-- A command that ends waits no longer. -/
theorem Dev.finish_waits (d : Dev) (k : Clock) (w : Wait) (rep : Rep) : (d.finish k w rep).smi.waits = d.smi.waits.erase w := by
  unfold Dev.finish
  dsimp only
  split
  · rfl
  · exact Dev.complete_waits _ _ _ _ _ _ _

/-- The end of a command changes what its reply changes. -/
theorem Dev.repliesTo_finish (d : Dev) (k : Clock) (w : Wait) (rep : Rep) : d.repliesTo (d.finish k w rep) := by
  have hsmi := d.repliesTo_smi { d.smi with waits := d.smi.waits.erase w }
  unfold Dev.finish
  dsimp only
  split
  · exact hsmi
  · exact hsmi.trans (Dev.repliesTo_complete _ _ _ _ _ _ _)

end Sys2Proof.Machine
end

section
/-! Proofs: what an armed COMMIT and an armed snapshot do at their time (R479 to R481, R484, R490, R492). -/

namespace Sys2Proof.Machine
open Sys2Proof

/-! Staged values (R479, R480). -/

/-- Keys are held in rising order. -/
def Dev.stagedSorted (d : Dev) : Prop := d.staged.Pairwise (fun a b => a.1 < b.1)

/-- Every staged value is one of a staged field below the registers of the lanterns. -/
def Dev.stagedLow (d : Dev) : Prop := ∀ e ∈ d.staged, e.1 < 0x800000 * 32 ∧ ∃ f, fldOfKey e.1 = some f ∧ f.acc = .srw

/-- The field a key names is held under that key. -/
theorem key_of_fldOfKey {key : Nat} {f : Fld} (h : fldOfKey key = some f) : f.key = key := by
  unfold fldOfKey at h
  have hlo : f.lo = key % 32 := by simpa using List.find?_some h
  have hoff : f.off = key / 32 := by
    obtain ⟨fs, hrow, hf⟩ := List.mem_flatten.mp (List.mem_of_find?_eq_some h)
    obtain ⟨row, -, hat⟩ := List.mem_filterMap.mp hrow
    unfold RegRow.fieldsAt at hat
    split at hat
    · cases hat
    · split at hat
      · cases hat
      · cases hat
        obtain ⟨g, -, rfl⟩ := List.mem_map.mp hf
        rfl
  rw [Fld.key, hlo, hoff]
  omega

/-- The writes that the staged values given come to. -/
def stagedWrites (es : Tab Nat) : List (Fld × Nat) := es.filterMap fun e => (fldOfKey e.1).map (·, e.2)

theorem mem_stagedWrites {es : Tab Nat} {p : Fld × Nat} : p ∈ stagedWrites es ↔ ∃ e ∈ es, fldOfKey e.1 = some p.1 ∧ e.2 = p.2 := by
  simp only [stagedWrites, List.mem_filterMap, Option.map_eq_some_iff, Prod.ext_iff]
  exact ⟨fun ⟨e, he, f, hf, h1, h2⟩ => ⟨e, he, h1 ▸ hf, h2⟩, fun ⟨e, he, hf, h2⟩ => ⟨e, he, p.1, hf, rfl, h2⟩⟩

theorem foldl_applyStaged (es : Tab Nat) (d : Dev) : es.foldl Dev.applyStaged d = d.setAll (stagedWrites es) := by
  induction es generalizing d with
  | nil => rfl
  | cons e es ih =>
    rw [List.foldl_cons, ih, Dev.applyStaged]
    cases hf : fldOfKey e.1 with
    | none => simp [stagedWrites, hf]
    | some f => simp [stagedWrites, hf, Dev.setAll]

theorem stagedWrites_nodup {es : Tab Nat} (h : es.Pairwise fun a b => a.1 ≠ b.1) : ((stagedWrites es).map fun p => p.1.key).Nodup := by
  rw [List.nodup_iff_pairwise_ne, List.pairwise_map, stagedWrites, List.pairwise_filterMap]
  refine h.imp fun hne p hp q hq => ?_
  obtain ⟨f, hf, rfl⟩ := Option.map_eq_some_iff.mp hp
  obtain ⟨g, hg, rfl⟩ := Option.map_eq_some_iff.mp hq
  rwa [key_of_fldOfKey hf, key_of_fldOfKey hg]

theorem Dev.groupOfKey_lt (d : Dev) (key : Nat) : d.groupOfKey key < 16 := by
  unfold Dev.groupOfKey Dev.groupOf
  split
  · exact Nat.mod_lt _ (by decide)
  · exact d.get_lt F.GL_STAGE_MAP_HI

theorem Dev.mem_stagedOf {d : Dev} {mask : Nat} {e : Nat × Nat} :
    e ∈ d.stagedOf mask ↔ e ∈ d.staged ∧ bit mask (d.groupOfKey e.1) = true := by
  simp only [Dev.stagedOf, maskBits, List.mem_flatten, List.mem_map, List.mem_filter, List.mem_range]
  constructor
  · rintro ⟨-, ⟨g, ⟨-, hbit⟩, rfl⟩, he⟩
    obtain ⟨hmem, hg⟩ := List.mem_filter.mp he
    exact ⟨hmem, by rwa [beq_iff_eq.mp hg]⟩
  · rintro ⟨hmem, hbit⟩
    exact ⟨_, ⟨d.groupOfKey e.1, ⟨d.groupOfKey_lt e.1, hbit⟩, rfl⟩, List.mem_filter.mpr ⟨hmem, beq_self_eq_true _⟩⟩

/-- Values of different groups have different keys, and so have the values of one. -/
theorem Dev.stagedOf_keys {d : Dev} (h : d.stagedSorted) (mask : Nat) : (d.stagedOf mask).Pairwise fun a b => a.1 ≠ b.1 := by
  rw [Dev.stagedOf, List.pairwise_flatten]
  refine ⟨fun l hl => ?_, List.pairwise_map.mpr ((List.nodup_range.filter _).imp fun hne a ha b hb => ?_)⟩
  · obtain ⟨g, -, rfl⟩ := List.mem_map.mp hl
    exact (h.imp Nat.ne_of_lt).filter _
  · rintro hkey
    have hga := beq_iff_eq.mp (List.mem_filter.mp ha).2
    have hgb := beq_iff_eq.mp (List.mem_filter.mp hb).2
    exact hne (by rw [← hga, ← hgb, hkey])

/-! A commit of fields below the lanterns' registers (R481). -/

section
variable {es : Tab Nat} (hlow : ∀ e ∈ es, e.1 < 0x800000 * 32)
include hlow

/-- No field above is among the values applied. -/
theorem any_key_eq_false {f : Fld} (hf : 0x800000 * 32 ≤ f.key) : es.any (fun e => e.1 == f.key) = false := by
  rw [List.any_eq_false]
  intro e he
  have := hlow e he
  simp only [beq_iff_eq]
  omega

theorem any_isPoolKey_eq_false : es.any (fun e => isPoolKey e.1) = false := by
  rw [List.any_eq_false]
  intro e he
  have := hlow e he
  simp only [isPoolKey, Bool.and_eq_true, decide_eq_true_eq]
  omega

/-- Fields below the lanterns' registers have no effect beside their values. -/
theorem Dev.commitEffects_low (d : Dev) (k : Clock) (before : Dev) : d.commitEffects k before es = d := by
  have hno {f : Fld} (hf : 0x800000 * 32 ≤ f.key) := any_key_eq_false hlow hf
  have hlevels : es.filter (fun e => 0x2100000 * 32 ≤ e.1 && e.1 < 0x2120000 * 32 && e.1 % 512 = 0) = [] := by
    refine List.filter_eq_nil_iff.mpr fun e he => ?_
    have := hlow e he
    simp only [Bool.and_eq_true, decide_eq_true_eq]
    omega
  have hmirror (s : Nat) : es.any (fun e => e.1 == (F.MIR_MODE s).key) = false ∧ es.any (fun e => e.1 == (F.MIR_SAMPLE s).key) = false :=
    ⟨hno (by simp only [Fld.key, F.MIR_MODE]; omega), hno (by simp only [Fld.key, F.MIR_SAMPLE]; omega)⟩
  have hflow (p : Nat) : es.any (fun e => e.1 == (F.FC_CFG_FC_MODE p).key) = false := hno (by simp only [Fld.key, F.FC_CFG_FC_MODE]; omega)
  unfold Dev.commitEffects
  simp only [hno (f := F.BM_WRED_SEED) (by decide), hmirror, hlevels, hflow, hno (f := F.SPAN_DEPTH_DEPTH_V4) (by decide),
    hno (f := F.SPAN_DEPTH_DEPTH_V6) (by decide), hno (f := F.TAP_ESTREAM_EN) (by decide), any_isPoolKey_eq_false hlow,
    Bool.false_and, Bool.or_self, Bool.false_eq_true, if_false, List.foldl_fixed, List.foldl_nil]

end

/-- The groups named are no longer staged. -/
def Dev.unstaged (d : Dev) (mask : Nat) : Dev := { d with staged := d.staged.filter fun e => !bit mask (d.groupOfKey e.1) }

theorem Dev.stagedOf_low {d : Dev} (h : d.stagedLow) (mask : Nat) : ∀ e ∈ d.stagedOf mask, e.1 < 0x800000 * 32 :=
  fun e he => (h e (Dev.mem_stagedOf.mp he).1).1

theorem Dev.applyGroups_low {d : Dev} (h : d.stagedLow) (k : Clock) (mask : Nat) :
    d.applyGroups k mask = (!(d.stagedOf mask).isEmpty, (d.unstaged mask).setAll (stagedWrites (d.stagedOf mask))) := by
  have hes := Dev.stagedOf_low h mask
  unfold Dev.applyGroups
  dsimp only
  rw [any_isPoolKey_eq_false hes]
  simp only [Bool.false_and, Bool.false_eq_true, if_false]
  rw [Dev.commitEffects_low hes, foldl_applyStaged]
  rfl

/-- The fields in which a commit records itself (R481, R492). -/
def commitRecord : List Fld :=
  [F.GL_CONFIG_GEN, F.GL_FP_ABANDONED, F.GL_LAST_COMMIT_LO, F.GL_LAST_COMMIT_HI, F.GL_LAST_COMMIT_GROUPS, F.GL_LAST_LATE]

/-- None of these is a staged field. -/
theorem commitRecord_notStaged : ∀ g ∈ commitRecord, ∀ f ∈ fldOfKey g.key, f.acc ≠ .srw := by decide

/-- A count of the generation, when a value was applied, reaches two fields. -/
theorem Dev.bumpGen_eq (d : Dev) : d.bumpGen = { d with fld := d.bumpGen.fld } ∧
    ∀ f : Fld, f.key ≠ F.GL_CONFIG_GEN.key → f.key ≠ F.GL_FP_ABANDONED.key → d.bumpGen.get f = d.get f := by
  unfold Dev.bumpGen
  dsimp only
  split
  · exact ⟨rfl, fun f h1 h2 => (Dev.get_set_of_ne _ _ h2).trans (Dev.get_set_of_ne _ _ h1)⟩
  · exact ⟨rfl, fun f h1 _ => Dev.get_set_of_ne _ _ h1⟩

/-- What LAST_COMMIT shows of a commit in time. -/
def lastCommit (k : Clock) (mask : Nat) : List (Fld × Nat) :=
  [(F.GL_LAST_COMMIT_LO, k.ns), (F.GL_LAST_COMMIT_HI, k.sec), (F.GL_LAST_COMMIT_GROUPS, mask), (F.GL_LAST_LATE, 0)]

theorem lastCommit_nodup (k : Clock) (mask : Nat) : ((lastCommit k mask).map fun p => p.1.key).Nodup := by
  simp only [lastCommit, List.map_cons, List.map_nil]
  decide

theorem lastCommit_recorded {k : Clock} {mask : Nat} : ∀ p ∈ lastCommit k mask, p.1 ∈ commitRecord :=
  forall_fst (P := (· ∈ commitRecord)) (by simp [lastCommit, commitRecord])

theorem commitRecord_quiet : ∀ f ∈ commitRecord, f.quiet = true := by decide

/-- The device with the staged values of the groups applied. -/
def Dev.applied (d : Dev) (mask : Nat) : Dev := (d.unstaged mask).setAll (stagedWrites (d.stagedOf mask))

/-- With no swap held, a strobe applies the groups, counts the generation if a value was applied, and writes LAST_COMMIT. -/
theorem Dev.commitNow_low {d : Dev} (k : Clock) (mask : Nat) (hheld : d.rules.held = none) (hlow : d.stagedLow) :
    d.commitNow k mask false = (if !(d.stagedOf mask).isEmpty then (d.applied mask).bumpGen else d.applied mask).setAll
      (lastCommit k mask) := by
  have hswap : (d.applied mask).swapCommit k mask = (false, d.applied mask) := by
    have hnone : (d.applied mask).rules.held = none := by rw [Dev.applied, Dev.setAll_eq]; exact hheld
    simp only [Dev.swapCommit, hnone]
  unfold Dev.commitNow
  rw [Dev.applyGroups_low hlow, ← Dev.applied]
  simp only [hswap, Bool.or_false, Bool.false_eq_true, if_false]
  rfl

/-- The staged values of the groups are applied and LAST_COMMIT shows the commit; nothing but fields and staged values
changes. -/
theorem Dev.commitNow_shows {d : Dev} (k : Clock) (mask : Nat) (hheld : d.rules.held = none) (hsorted : d.stagedSorted)
    (hlow : d.stagedLow) : let b := d.commitNow k mask false
    b = { d.unstaged mask with fld := b.fld } ∧ (∀ p ∈ lastCommit k mask, b.get p.1 = p.2 % 2 ^ p.1.w) ∧
      ∀ e ∈ d.staged, bit mask (d.groupOfKey e.1) = true → ∀ f, fldOfKey e.1 = some f → b.get f = e.2 % 2 ^ f.w := by
  obtain ⟨ha, hvalues, -⟩ : Dev.sets _ (d.unstaged mask) (d.applied mask) :=
    Dev.sets_setAll _ _ (stagedWrites_nodup (Dev.stagedOf_keys hsorted mask))
  rw [Dev.commitNow_low k mask hheld hlow]
  generalize hcounted : (if !(d.stagedOf mask).isEmpty then (d.applied mask).bumpGen else d.applied mask) = g
  obtain ⟨hg, hgget⟩ : g = { d.applied mask with fld := g.fld } ∧
      ∀ f : Fld, f.key ≠ F.GL_CONFIG_GEN.key → f.key ≠ F.GL_FP_ABANDONED.key → g.get f = (d.applied mask).get f := by
    subst hcounted
    split
    · exact (d.applied mask).bumpGen_eq
    · exact ⟨rfl, fun _ _ _ => rfl⟩
  obtain ⟨hb, hlast, hkeep⟩ := Dev.sets_setAll (lastCommit k mask) g (lastCommit_nodup k mask)
  refine ⟨by rw [hb, hg, ha], hlast, fun e he hbit f hf => ?_⟩
  have hne : ∀ r ∈ commitRecord, f.key ≠ r.key := fun r hr hkey => by
    obtain ⟨-, f', hf', hacc⟩ := hlow e he
    rw [key_of_fldOfKey hf] at hkey
    exact commitRecord_notStaged r hr f' (hkey ▸ hf') hacc
  calc (g.setAll (lastCommit k mask)).get f
      _ = g.get f := hkeep f fun p hp => hne p.1 (lastCommit_recorded p hp)
      _ = (d.applied mask).get f := hgget f (hne _ (by simp [commitRecord])) (hne _ (by simp [commitRecord]))
      _ = e.2 % 2 ^ f.w := hvalues (f, e.2) (mem_stagedWrites.mpr ⟨e, Dev.mem_stagedOf.mpr ⟨he, hbit⟩, hf, rfl⟩)

/-! At their time (R484, R490). -/

theorem Wait.armMask_of_commit {w : Wait} {mask sec ns : Nat} (h : w.kind = .commit mask sec ns) : w.armMask = mask := by
  simp only [Wait.armMask, h]

/-- The one armed COMMIT, due and with no generation to check, strobes its groups and ends. -/
theorem Dev.armedCommits_one {d : Dev} {k : Clock} {w : Wait} {mask sec ns : Nat} (detail : Nat) (hwaits : d.smi.waits = [w])
    (hkind : w.kind = .commit mask sec ns) (hdue : k.reached sec ns = true) (hgen : w.req.genCheck = false) :
    d.armedCommits k detail = (d.commitNow k mask false).finish k w ⟨stOk, detail, timeResult k⟩ := by
  have hfresh : d.genStale w.req = false := by simp [Dev.genStale, hgen]
  unfold Dev.armedCommits
  simp [hwaits, hkind, hdue, hfresh, Wait.armMask_of_commit hkind]

theorem Dev.armedSnapshot_due {d : Dev} {k : Clock} {w : Wait} (h : d.snapDue k = some w) (detail : Nat) :
    let b := d.armedSnapshot k detail
    b.snap = some d.ctrs ∧ b.get F.GL_SNAP_HELD = 1 ∧ b.get F.GL_SNAP_COPYING = 1 ∧ b.get F.GL_SNAP_ARMED = 0 ∧
      b.smi.waits = d.smi.waits.erase w := by
  have heq : d.armedSnapshot k detail = ((d.takeSnapshot k).setB F.GL_SNAP_ARMED false).finish k w ⟨stOk, detail, timeResult k⟩ := by
    simp only [Dev.armedSnapshot, h]
  have hsets : Dev.sets [(F.GL_SNAP_HELD, 1), (F.GL_SNAP_COPYING, 1), (F.GL_SNAP_TIME_LO, k.ns), (F.GL_SNAP_TIME_HI, k.sec),
      (F.GL_SNAP_ARMED, 0)] { d with snap := some d.ctrs } ((d.takeSnapshot k).setB F.GL_SNAP_ARMED false) :=
    Dev.sets_setAll _ _ (by simp only [List.map_cons, List.map_nil]; decide)
  obtain ⟨hbut, hget, -⟩ := hsets
  obtain ⟨hreply, hquiet⟩ := ((d.takeSnapshot k).setB F.GL_SNAP_ARMED false).repliesTo_finish k w ⟨stOk, detail, timeResult k⟩
  rw [heq]
  refine ⟨?_, ?_, ?_, ?_, Dev.finish_waits _ _ _ _⟩
  · rw [hreply, hbut]
  · exact (hquiet _ (by decide)).trans (hget (F.GL_SNAP_HELD, 1) (by simp))
  · exact (hquiet _ (by decide)).trans (hget (F.GL_SNAP_COPYING, 1) (by simp))
  · exact (hquiet _ (by decide)).trans (hget (F.GL_SNAP_ARMED, 0) (by simp))

/-- The armed COMMIT at its time: its groups' values are applied, LAST_COMMIT shows it, and nothing waits. -/
theorem Dev.armedCommit_shows {d : Dev} {k : Clock} {w : Wait} {mask sec ns : Nat} (detail : Nat) (hwaits : d.smi.waits = [w])
    (hkind : w.kind = .commit mask sec ns) (hdue : k.reached sec ns = true) (hgen : w.req.genCheck = false)
    (hheld : d.rules.held = none) (hsorted : d.stagedSorted) (hlow : d.stagedLow) : let b := d.armedCommits k detail
    b.smi.waits = [] ∧ b.staged = d.staged.filter (fun e => !bit mask (d.groupOfKey e.1)) ∧
      (∀ p ∈ lastCommit k mask, b.get p.1 = p.2 % 2 ^ p.1.w) ∧
      ∀ e ∈ d.staged, bit mask (d.groupOfKey e.1) = true → ∀ f, fldOfKey e.1 = some f → f.quiet = true →
        b.get f = e.2 % 2 ^ f.w := by
  obtain ⟨hbut, hlast, hvalues⟩ := d.commitNow_shows k mask hheld hsorted hlow
  obtain ⟨hreply, hquiet⟩ := (d.commitNow k mask false).repliesTo_finish k w ⟨stOk, detail, timeResult k⟩
  rw [Dev.armedCommits_one detail hwaits hkind hdue hgen]
  refine ⟨?_, ?_, fun p hp => ?_, fun e he hbit f hf hq => ?_⟩
  · rw [Dev.finish_waits, hbut]
    simp [Dev.unstaged, hwaits]
  · rw [hreply, hbut]
    rfl
  · exact (hquiet p.1 (commitRecord_quiet _ (lastCommit_recorded p hp))).trans (hlast p hp)
  · exact (hquiet f hq).trans (hvalues e he hbit f hf)

end Sys2Proof.Machine
end

section
/-! Proofs: the time unit's pins and what waits for network time (R303, R320 to R323, R484, R490). -/

namespace Sys2Proof.Machine
open Sys2Proof

/-- A command that the time unit's reset stops ends with its effect while the unit runs. -/
theorem ends_timeUnit {c : Instr} {s : State} {f : Clock → Dev → Dev} {p : Dev → Prop}
    (hc : exec c s = onDev (fun k d => if d.isHeld 38 then d else f k d) s) (hp : s.m.dev.boot.porN = true)
    (hrun : s.m.dev.isHeld 38 = false) (h : p (f s.m.clk s.m.dev)) : ends c s p :=
  ends_onDev hc hp (by simpa [hrun] using h)

/-- Settles O55: each command by what its effect shows. A pin's fields are written and then reported; an armed COMMIT is a strobe
of its groups and a reply, an armed snapshot a copy of the counters and a reply. -/
theorem timeEvents : Obligations.TimeEvents := by
  unfold Obligations.TimeEvents
  intro s i width mask sec ns w d k far soon hp hrun
  refine ⟨ends_onDev rfl hp (refLost_shows k d), ends_onDev rfl hp (refRestored_shows k d), fun hon => ⟨?_, ?_, ?_⟩, fun hoff => ?_,
    fun hen => ends_onDev rfl hp (ppsTimeout_shows k hen), fun hen hvalid hdue => ⟨?_, ?_⟩, fun hup => ends_onDev rfl hp ?_,
    fun hwaits hkind hdue hgen hheld hsorted hlow => ?_, fun hdue => ?_, ?_⟩
  · exact fun hwide hfar hroom => ends_timeUnit rfl hp hrun (timedEdge_captured hon hwide hfar hroom)
  · exact fun hwide hfar hfull => ends_timeUnit rfl hp hrun (timedEdge_dropped hon hwide hfar hfull)
  · exact fun hmerge => ends_timeUnit rfl hp hrun (timedEdge_merged_shows hon hmerge)
  · exact ends_timeUnit rfl hp hrun (timedEdge_off hoff)
  · exact fun hsoon => ends_onDev rfl hp (ppsRise_rises hrun hen hvalid hdue hsoon)
  · exact fun hsoon => ends_onDev rfl hp (ppsRise_skips_shows hrun hen hvalid hdue hsoon)
  · exact if_pos hup
  · obtain ⟨hnone, hstaged, hlast, hvalues⟩ := Dev.armedCommit_shows 0 hwaits hkind hdue hgen hheld hsorted hlow
    exact ends_timeUnit rfl hp hrun ⟨hnone, hstaged, hlast (F.GL_LAST_COMMIT_LO, k.ns) (by simp [lastCommit]),
      hlast (F.GL_LAST_COMMIT_HI, k.sec) (by simp [lastCommit]), hlast (F.GL_LAST_COMMIT_GROUPS, mask) (by simp [lastCommit]), hvalues⟩
  · exact ends_timeUnit rfl hp hrun (Dev.armedSnapshot_due hdue 0)
  · exact ends_onDev rfl hp (Dev.sets_one d F.GL_SNAP_COPYING 0)

end Sys2Proof.Machine
end

section
/-! Proofs: the registers of a lantern's wicks (R360), and what leaves the lanterns as they are. -/

namespace Sys2Proof.Machine
open Sys2Proof

@[simp] theorem place_wickRole (l : Nat) : (F.WICK_ROLE_STATE_A l).place = 0x80 ∧ (F.WICK_ROLE_STATE_B l).place = 0x83 ∧
    (F.WICK_ROLE_ACTIVE_WICK l).place = 0x86 ∧ (F.WICK_ROLE_HALTED l).place = 0x87 ∧ (F.WICK_ROLE_BUSY l).place = 0x89 := by
  simp only [Fld.place, Fld.key, F.WICK_ROLE_STATE_A, F.WICK_ROLE_STATE_B, F.WICK_ROLE_ACTIVE_WICK, F.WICK_ROLE_HALTED,
    F.WICK_ROLE_BUSY]
  omega

@[simp] theorem place_wickRecord (l : Nat) : (F.WICK_STICKY_RELIGHT_FAIL l).place = 0x103 ∧
    (F.WICK_STICKY_TRIM_DONE l).place = 0x104 ∧ (F.WK_TRIM_COUNT l).place = 0x580 := by
  simp only [Fld.place, Fld.key, F.WICK_STICKY_RELIGHT_FAIL, F.WICK_STICKY_TRIM_DONE, F.WK_TRIM_COUNT]
  omega

theorem ofLantern_wickRole {l : Nat} (hl : l < 32) : (F.WICK_ROLE_STATE_A l).ofLantern = true ∧
    (F.WICK_ROLE_STATE_B l).ofLantern = true := by
  simp only [Fld.ofLantern_iff, F.WICK_ROLE_STATE_A, F.WICK_ROLE_STATE_B]
  omega

theorem ofLantern_wickRecord {l : Nat} (hl : l < 32) : (F.WICK_STICKY_RELIGHT_FAIL l).ofLantern = true ∧
    (F.WICK_STICKY_TRIM_DONE l).ofLantern = true ∧ (F.WK_TRIM_COUNT l).ofLantern = true := by
  simp only [Fld.ofLantern_iff, F.WICK_STICKY_RELIGHT_FAIL, F.WICK_STICKY_TRIM_DONE, F.WK_TRIM_COUNT]
  omega

/-- A write of another place of the page of registers. -/
theorem Dev.get_set_of_place (d : Dev) {f g : Fld} (v : Nat) (h : g.place ≠ f.place) : (d.set f v).get g = d.get g :=
  d.get_set_of_ne v (Fld.key_ne_of_place h)

/-- b shows of the lanterns what a shows: their state beside the registers, and their registers. -/
structure Dev.lanternsKept (a b : Dev) : Prop where
  lanterns : b.lanterns = a.lanterns
  get      : ∀ f : Fld, f.ofLantern = true → b.get f = a.get f

theorem Dev.lanternsKept.trans {a b c : Dev} (h : a.lanternsKept b) (g : b.lanternsKept c) : a.lanternsKept c :=
  ⟨g.lanterns.trans h.lanterns, fun f hf => (g.get f hf).trans (h.get f hf)⟩

theorem Dev.alike.lanternsKept {a b : Dev} (h : a.alike b) : a.lanternsKept b :=
  ⟨h.lanterns_eq, fun f hf => h.get_eq f (Fld.ofLantern.still hf)⟩

/-- The ends of commands that waited change what their replies change. -/
theorem Dev.repliesTo_finishAll (d : Dev) (k : Clock) (sel : WaitKind → Bool) (rep : Rep) : d.repliesTo (d.finishAll k sel rep) :=
  List.foldlRecOn (motive := fun b => d.repliesTo b) _ _ d.repliesTo_refl fun _ hb w _ => hb.trans (Dev.repliesTo_finish _ k w rep)

theorem Dev.lanternsKept_finishAll (d : Dev) (k : Clock) (sel : WaitKind → Bool) (rep : Rep) :
    d.lanternsKept (d.finishAll k sel rep) := by
  obtain ⟨heq, hget⟩ := d.repliesTo_finishAll k sel rep
  exact ⟨(congrArg Dev.lanterns heq).trans rfl, fun f hf => hget f (Fld.ofLantern.quiet hf)⟩

theorem Dev.lanternsKept.wick {a b : Dev} (h : a.lanternsKept b) {l : Nat} (hl : l < 32) (w : Wick) : b.wick l w = a.wick l w := by
  cases w
  case a => exact h.get _ (ofLantern_wickRole hl).1
  case b => exact h.get _ (ofLantern_wickRole hl).2

end Sys2Proof.Machine
end

section
/-! Proofs: the states and the task of a lantern's wicks (R332, R343, R345). -/

namespace Sys2Proof.Machine
open Sys2Proof

/-! The states of the wicks. -/

@[simp] theorem Dev.wick_setLantern (d : Dev) (l : Nat) (x : Lantern) (w : Wick) : (d.setLantern l x).wick l w = d.wick l w := by
  cases w <;> rfl

/-- A write of another field of the page leaves the wicks' states. -/
theorem Dev.wick_set (d : Dev) {f : Fld} {l v : Nat} (ha : f.place ≠ 0x80) (hb : f.place ≠ 0x83) (w : Wick) :
    (d.set f v).wick l w = d.wick l w := by
  cases w
  case a => exact d.get_set_of_place v (by simpa using ha.symm)
  case b => exact d.get_set_of_place v (by simpa using hb.symm)

/-- ACTIVE_WICK and HALTED show the wicks' states, and no other field changes. -/
theorem Dev.get_showRoles (d : Dev) {l : Nat} {f : Fld} (hact : f.place ≠ 0x86) (hhalt : f.place ≠ 0x87) :
    (d.showRoles l).get f = d.get f := by
  have hset : ∀ b : Bool, (d.setB (F.WICK_ROLE_HALTED l) b).get f = d.get f := fun b => d.get_set_of_place _ (by simpa using hhalt)
  unfold Dev.showRoles
  dsimp only
  split
  · exact (Dev.get_set_of_place _ _ (by simpa using hact)).trans (hset _)
  · exact hset _

theorem Dev.showRoles_lanterns (d : Dev) (l : Nat) : (d.showRoles l).lanterns = d.lanterns := by
  unfold Dev.showRoles
  dsimp only
  split <;> rfl

@[simp] theorem Dev.setWick_lanterns (d : Dev) (l : Nat) (w : Wick) (st : Nat) : (d.setWick l w st).lanterns = d.lanterns := by
  cases w <;> exact Dev.showRoles_lanterns _ l

theorem Dev.wick_setWick_self (d : Dev) (l : Nat) (w : Wick) (st : Nat) : (d.setWick l w st).wick l w = st % 8 := by
  cases w <;> exact (Dev.get_showRoles _ (by simp) (by simp)).trans (d.get_set_self _ st)

theorem Dev.wick_setWick_other (d : Dev) (l : Nat) (w : Wick) (st : Nat) : (d.setWick l w.other st).wick l w = d.wick l w := by
  cases w <;> exact (Dev.get_showRoles _ (by simp) (by simp)).trans (d.get_set_of_place st (by simp))

/-- A wick's state stands in WICK_ROLE, whose other fields show it. -/
theorem Dev.get_setWick (d : Dev) {l : Nat} (w : Wick) (st : Nat) {f : Fld} (h : ∀ n ∈ [0x80, 0x83, 0x86, 0x87], f.place ≠ n) :
    (d.setWick l w st).get f = d.get f := by
  have hshow := fun e : Dev => e.get_showRoles (l := l) (f := f) (h _ (by simp)) (h _ (by simp))
  cases w
  case a => exact (hshow _).trans (d.get_set_of_place st (by simpa using h _ (by simp)))
  case b => exact (hshow _).trans (d.get_set_of_place st (by simpa using h _ (by simp)))

/-! The task beside the states. -/

@[simp] theorem Dev.lantern_setTask (d : Dev) (l : Nat) (t : WickTask) :
    (d.setTask l t).lantern l = { d.lantern l with task := t } := d.lantern_setLantern_self l _

theorem Dev.get_setTask_busy (d : Dev) (l : Nat) (t : WickTask) : (d.setTask l t).get (F.WICK_ROLE_BUSY l) = b2n (t != .none) % 2 :=
  Dev.get_set_self _ (F.WICK_ROLE_BUSY l) _

theorem Dev.get_setTask (d : Dev) (l : Nat) (t : WickTask) {f : Fld} (h : f.place ≠ 0x89) : (d.setTask l t).get f = d.get f :=
  Dev.get_set_of_place (f := F.WICK_ROLE_BUSY l) _ _ (by simpa using h)

@[simp] theorem Dev.wick_setTask (d : Dev) (l : Nat) (t : WickTask) (w : Wick) : (d.setTask l t).wick l w = d.wick l w :=
  (Dev.wick_set (f := F.WICK_ROLE_BUSY l) _ (by simp) (by simp) w).trans (d.wick_setLantern l _ w)

/-! The end of a relight, when no FORCE waits. -/

/-- Without a FORCE that waits nothing acts when a relight has ended. -/
theorem Dev.forceLate_none {d : Dev} {l : Nat} (h : (d.lantern l).force = none) : d.forceLate l = d := by
  simp only [Dev.forceLate, h]

theorem Dev.lanternsKept.forceLate {a b : Dev} {l : Nat} (h : a.lanternsKept b) (hforce : (a.lantern l).force = none) :
    a.lanternsKept (b.forceLate l) := by
  rwa [Dev.forceLate_none]
  rwa [Dev.lantern_congr h.lanterns]

/-- A relight that ends well takes its task away, and reports. -/
theorem Dev.relit_kept {d : Dev} {l : Nat} (k : Clock) (w : Wick) (hl : l < 32) (hforce : (d.lantern l).force = none) :
    (d.setTask l .none).lanternsKept (d.relit k l w) := by
  have hevent := ((d.setTask l .none).alike_event k (16 * l + 11) (flcWick l w) (by omega)).lanternsKept
  exact (hevent.trans (Dev.lanternsKept_finishAll _ k _ Rep.ok)).forceLate (by simpa using hforce)

/-- A relight that ends because its wick snuffs takes its task away too. -/
theorem Dev.relightLost_kept {d : Dev} {l : Nat} (k : Clock) (hforce : (d.lantern l).force = none) :
    (d.setTask l .none).lanternsKept (d.relightLost k l) :=
  ((d.setTask l .none).lanternsKept_finishAll k _ _).forceLate (by simpa using hforce)

/-- A wick that has its new state when its relight ends well. -/
theorem Dev.relit_setWick {d : Dev} {l : Nat} (k : Clock) (w : Wick) (st : Nat) (hl : l < 32) (hforce : (d.lantern l).force = none) :
    ((d.setWick l w st).relit k l w).wick l w = st % 8 ∧ (((d.setWick l w st).relit k l w).lantern l).task = .none := by
  have hlantern : (d.setWick l w st).lantern l = d.lantern l := Dev.lantern_congr (d.setWick_lanterns l w st) l
  have hkept := Dev.relit_kept (d := d.setWick l w st) k w hl (hlantern ▸ hforce)
  refine ⟨?_, ?_⟩
  · rw [hkept.wick hl, Dev.wick_setTask, Dev.wick_setWick_self]
  · rw [Dev.lantern_congr hkept.lanterns, Dev.lantern_setTask]

end Sys2Proof.Machine
end

section
/-! Proofs: trims (R343, R344). -/

namespace Sys2Proof.Machine
open Sys2Proof

/-! TRIM_COMPLETE. -/

/-- The roles change, once the last result of the old active wick is released (R343, log entry 46): the trim is over, counted and
shown. -/
def Dev.trimmed (d : Dev) (l : Nat) (w : Wick) : Dev :=
  ((((d.setWick l w wkReady).setWick l w.other wkActive).setTask l .none).inc (F.WK_TRIM_COUNT l)).setB (F.WICK_STICKY_TRIM_DONE l) true

/-- With every result left dealt at the marker or after it a trim that no FORCE asked for completes. -/
theorem trimComplete_eq {d : Dev} {l mk : Nat} {w : Wick} (k : Clock) (htask : (d.lantern l).task = .trim (some mk) none)
    (hactive : d.activeWick l = some w) (hgone : ∀ h ∈ (d.lantern l).headers ++ (d.lantern l).reorder, mk ≤ h.pos) :
    trimComplete l k d = ((d.trimmed l w).event k (16 * l + 11) (flcWick l w.other)).endTrims k l Rep.ok := by
  have hleft : ((d.lantern l).headers ++ (d.lantern l).reorder).any (fun h => decide (h.pos < mk)) = false := by
    simpa only [List.any_eq_false, decide_eq_true_eq, not_lt] using hgone
  simp only [trimComplete, htask, hactive, hleft]
  rfl

theorem Dev.trimmed_wick (d : Dev) (l : Nat) (w v : Wick) :
    (d.trimmed l w).wick l v = ((d.setWick l w wkReady).setWick l w.other wkActive).wick l v := by
  rw [Dev.trimmed, Dev.setB_eq, Dev.wick_set _ (by simp) (by simp), Dev.inc_eq, Dev.wick_set _ (by simp) (by simp), Dev.wick_setTask]

theorem Dev.trimmed_task (d : Dev) (l : Nat) (w : Wick) : ((d.trimmed l w).lantern l).task = .none :=
  congrArg Lantern.task (Dev.lantern_setTask _ l .none)

theorem Dev.trimmed_count (d : Dev) (l : Nat) (w : Wick) :
    (d.trimmed l w).get (F.WK_TRIM_COUNT l) = (d.get (F.WK_TRIM_COUNT l) + 1) % 2 ^ (F.WK_TRIM_COUNT l).w := by
  rw [Dev.trimmed, Dev.setB_eq, Dev.get_set_of_place _ _ (by simp), Dev.inc_eq, Dev.get_set_self, Dev.get_setTask _ _ _ (by simp),
    Dev.get_setWick _ _ _ (by simp), Dev.get_setWick _ _ _ (by simp)]

theorem Dev.trimmed_done (d : Dev) (l : Nat) (w : Wick) : (d.trimmed l w).get (F.WICK_STICKY_TRIM_DONE l) = 1 :=
  Dev.get_set_self _ (F.WICK_STICKY_TRIM_DONE l) 1

theorem trimComplete_shows {d : Dev} {l mk : Nat} {w : Wick} (k : Clock) (hl : l < 32)
    (htask : (d.lantern l).task = .trim (some mk) none) (hactive : d.activeWick l = some w)
    (hgone : ∀ h ∈ (d.lantern l).headers ++ (d.lantern l).reorder, mk ≤ h.pos) : let b := trimComplete l k d
    b.wick l w = wkReady ∧ b.wick l w.other = wkActive ∧ (b.lantern l).task = .none ∧
      b.get (F.WK_TRIM_COUNT l) = (d.get (F.WK_TRIM_COUNT l) + 1) % 2 ^ (F.WK_TRIM_COUNT l).w ∧
      b.get (F.WICK_STICKY_TRIM_DONE l) = 1 := by
  obtain ⟨-, hdone, hcount⟩ := ofLantern_wickRecord hl
  have hkept : (d.trimmed l w).lanternsKept (trimComplete l k d) := by
    rw [trimComplete_eq k htask hactive hgone]
    exact ((d.trimmed l w).alike_event k _ _ (by omega)).lanternsKept.trans (Dev.lanternsKept_finishAll _ k _ Rep.ok)
  refine ⟨?_, ?_, ?_, (hkept.get _ hcount).trans (d.trimmed_count l w), (hkept.get _ hdone).trans (d.trimmed_done l w)⟩
  · rw [hkept.wick hl, Dev.trimmed_wick, Dev.wick_setWick_other, Dev.wick_setWick_self]
    rfl
  · rw [hkept.wick hl, Dev.trimmed_wick, Dev.wick_setWick_self]
    rfl
  · rw [Dev.lantern_congr hkept.lanterns, Dev.trimmed_task]

/-! AUTOMATIC_TRIM. -/

section
variable {d : Dev} {k : Clock} {l : Nat} (hready : d.flag F.SM_FW_READY = true) (hretry : (d.lantern l).retry ≠ some k.sec)
  (hinstant : d.trimInstant k l = true) (hserved : (d.lantern l).served ≠ some k.sec)
include hready hretry hinstant hserved

/-- At an instant not yet served a trim that may begin begins. -/
theorem automaticTrim_begins (hfree : d.trimFree l = true) : automaticTrim l k d =
    (d.setLantern l { d.lantern l with served := some k.sec, retry := none }).setTask l (.trim none none) := by
  simp [automaticTrim, hready, hretry, hinstant, hserved, hfree]

/-- One that may not is due again a second later. -/
theorem automaticTrim_waits (hfree : d.trimFree l = false) : automaticTrim l k d =
    d.setLantern l { d.lantern l with served := some k.sec, retry := some (k.sec + 1) } := by
  simp [automaticTrim, hready, hretry, hinstant, hserved, hfree]

theorem automaticTrim_begins_shows (hfree : d.trimFree l = true) : let b := automaticTrim l k d
    (b.lantern l).task = .trim none none ∧ (b.lantern l).served = some k.sec ∧ b.get (F.WICK_ROLE_BUSY l) = 1 := by
  rw [automaticTrim_begins hready hretry hinstant hserved hfree]
  exact ⟨by simp, by simp, Dev.get_setTask_busy _ l _⟩

end

end Sys2Proof.Machine
end

section
/-! Proofs: relights (R345, R346). -/

namespace Sys2Proof.Machine
open Sys2Proof

/-! RELIGHT_SCRUB_COMPLETE. -/

theorem relightScrub_good {d : Dev} {l n : Nat} {w : Wick} (k : Clock) (htask : (d.lantern l).task = .relight w 1 n) :
    relightScrub l none k d = d.setTask l (.relight w 2 0) := by
  simp only [relightScrub, htask]

/-- A word that scrub finds uncorrectable, as the fault it is recorded as. -/
def scrubFault (w : Wick) (bad : Fin 4 × Fin 20 × Fin 3) : WickFault :=
  ⟨w, if bad.2.2.val = 0 then 3 else 4, bad.1, bad.2.1, bad.2.2.val - 1, 0, 0⟩

/-- The fault is recorded, its wick is snuffed, and RELIGHT_FAIL shows it. -/
def Dev.relightFailed (d : Dev) (k : Clock) (l : Nat) (f : WickFault) : Dev :=
  ((d.snuffRegs k l f).setWick l f.wick wkSnuffed).setB (F.WICK_STICKY_RELIGHT_FAIL l) true

theorem relightScrub_bad {d : Dev} {l n : Nat} {w : Wick} (k : Clock) (bad : Fin 4 × Fin 20 × Fin 3)
    (htask : (d.lantern l).task = .relight w 1 n) : let f := scrubFault w bad
    relightScrub l (some bad) k d = ((d.relightFailed k l f).eventData k (16 * l + 11) 0 (f.flc l) f.cause).relightLost k l := by
  simp only [relightScrub, htask]
  rfl

theorem Dev.relightFailed_lanterns (d : Dev) (k : Clock) (l : Nat) (f : WickFault) :
    (d.relightFailed k l f).lanterns = d.lanterns := (Dev.setWick_lanterns _ l _ _).trans (d.setAll_lanterns _)

theorem Dev.relightFailed_wick (d : Dev) (k : Clock) (l : Nat) (f : WickFault) :
    (d.relightFailed k l f).wick l f.wick = wkSnuffed := by
  rw [Dev.relightFailed, Dev.setB_eq, Dev.wick_set _ (by simp) (by simp), Dev.wick_setWick_self]
  rfl

theorem relightScrub_bad_shows {d : Dev} {l n : Nat} {w : Wick} (k : Clock) (bad : Fin 4 × Fin 20 × Fin 3) (hl : l < 32)
    (hforce : (d.lantern l).force = none) (htask : (d.lantern l).task = .relight w 1 n) : let b := relightScrub l (some bad) k d
    b.wick l w = wkSnuffed ∧ (b.lantern l).task = .none ∧ b.get (F.WICK_STICKY_RELIGHT_FAIL l) = 1 := by
  intro b
  let f := scrubFault w bad
  have hreport := ((d.relightFailed k l f).alike_eventData k (16 * l + 11) 0 (f.flc l) f.cause (by omega)).lanternsKept
  generalize hd1 : (d.relightFailed k l f).eventData k (16 * l + 11) 0 (f.flc l) f.cause = d1 at hreport
  have hlantern : d1.lantern l = d.lantern l := Dev.lantern_congr (hreport.lanterns.trans (d.relightFailed_lanterns k l f)) l
  have hkept : (d1.setTask l .none).lanternsKept b := by
    rw [show b = d1.relightLost k l from hd1 ▸ relightScrub_bad k bad htask]
    exact Dev.relightLost_kept k (hlantern ▸ hforce)
  have hfail := (ofLantern_wickRecord hl).1
  refine ⟨?_, ?_, ?_⟩
  · rw [hkept.wick hl, Dev.wick_setTask, hreport.wick hl]
    exact d.relightFailed_wick k l f
  · rw [Dev.lantern_congr hkept.lanterns, Dev.lantern_setTask]
  · rw [hkept.get _ hfail, Dev.get_setTask _ _ _ (by simp), hreport.get _ hfail]
    exact Dev.get_set_self _ (F.WICK_STICKY_RELIGHT_FAIL l) 1

/-! RELIGHT_BUBBLE and RELIGHT_READY. -/

section
variable {d : Dev} {l n : Nat} {w : Wick}

theorem relightBubble_halted (k : Clock) (hoverlap : (d.lantern l).overlap = none) (htask : (d.lantern l).task = .relight w 2 n)
    (hactive : d.activeWick l = none) : relightBubble l k d = (d.setWick l w wkActive).relit k l w := by
  simp [relightBubble, htask, hoverlap, hactive]

theorem relightBubble_lights (k : Clock) (hoverlap : (d.lantern l).overlap = none) (htask : (d.lantern l).task = .relight w 2 n)
    (hactive : d.activeWick l ≠ none) :
    relightBubble l k d = (d.setWick l w wkLighting).setTask l (.relight w 3 (d.lantern l).nextPos) := by
  simp [relightBubble, htask, hoverlap, hactive]

theorem relightReady_eq (k : Clock) (htask : (d.lantern l).task = .relight w 3 n) (hgone : ∀ h ∈ (d.lantern l).headers, n ≤ h.pos) :
    relightReady l k d = (d.setWick l w wkReady).relit k l w := by
  have hleft : (d.lantern l).headers.any (fun h => decide (h.pos < n)) = false := by
    simpa only [List.any_eq_false, decide_eq_true_eq, not_lt] using hgone
  simp [relightReady, htask, hleft]

end

/-- Settles O49: a trim's end and a relight's by the states they write and the task they take away, which reports and replies leave
as they are; the steps between by what they do. -/
theorem wickProcedures : Obligations.WickProcedures := by
  unfold Obligations.WickProcedures
  intro s l w mk n c st bk d x hp hoverlap hforce
  refine ⟨fun htask hactive hgone => ends_onDev rfl hp (trimComplete_shows _ l.isLt htask hactive hgone),
    fun hready hretry hinstant hserved => ⟨fun hfree => ends_onDev rfl hp ?_, fun hfree => ends_onDev rfl hp ?_⟩,
    fun htask => ⟨ends_onDev rfl hp ?_, ends_onDev rfl hp ?_⟩,
    fun htask => ⟨fun hactive => ends_onDev rfl hp ?_, fun hactive => ends_onDev rfl hp ?_⟩,
    fun htask hgone => ends_onDev rfl hp ?_⟩
  · exact automaticTrim_begins_shows hready hretry hinstant hserved hfree
  · exact automaticTrim_waits hready hretry hinstant hserved hfree
  · rw [relightScrub_good _ htask, Dev.lantern_setTask]
  · exact relightScrub_bad_shows _ (c, st, bk) l.isLt hforce htask
  · rw [relightBubble_halted _ hoverlap htask hactive]
    exact Dev.relit_setWick _ w wkActive l.isLt hforce
  · rw [relightBubble_lights _ hoverlap htask hactive, Dev.wick_setTask, Dev.wick_setWick_self, Dev.lantern_setTask]
    exact ⟨rfl, rfl⟩
  · rw [relightReady_eq _ htask hgone]
    exact Dev.relit_setWick _ w wkReady l.isLt hforce

end Sys2Proof.Machine
end

section
/-! Proofs: the in-package DRAM under the commands that move network time (R302, R306, R307, R310). -/

namespace Sys2Proof.Machine
open Sys2Proof

theorem Mach.stepTo_dram (m : Mach) (k : Clock) : (m.stepTo k).dram = m.dram := rfl

theorem timeApply_dram (op : Nat) (q : Req) (m : Mach) : (timeApply op q m).1.dram = m.dram := by
  have hstepped : (if q.flagAt 0 0 then m.stepTo (m.clk.stepBy (q.s 8 8)) else m).dram = m.dram := by
    split
    · exact m.stepTo_dram _
    · rfl
  unfold timeApply
  dsimp only
  split
  · rfl
  · split
    · exact hstepped
    · exact hstepped

theorem timeCommand_dram (op : Nat) (q : Req) (m : Mach) : (timeCommand op q m).mach.dram = m.dram := by
  unfold timeCommand
  split
  · rfl
  · exact timeApply_dram op q m

theorem smiem_timeCommand_dram (op : Nat) (check : Req → Mach → Option Nat) (later : Req → Bool) (q : Req) (m : Mach) :
    (smiem op check later (timeCommand op) q m).dram = m.dram :=
  smiem_keeps (fun _ x => x = m.dram) (fun n hn => (timeCommand_dram op q n).trans hn) m rfl

/-- The time commands that waited for the release write the DRAM no more than one that acts at once. -/
theorem Mach.timeLate_dram (m : Mach) : m.timeLate.dram = m.dram :=
  List.foldlRecOn (motive := fun n => n.dram = m.dram) _ _ rfl fun n hn w _ => (timeApply_dram w.op w.req n).trans hn

theorem Mach.domainEnd_dram (m : Mach) (n : Nat) : (m.domainEnd n).dram = m.dram := by
  unfold Mach.domainEnd
  by_cases hn : n = 38
  · simp only [hn, if_true]
    exact Mach.timeLate_dram _
  · simp only [hn, if_false]

theorem domainRelease_dram (n : Nat) (m : Mach) : (domainRelease n m).dram = m.dram := by
  unfold domainRelease
  split
  · exact m.domainEnd_dram n
  · split <;> rfl

theorem clkTick_dram (ok : Bool) (m : Mach) : (clkTick ok m).dram = m.dram := by
  unfold clkTick
  split <;> rfl

/-- A command on the machine whose effect leaves the DRAM alone leaves it alone, in reset or not (R539). -/
theorem onMach_dram {f : Mach → Mach} {s t : State} (hf : (f s.m).dram = s.m.dram) (h : onMach f s = .next t) :
    t.m.dram = s.m.dram := by
  cases hp : s.m.dev.boot.porN with
  | true => rw [onMach_run f hp] at h; cases h; exact hf
  | false => rw [onMach_held f hp] at h; cases h; rfl

/-- Of the commands that move network time, POR_N alone writes the DRAM. -/
theorem timeMover_dram {c : Instr} {s t : State} (hmoves : timeMovers c = true) (hpor : c ≠ .porNAssert) (h : exec c s = .next t) :
    t.m.dram = s.m.dram := by
  cases c <;> simp only [timeMovers, Bool.false_eq_true] at hmoves
  case timeSet q => exact onMach_dram (smiem_timeCommand_dram _ _ _ q _) h
  case timeAdjust q => exact onMach_dram (smiem_timeCommand_dram _ _ _ q _) h
  case timeClkTick ok => exact onMach_dram (clkTick_dram ok _) h
  case domainRelease n => exact onMach_dram (domainRelease_dram n _) h
  case porNAssert => exact absurd rfl hpor

/-- Settles O7: a command that moves network time and is not POR_N leaves the DRAM as it is, and of the others exec_still says it
of every one that is no writer. -/
theorem dramOnlyWritten : Obligations.DramOnlyWritten := by
  unfold Obligations.DramOnlyWritten
  intro c s t hwrites h a
  have hdram : t.m.dram = s.m.dram := by
    cases hmoves : timeMovers c with
    | true => exact timeMover_dram hmoves (fun hc => by simp [hc, dramWriters] at hwrites) h
    | false => exact (exec_still hmoves hwrites h).2
  rw [hdram]

end Sys2Proof.Machine
end

section
/-! Proofs: refreshes and reports of the HBM controller (R387, R388, R392). What they leave as it was, and the debts they leave. -/

namespace Sys2Proof.Machine
open Sys2Proof

/-! Words of bits. -/

theorem bit_or_two_pow_self (v n : Nat) : bit (v ||| 2 ^ n) n = true := by
  rw [bit_eq_testBit, Nat.testBit_or, Nat.testBit_two_pow_self, Bool.or_true]

theorem bit_sub_two_pow_self {v n : Nat} (h : bit v n = true) : bit (v - 2 ^ n) n = false := by
  rw [bit_eq_testBit] at h ⊢
  rw [testBit_sub_two_pow h]
  simp

/-! What refreshes and reports leave. -/

/-- b is a after refreshes and reports: the HBM's state is the same but for debts and open rows, and so is every field that no
report changes but DEBT_MAX and HBM_STICKY, where bits may have been set. -/
structure Dev.serviced (a b : Dev) : Prop where
  hbm    : b.hbm = { a.hbm with debt := b.hbm.debt, open_ := b.hbm.open_ }
  get    : ∀ f : Fld, f.still = true → f.lo ≠ 12 → f.key ≠ F.HBM_STICKY.key → b.get f = a.get f
  sticky : ∀ n, bit (a.get F.HBM_STICKY) n = true → bit (b.get F.HBM_STICKY) n = true

theorem Dev.serviced_of_eq {a b : Dev} (hhbm : b.hbm = a.hbm) (hfld : b.fld = a.fld) : a.serviced b where
  hbm := by rw [hhbm]
  get := fun f _ _ _ => Dev.get_congr hfld f
  sticky := fun n h => by rwa [Dev.get_congr hfld]

theorem Dev.serviced_refl (a : Dev) : a.serviced a := Dev.serviced_of_eq rfl rfl

theorem Dev.serviced.trans {a b c : Dev} (h : a.serviced b) (g : b.serviced c) : a.serviced c where
  hbm := by rw [g.hbm, h.hbm]
  get := fun f hs hlo hk => (g.get f hs hlo hk).trans (h.get f hs hlo hk)
  sticky := fun n hn => g.sticky n (h.sticky n hn)

theorem Dev.serviced_foldl {β : Type} {g : Dev → β → Dev} (h : ∀ d x, Dev.serviced d (g d x)) (l : List β) (d : Dev) :
    d.serviced (l.foldl g d) :=
  List.foldlRecOn (motive := fun b => d.serviced b) l g d.serviced_refl fun b hb x _ => hb.trans (h b x)

theorem Dev.alike.serviced {a b : Dev} (h : a.alike b) : a.serviced b where
  hbm := by rw [h.hbm_eq]
  get := fun f hs _ _ => h.get_eq f hs
  sticky := fun n hn => by rwa [h.get_eq F.HBM_STICKY (by decide)]

theorem Dev.serviced.reqs {a b : Dev} (h : a.serviced b) (p : Nat) : b.pcReqs p = a.pcReqs p := by
  rw [Dev.pcReqs, h.hbm]
  rfl

theorem Dev.serviced.segResting {a b : Dev} (h : a.serviced b) (s : Nat) : b.segResting s = a.segResting s := by
  simp only [Dev.segResting, h.get F.HBM_SEG_RESTING (by decide) (by decide) (by decide)]

theorem Dev.event_hbm (d : Dev) (k : Clock) {n : Nat} (c : Nat) (h : n < 1024) : (d.event k n c).hbm = d.hbm :=
  (d.alike_event k n c h).hbm_eq

theorem Dev.serviced_event (d : Dev) (k : Clock) {n : Nat} (c : Nat) (h : n < 1024) : d.serviced (d.event k n c) :=
  (d.alike_event k n c h).serviced

theorem Dev.serviced_count (d : Dev) (i n : Nat) : d.serviced (d.count i n) := Dev.serviced_of_eq rfl rfl

theorem Dev.serviced_spend (d : Dev) (c n : Nat) : d.serviced (d.spend c n) := Dev.serviced_of_eq rfl rfl

theorem Dev.serviced_sticky (d : Dev) (n : Nat) : d.serviced (d.setBit F.HBM_STICKY n) where
  hbm := rfl
  get := fun _ _ _ hk => d.get_set_of_ne _ hk
  sticky := fun i hi => by
    rw [bit_eq_testBit] at hi ⊢
    have hlt : i < 10 := Nat.lt_of_not_le fun hle => by
      rw [Nat.testBit_lt_two_pow ((d.get_lt F.HBM_STICKY).trans_le (Nat.pow_le_pow_right (by decide) hle))] at hi
      cases hi
    rw [Dev.setBit_eq, Dev.get_set_self, Nat.testBit_mod_two_pow, Nat.testBit_or, hi, Bool.true_or,
      Bool.and_true]
    exact decide_eq_true hlt

theorem Dev.flagged_hbm (d : Dev) (k : Clock) (f : Fld) (i : Nat) {n : Nat} (c : Nat) (hn : n < 1024) :
    ((d.setBit f i).event k n c).hbm = d.hbm := by
  rw [Dev.event_hbm _ k c hn, Dev.setBit_eq, Dev.set_hbm]

/-- A bit of HBM_STICKY set and its event: what was set stays set. -/
theorem Dev.serviced_flagged (d : Dev) (k : Clock) (i : Nat) {n : Nat} (c : Nat) (hn : n < 1024) :
    d.serviced ((d.setBit F.HBM_STICKY i).event k n c) := (d.serviced_sticky i).trans (Dev.serviced_event _ k c hn)

/-! Debts. -/

theorem Dev.pcDebt_congr {a b : Dev} (h : b.hbm = a.hbm) (p : Nat) : b.pcDebt p = a.pcDebt p := by rw [Dev.pcDebt, Dev.pcDebt, h]

theorem Dev.pcDebt_setDebt (d : Dev) (pc n p : Nat) : (d.setDebt pc n).pcDebt p = if p = pc then n else d.pcDebt p := by
  split
  · subst p
    exact tgetD_tput_self d.hbm.debt pc 0 n
  · exact tgetD_tput_of_ne d.hbm.debt 0 n 0 ‹_›

theorem Dev.serviced_setDebt (d : Dev) (pc n : Nat) : d.serviced (d.setDebt pc n) where
  hbm := rfl
  get := fun f hs hlo _ => by
    have hlt := Fld.still.lo_lt hs
    refine Dev.get_set_of_ne (d.onHbm _) _ fun hk => hlo ?_
    simp only [Fld.key, F.HBM_DEBT_MAX] at hk
    omega
  sticky := fun i hi => by
    rwa [Dev.setDebt, Dev.get_set_of_ne _ _ (by simp only [Fld.key, F.HBM_STICKY, F.HBM_DEBT_MAX]; omega)]

/-- The energy of n refreshes, and their performance signal. -/
def Dev.refreshSpent (d : Dev) (n : Nat) : Dev := (List.range n).foldl (fun d _ => d.perf 35 1) (d.spend 10 n)

theorem Dev.refreshSpent_hbm (d : Dev) (n : Nat) : (d.refreshSpent n).hbm = d.hbm :=
  List.foldlRecOn (motive := fun b : Dev => b.hbm = d.hbm) _ _ (d.spend_hbm 10 n) fun b hb _ _ => (b.alike_perf 35 1).hbm_eq.trans hb

theorem Dev.serviced_refreshSpent (d : Dev) (n : Nat) : d.serviced (d.refreshSpent n) :=
  (d.serviced_spend 10 n).trans (Dev.serviced_foldl (fun e _ => (e.alike_perf 35 1).serviced) _ _)

/-- The banks whose numbers lie in a range close. -/
def Dev.closeBanks (d : Dev) (lo hi : Nat) : Dev := d.onHbm fun h => { h with open_ := tclear h.open_ lo hi }

theorem Dev.pcDebt_closeBanks (d : Dev) (lo hi p : Nat) : (d.closeBanks lo hi).pcDebt p = d.pcDebt p := rfl

theorem Dev.serviced_closeBanks (d : Dev) (lo hi : Nat) : d.serviced (d.closeBanks lo hi) := ⟨rfl, fun _ _ _ _ => rfl, fun _ h => h⟩

theorem Dev.refresh_eq (d : Dev) (pc : Nat) {n : Nat} (h : n ≠ 0) :
    d.refresh pc n = ((d.refreshSpent n).setDebt pc (d.pcDebt pc - n)).closeBanks (64 * pc) (64 * pc + 64) := if_neg h

theorem Dev.refresh_zero (d : Dev) (pc : Nat) : d.refresh pc 0 = d := if_pos rfl

theorem Dev.pcDebt_refresh (d : Dev) (pc n p : Nat) : (d.refresh pc n).pcDebt p = if p = pc then d.pcDebt pc - n else d.pcDebt p := by
  by_cases hn : n = 0
  · subst hn
    rw [Dev.refresh_zero, Nat.sub_zero]
    split
    · rw [‹p = pc›]
    · rfl
  · rw [d.refresh_eq pc hn, Dev.pcDebt_closeBanks, Dev.pcDebt_setDebt, Dev.pcDebt_congr (d.refreshSpent_hbm n)]

theorem Dev.serviced_refresh (d : Dev) (pc n : Nat) : d.serviced (d.refresh pc n) := by
  by_cases hn : n = 0
  · subst hn
    rw [Dev.refresh_zero]
    exact d.serviced_refl
  · rw [d.refresh_eq pc hn]
    exact ((d.serviced_refreshSpent n).trans (Dev.serviced_setDebt _ pc _)).trans (Dev.serviced_closeBanks _ _ _)

/-- What ends the debt of one pseudo-channel at a time ends those of a list. -/
theorem Dev.pcDebt_foldl_ended {g : Dev → Nat → Dev} (hg : ∀ d q p, (g d q).pcDebt p = if p = q then 0 else d.pcDebt p)
    (l : List Nat) (d : Dev) (p : Nat) : (l.foldl g d).pcDebt p = if p ∈ l then 0 else d.pcDebt p := by
  induction l generalizing d with
  | nil => simp
  | cons q l ih =>
    rw [List.foldl_cons, ih, hg]
    by_cases hl : p ∈ l <;> by_cases hq : p = q <;> simp [hl, hq]

/-- All refreshes owed to the pseudo-channels of a list. -/
def Dev.refreshAll (d : Dev) (l : List Nat) : Dev := l.foldl (fun d p => d.refresh p (d.pcDebt p)) d

theorem Dev.pcDebt_refreshAll (d : Dev) (l : List Nat) (p : Nat) : (d.refreshAll l).pcDebt p = if p ∈ l then 0 else d.pcDebt p :=
  Dev.pcDebt_foldl_ended (fun e q p => by rw [e.pcDebt_refresh q, Nat.sub_self]) l d p

theorem Dev.serviced_refreshAll (d : Dev) (l : List Nat) : d.serviced (d.refreshAll l) :=
  Dev.serviced_foldl (fun e p => e.serviced_refresh p _) l d

end Sys2Proof.Machine
end

section
/-! Proofs: requests of the HBM controller (R383, R384, R387, R390, R392). -/

namespace Sys2Proof.Machine
open Sys2Proof

/-! DRAM_REQUEST. -/

/-- A segment that stays awake: its entry into self-refresh is given up where one was planned. -/
theorem Dev.entryEnds_hbm (d : Dev) (k : Clock) (s : Nat) : (d.entryEnds k s).hbm =
    if bit d.hbm.entering s = true then { d.hbm with entering := d.hbm.entering - 2 ^ s } else d.hbm := by
  unfold Dev.entryEnds
  cases h : bit d.hbm.entering s with
  | false => rfl
  | true => exact Dev.event_hbm _ k _ (by decide)

theorem Dev.entryEnds_entering (d : Dev) (k : Clock) (s : Nat) : bit (d.entryEnds k s).hbm.entering s = false := by
  rw [Dev.entryEnds_hbm]
  split
  · exact bit_sub_two_pow_self ‹_›
  · exact Bool.eq_false_iff.mpr ‹_›

theorem Dev.entryEnds_reqs (d : Dev) (k : Clock) (s : Nat) : (d.entryEnds k s).hbm.reqs = d.hbm.reqs := by
  rw [Dev.entryEnds_hbm]
  split <;> rfl

theorem dramRequest_refused {d : Dev} {c r addr len : Nat} {wr : Bool} {k : Clock} (h : locate (d.region r) addr = none) :
    dramRequest c r addr len wr k d = d := by
  simp only [dramRequest, h]

theorem dramRequest_accepted {d : Dev} {c r addr len : Nat} {wr : Bool} {k : Clock} {x : DramAt} (hheld : d.isHeld 35 = false)
    (h : locate (d.region r) addr = some x) : let b := dramRequest c r addr len wr k d
    b.pcReqs x.pc = d.pcReqs x.pc ++ [⟨c, x.bank, x.row, x.burst, wr, wr && (len < 64 || addr % 64 != 0), k.tick, false⟩] ∧
      bit b.hbm.entering (segmentOfPc x.pc) = false := by
  intro b
  let a := d.entryEnds k (segmentOfPc x.pc)
  have hhbm : b.hbm = { a.hbm with reqs := tset a.hbm.reqs x.pc (tgetD a.hbm.reqs x.pc [] ++
      [⟨c, x.bank, x.row, x.burst, wr, wr && (len < 64 || addr % 64 != 0), k.tick, false⟩]) } := by
    simp only [b, dramRequest, h, hheld, Bool.false_eq_true, if_false]
    exact (Dev.alike_perf _ 35 0).hbm_eq
  have hreqs : a.hbm.reqs = d.hbm.reqs := d.entryEnds_reqs k _
  rw [Dev.pcReqs, hhbm]
  refine ⟨?_, d.entryEnds_entering k _⟩
  rw [hreqs]
  exact tgetD_tset_self _ _ _ _

/-! The scheduler's choice (R384). -/

theorem mem_of_mem_issuable {all before rs : List DramReq} {a : DramReq} (h : a ∈ issuable all before rs) : a ∈ rs := by
  induction rs generalizing before with
  | nil => exact h
  | cons r rs ih =>
    rcases List.mem_append.mp h with h | h
    · split at h
      · cases h
      · exact List.mem_singleton.mp h ▸ List.mem_cons_self
    · exact List.mem_cons_of_mem _ (ih h)

/-- The scheduler looks at urgency first. -/
theorem Dev.urgency_before (d : Dev) (k : Clock) (pc : Nat) (a b : DramReq) :
    if d.before k pc a b = true then d.urgency k b ≤ d.urgency k a else d.urgency k a ≤ d.urgency k b := by
  unfold Dev.before
  by_cases h : d.urgency k a = d.urgency k b
  · rw [h]
    split <;> exact Nat.le_refl _
  · simp only [bne_iff_ne, ne_eq, h, not_false_eq_true, if_true, decide_eq_true_eq]
    split
    · exact Nat.le_of_lt ‹_›
    · exact Nat.le_of_not_lt ‹_›

/-- A request kept by comparing each with the best so far is one of those compared, and none of them is more urgent. -/
theorem Dev.foldl_before (d : Dev) (k : Clock) (pc : Nat) (rs : List DramReq) (r : DramReq) :
    let q := rs.foldl (fun a b => if d.before k pc a b then a else b) r
    q ∈ r :: rs ∧ ∀ a ∈ r :: rs, d.urgency k a ≤ d.urgency k q := by
  induction rs generalizing r with
  | nil => simp
  | cons x rs ih =>
    have hx := d.urgency_before k pc r x
    have hbest : ∃ y ∈ [r, x], (if d.before k pc r x = true then r else x) = y ∧
        d.urgency k r ≤ d.urgency k y ∧ d.urgency k x ≤ d.urgency k y := by
      split at hx
      · exact ⟨r, by simp, if_pos ‹_›, Nat.le_refl _, hx⟩
      · exact ⟨x, by simp, if_neg ‹_›, hx, Nat.le_refl _⟩
    obtain ⟨y, hy, heq, hyr, hyx⟩ := hbest
    obtain ⟨hmem, hmost⟩ := ih y
    rw [List.foldl_cons, heq]
    refine ⟨?_, ?_⟩
    · simp only [List.mem_cons, List.not_mem_nil, or_false] at hy hmem ⊢
      rcases hmem with hmem | hmem
      · rw [hmem, ← or_assoc]
        exact .inl hy
      · exact .inr (.inr hmem)
    · have hy' := hmost y List.mem_cons_self
      simp only [List.mem_cons, forall_eq_or_imp]
      exact ⟨hyr.trans hy', hyx.trans hy', fun a ha => hmost a (List.mem_cons_of_mem _ ha)⟩

theorem Dev.chooseReq_spec {d : Dev} {k : Clock} {pc : Nat} {q : DramReq} (h : d.chooseReq k pc = some q) :
    q ∈ d.pcReqs pc ∧ ∀ a ∈ issuable (d.pcReqs pc) [] (d.pcReqs pc), d.urgency k a ≤ d.urgency k q := by
  unfold Dev.chooseReq at h
  split at h
  · cases h
  · rename_i r rs hlist
    cases h
    obtain ⟨hmem, hmost⟩ := d.foldl_before k pc rs r
    rw [hlist]
    exact ⟨mem_of_mem_issuable (hlist ▸ hmem), hmost⟩

/-! DRAM_REQUEST_ISSUE. -/

/-- A request taken from its pseudo-channel; its row stays open. -/
def Dev.reqTaken (d : Dev) (pc : Nat) (r : DramReq) : Dev :=
  d.onHbm fun h => { h with reqs := tput h.reqs pc [] ((tgetD h.reqs pc []).erase r), open_ := tset h.open_ (64 * pc + r.bank) r.row }

/-- The request taken, with the energy of its burst. -/
def Dev.reqIssued (d : Dev) (pc : Nat) (r : DramReq) : Dev :=
  let read := if !r.write || r.partial_ then (d.reqTaken pc r).spend 8 1 else d.reqTaken pc r
  if r.write then read.spend 9 1 else read

/-- The request issued, and what its read meets. -/
def Dev.reqMet (d : Dev) (k : Clock) (pc : Nat) (r : DramReq) (e : ReadErr) : Dev :=
  if !r.write || r.partial_ then (d.reqIssued pc r).dramError k pc r.bank r.row r.client e else d.reqIssued pc r

theorem Dev.reqIssued_hbm (d : Dev) (pc : Nat) (r : DramReq) : (d.reqIssued pc r).hbm = (d.reqTaken pc r).hbm := by
  unfold Dev.reqIssued
  dsimp only
  split <;> split <;> rfl

theorem Dev.dramError_hbm (d : Dev) (k : Clock) (pc bank row client : Nat) (e : ReadErr) :
    (d.dramError k pc bank row client e).hbm = d.hbm := by
  cases e with
  | clean => rfl
  | corrected b => rw [Dev.dramError, Dev.flagged_hbm _ k _ 0 _ (by decide), Dev.count_hbm]
  | uncorrectable b =>
    let recorded := ((d.count (cGlobal (44 + pc / 32)) 0).setBit F.HBM_STICKY 1).set64 F.HBM_LAST_ERR_FLC_LO F.HBM_LAST_ERR_FLC_HI
      (flcDram pc bank row b)
    have hrecorded : recorded.hbm = d.hbm := by
      simp only [recorded]
      rw [Dev.set64_eq, Dev.set_hbm, Dev.set_hbm, Dev.setBit_eq, Dev.set_hbm, Dev.count_hbm]
    rw [Dev.dramError, Dev.event_hbm _ k _ (by decide)]
    split
    · exact (Dev.count_hbm _ _ _).trans hrecorded
    · exact hrecorded

theorem Dev.reqMet_reqs (d : Dev) (k : Clock) (pc : Nat) (r : DramReq) (e : ReadErr) :
    (d.reqMet k pc r e).pcReqs pc = (d.pcReqs pc).erase r := by
  have hhbm : (d.reqMet k pc r e).hbm = (d.reqTaken pc r).hbm := by
    unfold Dev.reqMet
    split
    · exact (Dev.dramError_hbm _ k pc _ _ _ e).trans (d.reqIssued_hbm pc r)
    · exact d.reqIssued_hbm pc r
  rw [Dev.pcReqs, hhbm]
  exact tgetD_tput_self _ _ _ _

/-- An uncorrectable error is recorded with its location. -/
theorem Dev.dramError_recorded (d : Dev) (k : Clock) (pc bank row client n : Nat) :
    let b := d.dramError k pc bank row client (.uncorrectable n)
    bit (b.get F.HBM_STICKY) 1 = true ∧
      b.get64 F.HBM_LAST_ERR_FLC_LO F.HBM_LAST_ERR_FLC_HI = flcDram pc bank row n % 2 ^ 64 := by
  intro b
  let a := ((d.count (cGlobal (44 + pc / 32)) 0).setBit F.HBM_STICKY 1).set64 F.HBM_LAST_ERR_FLC_LO F.HBM_LAST_ERR_FLC_HI
    (flcDram pc bank row n)
  have hb : ∀ f : Fld, f.still = true → b.get f = a.get f := fun f hf => by
    refine ((Dev.alike_event _ k 561 _ (by decide)).get_eq f hf).trans ?_
    split
    · exact Dev.get_count _ _ _ f
    · rfl
  have hlo : b.get F.HBM_LAST_ERR_FLC_LO = flcDram pc bank row n % 2 ^ 32 :=
    (hb _ (by decide)).trans ((Dev.get_set_of_ne _ _ (by decide)).trans (Dev.get_set_self _ _ _))
  have hhi : b.get F.HBM_LAST_ERR_FLC_HI = flcDram pc bank row n / 2 ^ 32 % 2 ^ 32 := (hb _ (by decide)).trans (Dev.get_set_self _ _ _)
  refine ⟨?_, ?_⟩
  · rw [hb _ (by decide)]
    simp only [a]
    rw [Dev.set64_eq, Dev.get_set_of_ne _ _ (by decide), Dev.get_set_of_ne _ _ (by decide),
      Dev.bit_setBit _ (by decide)]
  · rw [Dev.get64, hlo, hhi]
    omega

theorem dramIssue_none {d : Dev} {k : Clock} {pc : Nat} {e : ReadErr} (h : d.chooseReq k pc = none) : dramIssue pc e k d = d := by
  simp [dramIssue, h]

/-- The request that is chosen is issued; a refresh that waited for urgent ones may follow. -/
theorem dramIssue_serviced {d : Dev} {k : Clock} {pc : Nat} {q : DramReq} (e : ReadErr) (hheld : d.isHeld 35 = false)
    (hup : d.stackUp (pc / 32) = true) (hawake : d.segResting (segmentOfPc pc) = false) (h : d.chooseReq k pc = some q) :
    (d.reqMet k pc q e).serviced (dramIssue pc e k d) := by
  have heq : dramIssue pc e k d = if (d.reqMet k pc q e).pressing k pc then d.reqMet k pc q e
      else (d.reqMet k pc q e).refresh pc ((d.reqMet k pc q e).pcDebt pc) := by
    simp only [dramIssue, hheld, hup, hawake, h, Bool.and_false, Bool.or_false, Bool.false_eq_true, if_false, if_true]
    rfl
  rw [heq]
  split
  · exact Dev.serviced_refl _
  · exact Dev.serviced_refresh _ pc _

theorem dramIssue_shows {d : Dev} {k : Clock} {pc : Nat} {q : DramReq} (e : ReadErr) (hheld : d.isHeld 35 = false)
    (hup : d.stackUp (pc / 32) = true) (hawake : d.segResting (segmentOfPc pc) = false) (h : d.chooseReq k pc = some q) :
    let b := dramIssue pc e k d
    b.pcReqs pc = (d.pcReqs pc).erase q ∧ ∀ n, q.write = false → e = .uncorrectable n → bit (b.get F.HBM_STICKY) 1 = true ∧
      b.get64 F.HBM_LAST_ERR_FLC_LO F.HBM_LAST_ERR_FLC_HI = flcDram pc q.bank q.row n % 2 ^ 64 := by
  have hafter := dramIssue_serviced e hheld hup hawake h
  refine ⟨(hafter.reqs pc).trans (d.reqMet_reqs k pc q e), fun n hread he => ?_⟩
  have hmet : d.reqMet k pc q e = (d.reqIssued pc q).dramError k pc q.bank q.row q.client (.uncorrectable n) := by
    rw [he]
    exact if_pos (by simp [hread])
  obtain ⟨hsticky, hplace⟩ := (d.reqIssued pc q).dramError_recorded k pc q.bank q.row q.client n
  rw [← hmet] at hsticky hplace
  refine ⟨hafter.sticky 1 hsticky, ?_⟩
  rw [← hplace, Dev.get64, Dev.get64, hafter.get _ (by decide) (by decide) (by decide),
    hafter.get _ (by decide) (by decide) (by decide)]

/-! REFRESH_DUE. -/

/-- A refresh that falls due: the debt is issued when no request presses, and kept within its limit when one does. -/
theorem refreshDue_debt {d : Dev} {k : Clock} {pc : Nat} (hheld : d.isHeld 35 = false) (hup : d.stackUp (pc / 32) = true)
    (hawake : d.segResting (segmentOfPc pc) = false) (p : Nat) :
    (refreshDue pc k d).pcDebt p = if p = pc then
      (if d.pressing k pc then min (if d.flag (F.HBM_DOUBLED (pc / 32)) then 4 else 8) (d.pcDebt pc + 1) else 0) else d.pcDebt p := by
  have howed := d.pcDebt_setDebt pc (d.pcDebt pc + 1)
  have heq : refreshDue pc k d = let limit := if d.flag (F.HBM_DOUBLED (pc / 32)) then 4 else 8
      let a := d.setDebt pc (d.pcDebt pc + 1)
      if !d.pressing k pc then a.refresh pc (a.pcDebt pc)
      else if limit < a.pcDebt pc then a.refresh pc (a.pcDebt pc - limit) else a := if_neg (by simp [hheld, hup, hawake])
  rw [heq]
  dsimp only
  generalize (if d.flag (F.HBM_DOUBLED (pc / 32)) then 4 else 8) = limit
  cases hpress : d.pressing k pc with
  | false =>
    simp only [Bool.not_false, if_true, Bool.false_eq_true, if_false, Dev.pcDebt_refresh, howed]
    split <;> simp
  | true =>
    simp only [Bool.not_true, Bool.false_eq_true, if_false, if_true]
    split
    · rename_i hover
      simp only [Dev.pcDebt_refresh, howed, if_true] at hover ⊢
      split
      · omega
      · rfl
    · rename_i hwithin
      simp only [howed, if_true] at hwithin ⊢
      split
      · omega
      · rfl

/-! CLIENT_LATE. -/

/-- A list with the first occurrence of an entry replaced. -/
def replaceFirst (l : List DramReq) (r r' : DramReq) : List DramReq := l.takeWhile (· != r) ++ [r'] ++ (l.dropWhile (· != r)).drop 1

theorem length_replaceFirst {l : List DramReq} {r : DramReq} (h : r ∈ l) (r' : DramReq) : (replaceFirst l r r').length = l.length := by
  have hrest : l.dropWhile (· != r) ≠ [] := fun hnil => by
    have hne := List.dropWhile_eq_nil_iff.mp hnil r h
    simp at hne
  have hpos := List.length_pos_iff.mpr hrest
  have hsum := congrArg List.length (List.takeWhile_append_dropWhile (p := (· != r)) (l := l))
  rw [List.length_append] at hsum
  simp only [replaceFirst, List.length_append, List.length_singleton, List.length_drop]
  omega

theorem mem_replaceFirst (l : List DramReq) (r r' : DramReq) : r' ∈ replaceFirst l r r' := by simp [replaceFirst]

/-- A request is late: it has waited its client's TARGET, and has not been counted. -/
def Dev.firstLate (d : Dev) (k : Clock) (pc : Nat) : Option DramReq :=
  (d.pcReqs pc).find? fun a => !a.late && d.dramTarget a.client ≤ tickNs a.at_ k.tick

theorem clientLate_none {d : Dev} {k : Clock} {pc : Nat} (h : d.firstLate k pc = none) : clientLate pc k d = d := by
  rw [Dev.firstLate] at h
  simp only [clientLate, h]

theorem clientLate_shows {d : Dev} {k : Clock} {pc : Nat} {q : DramReq} (h : d.firstLate k pc = some q) : let b := clientLate pc k d
    (b.pcReqs pc).length = (d.pcReqs pc).length ∧ { q with late := true } ∈ b.pcReqs pc ∧ bit (b.get F.HBM_STICKY) 2 = true := by
  rw [Dev.firstLate] at h
  intro b
  have heq : b = (((d.onHbm fun x => { x with reqs := tset x.reqs pc (replaceFirst (d.pcReqs pc) q { q with late := true }) }).count
      (cGlobal (48 + q.client)) 0).setBit F.HBM_STICKY 2).event k 562 (flcClient q.client) := by
    simp only [b, clientLate, h]
    rfl
  have hreqs : b.pcReqs pc = replaceFirst (d.pcReqs pc) q { q with late := true } := by
    rw [heq, (Dev.serviced_event _ k _ (by decide)).reqs]
    exact tgetD_tset_self _ _ _ _
  rw [hreqs, heq]
  exact ⟨length_replaceFirst (List.mem_of_find?_eq_some h) _, mem_replaceFirst _ _ _,
    Dev.bit_setBit_event _ k _ (by decide) (by decide) (by decide)⟩

/-- Settles O56: each row by what its effect shows, the choice by the urgency that the comparison looks at first. -/
theorem dramRequests : Obligations.DramRequests := by
  unfold Obligations.DramRequests
  intro s c r addr len wr x pc q e n d k limit hp hheld
  refine ⟨fun hx => ends_onDev rfl hp (dramRequest_accepted hheld hx), fun hx => ends_onDev rfl hp (dramRequest_refused hx),
    fun hup hawake => ⟨fun hq => ?_, fun hq => ends_onDev rfl hp (dramIssue_none hq), ends_onDev rfl hp ⟨fun p hne => ?_, ?_⟩⟩,
    fun hq => ends_onDev rfl hp (clientLate_shows hq), fun hq => ends_onDev rfl hp (clientLate_none hq)⟩
  · obtain ⟨hmem, hmost⟩ := Dev.chooseReq_spec hq
    obtain ⟨hreqs, hrecorded⟩ := dramIssue_shows e hheld hup hawake hq
    exact ⟨hmem, hmost, ends_onDev rfl hp ⟨hreqs, hrecorded n⟩⟩
  · exact (refreshDue_debt hheld hup hawake p).trans (if_neg hne)
  · exact (refreshDue_debt hheld hup hawake pc).trans (if_pos rfl)

end Sys2Proof.Machine
end

section
/-! Proofs: temperatures and self-refresh of the in-package DRAM (R387 to R391, R395). -/

namespace Sys2Proof.Machine
open Sys2Proof

/-! STACK_TEMP_READ (R388). -/

theorem stackStatus_keys (s : Fin 4) : (F.HBM_TEMP s).key ≠ F.HBM_STICKY.key ∧ F.HBM_STICKY.key ≠ (F.HBM_DOUBLED s).key ∧
    (F.HBM_TEMP s).key ≠ (F.HBM_STACK_HOT s).key ∧ (F.HBM_DOUBLED s).key ≠ (F.HBM_STACK_HOT s).key ∧
    (F.HBM_TEMP s).key ≠ (F.HBM_DOUBLED s).key := by
  revert s
  decide

theorem stackStatus_still : ∀ s : Fin 4, (F.HBM_TEMP s).still = true ∧ (F.HBM_DOUBLED s).still = true := by decide

/-- Refreshes and reports change neither a stack's temperature nor its refresh rate. -/
theorem Dev.serviced.stackStatus {a b : Dev} (h : a.serviced b) (s : Fin 4) :
    b.get (F.HBM_TEMP s) = a.get (F.HBM_TEMP s) ∧ b.get (F.HBM_DOUBLED s) = a.get (F.HBM_DOUBLED s) := by
  obtain ⟨htemp, hdoubled⟩ := stackStatus_still s
  obtain ⟨htempKey, hdoubledKey, -⟩ := stackStatus_keys s
  exact ⟨h.get _ htemp (show 0 ≠ 12 by decide) htempKey, h.get _ hdoubled (show 8 ≠ 12 by decide) hdoubledKey.symm⟩

theorem unsign_byte_lt (t : Int) : unsign 8 t < 2 ^ 8 := by
  simp only [unsign]
  omega

/-- A reading shown, before the refresh rate follows it. -/
def Dev.tempShown (d : Dev) (k : Clock) (s : Nat) (t : Int) : Dev :=
  let shown := (d.set (F.HBM_TEMP s) (unsign 8 t)).setB (F.HBM_STACK_HOT s) (95 ≤ t)
  if 95 ≤ t then (shown.setBit F.HBM_STICKY 5).event k 565 flcScrub else shown

theorem Dev.tempShown_spec (d : Dev) (k : Clock) (s : Fin 4) (t : Int) : let b := d.tempShown k s t
    b.hbm = d.hbm ∧ b.get (F.HBM_TEMP s) = unsign 8 t ∧ b.get (F.HBM_DOUBLED s) = d.get (F.HBM_DOUBLED s) ∧
      (95 ≤ t → bit (b.get F.HBM_STICKY) 5 = true) := by
  intro b
  obtain ⟨-, -, htempHot, hdoubledHot, htempDoubled⟩ := stackStatus_keys s
  let shown := (d.set (F.HBM_TEMP s) (unsign 8 t)).setB (F.HBM_STACK_HOT s) (95 ≤ t)
  have hafter : shown.serviced b := by
    simp only [b, Dev.tempShown]
    split
    · exact shown.serviced_flagged k 5 _ (by decide)
    · exact shown.serviced_refl
  obtain ⟨htemp, hdoubled⟩ := hafter.stackStatus s
  refine ⟨?_, ?_, ?_, fun hhot => ?_⟩
  · simp only [b, Dev.tempShown]
    split
    · rw [Dev.flagged_hbm _ k _ 5 _ (by decide), Dev.setB_eq, Dev.set_hbm, Dev.set_hbm]
    · rw [Dev.setB_eq, Dev.set_hbm, Dev.set_hbm]
  · rw [htemp]
    exact (Dev.get_set_of_ne _ _ htempHot).trans ((Dev.get_set_self _ _ _).trans (Nat.mod_eq_of_lt (unsign_byte_lt t)))
  · rw [hdoubled]
    exact (Dev.get_set_of_ne _ _ hdoubledHot).trans (Dev.get_set_of_ne _ _ htempDoubled.symm)
  · simp only [b, Dev.tempShown, if_pos hhot]
    exact Dev.bit_setBit_event _ k _ (by decide) (by decide) (by decide)

/-- The refresh doubles: the flag, its event, and the debts of the stack issued. -/
def Dev.rateDoubled (d : Dev) (k : Clock) (s : Nat) (due : List Nat) : Dev :=
  let doubled := ((d.setB (F.HBM_DOUBLED s) true).setBit F.HBM_STICKY 4).event k 564 flcScrub
  if due.isEmpty then doubled
  else (((doubled.refreshAll due).count (cGlobal 55) 0).setBit F.HBM_STICKY 3).event k 563 flcScrub

theorem Dev.rateDoubled_spec (d : Dev) (k : Clock) (s : Nat) (due : List Nat) : let b := d.rateDoubled k s due
    (d.setB (F.HBM_DOUBLED s) true).serviced b ∧ bit (b.get F.HBM_STICKY) 4 = true ∧
      ∀ p, b.pcDebt p = if p ∈ due then 0 else d.pcDebt p := by
  intro b
  generalize hc : ((d.setB (F.HBM_DOUBLED s) true).setBit F.HBM_STICKY 4).event k 564 flcScrub = c at b
  have hflag : (d.setB (F.HBM_DOUBLED s) true).serviced c := hc ▸ Dev.serviced_flagged _ k 4 _ (by decide)
  have hbit : bit (c.get F.HBM_STICKY) 4 = true := hc ▸ Dev.bit_setBit_event _ k _ (by decide) (by decide) (by decide)
  have hdebt : ∀ p, c.pcDebt p = d.pcDebt p := Dev.pcDebt_congr (by
    rw [← hc, Dev.flagged_hbm _ k _ 4 _ (by decide), Dev.setB_eq, Dev.set_hbm])
  have hb : c.serviced b ∧ b.hbm = (c.refreshAll due).hbm := by
    simp only [b, Dev.rateDoubled, hc]
    split
    · rename_i hnone
      rw [List.isEmpty_iff.mp hnone]
      exact ⟨c.serviced_refl, rfl⟩
    · refine ⟨((c.serviced_refreshAll due).trans (Dev.serviced_count _ _ _)).trans (Dev.serviced_flagged _ k 3 _ (by decide)), ?_⟩
      rw [Dev.flagged_hbm _ k _ 3 _ (by decide), Dev.count_hbm]
  refine ⟨hflag.trans hb.1, hb.1.sticky 4 hbit, fun p => ?_⟩
  rw [Dev.pcDebt_congr hb.2, Dev.pcDebt_refreshAll, hdebt]

/-- The pseudo-channels of a stack that owe refreshes. -/
def Dev.owing (d : Dev) (s : Nat) : List Nat := (stackPcs s).filter fun p => 0 < d.pcDebt p

theorem stackTemp_eq (d : Dev) (k : Clock) (s : Nat) (t : Int) : stackTemp s t k d =
    if t < 82 then (d.tempShown k s t).setB (F.HBM_DOUBLED s) false
    else if t < 85 || d.flag (F.HBM_DOUBLED s) then d.tempShown k s t
    else (d.tempShown k s t).rateDoubled k s (d.owing s) := rfl

theorem stackTemp_shows (d : Dev) (k : Clock) (s : Fin 4) (t : Int) : let b := stackTemp s t k d
    b.get (F.HBM_TEMP s) = unsign 8 t ∧
      b.get (F.HBM_DOUBLED s) = (if t < 82 then 0 else if t < 85 then d.get (F.HBM_DOUBLED s) else 1) ∧
      (95 ≤ t → bit (b.get F.HBM_STICKY) 5 = true) ∧
      (85 ≤ t → d.flag (F.HBM_DOUBLED s) = false → bit (b.get F.HBM_STICKY) 4 = true ∧ ∀ p ∈ stackPcs s, b.pcDebt p = 0) := by
  intro b
  obtain ⟨-, hdoubledKey, -, -, htempDoubled⟩ := stackStatus_keys s
  obtain ⟨hhbm, hreads, hrate, hhot⟩ := d.tempShown_spec k s t
  have heq : b = _ := stackTemp_eq d k s t
  by_cases hcool : t < 82
  · rw [if_pos hcool] at heq ⊢
    rw [heq, Dev.setB_eq, Dev.get_set_of_ne _ _ htempDoubled, Dev.get_set_of_ne _ _ hdoubledKey]
    exact ⟨hreads, Dev.get_set_self _ _ 0, hhot, fun h => by omega⟩
  · rw [if_neg hcool] at heq ⊢
    by_cases hstay : t < 85 ∨ d.flag (F.HBM_DOUBLED s) = true
    · rw [if_pos (by simpa using hstay)] at heq
      rw [heq]
      refine ⟨hreads, hrate.trans ?_, hhot, fun h hoff => ?_⟩
      · split
        · rfl
        · exact beq_iff_eq.mp (hstay.resolve_left ‹_›)
      · rw [hoff] at hstay
        exact absurd h (by simpa using hstay)
    · obtain ⟨hwarm, hoff⟩ := not_or.mp hstay
      rw [if_neg (by simpa using hstay)] at heq
      obtain ⟨hafter, hbit, hdebt⟩ := (d.tempShown k s t).rateDoubled_spec k s (d.owing s)
      obtain ⟨htemp, hdoubled⟩ := hafter.stackStatus s
      rw [heq, if_neg hwarm, htemp, hdoubled, Dev.setB_eq, Dev.get_set_of_ne _ _ htempDoubled]
      refine ⟨hreads, Dev.get_set_self _ _ 1, fun h => ?_, fun _ _ => ⟨hbit, fun p hp => ?_⟩⟩
      · refine hafter.sticky 5 ?_
        rw [Dev.setB_eq, Dev.get_set_of_ne _ _ hdoubledKey]
        exact hhot h
      · rw [hdebt, Dev.pcDebt_congr hhbm]
        split
        · rfl
        · rename_i hnot
          simpa [Dev.owing, hp] using hnot

/-! SELF_REFRESH_ENTRY and SELF_REFRESH_ABANDON (R390). -/

/-- Does a pseudo-channel of a segment hold a request. -/
def Dev.segmentBusy (d : Dev) (s : Nat) : Bool := (segmentPcs s).any fun p => !(d.pcReqs p).isEmpty

/-- The commit point passed: the entry is over, banks are closed, and contents that may be lost are. -/
def Dev.entryCommitted (d : Dev) (s : Nat) (lose : Bool) : Dev := d.onHbm fun h => { h with
  entering := h.entering - 2 ^ s
  lost := if lose then h.lost ||| 2 ^ s else h.lost
  open_ := tclear h.open_ (512 * s) (512 * s + 512) }

theorem Dev.entryCommitted_hbm (d : Dev) (s : Nat) (lose : Bool) : (d.entryCommitted s lose).hbm.entering = d.hbm.entering - 2 ^ s ∧
    (d.entryCommitted s lose).hbm.lost = (if lose then d.hbm.lost ||| 2 ^ s else d.hbm.lost) := ⟨rfl, rfl⟩

theorem Dev.pcDebt_entryCommitted (d : Dev) (s : Nat) (lose : Bool) (p : Nat) : (d.entryCommitted s lose).pcDebt p = d.pcDebt p := rfl

theorem Dev.pcDebt_setBit (d : Dev) (f : Fld) (n p : Nat) : (d.setBit f n).pcDebt p = d.pcDebt p := rfl

theorem selfRefreshEntry_shows {d : Dev} (k : Clock) {s : Nat} (hs : s < 16) (hheld : d.isHeld 35 = false)
    (henter : bit d.hbm.entering s = true) (hidle : d.segmentBusy s = false)
    (hkept : bit (d.get F.HBM_SEG_LOSE) s = false ∨ d.segmentChunks s = 0) : let b := selfRefreshEntry s k d
    b.segResting s = true ∧ bit b.hbm.entering s = false ∧ (∀ p ∈ segmentPcs s, b.pcDebt p = 0) ∧
      (bit (d.get F.HBM_SEG_LOSE) s = true → bit b.hbm.lost s = true) := by
  intro b
  let a := d.refreshAll (segmentPcs s)
  have hfree : (bit (d.get F.HBM_SEG_LOSE) s && d.segmentChunks s != 0) = false := by
    rcases hkept with h | h <;> simp [h]
  rw [Dev.segmentBusy] at hidle
  have heq : b = (a.entryCommitted s (bit (d.get F.HBM_SEG_LOSE) s)).setBit F.HBM_SEG_RESTING s :=
    if_neg (by rw [henter, hidle, hheld, hfree]; decide)
  have hentering : a.hbm.entering = d.hbm.entering := by
    rw [(d.serviced_refreshAll (segmentPcs s)).hbm]
  obtain ⟨hended, hlost⟩ := a.entryCommitted_hbm s (bit (d.get F.HBM_SEG_LOSE) s)
  rw [heq]
  refine ⟨Dev.bit_setBit _ hs, ?_, fun p hp => ?_, fun hlose => ?_⟩
  · rw [Dev.setBit_eq, Dev.set_hbm, hended, hentering]
    exact bit_sub_two_pow_self henter
  · rw [Dev.pcDebt_setBit, Dev.pcDebt_entryCommitted, Dev.pcDebt_refreshAll, if_pos hp]
  · rw [Dev.setBit_eq, Dev.set_hbm, hlost, if_pos hlose]
    exact bit_or_two_pow_self _ s

theorem selfRefreshAbandon_idle {d : Dev} {s : Nat} (k : Clock) (h : d.segmentBusy s = false) : selfRefreshAbandon s k d = d :=
  if_neg (Bool.eq_false_iff.mp h)

/-- The entry given up: 10 µs after the boundary a request still waits. -/
theorem Dev.entryEnds_eq {d : Dev} {k : Clock} {s : Nat} (h : bit d.hbm.entering s = true) : d.entryEnds k s =
    (((d.onHbm fun x => { x with entering := x.entering - 2 ^ s }).count (cGlobal 56) 0).setBit F.HBM_STICKY 6).event k 566
      (flc 35 (s / 4) 255) := if_neg (by simp [h])

theorem selfRefreshAbandon_shows {d : Dev} {s : Nat} (k : Clock) (henter : bit d.hbm.entering s = true) (hbusy : d.segmentBusy s = true) :
    let b := selfRefreshAbandon s k d
    bit b.hbm.entering s = false ∧ b.segResting s = d.segResting s ∧ bit (b.get F.HBM_STICKY) 6 = true := by
  intro b
  have heq : b = d.entryEnds k s := if_pos hbusy
  rw [heq]
  refine ⟨d.entryEnds_entering k s, ?_, ?_⟩
  · rw [Dev.entryEnds_eq henter, (Dev.serviced_flagged _ k 6 _ (by decide)).segResting]
    rfl
  · rw [Dev.entryEnds_eq henter]
    exact Dev.bit_setBit_event _ k _ (by decide) (by decide) (by decide)

/-! SELF_REFRESH_EXIT (R390, R391). -/

/-- A segment that no longer rests: it owes no refreshes. -/
def Dev.awoken (d : Dev) (s : Nat) : Dev := (segmentPcs s).foldl (fun d p => d.setDebt p 0) (d.clrBit F.HBM_SEG_RESTING s)

theorem Dev.awoken_segResting (d : Dev) (s : Nat) : (d.awoken s).segResting s = false := by
  have h : (d.clrBit F.HBM_SEG_RESTING s).serviced (d.awoken s) := Dev.serviced_foldl (fun e p => e.serviced_setDebt p 0) _ _
  rw [h.segResting, Dev.segResting, Dev.bit_clrBit]
  simp

theorem Dev.pcDebt_awoken (d : Dev) {s p : Nat} (hp : p ∈ segmentPcs s) : (d.awoken s).pcDebt p = 0 :=
  (Dev.pcDebt_foldl_ended (fun e q p => e.pcDebt_setDebt q 0 p) _ _ p).trans (if_pos hp)

/-- Contents that were lost: the slices are to be initialised before they are read (R391). -/
def Dev.lostNoted (d : Dev) (s : Nat) (slices : List Nat) : Dev :=
  if !bit d.hbm.lost s then d
  else
    let noted := d.onHbm fun h => { h with lost := h.lost - 2 ^ s, uninit := tput h.uninit s [] slices }
    if slices.isEmpty then noted else noted.setBit F.HBM_SEG_UNINIT s

theorem Dev.lostNoted_spec (d : Dev) (s : Nat) (slices : List Nat) : let b := d.lostNoted s slices
    bit b.hbm.lost s = false ∧ (∀ p, b.pcDebt p = d.pcDebt p) ∧ b.segResting s = d.segResting s := by
  intro b
  cases hlost : bit d.hbm.lost s with
  | false =>
    have heq : b = d := if_pos (by simp [hlost])
    rw [heq]
    exact ⟨hlost, fun _ => rfl, rfl⟩
  | true =>
    have hbit := bit_sub_two_pow_self hlost
    have heq : b = if slices.isEmpty then d.onHbm fun h => { h with lost := h.lost - 2 ^ s, uninit := tput h.uninit s [] slices }
        else (d.onHbm fun h => { h with lost := h.lost - 2 ^ s, uninit := tput h.uninit s [] slices }).setBit F.HBM_SEG_UNINIT s :=
      if_neg (by simp [hlost])
    rw [heq]
    split
    · exact ⟨hbit, fun _ => rfl, rfl⟩
    · refine ⟨hbit, fun _ => rfl, ?_⟩
      rw [Dev.segResting, Dev.setBit_eq, Dev.get_set_of_ne _ _ (by decide)]
      rfl

theorem Dev.wake_eq {d : Dev} {k : Clock} {s : Nat} (hrest : d.segResting s = true) (hup : d.stackUp (s / 4) = true) : d.wake k s =
    ((((d.awoken s).lostNoted s (d.segmentSlices s)).count (cGlobal 57) 0).setBit F.HBM_STICKY 7).event k 567 (flc 35 (s / 4) 255) :=
  if_neg (by simp [hrest, hup])

theorem Dev.wake_shows {d : Dev} (k : Clock) {s : Nat} (hrest : d.segResting s = true) (hup : d.stackUp (s / 4) = true) :
    let b := d.wake k s
    b.segResting s = false ∧ bit b.hbm.lost s = false ∧ (∀ p ∈ segmentPcs s, b.pcDebt p = 0) ∧ bit (b.get F.HBM_STICKY) 7 = true := by
  intro b
  let a := (d.awoken s).lostNoted s (d.segmentSlices s)
  obtain ⟨hlost, hdebt, hawake⟩ := (d.awoken s).lostNoted_spec s (d.segmentSlices s)
  have heq : b = ((a.count (cGlobal 57) 0).setBit F.HBM_STICKY 7).event k 567 (flc 35 (s / 4) 255) := Dev.wake_eq hrest hup
  have hafter : a.serviced b := heq ▸ (a.serviced_count _ _).trans (Dev.serviced_flagged _ k 7 _ (by decide))
  have hhbm : b.hbm = a.hbm := by rw [heq, Dev.flagged_hbm _ k _ 7 _ (by decide), Dev.count_hbm]
  refine ⟨?_, ?_, fun p hp => ?_, ?_⟩
  · rw [hafter.segResting, hawake, d.awoken_segResting s]
  · rw [hhbm, hlost]
  · rw [Dev.pcDebt_congr hhbm, hdebt, d.pcDebt_awoken hp]
  · rw [heq]
    exact Dev.bit_setBit_event _ k _ (by decide) (by decide) (by decide)

theorem selfRefreshExit_wakes {d : Dev} {k : Clock} {s : Nat} (h : d.segmentBusy s = true ∨ bit (d.get F.HBM_SEG_ELIGIBLE) s = false) :
    selfRefreshExit s k d = d.wake k s := if_pos (by
  rw [Dev.segmentBusy] at h
  rcases h with h | h <;> simp only [h, Bool.true_or, Bool.not_false, Bool.or_true])

theorem selfRefreshExit_rests {d : Dev} {k : Clock} {s : Nat} (hidle : d.segmentBusy s = false)
    (heligible : bit (d.get F.HBM_SEG_ELIGIBLE) s = true) : selfRefreshExit s k d = d := if_neg (by
  rw [Dev.segmentBusy] at hidle
  rw [hidle, heligible]
  decide)

/-! CHANNEL_RETRAIN (R395). -/

theorem testBit_stackSegments : ∀ s i : Fin 4, (15 * 2 ^ (4 * s.val)).testBit (4 * s.val + i.val) = true := by decide

theorem Dev.stackDown_shows (d : Dev) (k : Clock) (s : Fin 4) (at_ : Nat) : let b := d.stackDown k s at_
    b.stackUp s = false ∧ bit (b.get F.HBM_STACK_DOWN) s = true ∧ (∀ i < 4, b.segResting (4 * s + i) = true) ∧
      bit (b.get F.HBM_STICKY) 8 = true := by
  intro b
  let down := (d.clrBit F.HBM_STACK_UP s).setBit F.HBM_STACK_DOWN s
  let resting := down.set F.HBM_SEG_RESTING (down.get F.HBM_SEG_RESTING ||| 15 * 2 ^ (4 * s.val))
  have hb : ∀ f : Fld, f.still = true → b.get f = (resting.setBit F.HBM_STICKY 8).get f := fun f hf =>
    (Dev.alike_event _ k 568 at_ (by decide)).get_eq f hf
  have hkept : ∀ f : Fld, f.still = true → f.key ≠ F.HBM_STICKY.key → f.key ≠ F.HBM_SEG_RESTING.key → b.get f = down.get f :=
    fun f hf hsticky hresting => (hb f hf).trans ((Dev.get_set_of_ne _ _ hsticky).trans (Dev.get_set_of_ne _ _ hresting))
  refine ⟨?_, ?_, fun i hi => ?_, ?_⟩
  · rw [Dev.stackUp, hkept _ (by decide) (by decide) (by decide)]
    simp only [down]
    rw [Dev.setBit_eq, Dev.get_set_of_ne _ _ (by decide), Dev.bit_clrBit]
    simp
  · rw [hkept _ (by decide) (by decide) (by decide), Dev.bit_setBit _ s.isLt]
  · rw [Dev.segResting, hb _ (by decide), Dev.setBit_eq, Dev.get_set_of_ne _ _ (by decide), Dev.get_set_self, bit_eq_testBit,
      Nat.testBit_mod_two_pow, Nat.testBit_or, testBit_stackSegments s ⟨i, hi⟩, Bool.or_true, Bool.and_true]
    exact decide_eq_true (show 4 * s.val + i < 16 by omega)
  · rw [hb _ (by decide), Dev.bit_setBit _ (by decide)]

theorem channelRetrain_failed {d : Dev} {s : Nat} (k : Clock) (ch : Nat) (hheld : d.isHeld 35 = false) (hup : d.stackUp s = true) :
    channelRetrain s ch true k d = d.stackDown k s (flcPhy s ch) := if_pos (by simp [hheld, hup])

theorem channelRetrain_passed (d : Dev) (k : Clock) (s ch : Nat) : channelRetrain s ch false k d = d := if_neg (by simp)

end Sys2Proof.Machine
end

section
/-! Proofs: the allocation of the in-package DRAM to its regions (R380). -/

namespace Sys2Proof.Machine
open Sys2Proof

theorem tget?_append {α : Type} (t u : Tab α) (k : Nat) : tget? (t ++ u) k = (tget? t k).or (tget? u k) := by
  induction t with
  | nil => rfl
  | cons e t ih =>
    obtain ⟨j, x⟩ := e
    rw [List.cons_append, tget?_cons, tget?_cons, ih]
    split <;> rfl

/-- What the first region of a list is given. -/
theorem tget?_giveExtents_cons (r n : Nat) (rs : List (Nat × Nat)) (free : List Nat) (j : Nat) :
    tget? (giveExtents ((r, n) :: rs) free) j =
      if r = j ∧ n ≠ 0 then some (free.take n) else tget? (giveExtents rs (free.drop n)) j := by
  rw [giveExtents, tget?_append]
  by_cases hn : n = 0 <;> by_cases hj : r = j <;> simp [hn, hj, tget?_cons]

theorem tget?_giveExtents_other {sizes : List (Nat × Nat)} {j : Nat} (h : j ∉ sizes.map (·.1)) (free : List Nat) :
    tget? (giveExtents sizes free) j = none := by
  induction sizes generalizing free with
  | nil => rfl
  | cons e rs ih =>
    obtain ⟨r, n⟩ := e
    obtain ⟨hr, hrs⟩ : ¬ j = r ∧ j ∉ rs.map (·.1) := by simpa using h
    rw [tget?_giveExtents_cons, if_neg fun hj => hr hj.1.symm]
    exact ih hrs _

/-- Free extents that suffice give every region as many as its size. -/
theorem giveExtents_spec {sizes : List (Nat × Nat)} (hnodup : (sizes.map (·.1)).Nodup) {free : List Nat}
    (hfit : (sizes.map (·.2)).sum ≤ free.length) : ∀ e ∈ sizes, (tgetD (giveExtents sizes free) e.1 []).length = e.2 ∧
      ∀ x ∈ tgetD (giveExtents sizes free) e.1 [], x ∈ free := by
  induction sizes generalizing free with
  | nil => simp
  | cons f rs ih =>
    obtain ⟨r, n⟩ := f
    obtain ⟨hr, hrs⟩ := List.nodup_cons.mp hnodup
    simp only [List.map_cons, List.sum_cons] at hfit
    have hrest := ih hrs (free := free.drop n) (by rw [List.length_drop]; omega)
    intro e he
    rcases List.mem_cons.mp he with rfl | he
    · by_cases hn : n = 0
      · subst hn
        rw [tgetD, tget?_giveExtents_cons, if_neg (by simp), tget?_giveExtents_other hr]
        simp
      · rw [tgetD, tget?_giveExtents_cons, if_pos ⟨rfl, hn⟩]
        exact ⟨List.length_take_of_le (by omega), fun x hx => List.mem_of_mem_take hx⟩
    · have hne : r ≠ e.1 := fun h => hr (List.mem_map.mpr ⟨e, he, h.symm⟩)
      obtain ⟨hlen, hmem⟩ := hrest e he
      rw [tgetD, tget?_giveExtents_cons, if_neg fun h => hne h.1]
      exact ⟨hlen, fun x hx => List.mem_of_mem_drop (hmem x hx)⟩

theorem regionSizes_nodup (w s : Nat) : ((regionSizes w s).map (·.1)).Nodup :=
  show [regEvents, regStaging, regArchive, regRecords, regWindow, regHog].Nodup by decide

theorem sumList_eq (l : List Nat) : Dev.allocate.sumList l = l.sum := List.sum_eq_foldl.symm

/-- Extents of the stacks in service. -/
def Dev.freeExtents (d : Dev) : List Nat := (List.range 96).filter fun e => !bit (d.get F.HBM_STACK_DOWN) (e / 24)

/-- The sizes that each region asks for, by the registers. -/
def Dev.askedSizes (d : Dev) : List (Nat × Nat) := regionSizes (d.get F.HBM_WINDOW_GIB) (d.get F.HBM_HOG_GIB)

/-- The sizes asked for are ones that may be, and no CXL mode is trained. -/
def Dev.allocValid (d : Dev) : Prop :=
  d.get F.CXL_MODE = 0 ∧ (d.get F.HBM_WINDOW_GIB = 0 ∨ 4 ≤ d.get F.HBM_WINDOW_GIB ∧ d.get F.HBM_WINDOW_GIB ≤ 16) ∧
    d.get F.HBM_HOG_GIB ≤ 64

/-- The sizes asked for are refused, whatever extents are free. -/
def Dev.allocBad (d : Dev) : Bool :=
  let w := d.get F.HBM_WINDOW_GIB
  let s := d.get F.HBM_HOG_GIB
  let mode := d.get F.CXL_MODE
  (w != 0 && w < 4) || 16 < w || 64 < s || (w = 0 && 1 ≤ mode && mode ≤ 4) || (w != 0 && mode = 5)

theorem Dev.allocValid.not_bad {d : Dev} (h : d.allocValid) : d.allocBad = false := by
  obtain ⟨hmode, hw, hs⟩ := h
  simp only [Dev.allocBad, hmode]
  simp
  omega

/-- The extents given out, before the event store begins. -/
def Dev.allocGiven (d : Dev) : Dev :=
  ((d.setB F.HBM_ALLOC_PENDING false).setB F.HBM_ALLOC_DONE true).onHbm fun h =>
    { h with regions := giveExtents d.askedSizes d.freeExtents }

/-- The allocation made: the event store begins at the oldest record of the ring (R518). -/
def Dev.allocMade (d : Dev) : Dev :=
  { d.allocGiven with lamp := { d.allocGiven.lamp with storeFrom := some d.oldestSeq, copied := d.oldestSeq } }

theorem Dev.get_allocMade (d : Dev) (f : Fld) :
    d.allocMade.get f = ((d.setB F.HBM_ALLOC_PENDING false).setB F.HBM_ALLOC_DONE true).get f := rfl

theorem Dev.region_allocMade (d : Dev) (r : Nat) : d.allocMade.region r = tgetD (giveExtents d.askedSizes d.freeExtents) r [] := rfl

/-- The allocation refused. -/
def Dev.allocRefused (d : Dev) (k : Clock) : Dev :=
  ((d.setB F.HBM_ALLOC_PENDING false).setBit F.HBM_STICKY 9).event k 569 flcScrub

theorem Dev.allocate_eq (d : Dev) (k : Clock) : d.allocate k =
    if d.allocBad || d.freeExtents.length < Dev.allocate.sumList (d.askedSizes.map (·.2)) then d.allocRefused k else d.allocMade := rfl

theorem Dev.allocate_valid {d : Dev} (k : Clock) (h : d.allocValid) : d.allocate k =
    if d.freeExtents.length < (d.askedSizes.map (·.2)).sum then d.allocRefused k else d.allocMade := by
  rw [Dev.allocate_eq, h.not_bad, sumList_eq]
  simp

theorem Dev.allocate_fits {d : Dev} (k : Clock) (h : d.allocValid) (hfit : (d.askedSizes.map (·.2)).sum ≤ d.freeExtents.length) :
    let b := d.allocate k
    b.flag F.HBM_ALLOC_DONE = true ∧ b.flag F.HBM_ALLOC_PENDING = false ∧
      ∀ e ∈ d.askedSizes, (b.region e.1).length = e.2 ∧ ∀ x ∈ b.region e.1, x ∈ d.freeExtents := by
  intro b
  have heq : b = d.allocMade := (d.allocate_valid k h).trans (if_neg (Nat.not_lt.mpr hfit))
  rw [heq]
  refine ⟨?_, ?_, ?_⟩
  · rw [Dev.flag, Dev.get_allocMade, Dev.setB_eq, Dev.get_set_self]
    rfl
  · rw [Dev.flag, Dev.get_allocMade, Dev.setB_eq, Dev.get_set_of_ne _ _ (by decide), Dev.get_setB_false]
    rfl
  · simp only [Dev.region_allocMade]
    exact giveExtents_spec (regionSizes_nodup _ _) hfit

theorem Dev.allocate_refuses {d : Dev} (k : Clock) (h : d.allocValid) (hover : d.freeExtents.length < (d.askedSizes.map (·.2)).sum) :
    let b := d.allocate k
    b.flag F.HBM_ALLOC_PENDING = false ∧ b.hbm = d.hbm ∧ bit (b.get F.HBM_STICKY) 9 = true := by
  intro b
  have heq : b = d.allocRefused k := (d.allocate_valid k h).trans (if_pos hover)
  rw [heq, Dev.allocRefused]
  refine ⟨?_, ?_, ?_⟩
  · rw [Dev.flag, (Dev.serviced_flagged _ k 9 _ (by decide)).get _ (by decide) (by decide) (by decide), Dev.get_setB_false]
    rfl
  · rw [Dev.flagged_hbm _ k _ 9 _ (by decide), Dev.setB_eq, Dev.set_hbm]
  · exact Dev.bit_setBit_event _ k _ (by decide) (by decide) (by decide)

theorem ends_allocation {s : State} {p : Dev → Prop} (hp : s.m.dev.boot.porN = true) (hheld : s.m.dev.isHeld 35 = false)
    (hpend : s.m.dev.flag F.HBM_ALLOC_PENDING = true) (htrained : s.m.dev.trainingEnded = true)
    (h : p (s.m.dev.allocate s.m.clk)) : ends .allocation s p := by
  refine ends_onDev rfl hp ?_
  rw [if_pos (by simp [hpend, htrained, hheld])]
  exact h

/-- Settles O57: each row by what its effect shows, and the allocation by the extents that giveExtents hands to each region in turn. -/
theorem dramStacks : Obligations.DramStacks := by
  unfold Obligations.DramStacks
  intro s st t g ch d busy w h free hp hheld
  refine ⟨ends_onDev rfl hp ?_, fun henter hidle hkept => ends_onDev rfl hp (selfRefreshEntry_shows _ g.isLt hheld henter hidle hkept),
    fun henter hbusy => ends_onDev rfl hp (selfRefreshAbandon_shows _ henter hbusy),
    fun hidle => ends_onDev rfl hp (selfRefreshAbandon_idle _ hidle), fun hrest hup hends => ends_onDev rfl hp ?_,
    fun hidle heligible => ends_onDev rfl hp (selfRefreshExit_rests hidle heligible), fun hup => ends_onDev rfl hp ?_,
    ends_onDev rfl hp (channelRetrain_passed _ _ _ _),
    fun hpend htrained hmode hw hs => ⟨fun hfit => ?_, fun hover => ?_⟩⟩
  · rw [if_neg (by rw [hheld]; decide)]
    exact stackTemp_shows d _ st t
  · rw [selfRefreshExit_wakes hends]
    exact Dev.wake_shows _ hrest hup
  · rw [channelRetrain_failed _ _ hheld hup]
    exact d.stackDown_shows _ st _
  · exact ends_allocation hp hheld hpend htrained (d.allocate_fits _ ⟨hmode, hw, hs⟩ hfit)
  · exact ends_allocation hp hheld hpend htrained (d.allocate_refuses _ ⟨hmode, hw, hs⟩ hover)

end Sys2Proof.Machine
end

section
/-! Proofs: the step, the queue, and what POR_N and a fatal failure hold back (R539, R541). -/

namespace Sys2Proof.Machine
open Sys2Proof

/-- Settles O1: both parts are the two cases of the queue in the definition of a step. -/
theorem stepTakesFront : Obligations.StepTakesFront :=
  ⟨fun _ _ _ => rfl, fun s h => by simp [step, h]⟩

theorem onDev_pending {f : Clock → Dev → Dev} {s t : State} (h : onDev f s = .next t) : t.pending = s.pending := by
  cases h
  split <;> rfl

theorem onMach_pending {f : Mach → Mach} {s t : State} (h : onMach f s = .next t) : t.pending = s.pending := by
  cases h
  split <;> rfl

/-- A command's meaning acts on the device or on the machine, which hold no queue; POR_N's two act on the machine too, and a
reading outside the operating range answers no state. -/
theorem exec_pending (c : Instr) (s t : State) (h : exec c s = .next t) : t.pending = s.pending := by
  cases c
  case readVout i v =>
    cases hr : (s.m.dev.boot.porN && s.m.dev.flag (F.PMBUS_SLOT_EN 0) && voutOutside s.m.dev v)
    · exact onDev_pending ((exec_readVout_next hr).symm.trans h)
    · rw [exec_readVout_fault hr] at h; cases h
  case tjSample tj =>
    by_cases hr : s.m.dev.boot.porN = true ∧ (tj < -10 ∨ 105 < tj)
    · rw [exec_tjSample_fault hr.1 hr.2] at h; cases h
    · exact onDev_pending ((exec_tjSample_next hr).symm.trans h)
  case porNAssert => cases h; rfl
  case porNRelease => cases h; rfl
  all_goals first | exact onDev_pending h | exact onMach_pending h

/-- Settles O2: every command's meaning is one of those that keep the queue. -/
theorem commandsLeaveQueue : Obligations.CommandsLeaveQueue := exec_pending

/-- While POR_N is asserted a command on the device or on the machine leaves the state as it is, and no reading is taken. -/
theorem exec_held {c : Instr} {s : State} (h : s.m.dev.boot.porN = false) (h1 : c ≠ .porNAssert)
    (h2 : ∀ a b d e, c ≠ .porNRelease a b d e) : exec c s = .next s := by
  cases c
  case porNAssert => exact absurd rfl h1
  case porNRelease a b d e => exact absurd rfl (h2 a b d e)
  case readVout i v => exact (exec_readVout_next (by simp [h])).trans (onDev_held _ h)
  case tjSample tj => exact (exec_tjSample_next (by simp [h])).trans (onDev_held _ h)
  all_goals first | exact onDev_held _ h | exact onMach_held _ h

/-- Settles O8: the device and the machine act only once POR_N is released. -/
theorem porHolds : Obligations.PorHolds := fun _ _ h h1 h2 => exec_held h h1 h2

/-! After a fatal failure. -/

theorem smiemOr_failed {onBad : Mach → Mach} {op : Nat} {check : Req → Mach → Option Nat} {later : Req → Bool}
    {body : Req → Mach → Res} {q : Req} {m : Mach} (h : m.dev.flag F.BT_FAILED = true) : smiemOr onBad op check later body q m = m := by
  unfold smiemOr
  simp only [h, Bool.or_true, if_true]

theorem Dev.doorbell_failed {d : Dev} (act : Dev → Dev) (h : d.flag F.BT_FAILED = true) : d.doorbell act = d := if_pos h

theorem Dev.answers_failed {d : Dev} {off : Nat} (h : d.flag F.BT_FAILED = true) (hoff : 0x2000 ≤ off) : d.answers off = false := by
  simp only [Dev.answers, h, Bool.not_true, Bool.false_or, decide_eq_false_iff_not]
  omega

theorem Dev.deaf_of_not_answers {d : Dev} {off : Nat} (h : d.answers off = false) : d.deaf off = true := by simp [Dev.deaf, h]

theorem Dev.present_of_not_answers {d : Dev} {off : Nat} (k : Clock) (h : d.answers off = false) : d.present k off = 0 := by
  simp [Dev.present, h]

/-- A read changes nothing but what is captured. -/
theorem Dev.regRead_cfg (d : Dev) (k : Clock) (who : Requester) (off : Nat) :
    (d.regRead k who off).2 = { d with cfg := (d.regRead k who off).2.cfg } := by
  unfold Dev.regRead
  dsimp only
  split
  · rfl
  · split <;> rfl

theorem readBar_eq (who : Requester) (off : Nat) (k : Clock) (d : Dev) :
    readBar who off k d = (d.regRead k who off).2.emit (.regRead who off (d.regRead k who off).1) := rfl

theorem Dev.regRead_of_not_answers {d : Dev} {off : Nat} (k : Clock) (who : Requester) (h : d.answers off = false) :
    (d.regRead k who off).1 = 0 := by
  unfold Dev.regRead
  dsimp only
  split
  · exact d.present_of_not_answers k h
  · split
    · exact d.present_of_not_answers k h
    · simp [h, d.present_of_not_answers k h]

/-- Settles O9: Smiem stands, the doorbells do nothing, and no register from 0x2000 on answers. -/
theorem fatalHolds : Obligations.FatalHolds := by
  unfold Obligations.FatalHolds
  intro s r v who off d hp hf
  refine ⟨fun c op q hc => ?_, ends_onDev rfl hp (Dev.doorbell_failed _ hf), ends_onDev rfl hp (Dev.doorbell_failed _ hf),
    fun hoff => ⟨ends_registerWrite hp ?_, ends_onDev rfl hp ?_⟩⟩
  · obtain ⟨onBad, check, later, body, he⟩ := smiem_exec hc
    rw [he, onMach_run _ hp, smiemOr_failed hf]
  · exact Dev.barWrite_deaf _ _ (Dev.deaf_of_not_answers (Dev.answers_failed hf hoff))
  · rw [readBar_eq, Dev.regRead_of_not_answers _ _ (Dev.answers_failed hf hoff), Dev.regRead_cfg]
    rfl

/-! Readiness. -/

theorem smiemOr_firmwareBusy {onBad : Mach → Mach} {op : Nat} {check : Req → Mach → Option Nat} {later : Req → Bool}
    {body : Req → Mach → Res} {q : Req} {m : Mach} (hp : m.dev.boot.porN = true) (hf : m.dev.flag F.BT_FAILED = false)
    (hm : m.dev.smi.mayStart op q = true) (hw : isHw op q.params = false) (hr : m.dev.flag F.SM_FW_READY = false)
    (hk : (m.dev.takeFetched op q).1.kept = false) :
    smiemOr onBad op check later body q m = m.replied op q ⟨stBusy, 1, 0⟩ := by
  unfold smiemOr
  simp only [hp, hf, hm, hw, hr, hk, Bool.not_true, Bool.or_self, Bool.false_eq_true, if_false, Bool.not_false, Bool.and_self, if_true]
  rfl

theorem smiemOr_hardwareBusy {onBad : Mach → Mach} {op : Nat} {check : Req → Mach → Option Nat} {later : Req → Bool}
    {body : Req → Mach → Res} {q : Req} {m : Mach} (hp : m.dev.boot.porN = true) (hf : m.dev.flag F.BT_FAILED = false)
    (hm : m.dev.smi.mayStart op q = true) (hw : isHw op q.params = true) (hs : m.dev.boot.step < 3) :
    smiemOr onBad op check later body q m = m.replied op q ⟨stBusy, 2, 0⟩ := by
  unfold smiemOr
  simp only [hp, hf, hm, hw, hs, Bool.not_true, Bool.or_self, Bool.false_eq_true, if_false, Bool.false_and, Bool.true_and,
    decide_true, if_true]
  rfl

/-- Settles O11: the first tests of the engine that every Smiem command runs through. -/
theorem startAndReadiness : Obligations.StartAndReadiness := by
  unfold Obligations.StartAndReadiness
  refine ⟨fun c op q s hc hp hm => ?_, fun c op q s hc hp hf hm => ?_⟩ <;>
    obtain ⟨onBad, check, later, body, he⟩ := smiem_exec hc <;> rw [he, onMach_run _ hp]
  · obtain ⟨held, h, hkeep⟩ := smiemOr_waits (onBad := onBad) (check := check) (later := later) (body := body) hm
    exact ⟨held, by rw [h], hkeep⟩
  · exact ⟨fun hw hr hk => by rw [smiemOr_firmwareBusy hp hf hm hw hr hk], fun hw hs => by rw [smiemOr_hardwareBusy hp hf hm hw hs]⟩

end Sys2Proof.Machine
end

section
/-! Proofs: reads of register pairs (R489). -/

namespace Sys2Proof.Machine
open Sys2Proof

theorem Dev.regRead_hi {d : Dev} {off : Nat} (k : Clock) (who : Requester) (h : isPairHi off = true) :
    d.regRead k who off = (d.present k off, { d with cfg := { d.cfg with
      captures := ⟨who, off, d.present k (off - 4), k.tick⟩ :: d.cfg.captures.filter (fun c => !(c.who == who && c.off == off)) } }) := by
  simp [Dev.regRead, h]

theorem Dev.regRead_present {d : Dev} {off : Nat} (k : Clock) (who : Requester) (h : isPairHi off = false)
    (hc : ∀ c ∈ d.cfg.captures, ¬ (c.who = who ∧ c.off = off + 4)) : d.regRead k who off = (d.present k off, d) := by
  have hnone : d.cfg.captures.find? (fun c => c.who == who && c.off == off + 4) = none := by simpa using hc
  simp [Dev.regRead, h, hnone]

/-- A capture that stands first is handed back while it counts, and ends. -/
theorem Dev.regRead_captured {d : Dev} {off : Nat} {c : Capture} {rest : List Capture} (k : Clock) (h : isPairHi off = false)
    (hc : d.cfg.captures = c :: rest) (ho : c.off = off + 4) (ha : d.answers off = true) :
    d.regRead k c.who off = (if k.tick ≤ c.tick + 781 then c.low else d.present k off,
      { d with cfg := { d.cfg with captures := rest } }) := by
  have hfirst : d.cfg.captures.find? (fun e => e.who == c.who && e.off == off + 4) = some c := by simp [hc, ho]
  simp only [Dev.regRead, h, hfirst, ha, Bool.false_eq_true, if_false, Bool.and_true, decide_eq_true_eq, captureTicks,
    Nat.sub_le_iff_le_add']
  simp [hc]

/-- Settles O19: the three ways a read meets the captures. -/
theorem hiReadCaptures : Obligations.HiReadCaptures := by
  intro who off s hp
  refine ⟨fun h => ends_onDev rfl hp ⟨s.m.dev.cfg.captures.filter (fun c => !(c.who == who && c.off == off)), ?_, fun c => ?_⟩,
    fun h hc => ends_onDev rfl hp ?_, fun c rest h hc hw ho ha => ends_onDev rfl hp ?_⟩
  · rw [readBar_eq, Dev.regRead_hi _ _ h]
    rfl
  · simp [List.mem_filter, imp_iff_not_or]
  · rw [readBar_eq, Dev.regRead_present _ _ h hc]
    rfl
  · subst hw
    rw [readBar_eq, Dev.regRead_captured _ h hc ho ha]
    rfl

end Sys2Proof.Machine
end

section
/-! Proofs: the lock, and the writes that take its key (R487, R488, R492, R493, R549, R551). -/

namespace Sys2Proof.Machine
open Sys2Proof

/-- A register's one field at bit 0 gives its part of the word. -/
theorem wordOf_take_low {f : Fld} (w : Nat) (h : f.lo = 0) : wordOf [(f, f.take w)] = w % 2 ^ f.w := by
  simp [wordOf, Fld.take, bits, h]

/-- A write of a live register with one field and no key. -/
theorem barWrite_single {d : Dev} {k : Clock} {off : Nat} {f : Fld} (w : Nat) (hd : d.deaf off = false) (hf : fieldsAt off = [f])
    (hw : 0 < f.w ∧ f.w ≤ 32) (hlo : f.lo = 0) (hk : f.acc ≠ .krw) : d.barWrite k off w = d.writeActs k off [f] (w % 2 ^ f.w) := by
  rw [barWrite_plain w hd (by simp [hf, hlo, hw]) (by simp [hf]) (by simp [hf, hk]), hf]
  simp [wordOf_take_low w hlo]

/-- The same with a key, taken by the write. -/
theorem barWrite_keyed_single {d : Dev} {k : Clock} {off : Nat} {f : Fld} (w : Nat) (hd : d.deaf off = false) (hf : fieldsAt off = [f])
    (hw : 0 < f.w ∧ f.w ≤ 32) (hlo : f.lo = 0) (hk : f.acc = .krw) (hl : d.flag F.GL_LOCKED = false) :
    d.barWrite k off w =
      (if off = 0x84 then d.setB F.GL_LOCKED true else (d.setB F.GL_LOCKED true).bumpGen).writeActs k off [f] (w % 2 ^ f.w) := by
  rw [barWrite_keyed w hd (by simp [hf, hlo, hw]) (by simp [hf, hk]) hl, hf]
  simp [wordOf_take_low w hlo]

theorem acts_20 (d : Dev) (k : Clock) (v : Nat) : d.writeActs k 0x20 [F.GL_UNLOCK] v = d.unlock k v := rfl
theorem acts_48 (d : Dev) (k : Clock) (v : Nat) : d.writeActs k 0x48 [F.GL_STAGE_DISCARD] v = d.stageDiscard k (v % 65536) := rfl
theorem acts_50 (d : Dev) (k : Clock) (v : Nat) : d.writeActs k 0x50 [F.GL_DISARM] v = d.disarm k (v % 65536) := rfl
theorem acts_84 (d : Dev) (k : Clock) (v : Nat) : d.writeActs k 0x84 [F.GL_CONFIG_GEN_LOAD] v = d.genLoad k v := rfl

theorem barWrite_unlock {d : Dev} (k : Clock) (v : Word) (hd : d.deaf 0x20 = false) :
    d.barWrite k 0x20 v.toNat = d.unlock k v.toNat := by
  rw [barWrite_single _ hd fieldsAt_20 (by decide) rfl (by decide), acts_20]
  exact congrArg (d.unlock k) (Nat.mod_eq_of_lt v.isLt)

/-- The writes a key failure makes (R488). -/
def keyFailWrites (d : Dev) : List (Fld × Nat) :=
  [(F.GL_KEY_FAILS, min 255 (d.get F.GL_KEY_FAILS + 1)), (F.GL_GLOBAL_STICKY, d.get F.GL_GLOBAL_STICKY ||| 1)]

theorem Dev.keyFail_eq (d : Dev) (k : Clock) : d.keyFail k = (d.setAll (keyFailWrites d)).event k 673 (flcGlobal 3) := by
  rw [Dev.keyFail, Dev.satInc_eq_min, Dev.setBit, Dev.get_set_of_ne d _ (by decide)]
  rfl

theorem Dev.keyFail_counts (d : Dev) (k : Clock) : ∃ x, d.sets (keyFailWrites d) x ∧ x.raises k 673 (d.keyFail k) :=
  ⟨_, Dev.sets_setAll _ d (by simp only [keyFailWrites, List.map_cons, List.map_nil]; decide), _, d.keyFail_eq k⟩

/-- A wrong key sets LOCKED and counts. -/
theorem Dev.unlock_wrong {d : Dev} {v : Nat} (k : Clock) (h : v ≠ unlockKey) :
    ∃ x, d.sets ((F.GL_LOCKED, 1) :: keyFailWrites d) x ∧ x.raises k 673 (d.unlock k v) := by
  obtain ⟨x, hx, hr⟩ := (d.setB F.GL_LOCKED true).keyFail_counts k
  have hsame : keyFailWrites (d.setB F.GL_LOCKED true) = keyFailWrites d := by
    simp only [keyFailWrites, Dev.setB]
    rw [Dev.get_set_of_ne d _ (by decide), Dev.get_set_of_ne d _ (by decide)]
  rw [hsame] at hx
  refine ⟨x, Dev.sets_cons hx (by simp only [keyFailWrites, List.forall_mem_cons]; decide), ?_⟩
  rw [Dev.unlock, if_neg h]
  exact hr

theorem Dev.unlock_right (d : Dev) (k : Clock) : d.sets [(F.GL_LOCKED, 0)] (d.unlock k unlockKey) := by
  rw [Dev.unlock, if_pos rfl]
  exact d.sets_one F.GL_LOCKED 0

/-- Settles O13: UNLOCK compares with the key, and a locked write of a keyed register is a key failure. -/
theorem lockAndKey : Obligations.LockAndKey := by
  refine ⟨fun v s hl => ⟨?_, fun hv => ends_onDev rfl hl.1 ?_⟩, fun c off s hl hlocked hc => ?_⟩
  · rintro rfl
    refine ends_onDev rfl hl.1 ?_
    rw [barWrite_unlock _ _ hl.2]
    exact s.m.dev.unlock_right _
  · rw [barWrite_unlock _ _ hl.2]
    exact Dev.unlock_wrong _ fun h => hv (BitVec.eq_of_toNat_eq h)
  · have hfail : ∀ v : Nat, (∃ f ∈ fieldsAt off, f.acc = .krw) → (∀ f ∈ fieldsAt off, f.lo + f.w ≤ 32 ∧ 0 < f.w) →
        ∃ x, s.m.dev.sets (keyFailWrites s.m.dev) x ∧ x.raises s.m.clk 673 (s.m.dev.barWrite s.m.clk off v) := by
      intro v hk hw
      rw [barWrite_locked v hl.2 hw hk hlocked]
      exact s.m.dev.keyFail_counts _
    rcases hc with ⟨v, rfl, rfl⟩ | ⟨v, rfl, rfl⟩ | ⟨v, rfl, rfl⟩ | ⟨v, rfl, rfl⟩ | ⟨l, v, rfl, rfl⟩
    · exact ends_onDev rfl hl.1 (hfail v.toNat (by decide) (by decide))
    · exact ends_onDev rfl hl.1 (hfail v.toNat (by decide) (by decide))
    · exact ends_onDev rfl hl.1 (hfail v.toNat (by decide) (by decide))
    · exact ends_onDev rfl hl.1 (hfail v.toNat (by decide) (by decide))
    · refine ends_onDev rfl hl.1 (hfail v.toNat ?_ ?_)
      · rw [fieldsAt_force]; exact ⟨_, List.mem_cons_self, rfl⟩
      · rw [fieldsAt_force]; simp [F.WICK_CTRL_FORCE, F.WICK_CTRL_TRIM_PERIOD, F.WICK_CTRL_TRIM_OFFSET]

/-! CONFIG_GEN_LOAD. -/

/-- The count of abandoned passes after a generation is loaded or counted. -/
def Dev.fpAbandoned (d : Dev) : Nat :=
  if d.flag F.GL_FP_EN then min (2 ^ 32 - 1) (d.get F.GL_FP_ABANDONED + 1) else d.get F.GL_FP_ABANDONED

/-- The writes of CONFIG_GEN_LOAD. -/
def genLoadWrites (d : Dev) (v : Nat) : List (Fld × Nat) :=
  [(F.GL_LOCKED, 1), (F.GL_CONFIG_GEN, v), (F.GL_CONFIG_GEN_LOAD, v), (F.GL_FP_ABANDONED, d.fpAbandoned)]

theorem Dev.genLoad_writes (d : Dev) (k : Clock) (v : Nat) :
    ∃ x, d.sets (genLoadWrites d v) x ∧ x.raises k 677 ((d.setB F.GL_LOCKED true).genLoad k v) := by
  have hflag : (d.setB F.GL_LOCKED true).flag F.GL_FP_EN = d.flag F.GL_FP_EN := by
    rw [Dev.flag, Dev.setB, Dev.get_set_of_ne d _ (by decide), Dev.flag]
  have hbase : d.sets [(F.GL_LOCKED, 1), (F.GL_CONFIG_GEN, v), (F.GL_CONFIG_GEN_LOAD, v)]
      (((d.setB F.GL_LOCKED true).set F.GL_CONFIG_GEN v).set F.GL_CONFIG_GEN_LOAD v) :=
    Dev.sets_setAll [(F.GL_LOCKED, 1), (F.GL_CONFIG_GEN, v), (F.GL_CONFIG_GEN_LOAD, v)] d (by simp only [List.map_cons, List.map_nil]; decide)
  have hold : (((d.setB F.GL_LOCKED true).set F.GL_CONFIG_GEN v).set F.GL_CONFIG_GEN_LOAD v).get F.GL_FP_ABANDONED =
      d.get F.GL_FP_ABANDONED := hbase.2.2 _ (by simp only [List.forall_mem_cons]; decide)
  unfold Dev.genLoad
  dsimp only
  rw [hflag]
  refine ⟨_, ?_, _, rfl⟩
  rw [genLoadWrites, Dev.fpAbandoned]
  split
  · rw [Dev.satInc_eq_min, hold]
    exact Dev.sets_snoc hbase _ _ (by simp only [List.forall_mem_cons]; decide)
  · exact Dev.sets_same hbase (hold.trans (Nat.mod_eq_of_lt (d.get_lt _)).symm)

theorem barWrite_configGenLoad {d : Dev} (k : Clock) (v : Word) (hd : d.deaf 0x84 = false) (hl : d.flag F.GL_LOCKED = false) :
    d.barWrite k 0x84 v.toNat = (d.setB F.GL_LOCKED true).genLoad k v.toNat := by
  rw [barWrite_keyed_single _ hd fieldsAt_84 (by decide) rfl rfl hl, if_pos rfl, acts_84]
  exact congrArg _ (Nat.mod_eq_of_lt v.isLt)

/-- An event leaves a still field as it was. -/
theorem Dev.raises_get {a b : Dev} {k : Clock} {n : Nat} {f : Fld} (h : a.raises k n b) (hn : n < 1024) (hf : f.still = true) :
    b.get f = a.get f := by
  obtain ⟨code, rfl⟩ := h
  exact (Dev.alike_event a k n code hn).get_eq f hf

/-- Settles O14: the load by its writes, and CONFIG_GEN as a field of its domain. -/
theorem configGenLoad : Obligations.ConfigGenLoad := by
  refine ⟨fun v s hl hk => ends_onDev rfl hl.1 ?_, fun d k => ?_⟩
  · rw [barWrite_configGenLoad _ _ hl.2 hk]
    obtain ⟨x, hx, hr⟩ := s.m.dev.genLoad_writes s.m.clk v.toNat
    refine ⟨?_, x, hx, hr⟩
    rw [Dev.raises_get hr (by decide) (by decide), hx.2.1 (F.GL_CONFIG_GEN, v.toNat) (by simp [genLoadWrites])]
    exact Nat.mod_eq_of_lt v.isLt
  · exact domainFieldsReset d k 42 F.GL_CONFIG_GEN (by decide) (by decide) (by decide) (by decide) (by decide) (by decide)

/-! The other keyed writes. -/

/-- What taking the key writes while no fingerprint pass runs. -/
def keyTaken (d : Dev) : List (Fld × Nat) := [(F.GL_LOCKED, 1), (F.GL_CONFIG_GEN, d.get F.GL_CONFIG_GEN + 1)]

theorem Dev.bumpGen_keyTaken {d : Dev} (h : d.flag F.GL_FP_EN = false) : (d.setB F.GL_LOCKED true).bumpGen = d.setAll (keyTaken d) := by
  have hflag : (d.setB F.GL_LOCKED true).flag F.GL_FP_EN = false := by
    rw [Dev.flag, Dev.setB, Dev.get_set_of_ne d _ (by decide)]
    exact h
  rw [Dev.bumpGen, hflag, Dev.inc, Dev.setB, Dev.get_set_of_ne d _ (by decide)]
  rfl

theorem Dev.sets_keyTaken (d : Dev) : d.sets (keyTaken d) (d.setAll (keyTaken d)) :=
  Dev.sets_setAll _ d (by simp only [keyTaken, List.map_cons, List.map_nil]; decide)

theorem Dev.get_keyTaken (d : Dev) {f : Fld} (h1 : f.key ≠ F.GL_LOCKED.key) (h2 : f.key ≠ F.GL_CONFIG_GEN.key) :
    (d.setAll (keyTaken d)).get f = d.get f :=
  d.sets_keyTaken.2.2 f (by simpa [keyTaken] using ⟨h1, h2⟩)

/-- A fuse's write after the key. -/
theorem Dev.sets_fuseWrite (d : Dev) {f : Fld} (v : Nat) (h1 : f.key ≠ F.GL_LOCKED.key) (h2 : f.key ≠ F.GL_CONFIG_GEN.key) :
    d.sets (keyTaken d ++ [(f, if d.get f = 0 then v else d.get f)]) ((d.setAll (keyTaken d)).fuseWrite f v) := by
  rw [Dev.fuseWrite, d.get_keyTaken h1 h2]
  split
  · exact Dev.sets_snoc d.sets_keyTaken f v (by simpa [keyTaken] using ⟨h1.symm, h2.symm⟩)
  · exact Dev.sets_same d.sets_keyTaken ((d.get_keyTaken h1 h2).trans (Nat.mod_eq_of_lt (d.get_lt _)).symm)

theorem barWrite_keyTaken {d : Dev} {k : Clock} {off : Nat} {f : Fld} (v : Word) (hd : d.deaf off = false) (hf : fieldsAt off = [f])
    (hw : 0 < f.w ∧ f.w ≤ 32) (hlo : f.lo = 0) (hk : f.acc = .krw) (hoff : off ≠ 0x84) (hl : d.flag F.GL_LOCKED = false)
    (hfp : d.flag F.GL_FP_EN = false) :
    d.barWrite k off v.toNat = (d.setAll (keyTaken d)).writeActs k off [f] (v.toNat % 2 ^ f.w) := by
  rw [barWrite_keyed_single _ hd hf hw hlo hk hl, if_neg hoff, Dev.bumpGen_keyTaken hfp]

theorem barWrite_oemFuse {d : Dev} (k : Clock) (v : Word) (high : Bool) (hd : d.deaf (if high then 0x102C else 0x1028) = false)
    (hl : d.flag F.GL_LOCKED = false) (hfp : d.flag F.GL_FP_EN = false) :
    d.barWrite k (if high then 0x102C else 0x1028) v.toNat =
      (d.setAll (keyTaken d)).fuseWrite (if high then F.BT_OEM_FUSE_HI else F.BT_OEM_FUSE_LO) v.toNat := by
  have hv : v.toNat % 2 ^ 32 = v.toNat := Nat.mod_eq_of_lt v.isLt
  cases high
  · refine (barWrite_keyTaken (off := 0x1028) v hd fieldsAt_1028 (by decide) rfl rfl (by decide) hl hfp).trans ?_
    rw [acts_1028, show 2 ^ F.BT_OEM_FUSE_LO.w = 2 ^ 32 from rfl, hv]
    rfl
  · refine (barWrite_keyTaken (off := 0x102C) v hd fieldsAt_102C (by decide) rfl rfl (by decide) hl hfp).trans ?_
    rw [acts_102C, show 2 ^ F.BT_OEM_FUSE_HI.w = 2 ^ 32 from rfl, hv]
    rfl

/-- The device before FORCE acts: the key taken, and its register's other fields written. -/
def Dev.trimTaken (d : Dev) (l v : Nat) : Dev :=
  d.setAll (keyTaken d ++ [(F.WICK_CTRL_TRIM_PERIOD l, v / 2 ^ 8), (F.WICK_CTRL_TRIM_OFFSET l, v / 2 ^ 16)])

theorem Dev.sets_trimTaken (d : Dev) {l : Nat} (v : Nat) :
    d.sets (keyTaken d ++ [(F.WICK_CTRL_TRIM_PERIOD l, v / 2 ^ 8), (F.WICK_CTRL_TRIM_OFFSET l, v / 2 ^ 16)]) (d.trimTaken l v) :=
  Dev.sets_setAll _ d (by simp [keyTaken, Fld.key, F.GL_LOCKED, F.GL_CONFIG_GEN, F.WICK_CTRL_TRIM_PERIOD, F.WICK_CTRL_TRIM_OFFSET]; omega)

theorem Dev.trimTaken_lanterns (d : Dev) (l v : Nat) : (d.trimTaken l v).lanterns = d.lanterns := d.setAll_lanterns _

/-- A write of FORCE's register: its other fields take their parts of the word, and FORCE acts on its own. -/
theorem barWrite_force {d : Dev} (k : Clock) (l : Fin 32) (v : Word) (hd : d.deaf (F.WICK_CTRL_FORCE l).off = false)
    (hl : d.flag F.GL_LOCKED = false) (hfp : d.flag F.GL_FP_EN = false) :
    d.barWrite k (F.WICK_CTRL_FORCE l).off v.toNat = (d.trimTaken l v.toNat).forceWrite l (v.toNat % 4) := by
  have hoff : (F.WICK_CTRL_FORCE l).off = 0x850000 + l * 0x80000 := rfl
  have hlt := l.isLt
  obtain ⟨w0, w8, w16⟩ := force_word v.toNat (wordOf ((fieldsAt (F.WICK_CTRL_FORCE l).off).map (fun f => (f, f.take v.toNat)))) (by
    rw [fieldsAt_force]
    simp [wordOf, Fld.take, bits, F.WICK_CTRL_FORCE, F.WICK_CTRL_TRIM_PERIOD, F.WICK_CTRL_TRIM_OFFSET, Nat.add_assoc])
  have htp : (F.WICK_CTRL_TRIM_PERIOD l).lo + (F.WICK_CTRL_TRIM_PERIOD l).w ≤ 32 := by simp [F.WICK_CTRL_TRIM_PERIOD]
  rw [barWrite_keyed _ hd ?_ ?_ hl, if_neg (by omega), Dev.bumpGen_keyTaken hfp, acts_lantern _ _ _ _ (by omega) (by omega),
    lantern_force _ _ _ l hoff]
  · generalize wordOf _ = w at w0 w8 w16
    rw [fieldsAt_force, w0]
    have htake8 : (F.WICK_CTRL_TRIM_PERIOD l).take w = v.toNat / 2 ^ 8 % 2 ^ (F.WICK_CTRL_TRIM_PERIOD l).w := w8
    have htake16 : (F.WICK_CTRL_TRIM_OFFSET l).take w = v.toNat / 2 ^ 16 % 2 ^ (F.WICK_CTRL_TRIM_OFFSET l).w := w16
    have hwrites : (d.setAll (keyTaken d)).writeFields [F.WICK_CTRL_TRIM_PERIOD l, F.WICK_CTRL_TRIM_OFFSET l] w = d.trimTaken l v.toNat := by
      change ((d.setAll (keyTaken d)).set (F.WICK_CTRL_TRIM_PERIOD l) ((F.WICK_CTRL_TRIM_PERIOD l).take w)).set
        (F.WICK_CTRL_TRIM_OFFSET l) ((F.WICK_CTRL_TRIM_OFFSET l).take w) = _
      rw [htake8, htake16, Dev.set_mod, Dev.set_mod]
      rfl
    exact congrArg (fun x : Dev => x.forceWrite l (v.toNat % 4)) hwrites
  · rw [fieldsAt_force]; simp [F.WICK_CTRL_FORCE, F.WICK_CTRL_TRIM_PERIOD, F.WICK_CTRL_TRIM_OFFSET]
  · rw [fieldsAt_force]; exact ⟨_, List.mem_cons_self, rfl⟩

theorem Dev.forceWrite_relight {d : Dev} {l v : Nat} {h : Wick} {r n : Nat} (ht : (d.lantern l).task = .relight h r n) :
    d.forceWrite l v = d.setLantern l { d.lantern l with force := some v } := by
  simp [Dev.forceWrite, ht]

theorem Dev.forceWrite_now {d : Dev} {l v : Nat} (ht : ∀ h r n, (d.lantern l).task ≠ .relight h r n) :
    d.forceWrite l v = d.forceNow l v := by
  unfold Dev.forceWrite
  split
  · rename_i h
    exact absurd h (ht _ _ _)
  · rfl

/-- Settles O15: each keyed register's write after the key is taken and the generation counted. -/
theorem keyedWritesAct : Obligations.KeyedWritesAct := by
  intro v s hl hfp gen
  refine ⟨fun high hlive => ?_, fun hlive hn => ends_onDev rfl hlive.1 ?_, fun l hlive => ends_onDev rfl hlive.1 ?_⟩
  · refine ends_onDev (f := fun k d => d.barWrite k (if high then 0x102C else 0x1028) v.toNat) (by cases high <;> rfl) hlive.1 ?_
    rw [barWrite_oemFuse _ v high hlive.2 hl hfp]
    exact s.m.dev.sets_fuseWrite _ (by cases high <;> decide) (by cases high <;> decide)
  · have hmod : v.toNat % 2 ^ F.BT_RST_DOMAIN.w % 64 = v.toNat % 64 := Nat.mod_mod _ _
    rw [barWrite_keyTaken v hlive.2 fieldsAt_1020 (by decide) rfl rfl (by decide) hl hfp, acts_1020, hmod, Dev.rstWrite, hn,
      if_neg (by decide)]
    exact ⟨_, Dev.sets_snoc s.m.dev.sets_keyTaken _ _ (by simp only [keyTaken, List.forall_mem_cons]; decide), rfl⟩
  · rw [barWrite_force _ l v hlive.2 hl hfp]
    have hsame := Dev.lantern_congr (s.m.dev.trimTaken_lanterns l v.toNat) l
    refine ⟨_, s.m.dev.sets_trimTaken v.toNat, fun ⟨h, r, n, ht⟩ => ?_, fun ht => Dev.forceWrite_now (by rwa [hsame])⟩
    rw [Dev.forceWrite_relight (hsame ▸ ht), hsame]

end Sys2Proof.Machine
end

section
/-! Proofs: discarding staged values and disarming (R482, R485). -/

namespace Sys2Proof.Machine
open Sys2Proof

theorem Dev.swapDiscard_none {d : Dev} (k : Clock) (groups : Nat) (h : d.rules.held = none) : d.swapDiscard k groups = d := by
  simp [Dev.swapDiscard, h]

theorem Dev.stageDiscard_free {d : Dev} (k : Clock) (mask : Nat) (h : d.rules.held = none) :
    d.stageDiscard k mask = { d with staged := d.staged.filter (fun e => !bit mask (d.groupOfKey e.1)) } :=
  Dev.swapDiscard_none k mask h

/-- A wait for an armed commit with the groups it still has. -/
def Wait.armed (w : Wait) (m sec ns : Nat) : Wait := { w with kind := .commit m sec ns }

theorem and_mod_65536 {m : Nat} (v : Nat) (h : m < 65536) : m &&& (v % 65536) = m &&& v := by
  have hm : m &&& v = (m &&& v) % 2 ^ 16 := (Nat.mod_eq_of_lt (Nat.lt_of_le_of_lt Nat.and_le_left h)).symm
  rw [hm, Nat.and_mod_two_pow, Nat.mod_eq_of_lt (a := m) h]

theorem Dev.disarm_one {d : Dev} {w : Wait} {m sec ns : Nat} (k : Clock) (mask : Nat) (hw : d.smi.waits = [w])
    (hk : w.kind = .commit m sec ns) : d.disarm k mask =
      let d1 := { d with smi := { d.smi with waits := [w.armed (m - (m &&& mask)) sec ns] } }
      if m ≠ 0 ∧ m - (m &&& mask) = 0 then d1.finish k (w.armed (m - (m &&& mask)) sec ns) ⟨stTimeout, 2, 0⟩ else d1 := by
  by_cases hlost : m ≠ 0 ∧ m - (m &&& mask) = 0
  · simp [Dev.disarm, hw, Wait.armMask, hk, Wait.armed, hlost]
  · rw [if_neg hlost]
    have hlost' : ¬ (¬ m = 0 ∧ m - (m &&& mask) = 0) := hlost
    simp [Dev.disarm, hw, Wait.armMask, hk, Wait.armed, hlost']

theorem barWrite_stageDiscard {d : Dev} (k : Clock) (v : Word) (hd : d.deaf 0x48 = false) :
    d.barWrite k 0x48 v.toNat = d.stageDiscard k (v.toNat % 65536) := by
  rw [barWrite_single _ hd fieldsAt_48 (by decide) rfl (by decide), acts_48]
  exact congrArg _ (Nat.mod_mod _ _)

theorem barWrite_disarm {d : Dev} (k : Clock) (v : Word) (hd : d.deaf 0x50 = false) :
    d.barWrite k 0x50 v.toNat = d.disarm k (v.toNat % 65536) := by
  rw [barWrite_single _ hd fieldsAt_50 (by decide) rfl (by decide), acts_50]
  exact congrArg _ (Nat.mod_mod _ _)

/-- Settles O18: the discard filters the staging area, and the one armed commit loses its last group or keeps one. -/
theorem discardAndDisarm : Obligations.DiscardAndDisarm := by
  refine fun v s => ⟨fun hl hheld => ends_onDev rfl hl.1 ?_, fun w m sec ns hl hw hk hm => ⟨fun hall hne ha => ends_onDev rfl hl.1 ?_,
    fun hsome => ends_onDev rfl hl.1 ?_⟩⟩
  · rw [barWrite_stageDiscard _ v hl.2]
    exact Dev.stageDiscard_free _ _ hheld
  · rw [barWrite_disarm _ v hl.2, Dev.disarm_one _ _ hw hk, and_mod_65536 _ hm, hall, Nat.sub_self]
    simp [hne, Dev.finish, Wait.armed, ha]
  · have hkeep : m - (m &&& v.toNat) ≠ 0 := by
      have := Nat.and_le_left (n := m) (m := v.toNat)
      omega
    rw [barWrite_disarm _ v hl.2, Dev.disarm_one _ _ hw hk, and_mod_65536 _ hm]
    exact if_neg fun h => hkeep h.2

end Sys2Proof.Machine
end

section
/-! Proofs: fields of byte strings laid out one after another (R7). -/

namespace Sys2Proof.Machine
open Sys2Proof

theorem byteAt_append_right {a : Bytes} {i : Nat} (b : Bytes) (h : a.length ≤ i) : byteAt (a ++ b) i = byteAt b (i - a.length) := by
  simp [byteAt, List.getD_eq_getElem?_getD, List.getElem?_append_right h]

theorem byteAt_append_left {a : Bytes} {i : Nat} (b : Bytes) (h : i < a.length) : byteAt (a ++ b) i = byteAt a i := by
  simp [byteAt, List.getD_eq_getElem?_getD, List.getElem?_append_left h]

/-- A field beyond the first bytes is one of the rest. -/
theorem leAt_append_right {a : Bytes} {o : Nat} (b : Bytes) (w : Nat) (h : a.length ≤ o) :
    leAt (a ++ b) o w = leAt b (o - a.length) w := by
  rw [leAt, leAt, sliceZ_eq_map, sliceZ_eq_map]
  refine congrArg leNat (List.map_congr_left fun i _ => ?_)
  rw [byteAt_append_right b (by omega)]
  congr 1
  omega

/-- A field within the first bytes is one of them. -/
theorem leAt_append_left {a : Bytes} {o w : Nat} (b : Bytes) (h : o + w ≤ a.length) : leAt (a ++ b) o w = leAt a o w :=
  leAt_congr fun _ _ hi => byteAt_append_left b (by omega)

theorem leAt_toLE_head (n w : Nat) (b : Bytes) : leAt (toLE n w ++ b) 0 w = n % 256 ^ w := by
  rw [leAt_append_left b (by simp), leAt_toLE]

theorem leAt_toLE_skip {k o : Nat} (n : Nat) (b : Bytes) (w : Nat) (h : k ≤ o) : leAt (toLE n k ++ b) o w = leAt b (o - k) w := by
  rw [leAt_append_right b w (by simpa using h), toLE_length]

theorem leNat_append (a b : Bytes) : leNat (a ++ b) = leNat a + 256 ^ a.length * leNat b := by
  induction a with
  | nil => simp [leNat]
  | cons x a ih => simp only [List.cons_append, leNat, List.length_cons, pow_succ, ih]; ring

/-- A field in two parts. -/
theorem leAt_add (b : Bytes) (o m n : Nat) : leAt b o (m + n) = leAt b o m + 256 ^ m * leAt b (o + m) n := by
  have hsplit : sliceZ b o (m + n) = sliceZ b o m ++ sliceZ b (o + m) n := by
    simp only [sliceZ_eq_map, List.range_add, List.map_append, List.map_map, Function.comp_def, Nat.add_assoc]
  rw [leAt, hsplit, leNat_append, sliceZ_length, leAt, leAt]

/-- The bytes of a number are those of its part below the width. -/
theorem toLE_congr {a b w : Nat} (h : a % 256 ^ w = b % 256 ^ w) : toLE a w = toLE b w := by
  induction w generalizing a b with
  | zero => rfl
  | succ w ih =>
    rw [Nat.pow_succ', Nat.mod_mul, Nat.mod_mul] at h
    have hbyte : byte a = byte b := BitVec.eq_of_toNat_eq (by simp only [byte, BitVec.toNat_ofNat]; omega)
    have hrest : a / 256 % 256 ^ w = b / 256 % 256 ^ w := by omega
    rw [toLE, toLE, hbyte, ih hrest]

/-- The bytes of a number in two parts. -/
theorem toLE_add (n a b : Nat) : toLE n (a + b) = toLE n a ++ toLE (n / 256 ^ a) b := by
  induction a generalizing n with
  | zero => simp [toLE]
  | succ a ih => rw [Nat.succ_add, toLE, ih, toLE, Nat.div_div_eq_div_mul, Nat.pow_succ']; rfl

/-- A word of a string of words. -/
theorem leAt_flatten_toLE {l : List Nat} {i w : Nat} (h : i < l.length) :
    leAt (l.map fun n => toLE n w).flatten (w * i) w = l[i] % 256 ^ w := by
  induction l generalizing i with
  | nil => exact absurd h (Nat.not_lt_zero i)
  | cons n l ih =>
    cases i with
    | zero => exact leAt_toLE_head n w _
    | succ i =>
      rw [List.map_cons, List.flatten_cons, leAt_toLE_skip _ _ _ (by rw [Nat.mul_succ]; omega), Nat.mul_succ, Nat.add_sub_cancel,
        ih (by simpa using h)]
      rfl

theorem flatten_toLE_length (l : List Nat) (w : Nat) : (l.map fun n => toLE n w).flatten.length = w * l.length := by
  induction l with
  | nil => rfl
  | cons n l ih => rw [List.map_cons, List.flatten_cons, List.length_append, ih, toLE_length, List.length_cons, Nat.mul_succ]; omega

end Sys2Proof.Machine
end

section
/-! Proofs: the identity record (R434). -/

namespace Sys2Proof.Machine
open Sys2Proof

/-- The identity record before the ordering code. -/
def Dev.identityHead (d : Dev) : Bytes :=
  toLE 0x1F3A 2 ++ (toLE 0x9102 2 ++ (toLE 1 1 ++ (toLE 0 1 ++ (toLE 0x0100 2 ++ (toLE d.fwVersion 4 ++ (toLE Config.romVersion 4 ++
    (toLE (d.get F.GL_DIE_ID_LO) 4 ++ (toLE (d.get F.GL_DIE_ID_HI) 4 ++ (toLE (d.get F.GL_CONFIG_GEN) 4 ++ (toLE d.rules.gen 2 ++
      (toLE (d.get F.CXL_MODE) 1 ++ toLE (d.get F.HBM_STACK_UP) 1)))))))))))

theorem Dev.identityHead_length (d : Dev) : d.identityHead.length = 32 := by simp [Dev.identityHead]

/-- The bytes of a pair of registers are those of each. -/
theorem Dev.toLE_get64 (d : Dev) {lo : Fld} (hi : Fld) (h : lo.w = 32) : toLE (d.get64 lo hi) 8 = toLE (d.get lo) 4 ++ toLE (d.get hi) 4 := by
  have hlo : d.get lo < 2 ^ 32 := h ▸ d.get_lt lo
  rw [toLE_add _ 4 4, Dev.get64, toLE_congr (show (d.get lo + 2 ^ 32 * d.get hi) % 256 ^ 4 = d.get lo % 256 ^ 4 by omega),
    show (d.get lo + 2 ^ 32 * d.get hi) / 256 ^ 4 = d.get hi by omega]

theorem Dev.identity_eq (d : Dev) : d.identity = d.identityHead ++ padTo orderingCode 32 := by
  rw [Dev.identity, Dev.toLE_get64 _ _ rfl]
  simp only [Dev.identityHead, List.append_assoc]

/-- Settles O23: the record's head is its fields one after another, and 32 bytes follow it. -/
theorem identityRecord : Obligations.IdentityRecord := by
  intro d b
  have hb : b = d.identityHead ++ padTo orderingCode 32 := d.identity_eq
  have hdrop : b.drop 32 = padTo orderingCode 32 := by rw [hb, ← d.identityHead_length, List.drop_left]
  have hhead : ∀ o w, o + w ≤ 32 → leAt b o w = leAt d.identityHead o w := fun o w h => by
    rw [hb, leAt_append_left _ (by rwa [d.identityHead_length])]
  refine ⟨by rw [hb, List.length_append, d.identityHead_length]; rfl, ?_⟩
  simp only [hhead, hdrop, Nat.reduceAdd, Nat.reduceLeDiff]
  simp [Dev.identityHead, leAt_toLE_skip, leAt_toLE_head, leAt_toLE]
  have hbyte : ∀ f : Fld, f.w ≤ 8 → d.get f < 256 := fun f hf => Nat.lt_of_lt_of_le (d.get_lt f) (Nat.pow_le_pow_right (by decide) hf)
  exact ⟨Nat.mod_mod _ _, d.get_lt F.GL_DIE_ID_LO, d.get_lt F.GL_DIE_ID_HI, d.get_lt F.GL_CONFIG_GEN, hbyte _ (by decide),
    hbyte _ (by decide), rfl⟩

end Sys2Proof.Machine
end

section
/-! Proofs: commits (R433, R479, R481, R484, R485, R492). -/

namespace Sys2Proof.Machine
open Sys2Proof

theorem fieldOf_commitStrobe (d : Dev) (k : Clock) (v : Nat) : d.writeActs k 0x40 [F.GL_COMMIT_STROBE] v = d.strobe k (v % 65536) := rfl

theorem barWrite_commitStrobe {d : Dev} (k : Clock) (v : Word) (hd : d.deaf 0x40 = false) :
    d.barWrite k 0x40 v.toNat = d.strobe k (v.toNat % 65536) := by
  rw [barWrite_single _ hd fieldsAt_40 (by decide) rfl (by decide), fieldOf_commitStrobe]
  exact congrArg _ (Nat.mod_mod _ _)

theorem Dev.strobe_now {d : Dev} (k : Clock) (mask : Nat) (h : d.isHeld 38 = false) : d.strobe k mask = d.commitNow k mask false := by
  simp [Dev.strobe, h]

/-- The device with its generation counted when a value was applied. -/
def Dev.counted (d : Dev) (mask : Nat) : Dev := if !(d.stagedOf mask).isEmpty then (d.applied mask).bumpGen else d.applied mask

theorem Dev.stagedOf_any (d : Dev) (mask : Nat) :
    (!(d.stagedOf mask).isEmpty) = d.staged.any (fun e => bit mask (d.groupOfKey e.1)) := by
  rw [Bool.eq_iff_iff, List.any_eq_true]
  simp only [Bool.not_eq_true', List.isEmpty_eq_false_iff, ne_eq, List.eq_nil_iff_forall_not_mem, Dev.mem_stagedOf, not_forall, not_not]

/-- A field that no applied value names reads as before. -/
theorem Dev.applied_get {d : Dev} {mask : Nat} (hsorted : d.stagedSorted) {f : Fld}
    (h : ∀ e ∈ d.staged, bit mask (d.groupOfKey e.1) = true → f.key ≠ e.1) : (d.applied mask).get f = d.get f := by
  refine (Dev.sets_setAll _ (d.unstaged mask) (stagedWrites_nodup (Dev.stagedOf_keys hsorted mask))).2.2 f fun p hp => ?_
  obtain ⟨e, he, hf, -⟩ := mem_stagedWrites.mp hp
  rw [key_of_fldOfKey hf]
  exact h e (Dev.mem_stagedOf.mp he).1 (Dev.mem_stagedOf.mp he).2

/-- A field that records a commit is no staged one. -/
theorem Dev.commitRecord_free {d : Dev} (hlow : d.stagedLow) {f : Fld} (hf : f ∈ commitRecord) : ∀ e ∈ d.staged, f.key ≠ e.1 := by
  intro e he hkey
  obtain ⟨-, g, hg, hacc⟩ := hlow e he
  exact commitRecord_notStaged f hf g (hkey ▸ hg) hacc

theorem Dev.bumpGen_gen (d : Dev) : d.bumpGen.get F.GL_CONFIG_GEN = (d.get F.GL_CONFIG_GEN + 1) % 2 ^ 32 := by
  unfold Dev.bumpGen
  dsimp only
  split
  · rw [Dev.satInc, Dev.get_set_of_ne _ _ (by decide)]
    exact Dev.get_set_self _ _ _
  · exact Dev.get_set_self _ _ _

theorem Dev.commitNow_gen {d : Dev} (k : Clock) (mask : Nat) (hheld : d.rules.held = none) (hsorted : d.stagedSorted)
    (hlow : d.stagedLow) : (d.commitNow k mask false).get F.GL_CONFIG_GEN =
      (d.get F.GL_CONFIG_GEN + b2n (d.staged.any (fun e => bit mask (d.groupOfKey e.1)))) % 2 ^ 32 := by
  have hgen : (d.applied mask).get F.GL_CONFIG_GEN = d.get F.GL_CONFIG_GEN :=
    Dev.applied_get hsorted fun e he _ => Dev.commitRecord_free hlow (by simp [commitRecord]) e he
  rw [Dev.commitNow_low k mask hheld hlow,
    (Dev.sets_setAll (lastCommit k mask) _ (lastCommit_nodup k mask)).2.2 _ (by simp only [lastCommit, List.forall_mem_cons]; decide),
    d.stagedOf_any]
  split
  · rename_i hany
    rw [Dev.bumpGen_gen, hgen, hany]
    rfl
  · rename_i hany
    rw [hgen, Bool.eq_false_of_not_eq_true hany]
    exact (Nat.mod_eq_of_lt (d.get_lt F.GL_CONFIG_GEN)).symm

/-- What no applied value names and the commit does not record reads as before. -/
theorem Dev.commitNow_get {d : Dev} (k : Clock) (mask : Nat) (hheld : d.rules.held = none) (hsorted : d.stagedSorted)
    (hlow : d.stagedLow) {f : Fld} (h : ∀ e ∈ d.staged, bit mask (d.groupOfKey e.1) = true → f.key ≠ e.1)
    (hr : ∀ g ∈ commitRecord, f.key ≠ g.key) : (d.commitNow k mask false).get f = d.get f := by
  rw [Dev.commitNow_low k mask hheld hlow,
    (Dev.sets_setAll (lastCommit k mask) _ (lastCommit_nodup k mask)).2.2 f fun p hp => hr _ (lastCommit_recorded p hp)]
  split
  · rw [(d.applied mask).bumpGen_eq.2 f (hr _ (by simp [commitRecord])) (hr _ (by simp [commitRecord])), Dev.applied_get hsorted h]
  · exact Dev.applied_get hsorted h

/-- Settles O17: the strobe commits the groups, and each part of the statement is one of what a commit of low fields shows. -/
theorem commitApplies : Obligations.CommitApplies := by
  intro v s hl hrun hheld hsorted hlow mask goes
  refine ends_onDev rfl hl.1 ?_
  rw [barWrite_commitStrobe _ v hl.2, Dev.strobe_now _ _ hrun]
  obtain ⟨hframe, hlast, hvalues⟩ := s.m.dev.commitNow_shows s.m.clk mask hheld hsorted hlow
  refine ⟨hvalues, ?_, Dev.commitNow_gen _ _ hheld hsorted hlow, ?_, ?_, ?_, ?_,
    fun f _ hf hr => Dev.commitNow_get _ _ hheld hsorted hlow hf hr, ?_⟩
  · exact congrArg Dev.staged hframe
  · exact hlast (F.GL_LAST_COMMIT_LO, s.m.clk.ns) (by simp [lastCommit])
  · exact hlast (F.GL_LAST_COMMIT_HI, s.m.clk.sec) (by simp [lastCommit])
  · refine (hlast (F.GL_LAST_COMMIT_GROUPS, mask) (by simp [lastCommit])).trans (Nat.mod_eq_of_lt (Nat.mod_lt _ (by decide)))
  · exact hlast (F.GL_LAST_LATE, 0) (by simp [lastCommit])
  · rw [hframe]
    rfl

/-! The command. -/

theorem commitCheck_passes {q : Req} (m : Mach) (hlaid : laidOut 14 [(0, 3), (4, 10)] q.params) (hflags : leAt q.params 2 1 < 2)
    (hns : leAt q.params 2 1 = 1 → leAt q.params 10 4 < 1000000000) : commitCheck q m = none := by
  refine badParam_none hlaid.1 hlaid.2 ?_
  have harmed : q.flagAt 2 0 = true → leAt q.params 2 1 = 1 := fun h => by
    simp only [Req.flagAt, Req.u, bit, beq_iff_eq] at h
    omega
  simp only [List.forall_mem_cons, Req.u]
  refine ⟨decide_eq_false (Nat.not_le.mpr hflags), ?_, by simp⟩
  cases hf : q.flagAt 2 0
  · rfl
  · exact decide_eq_false (Nat.not_le.mpr (hns (harmed hf)))

theorem timeResult_eq (k : Clock) : timeResult k = k.ns + 2 ^ 32 * (k.sec % 2 ^ 32) := by rw [timeResult, Nat.mul_comm]

/-- A ready command's generation check does not fail. -/
theorem Mach.ready_fresh {m : Mach} {op : Nat} {q : Req} (h : m.ready op q) : (m.taken op q).dev.genStale q = false := by
  obtain ⟨-, -, -, -, -, hgen⟩ := h
  cases hq : q.genCheck
  · simp [Dev.genStale, hq]
  · simp [Dev.genStale, hq, hgen hq]

section
variable {q : Req} {m : Mach}

theorem commit_atOnce (h : q.flagAt 2 0 = false) (hheld : m.dev.isHeld 38 = false) :
    commit q m = .done (m.setDev (m.dev.commitNow m.clk (q.u 0 2) false)) ⟨stOk, 0, timeResult m.clk⟩ := by
  simp [commit, h, hheld]

theorem commit_busy (h : q.flagAt 2 0 = true) (hbusy : q.u 0 2 &&& m.dev.armedGroups ≠ 0) : commit q m = .done m ⟨stBusy, 0, 0⟩ := by
  simp [commit, h, hbusy]

theorem commit_armed (h : q.flagAt 2 0 = true) (hfree : q.u 0 2 &&& m.dev.armedGroups = 0)
    (hdue : m.clk.reached (q.u 4 6) (q.u 10 4) = false) : commit q m = .later m (.commit (q.u 0 2) (q.u 4 6) (q.u 10 4)) := by
  simp [commit, h, hfree, hdue]

theorem commit_late (h : q.flagAt 2 0 = true) (hfree : q.u 0 2 &&& m.dev.armedGroups = 0)
    (hdue : m.clk.reached (q.u 4 6) (q.u 10 4) = true) (hfresh : m.dev.genStale q = false) :
    commit q m = .done (m.setDev (m.dev.commitNow m.clk (q.u 0 2) true)) ⟨stLate, 0, timeResult m.clk⟩ := by
  simp [commit, h, hfree, hdue, hfresh]

end

/-- Settles O25: the four branches of COMMIT. -/
theorem commitCommand : Obligations.CommitCommand := by
  intro q s hready hrun hlaid hflags hns a mask sec ns now
  have hcheck := commitCheck_passes a hlaid hflags hns
  have hheld : a.dev.isHeld 38 = false := by simpa [Dev.isHeld, a] using hrun
  have hnow : timeResult a.clk = now := timeResult_eq _
  have hfresh : a.dev.genStale q = false := Mach.ready_fresh hready
  have hoff : leAt q.params 2 1 = 0 → q.flagAt 2 0 = false := fun h => by rw [Req.flagAt, Req.u, h]; rfl
  have hon : leAt q.params 2 1 = 1 → q.flagAt 2 0 = true := fun h => by rw [Req.flagAt, Req.u, h]; rfl
  refine ⟨fun h => answers_smiem rfl hready hcheck (commit_atOnce (hoff h) hheld) ⟨rfl, by rw [hnow]; rfl⟩,
    fun h hbusy => answers_smiem rfl hready hcheck (commit_busy (hon h) hbusy) ⟨rfl, rfl⟩,
    fun h hfree hdue => begins_smiem rfl hready hcheck (commit_armed (hon h) hfree hdue) ⟨rfl, rfl⟩,
    fun h hfree hdue => answers_smiem rfl hready hcheck (commit_late (hon h) hfree hdue hfresh) ⟨rfl, by rw [hnow]⟩⟩

end Sys2Proof.Machine
end

section
/-! Proofs: the commands that report (R429, R433, R439, R442, R498). -/

namespace Sys2Proof.Machine
open Sys2Proof

/-- A packet of parameters that are all used passes the check of its length. -/
theorem badParam_whole {len : Nat} {p : Bytes} (h : p.length ≤ len) : badParam len [(0, len)] [] p = none :=
  badParam_none h (fun o ho => .inl (by simpa using ho)) (by simp)

theorem Dev.bufWrite_one_fits (d : Dev) {addr len size : Nat} (b : Bytes) (hs : 0 < size) (h : size ≤ len) :
    d.bufWrite addr len size [b] = (1, d.emit (.hostWrite addr b)) := by
  have hn : min 1 (len / size) = 1 := Nat.min_eq_left ((Nat.one_le_div_iff hs).mpr h)
  simp [Dev.bufWrite, hn]

theorem Dev.bufWrite_short (d : Dev) {addr len size : Nat} (recs : List Bytes) (h : len < size) :
    d.bufWrite addr len size recs = (0, d) := by
  simp [Dev.bufWrite, Nat.div_eq_of_lt h]

theorem identify_fits {q : Req} (k : Clock) (d : Dev) (h : 64 ≤ q.u 8 4) :
    identify q k d = (d.emit (.hostWrite (q.u 0 8) d.identity), Rep.ok) := by
  simp only [identify, d.bufWrite_one_fits d.identity (by decide) h]
  rfl

theorem identify_short {q : Req} (k : Clock) (d : Dev) (h : q.u 8 4 < 64) : identify q k d = (d, ⟨stPartial, 0, 0⟩) := by
  simp only [identify, d.bufWrite_short _ h, if_true]

/-- HBM_STATUS's words of the block's registers. -/
def hbmStatusOffsets : List Nat := [0x08, 0x10, 0x14, 0x40, 0x44, 0x48, 0x4C, 0x80, 0x84, 0x88, 0x8C, 0x60, 0x68, 0x6C]

/-- HBM_STATUS's record (R442). -/
def Dev.hbmRecord (d : Dev) : Bytes :=
  ((hbmStatusOffsets.map fun off => d.wordAt (0x2800000 + off)).map fun n => toLE n 4).flatten ++ List.replicate 8 0 ++
    (((List.range 16).map d.segmentChunks).map fun n => toLE n 4).flatten

theorem Dev.hbmRecord_length (d : Dev) : d.hbmRecord.length = 128 := by
  simp only [Dev.hbmRecord, List.length_append, flatten_toLE_length, List.length_map, List.length_replicate, List.length_range]
  rfl

theorem Dev.hbmRecord_status (d : Dev) : leAt d.hbmRecord 0 4 = d.wordAt 0x2800008 % 2 ^ 32 := by
  rw [Dev.hbmRecord, List.append_assoc, leAt_append_left _ (by simp [hbmStatusOffsets])]
  exact leAt_flatten_toLE (i := 0) (w := 4) (by simp [hbmStatusOffsets])

theorem Dev.hbmRecord_chunks (d : Dev) (i : Fin 16) : leAt d.hbmRecord (64 + 4 * i) 4 = d.segmentChunks i % 2 ^ 32 := by
  have hhead : (((hbmStatusOffsets.map fun off => d.wordAt (0x2800000 + off)).map fun n => toLE n 4).flatten ++
      List.replicate 8 (0 : Byte)).length = 64 := by
    rw [List.length_append, flatten_toLE_length]
    rfl
  rw [Dev.hbmRecord, leAt_append_right _ _ (by omega), hhead, Nat.add_sub_cancel_left, leAt_flatten_toLE (by simp)]
  simp

theorem hbmStatus_fits {q : Req} (k : Clock) (d : Dev) (h : 128 ≤ q.u 8 4) :
    hbmStatus q k d = (d.emit (.hostWrite (q.u 0 8) d.hbmRecord), Rep.ok) := by
  have hrec : hbmStatus q k d = ((d.bufWrite (q.u 0 8) (q.u 8 4) 128 [d.hbmRecord]).2,
      ⟨if (d.bufWrite (q.u 0 8) (q.u 8 4) 128 [d.hbmRecord]).1 = 0 then stPartial else stOk, 0, 0⟩) := by
    simp only [Dev.hbmRecord, List.map_map, Function.comp_def]
    rfl
  rw [hrec, d.bufWrite_one_fits d.hbmRecord (by decide) h]
  rfl

theorem hbmStatus_short {q : Req} (k : Clock) (d : Dev) (h : q.u 8 4 < 128) : hbmStatus q k d = (d, ⟨stPartial, 0, 0⟩) := by
  simp only [hbmStatus, d.bufWrite_short _ h, if_true]

theorem portState_absent {q : Req} (k : Clock) {d : Dev} (h : d.get (F.PORT_CFG_PORT_TYPE (q.u 0 2)) = 0) :
    portState q k d = (d, ⟨stNotFound, 0, 0⟩) := by
  simp only [portState, h, if_true]

theorem portState_exists {q : Req} (k : Clock) {d : Dev} (h : d.get (F.PORT_CFG_PORT_TYPE (q.u 0 2)) ≠ 0) :
    portState q k d = (d, ⟨stOk, 0, d.portStatusWord (q.u 0 2) + 2 ^ 32 * d.macStickyWord (q.u 0 2)⟩) := by
  simp only [portState, h, if_false]

/-- The words of a port are words of fields. -/
theorem Dev.portWords_congr {a b : Dev} (h : a.fld = b.fld) (p : Nat) :
    a.portStatusWord p = b.portStatusWord p ∧ a.macStickyWord p = b.macStickyWord p := by
  have hget : a.get = b.get := funext (Dev.get_congr h)
  simp only [Dev.portStatusWord, Dev.macStickyWord, hget, and_self]

/-- The writes of FINGERPRINT_REFERENCE. -/
def fpReferenceWrites (q : Req) (gen : Nat) : List (Fld × Nat) :=
  [(F.GL_FP_REFERENCE_LO, leAt q.params 0 4), (F.GL_FP_REFERENCE_HI, leAt q.params 4 4), (F.GL_FP_REF_GEN, gen), (F.GL_REF_VALID, 1)]

theorem fpReference_eq (q : Req) (k : Clock) (d : Dev) :
    fpReference q k d = ({ d.setAll (fpReferenceWrites q (d.get F.GL_CONFIG_GEN)) with cfg := { d.cfg with fpFirst := true } }, Rep.ok) := by
  have hlow : ∀ o, leAt q.params o 4 < 2 ^ 32 := fun o => leAt_lt _ _ _
  have hwhole : leAt q.params 0 8 = leAt q.params 0 4 + 256 ^ 4 * leAt q.params 4 4 := leAt_add q.params 0 4 4
  have h0 := hlow 0
  have hlo : d.set F.GL_FP_REFERENCE_LO (q.u 0 8) = d.set F.GL_FP_REFERENCE_LO (leAt q.params 0 4) := by
    rw [← d.set_mod _ (q.u 0 8), ← d.set_mod _ (leAt q.params 0 4)]
    congr 1
    simp only [Req.u, F.GL_FP_REFERENCE_LO]
    omega
  have hhi : q.u 0 8 / 2 ^ 32 = leAt q.params 4 4 := by simp only [Req.u]; omega
  simp only [fpReference, Dev.set64, hlo, hhi, fpReferenceWrites]
  rfl

theorem Dev.sets_fpReference (d : Dev) (q : Req) (gen : Nat) : d.sets (fpReferenceWrites q gen) (d.setAll (fpReferenceWrites q gen)) :=
  Dev.sets_setAll _ d (by simp only [fpReferenceWrites, List.map_cons, List.map_nil]; decide)

/-- Settles O22: each command by what its body replies, and the records by their layouts. -/
theorem hostQueries : Obligations.HostQueries := by
  refine ⟨fun q s => ⟨fun h hlen => ?_, fun h hnone => ?_, fun h hlen => ?_⟩,
    fun q s => ⟨fun h hlen _ => ?_, fun h hlen _ => ?_, fun h hlen hport => ?_⟩⟩
  · exact answers_smiemDev rfl h (badParam_whole hlen) rfl ⟨rfl, rfl⟩
  · refine answers_smiemDev rfl h ?_ rfl ⟨rfl, ?_⟩
    · rw [hnone]; rfl
    · simp [Dev.get64, stOk]
  · refine answers_smiemDev rfl h (badParam_whole hlen) (fpReference_eq q _ _) ⟨rfl, rfl, rfl, ?_⟩
    rw [Mach.taken_get]
    exact (s.m.taken 0x0015 q).dev.sets_fpReference q (s.m.dev.get F.GL_CONFIG_GEN)
  · rcases Nat.lt_or_ge (leAt q.params 8 4) 64 with hs | hs
    · exact answers_smiemDev rfl h (badParam_whole hlen) (identify_short _ _ hs) ⟨fun hf => absurd hf (by omega), fun _ => ⟨rfl, rfl⟩⟩
    · exact answers_smiemDev rfl h (badParam_whole hlen) (identify_fits _ _ hs) ⟨fun _ => ⟨rfl, rfl⟩, fun hf => absurd hf (by omega)⟩
  · rcases Nat.lt_or_ge (leAt q.params 8 4) 128 with hs | hs
    · exact answers_smiemDev rfl h (badParam_whole hlen) (hbmStatus_short _ _ hs) ⟨fun hf => absurd hf (by omega), fun _ => ⟨rfl, rfl⟩⟩
    · exact answers_smiemDev rfl h (badParam_whole hlen) (hbmStatus_fits _ _ hs)
        ⟨fun _ => ⟨rfl, _, Dev.hbmRecord_length _, Dev.hbmRecord_status _, Dev.hbmRecord_chunks _, rfl⟩, fun hf => absurd hf (by omega)⟩
  · have hcheck : badParam 2 [(0, 2)] [(0, 511 < q.u 0 2)] q.params = none :=
      badParam_none hlen (fun o ho => .inl (by simpa using ho)) 
        (by rw [List.forall_mem_singleton]; exact decide_eq_false (Nat.not_lt.mpr hport))
    obtain ⟨hstatus, hsticky⟩ := Dev.portWords_congr (s.m.taken_fld 0x0051 q) (leAt q.params 0 2)
    by_cases hp : s.m.dev.get (F.PORT_CFG_PORT_TYPE (leAt q.params 0 2)) = 0
    · exact answers_smiemDev rfl h hcheck (portState_absent _ (by rwa [Mach.taken_get])) ⟨rfl, fun _ => rfl, fun hne => absurd hp hne⟩
    · refine answers_smiemDev rfl h hcheck (portState_exists _ (by rwa [Mach.taken_get])) ⟨rfl, fun h0 => absurd h0 hp, fun _ => ?_⟩
      rw [← hstatus, ← hsticky]
      rfl

end Sys2Proof.Machine
end

section
/-! Proofs: REG_READ, REG_WRITE, REG_WRITE_KEYED and masked writes (R433, R479, R487, R488, R489). -/

namespace Sys2Proof.Machine
open Sys2Proof

theorem regRead_one {q : Req} (k : Clock) (d : Dev) (h : leAt q.params 4 1 = 1) :
    regRead q k d = ((d.regRead k .engine (leAt q.params 0 4)).2, ⟨0, 0, (d.regRead k .engine (leAt q.params 0 4)).1⟩) := by
  simp only [regRead, Req.u, h]
  rfl

theorem regRead_two {q : Req} (k : Clock) (d : Dev) (h : leAt q.params 4 1 = 2) :
    let one := d.regRead k .engine (leAt q.params 0 4)
    let two := one.2.regRead k .engine (leAt q.params 0 4 + 4)
    regRead q k d = (two.2, ⟨0, 0, one.1 + 2 ^ 32 * two.1⟩) := by
  simp only [regRead, Req.u, h, if_true, Nat.mul_comm (2 ^ 32)]
  rfl

/-- A write that carries a keyed field while LOCKED is 1 is turned away. -/
theorem Dev.regWrite_locked {d : Dev} {off mask : Nat} (k : Clock) (w : Nat) (hc : carriedFields off mask ≠ [])
    (hd : d.deaf off = false) (hk : ∃ f ∈ carriedFields off mask, f.acc = .krw) (hl : d.flag F.GL_LOCKED = true) :
    d.regWrite k off w mask = (false, d.keyFail k) := by
  have hall : (carriedFields off mask).all (fun f => f.acc != .krw) = false := by simpa [List.all_eq_false] using hk
  simp [Dev.regWrite, hc, hd, hall, hl]

/-- The lock turns away no write without a keyed field, and none while LOCKED is 0. -/
theorem Dev.regWrite_passes {d : Dev} {off mask : Nat} (k : Clock) (w : Nat)
    (h : (∀ f ∈ carriedFields off mask, f.acc ≠ .krw) ∨ d.flag F.GL_LOCKED = false) : (d.regWrite k off w mask).1 = true := by
  unfold Dev.regWrite
  dsimp only
  split
  · rfl
  · rcases h with h | h
    · rw [if_pos (by simpa using h)]
    · split
      · rfl
      · rw [if_neg (by simp [h])]

theorem regWrite_refused {q : Req} {k : Clock} {d b : Dev} (h : d.regWrite k (q.u 0 4) (q.u 4 4) (q.u 8 4) = (false, b)) :
    regWrite q k d = (b, ⟨stKeyRequired, 0, 0⟩) := by
  simp [regWrite, h]

theorem regWrite_done {q : Req} {k : Clock} {d : Dev} (h : (d.regWrite k (q.u 0 4) (q.u 4 4) (q.u 8 4)).1 = true) :
    let b := (d.regWrite k (q.u 0 4) (q.u 4 4) (q.u 8 4)).2
    regWrite q k d = (b, ⟨stOk, 0, b.present k (q.u 0 4)⟩) := by
  simp [regWrite, h]

theorem regWriteKeyed_wrong {q : Req} (k : Clock) (d : Dev) (h : q.u 12 4 ≠ unlockKey) :
    regWriteKeyed q k d = ((d.set F.GL_LOCKED 1).keyFail k, ⟨stKeyRequired, 0, 0⟩) := by
  simp only [regWriteKeyed, h, if_false, Dev.unlock]
  rfl

theorem regWriteKeyed_right {q : Req} (k : Clock) (d : Dev) (h : q.u 12 4 = unlockKey) :
    let b := ((d.set F.GL_LOCKED 0).regWrite k (q.u 0 4) (q.u 4 4) (q.u 8 4)).2
    regWriteKeyed q k d = (b, ⟨stOk, 0, b.present k (q.u 0 4)⟩) := by
  have hopen : (d.set F.GL_LOCKED 0).flag F.GL_LOCKED = false := by
    rw [Dev.flag, Dev.get_set_self]
    rfl
  have hwrite : regWriteKeyed q k d = regWrite q k (d.set F.GL_LOCKED 0) := by
    simp only [regWriteKeyed, h, if_true, Dev.unlock]
    rfl
  rw [hwrite]
  exact regWrite_done (Dev.regWrite_passes k _ (.inr hopen))

/-! Masked writes of a register with one field at bit 0. -/

/-- What a masked write keeps of a field where the mask is 0 (R433, R479). -/
def Dev.outsideMask (d : Dev) (f : Fld) : Nat :=
  match f.acc with
  | .srw => d.toStage f
  | .w1c | .wo => 0
  | _ => d.get f

/-- The word that a masked write of a register's one field comes to. -/
theorem Dev.mergedWord_single (d : Dev) {off : Nat} {f : Fld} (w mask : Nat) (hf : fieldsAt off = [f]) (hlo : f.lo = 0) :
    d.mergedWord off w mask =
      ((w % 2 ^ f.w &&& mask % 2 ^ f.w) ||| (d.outsideMask f &&& (maskOf f.w ^^^ mask % 2 ^ f.w))) % 2 ^ f.w := by
  simp only [Dev.mergedWord, hf, List.map_cons, List.map_nil, wordOf, List.foldl_cons, List.foldl_nil, Fld.take, bits, hlo, Nat.pow_zero,
    Nat.div_one, Nat.mul_one, Nat.zero_add]
  rfl

/-- A masked write carries its one field or nothing. -/
theorem Dev.regWrite_single {d : Dev} {off : Nat} {f : Fld} (k : Clock) (w mask : Nat) (hf : fieldsAt off = [f]) (hlo : f.lo = 0)
    (hk : f.acc ≠ .krw) (hd : d.deaf off = false) (hacts : ∀ word, d.writeActs k off [f] word = d.writeFields [f] word) :
    (d.regWrite k off w mask).2 = if mask % 2 ^ f.w = 0 then d else d.writeField f
      (((w % 2 ^ f.w &&& mask % 2 ^ f.w) ||| (d.outsideMask f &&& (maskOf f.w ^^^ mask % 2 ^ f.w))) % 2 ^ f.w) := by
  have htakeWord : f.take (d.mergedWord off w mask) = d.mergedWord off w mask := by
    rw [d.mergedWord_single w mask hf hlo]
    simp [Fld.take, bits, hlo]
  rw [← d.mergedWord_single w mask hf hlo]
  have htake : f.take mask = mask % 2 ^ f.w := by simp [Fld.take, bits, hlo]
  by_cases h0 : mask % 2 ^ f.w = 0
  · simp [Dev.regWrite, carriedFields, hf, htake, h0]
  · simp [Dev.regWrite, carriedFields, hf, htake, h0, hk, hd, hacts, Dev.writeFields, htakeWord]

/-- The low bits of a masked word are those of the field and of the mask. -/
theorem masked_mod (v mask x : Nat) : (v &&& mask ||| x &&& (mask ^^^ (2 ^ 32 - 1))) % 2 ^ 30 =
    ((v % 2 ^ 30 &&& mask % 2 ^ 30) ||| (x &&& (maskOf 30 ^^^ mask % 2 ^ 30))) % 2 ^ 30 := by
  have hones : (2 ^ 32 - 1) % 2 ^ 30 = maskOf 30 % 2 ^ 30 := by decide
  simp only [Nat.or_mod_two_pow, Nat.and_mod_two_pow, Nat.xor_mod_two_pow, Nat.mod_mod, hones, Nat.xor_comm (mask % 2 ^ 30)]

theorem masked_rw {d : Dev} (k : Clock) (v mask : Nat) (hd : d.deaf 0x200040 = false) :
    d.sets [(F.TU_PPS_OUT_PERIOD, v &&& mask ||| d.get F.TU_PPS_OUT_PERIOD &&& (mask ^^^ (2 ^ 32 - 1)))]
      (d.regWrite k 0x200040 v mask).2 := by
  have hmod := masked_mod v mask (d.get F.TU_PPS_OUT_PERIOD)
  have hget := Nat.mod_eq_of_lt (d.get_lt F.TU_PPS_OUT_PERIOD)
  rw [Dev.regWrite_single k v mask fieldsAt_200040 rfl (by decide) hd (fun _ => rfl)]
  split
  · rename_i h0
    refine Dev.sets_same d.sets_nil (hget.symm.trans (Eq.trans ?_ hmod.symm))
    have h0' : mask % 2 ^ 30 = 0 := h0
    rw [h0', Nat.and_zero, Nat.zero_or, Nat.xor_zero, show maskOf 30 = 2 ^ 30 - 1 from rfl, Nat.and_two_pow_sub_one_eq_mod, Nat.mod_mod]
    rfl
  · have hset := d.sets_one F.TU_PPS_OUT_PERIOD (v &&& mask ||| d.get F.TU_PPS_OUT_PERIOD &&& (mask ^^^ (2 ^ 32 - 1)))
    rw [← d.set_mod, show F.TU_PPS_OUT_PERIOD.w = 30 from rfl, hmod] at hset
    exact hset

theorem masked_w1c {d : Dev} (k : Clock) {v mask : Nat} (hd : d.deaf 0xD0 = false) :
    d.sets [(F.GL_GLOBAL_STICKY, d.get F.GL_GLOBAL_STICKY &&& ((v &&& mask) % 32 ^^^ 31))] (d.regWrite k 0xD0 v mask).2 := by
  rw [Dev.regWrite_single k v mask fieldsAt_D0 rfl (by decide) hd (fun _ => rfl), show F.GL_GLOBAL_STICKY.w = 5 from rfl,
    show (32 : Nat) = 2 ^ 5 from rfl, Nat.and_mod_two_pow]
  split
  · rename_i h0
    refine Dev.sets_same d.sets_nil ?_
    rw [h0, Nat.and_zero, Nat.zero_xor, show (31 : Nat) = 2 ^ 5 - 1 from rfl, Nat.and_two_pow_sub_one_eq_mod]
    exact ((Nat.mod_mod _ _).trans (Nat.mod_eq_of_lt (d.get_lt F.GL_GLOBAL_STICKY))).symm
  · rw [show d.outsideMask F.GL_GLOBAL_STICKY = 0 from rfl, Nat.zero_and, Nat.or_zero, ← Nat.and_mod_two_pow, Nat.mod_mod, Nat.xor_comm]
    exact d.sets_one _ _

theorem masked_srw {d : Dev} (k : Clock) {v mask : Nat} (hd : d.deaf 0xA0 = false) (hm : mask % 2 = 1) :
    (d.regWrite k 0xA0 v mask).2 = { d with staged := tset d.staged F.GL_FP_EN.key (v % 2) } := by
  have hword : ((v % 2 ^ 1 &&& mask % 2 ^ 1) ||| (d.outsideMask F.GL_FP_EN &&& (maskOf 1 ^^^ mask % 2 ^ 1))) % 2 ^ 1 = v % 2 := by
    rw [Nat.pow_one, hm, show maskOf 1 ^^^ 1 = 0 from rfl, Nat.and_zero, Nat.or_zero, Nat.and_one_is_mod]
    omega
  rw [Dev.regWrite_single k v mask fieldsAt_A0 rfl (by decide) hd (fun _ => rfl), show F.GL_FP_EN.w = 1 from rfl, hword,
    if_neg (by omega)]
  exact congrArg (fun x => { d with staged := tset d.staged F.GL_FP_EN.key x }) (Nat.mod_mod v 2)

theorem masked_srw_none (d : Dev) (k : Clock) (v : Nat) {mask : Nat} (hm : mask % 2 = 0) : (d.regWrite k 0xA0 v mask).2 = d := by
  have hnone : carriedFields 0xA0 mask = [] := by
    simp [carriedFields, fieldsAt_A0, Fld.take, bits, F.GL_FP_EN, hm]
  simp [Dev.regWrite, hnone]

/-! The checks. -/

theorem Mach.taken_flag (m : Mach) (op : Nat) (q : Req) (f : Fld) : (m.taken op q).dev.flag f = m.dev.flag f := by
  simp [Dev.flag]

theorem addrBad_eq_false {q : Req} (hal : leAt q.params 0 4 % 4 = 0) (hlt : leAt q.params 0 4 < 0x4000000) : addrBad q = false := by
  simp only [addrBad, Req.u, hal, bne_self_eq_false, Bool.false_or]
  exact decide_eq_false (Nat.not_le.mpr hlt)

theorem rstBad_eq_false {q : Req} (h : leAt q.params 0 4 ≠ 0x1020) : rstBad q = false := by simp [rstBad, Req.u, h]

/-- A ready command whose body works on the device alone, by what the body makes of it. -/
theorem answers_body {c : Instr} {op : Nat} {q : Req} {s : State} {check : Req → Dev → Option Nat}
    {body : Req → Clock → Dev → Dev × Rep} {p : Mach → Rep → Prop}
    (hc : exec c s = onMach (smiemDev op check body q) s) (h : s.m.ready op q) (hcheck : check q (s.m.taken op q).dev = none)
    (hp : p ((s.m.taken op q).setDev (body q s.m.clk (s.m.taken op q).dev).1) (body q s.m.clk (s.m.taken op q).dev).2) :
    answers c op q s p :=
  answers_smiemDev hc h hcheck rfl hp

/-- A packet whose parameters are all used passes when no field is bad. -/
theorem badParam_used {len : Nat} {bad : List (Nat × Bool)} {p : Bytes} (h : p.length ≤ len) (hbad : ∀ b ∈ bad, b.2 = false) :
    badParam len [(0, len)] bad p = none :=
  badParam_none h (fun o ho => .inl (by simpa using ho)) hbad

/-- Settles O24: the three commands by what their bodies come to, and the masked writes by the word each comes to. -/
theorem registerCommands : Obligations.RegisterCommands := by
  refine ⟨?_, ?_, fun d k v mask _ _ => ⟨masked_rw k v mask, masked_w1c k, masked_srw k, masked_srw_none d k v⟩⟩
  · intro q s h hlen hal hlt off a one two
    refine ⟨fun hn => answers_smiemDev rfl h (badParam_used hlen ?_) (regRead_one _ _ hn) ⟨rfl, rfl⟩,
      fun hn => answers_smiemDev rfl h (badParam_used hlen ?_) (regRead_two _ _ hn) ⟨rfl, rfl⟩⟩ <;>
      simp [addrBad_eq_false hal hlt, Req.u, hn]
  · intro q s hal hlt hrst off value mask
    refine ⟨fun h hlen => ?_, fun h hlen hkey => ?_⟩
    · refine answers_body rfl h (badParam_used hlen (by simp [addrBad_eq_false hal hlt, rstBad_eq_false hrst]))
        ⟨fun hc hd hk hl => ?_, fun hk => ?_⟩
      · rw [← s.m.taken_flag 0x0011 q] at hl
        rw [regWrite_refused (Dev.regWrite_locked s.m.clk value hc hd hk hl)]
        exact ⟨rfl, rfl⟩
      · rw [regWrite_done (Dev.regWrite_passes s.m.clk value (.inl hk))]
        exact ⟨rfl, rfl⟩
    · have hnokey : (fieldsAt (q.u 0 4)).all (fun f => f.acc != .krw) = false := by
        obtain ⟨f, hf, hacc⟩ := hkey
        exact List.all_eq_false.mpr ⟨f, hf, by simp [hacc]⟩
      refine answers_body rfl h (badParam_used hlen (by simp [addrBad_eq_false hal hlt, rstBad_eq_false hrst, hnokey]))
        ⟨fun hk => ?_, fun hk => ?_⟩
      · rw [regWriteKeyed_right _ _ hk]
        exact ⟨rfl, rfl⟩
      · rw [regWriteKeyed_wrong _ _ hk]
        exact ⟨rfl, rfl⟩

end Sys2Proof.Machine
end

section
/-! Proofs: counter commands (R438, R490, R491). -/

namespace Sys2Proof.Machine
open Sys2Proof

/-- What clearing a range leaves at a place. -/
theorem tget?_tclear {α : Type} (t : Tab α) (lo hi k : Nat) :
    tget? (tclear t lo hi) k = if lo ≤ k ∧ k < hi then none else tget? t k := by
  simp only [tclear]
  split
  · rename_i h
    exact tget?_filter_none fun _ => by simp [h]
  · rename_i h
    exact tget?_filter_keep fun _ => by simpa [imp_iff_not_or] using h

theorem tgetD_tclear {α : Type} (t : Tab α) (lo hi k : Nat) (x : α) :
    tgetD (tclear t lo hi) k x = if lo ≤ k ∧ k < hi then x else tgetD t k x := by
  rw [tgetD, tget?_tclear]
  split <;> rfl

/-- Records no more than fit are all written. -/
theorem Dev.bufWrite_all (d : Dev) {addr len size : Nat} {recs : List Bytes} (h : recs.length ≤ len / size) :
    d.bufWrite addr len size recs = (recs.length, if recs.length = 0 then d else d.emit (.hostWrite addr recs.flatten)) := by
  simp [Dev.bufWrite, Nat.min_eq_left h]

/-- The flags of a counter read name one source. -/
theorem counterRead_live {q : Req} {m : Mach} (h : leAt q.params 8 1 = 0) :
    let n := min (leAt q.params 4 4) (leAt q.params 24 4 / 16)
    let recs := (List.range n).map (fun i => tgetD m.dev.ctrs (leAt q.params 0 4 + i) Ctr.zero)
    counterRead [] q m = .done (if n = 0 then m else m.setDev (m.dev.emit (.hostWrite (leAt q.params 16 8) (recs.map Ctr.bytes16).flatten)))
      ⟨if n < leAt q.params 4 4 || recs.any Ctr.invalid then stPartial else stOk, n, 0⟩ := by
  intro n recs
  have hflag : ∀ i, q.flagAt 8 i = false := fun i => by simp [Req.flagAt, Req.u, h, bit]
  have hwrite : m.dev.bufWrite (q.u 16 8) (q.u 24 4) 16 (recs.map Ctr.bytes16) =
      (n, if n = 0 then m.dev else m.dev.emit (.hostWrite (q.u 16 8) (recs.map Ctr.bytes16).flatten)) := by
    have hlen : (recs.map Ctr.bytes16).length = n := by simp [recs]
    rw [Dev.bufWrite_all m.dev (by rw [hlen]; exact Nat.min_le_right _ _), hlen]
  have hrecs : ((List.range (min (q.u 4 4) (q.u 24 4 / 16))).map fun i =>
      ((tgetD m.dev.ctrs (q.u 0 4 + i) Ctr.zero).bytes16, (tgetD m.dev.ctrs (q.u 0 4 + i) Ctr.zero).invalid)) =
      recs.map fun c => (c.bytes16, c.invalid) := by simp [recs, n, Req.u]
  simp only [counterRead, hflag, Bool.false_eq_true, if_false, List.filter_nil, List.foldl_nil, hrecs, List.map_map, Function.comp_def]
  rw [show recs.map (fun c => c.bytes16) = recs.map Ctr.bytes16 from rfl, hwrite]
  have htake : (recs.map fun c => (c.bytes16, c.invalid)).take n = recs.map fun c => (c.bytes16, c.invalid) :=
    List.take_of_length_le (by simp [recs])
  simp only [htake, List.any_map, Function.comp_def]
  by_cases h0 : n = 0
  · simp only [h0, if_true]
    rfl
  · simp only [h0, if_false]
    rfl

theorem counterRead_noSnapshot {q : Req} {m : Mach} (h : leAt q.params 8 1 = 1) (hs : m.dev.snap = none) :
    counterRead [] q m = .done m ⟨stNotFound, 0, 0⟩ := by
  have h0 : q.flagAt 8 0 = true := by rw [Req.flagAt, Req.u, h]; rfl
  have h1 : q.flagAt 8 1 = false := by rw [Req.flagAt, Req.u, h]; rfl
  have h2 : q.flagAt 8 2 = false := by rw [Req.flagAt, Req.u, h]; rfl
  simp [counterRead, h0, h1, h2, hs]

section
variable {q : Req} {m : Mach}

theorem counterSnapshot_copying (h : m.dev.flag F.GL_SNAP_COPYING = true) : counterSnapshot q m = .done m ⟨stBusy, 0, 0⟩ := by
  simp [counterSnapshot, h]

theorem counterSnapshot_now (h : m.dev.flag F.GL_SNAP_COPYING = false)
    (hdue : q.flagAt 0 0 = false ∨ m.dev.flag F.GL_SNAP_ARMED = false ∧ m.clk.reached (q.u 4 6) (q.u 10 4) = true) :
    counterSnapshot q m =
      .done (m.setDev (m.dev.takeSnapshot m.clk)) ⟨if q.flagAt 0 0 then stLate else stOk, 0, timeResult m.clk⟩ := by
  rcases hdue with ha | ⟨ha, hr⟩
  · simp [counterSnapshot, h, ha]
  · simp [counterSnapshot, h, ha, hr]

theorem counterSnapshot_armed (h : m.dev.flag F.GL_SNAP_COPYING = false) (ha : q.flagAt 0 0 = true)
    (hfree : m.dev.flag F.GL_SNAP_ARMED = false) (hr : m.clk.reached (q.u 4 6) (q.u 10 4) = false) :
    counterSnapshot q m = .later (m.setDev (m.dev.setB F.GL_SNAP_ARMED true)) (.snapshot (q.u 4 6) (q.u 10 4)) := by
  simp [counterSnapshot, h, ha, hfree, hr]

end

theorem Dev.takeSnapshot_shows (d : Dev) (k : Clock) : (d.takeSnapshot k).snap = some d.ctrs ∧
    d.sets [(F.GL_SNAP_HELD, 1), (F.GL_SNAP_COPYING, 1), (F.GL_SNAP_TIME_LO, k.ns), (F.GL_SNAP_TIME_HI, k.sec)]
      { d.takeSnapshot k with snap := d.snap } :=
  ⟨rfl, Dev.sets_setAll _ d (by simp only [List.map_cons, List.map_nil]; decide)⟩

/-- Settles O26: each counter command by the branch of its body. -/
theorem counterCommands : Obligations.CounterCommands := by
  intro q s
  refine ⟨fun h hcheck hl => ?_, fun h hcheck hl hs => ?_, fun h hcheck => ?_, fun h hcheck => ?_⟩
  · refine answers_smiem rfl h hcheck (counterRead_live hl) ⟨?_, ?_⟩
    · rw [Mach.taken_ctrs]
      rfl
    · rw [Mach.taken_ctrs]
  · exact answers_smiem rfl h hcheck (counterRead_noSnapshot hl (by rwa [Mach.taken_snap])) ⟨rfl, rfl⟩
  · refine answers_smiemDev rfl h hcheck rfl ⟨rfl, rfl, fun i => ?_⟩
    rw [Mach.setDev_dev, tgetD_tclear, Mach.taken_ctrs]
    rfl
  · intro a armed due
    refine ⟨fun hb => ?_, fun hb hdue => ?_, fun hb ha hfree hdue => ?_⟩
    · exact answers_smiem rfl h hcheck (counterSnapshot_copying (by rwa [Mach.taken_flag])) ⟨rfl, rfl⟩
    · refine answers_smiem rfl h hcheck (counterSnapshot_now (by rwa [Mach.taken_flag]) (by rwa [Mach.taken_flag])) ⟨rfl, ?_, ?_, ?_⟩
      · rw [← s.m.taken_ctrs 0x0041 q]
        exact (Dev.takeSnapshot_shows _ _).1
      · exact (Dev.takeSnapshot_shows _ _).2
      · rw [timeResult_eq]
        rfl
    · exact begins_smiem rfl h hcheck (counterSnapshot_armed (by rwa [Mach.taken_flag]) ha (by rwa [Mach.taken_flag]) hdue)
        ⟨rfl, rfl, Dev.sets_one _ F.GL_SNAP_ARMED 1⟩

end Sys2Proof.Machine
end

section
/-! Proofs: event and bank commands (R443, R507, R508, R513, R518, R519). -/

namespace Sys2Proof.Machine
open Sys2Proof

theorem eventRead_eq (q : Req) (m : Mach) :
    let start := max (leAt q.params 0 8) m.dev.oldestSeq
    let n := min (leAt q.params 8 4) (m.dev.nextSeq - start)
    let c := min n (leAt q.params 24 4 / 32)
    eventRead q m = .done (if c = 0 then m else m.setDev (m.dev.emit
        (.hostWrite (leAt q.params 16 8) ((List.range c).map (fun i => m.lampRead (start + i))).flatten)))
      ⟨if leAt q.params 0 8 < m.dev.oldestSeq || c < n then stPartial else stOk, c, start + c⟩ := by
  intro start n c
  have hwrite : m.dev.bufWrite (q.u 16 8) (q.u 24 4) 32 ((List.range c).map (fun i => m.lampRead (start + i))) =
      (c, if c = 0 then m.dev else m.dev.emit
        (.hostWrite (q.u 16 8) ((List.range c).map (fun i => m.lampRead (start + i))).flatten)) := by
    have hlen : ((List.range c).map (fun i => m.lampRead (start + i))).length = c := by simp
    rw [Dev.bufWrite_all m.dev (by rw [hlen]; exact Nat.min_le_right _ _), hlen]
  simp only [eventRead]
  rw [show m.dev.bufWrite (q.u 16 8) (q.u 24 4) 32 ((List.range (min (min (q.u 8 4) (m.dev.nextSeq - max (q.u 0 8) m.dev.oldestSeq))
    (q.u 24 4 / 32))).map (fun i => m.lampRead (max (q.u 0 8) m.dev.oldestSeq + i))) = _ from hwrite]
  by_cases h0 : c = 0
  · simp only [h0, if_true]
    rfl
  · simp only [h0, if_false]
    rfl

/-- Records read alike in machines that hold the same ring and DRAM. -/
theorem Mach.lampRead_congr {a b : Mach} (hl : a.dev.lamp = b.dev.lamp) (hm : a.dram = b.dram) : a.lampRead = b.lampRead := by
  funext n
  simp only [Mach.lampRead, hl, hm]

theorem eventRateCheck_passes {q : Req} (d : Dev) (hlaid : laidOut 12 [(0, 2), (4, 8)] q.params) (hs : leAt q.params 0 2 ≤ 1023)
    (hr : leAt q.params 4 4 ≤ 1000000) (hb : 1 ≤ leAt q.params 8 4) (hb' : leAt q.params 8 4 ≤ 65535) : eventRateCheck q d = none := by
  refine badParam_none hlaid.1 hlaid.2 ?_
  simp only [List.forall_mem_cons, Req.u]
  refine ⟨decide_eq_false (Nat.not_lt.mpr hs), decide_eq_false (Nat.not_lt.mpr hr), ?_, by simp⟩
  exact Bool.or_eq_false_iff.mpr ⟨decide_eq_false (Nat.ne_of_gt hb), decide_eq_false (Nat.not_lt.mpr hb')⟩

/-- EVENT_RATE writes the source's two fields, and its credit is full at once. -/
theorem eventRate_shows (q : Req) (k : Clock) (d : Dev) (hb : leAt q.params 8 4 ≤ 65535) :
    let src := leAt q.params 0 2
    let b := (eventRate q k d).1
    (d.sets [(F.LB_RATE src, leAt q.params 4 4), (F.LB_BURST src, leAt q.params 8 4)] { b with lamp := d.lamp }) ∧
      (b.evtSrc k src).credit = leAt q.params 8 4 * 781250000 := by
  intro src b
  have hsets : d.sets [(F.LB_RATE src, leAt q.params 4 4), (F.LB_BURST src, leAt q.params 8 4)] { b with lamp := d.lamp } :=
    Dev.sets_setAll _ d (by simp [Fld.key, F.LB_RATE, F.LB_BURST])
  have hburst : b.get (F.LB_BURST src) = leAt q.params 8 4 :=
    (hsets.2.1 (F.LB_BURST src, leAt q.params 8 4) (by simp)).trans (Nat.mod_eq_of_lt (Nat.lt_succ_of_le hb))
  refine ⟨hsets, ?_⟩
  have hsrc : tget? b.lamp.srcs src = some ⟨leAt q.params 8 4 * ticksPerSecond, k.tick, (d.evtSrc k src).suppressed⟩ := tget?_tset_self _ _ _
  simp only [Dev.evtSrc, hsrc, hburst, Nat.sub_self, Nat.mul_zero, Nat.add_zero, Nat.min_self]
  rfl

/-! BANK_ASSIGN. -/

section
variable {q : Req} {m : Mach}

theorem bankAssign_busy (h : m.dev.get (F.SC_OWNER (q.u 0 1)) = ownerTest ∨
    m.dev.smi.waits.any (fun w => w.kind == .bankClear (q.u 0 1)) = true) : bankAssign q m = .done m ⟨stBusy, 0, 0⟩ := by
  simp only [bankAssign]
  rw [if_pos (by simpa using h)]

theorem bankAssign_off (hlent : m.dev.get (F.SC_OWNER (q.u 0 1)) ≠ ownerTest)
    (hclear : m.dev.smi.waits.any (fun w => w.kind == .bankClear (q.u 0 1)) = false) (h : q.u 1 1 = ownerNone) :
    bankAssign q m = .done (m.setDev (((m.dev.set (F.SC_OWNER (q.u 0 1)) ownerNone).setB (F.SC_POWERED (q.u 0 1)) false).bankContents
      (q.u 0 1))) Rep.ok := by
  simp only [bankAssign, hclear]
  rw [if_neg (by simpa using hlent), if_pos h]

theorem bankAssign_clears (howner : m.dev.get (F.SC_OWNER (q.u 0 1)) = ownerNone)
    (hclear : m.dev.smi.waits.any (fun w => w.kind == .bankClear (q.u 0 1)) = false) (h : q.u 1 1 = ownerDma) :
    bankAssign q m = .later (m.setDev (m.dev.setB (F.SC_POWERED (q.u 0 1)) true)) (.bankClear (q.u 0 1)) := by
  simp only [bankAssign, hclear, howner, h]
  rfl

end

/-- A bank powered off: no owner, no power, no contents; the other banks keep theirs. -/
theorem Dev.bankOff_shows (d : Dev) (b : Nat) :
    let x := ((d.set (F.SC_OWNER b) ownerNone).setB (F.SC_POWERED b) false).bankContents b
    x = { d with fld := x.fld, sconce := x.sconce } ∧ x.get (F.SC_OWNER b) = 0 ∧ x.get (F.SC_POWERED b) = 0 ∧
      (∀ w, b * 32768 ≤ w → w < (b + 1) * 32768 → tget? x.sconce.scratch w = none) ∧
      ∀ w, (w < b * 32768 ∨ (b + 1) * 32768 ≤ w) → tget? x.sconce.scratch w = tget? d.sconce.scratch w := by
  have hget : ∀ f, (((d.set (F.SC_OWNER b) ownerNone).setB (F.SC_POWERED b) false).bankContents b).get f =
      ((d.set (F.SC_OWNER b) 0).set (F.SC_POWERED b) 0).get f := fun _ => rfl
  refine ⟨rfl, ?_, ?_, fun w hlo hhi => (tget?_tclear _ _ _ _).trans (if_pos ⟨hlo, hhi⟩),
    fun w hw => (tget?_tclear _ _ _ _).trans (if_neg (by omega))⟩
  · rw [hget, Dev.get_set_of_ne _ _ (by simp [Fld.key, F.SC_OWNER, F.SC_POWERED]), Dev.get_set_self, Nat.zero_mod]
  · rw [hget, Dev.get_set_self, Nat.zero_mod]

/-! BANK_TEST. -/

section
variable {q : Req} {m : Mach}

theorem bankTest_begins (h : q.flagAt 1 0 = true) (hfree : m.dev.sconce.test = none) :
    bankTest q m = .later (m.setDev (m.dev.testBegin (q.u 0 1) true)) (.bankTest (q.u 0 1)) := by
  simp only [bankTest, h, hfree]

theorem bankTest_busy (h : q.flagAt 1 0 = true) (hruns : m.dev.sconce.test ≠ none) : bankTest q m = .done m ⟨stBusy, 0, 0⟩ := by
  obtain ⟨t, ht⟩ := Option.ne_none_iff_exists'.mp hruns
  simp only [bankTest, h, ht]

theorem bankTest_idle (h : q.flagAt 1 0 = false) (hfree : m.dev.sconce.test = none) : bankTest q m = .done m Rep.ok := by
  simp only [bankTest, h, hfree]

end

theorem Dev.sets_testBegin (d : Dev) (b : Nat) (byCmd : Bool) :
    d.sets [(F.SC_LENT_FROM b, d.get (F.SC_OWNER b)), (F.SC_OWNER b, 4)] { d.testBegin b byCmd with sconce := d.sconce } :=
  Dev.sets_setAll _ d (by simp [Fld.key, F.SC_OWNER, F.SC_LENT_FROM])

/-- Settles O27: each command by the branch of its body. -/
theorem eventAndBankCommands : Obligations.EventAndBankCommands := by
  refine ⟨fun q s => ⟨fun h hcheck => ?_, fun h hlaid hs hr hb hb' => ?_⟩, ?_⟩
  · have hold : (s.m.taken 0x00B0 q).dev.oldestSeq = s.m.dev.oldestSeq := by simp [Dev.oldestSeq, Dev.get64]
    have hnext : (s.m.taken 0x00B0 q).dev.nextSeq = s.m.dev.nextSeq := by simp [Dev.nextSeq, Dev.get64]
    have hread := Mach.lampRead_congr (s.m.taken_lamp 0x00B0 q) (s.m.taken_dram 0x00B0 q)
    have hbody := eventRead_eq q (s.m.taken 0x00B0 q)
    simp only [hold, hnext, hread] at hbody
    exact answers_smiem rfl h hcheck hbody ⟨rfl, rfl⟩
  · obtain ⟨hsets, hcredit⟩ := eventRate_shows q s.m.clk (s.m.taken 0x00B1 q).dev hb'
    exact answers_body rfl h (eventRateCheck_passes _ hlaid hs hr hb hb') ⟨rfl, rfl, hsets, hcredit⟩
  intro q s b
  refine ⟨fun h hcheck => ?_, fun h hcheck => ?_⟩
  · intro a clearing
    refine ⟨fun hbusy => answers_smiem rfl h hcheck (bankAssign_busy hbusy) ⟨rfl, rfl⟩, fun hlent hclear hnone => ?_,
      fun howner hclear hdma => ?_⟩
    · exact answers_smiem rfl h hcheck (bankAssign_off hlent hclear hnone) ⟨rfl, rfl, Dev.bankOff_shows a.dev b⟩
    · exact begins_smiem rfl h hcheck (bankAssign_clears howner hclear hdma) ⟨rfl, rfl, Dev.sets_one _ (F.SC_POWERED b) 1⟩
  · intro a
    have hon : leAt q.params 1 1 = 1 → q.flagAt 1 0 = true := fun h => by rw [Req.flagAt, Req.u, h]; rfl
    have hoff : leAt q.params 1 1 = 0 → q.flagAt 1 0 = false := fun h => by rw [Req.flagAt, Req.u, h]; rfl
    exact ⟨fun h1 hfree => begins_smiem rfl h hcheck (bankTest_begins (hon h1) hfree) ⟨rfl, rfl, rfl, Dev.sets_testBegin _ _ _⟩,
      fun h1 hruns => answers_smiem rfl h hcheck (bankTest_busy (hon h1) hruns) ⟨rfl, rfl⟩,
      fun h0 hfree => answers_smiem rfl h hcheck (bankTest_idle (hoff h0) hfree) ⟨rfl, rfl⟩⟩

end Sys2Proof.Machine
end

section
/-! Proofs: firmware, reset and frame commands (R444, R543, R549). -/

namespace Sys2Proof.Machine
open Sys2Proof

section
variable {q : Req} {m : Mach}

theorem fwUpdate_writes (h : q.u 0 1 = 0) (hw : (m.bulk q (q.u 12 1) (q.u 16 8) (q.u 8 4)).ended = .whole) :
    fwUpdate q m = .done (m.setDev { m.dev with boot := { m.dev.boot with
      verified := false
      flash := mwrite m.dev.boot.flash (areaBase m.dev.inactiveB + q.u 4 4) (m.bulk q (q.u 12 1) (q.u 16 8) (q.u 8 4)).bytes } }) Rep.ok := by
  simp [fwUpdate, h, hw]

theorem fwUpdate_unread (h : q.u 0 1 = 0) (hw : (m.bulk q (q.u 12 1) (q.u 16 8) (q.u 8 4)).ended ≠ .whole) :
    fwUpdate q m = .done m ⟨endStatus (m.bulk q (q.u 12 1) (q.u 16 8) (q.u 8 4)).ended, 0, 0⟩ := by
  simp [fwUpdate, h, hw]

theorem fwUpdate_unverified (h : q.u 0 1 = 2) (hv : m.dev.boot.verified = false) : fwUpdate q m = .done m ⟨stIntegrity, 0, 0⟩ := by
  simp [fwUpdate, h, hv]

theorem resetDomain_asks (h : q.u 4 4 = unlockKey) :
    resetDomain q m = .later (m.onDev (fun k d => d.domainAsk k (q.u 0 1))) (.domain (q.u 0 1)) := by
  simp [resetDomain, h]

theorem resetDomain_wrong (h : q.u 4 4 ≠ unlockKey) :
    resetDomain q m = .done (m.setDev ((m.dev.set F.GL_LOCKED 1).keyFail m.clk)) ⟨stKeyRequired, 0, 0⟩ := by
  simp only [resetDomain, bne_iff_ne, ne_eq, h, not_false_eq_true, if_true, Dev.unlock, if_false]
  rfl

theorem frameSend_unread (h : (m.bulk q (q.u 32 1) (q.u 40 8) (q.u 6 2)).ended ≠ .whole) :
    frameSend q m = .done m ⟨endStatus (m.bulk q (q.u 32 1) (q.u 40 8) (q.u 6 2)).ended, 0, 0⟩ := by
  simp [frameSend, h]

theorem frameSend_sent {fid : Nat} {d : Dev} (h : (m.bulk q (q.u 32 1) (q.u 40 8) (q.u 6 2)).ended = .whole)
    (hask : m.dev.injectAsk m.clk 513 false (sliceZ q.params 0 32) (m.bulk q (q.u 32 1) (q.u 40 8) (q.u 6 2)).bytes =
      (.granted, some .accepted, fid, d)) : frameSend q m = .done (m.setDev (d.poolsUpdate m.clk)) ⟨stOk, 1, 0⟩ := by
  simp [frameSend, h, hask]

end

theorem Dev.domainAsk_waits {d : Dev} (k : Clock) (n : Nat) (h : d.wicksBusy = true) :
    d.domainAsk k n = { d with boot := { d.boot with rstWait := d.boot.rstWait.erase n ++ [n] } } := if_pos h

/-- The bytes of a field that reads 0. -/
theorem byteAt_of_leAt_eq_zero {b : Bytes} {o w i : Nat} (h : leAt b o w = 0) (hlo : o ≤ i) (hhi : i < o + w) : byteAt b i = 0 := by
  obtain ⟨j, rfl⟩ := Nat.exists_eq_add_of_le hlo
  have hsplit : leAt b o (j + (1 + (w - j - 1))) = 0 := by rwa [show j + (1 + (w - j - 1)) = w by omega]
  rw [leAt_add, leAt_add b (o + j) 1, leAt_one] at hsplit
  have hzero : 256 ^ j * (byteAt b (o + j)).toNat = 0 := by rw [Nat.mul_add] at hsplit; omega
  exact BitVec.eq_of_toNat_eq ((Nat.mul_eq_zero.mp hzero).resolve_left (by positivity))

theorem resetDomainCheck_passes {q : Req} (hlen : q.params.length ≤ 8) (hres : leAt q.params 1 3 = 0)
    (hn : domainBad (leAt q.params 0 1) = false) : badParam 8 [(0, 1), (4, 4)] [(0, domainBad (q.u 0 1))] q.params = none := by
  refine badParam_none hlen (fun o ho => ?_) (by simpa [Req.u] using hn)
  by_cases hres' : 1 ≤ o ∧ o < 4
  · exact .inr (byteAt_of_leAt_eq_zero hres hres'.1 hres'.2)
  · left
    simp
    omega

/-! FRAME_RECV. -/

theorem frameRecv_none {q : Req} (k : Clock) {d : Dev} (h1 : q.u 0 1 = 1) (hn : d.recvQueue (q.u 1 1) = none) :
    frameRecv [] q k d = (d.poolsUpdate k, ⟨stOk, 0, 0⟩) := by
  simp [frameRecv, h1, Dev.recvLoop, hn]

theorem frameRecv_one {q : Req} (k : Clock) {d : Dev} {n : Nat} {c : Copy} {f : Frame} (h1 : q.u 0 1 = 1)
    (hq : d.recvQueue (q.u 1 1) = some (n, c)) (hf : d.frame? c.fid = some f) (hfit : (d.recvRecord c f).length ≤ q.u 16 4) :
    frameRecv [] q k d =
      (((d.recvTake n c f).emit (.hostWrite (q.u 8 8) (d.recvRecord c f))).poolsUpdate k, ⟨stOk, 1, 0⟩) := by
  simp [frameRecv, h1, Dev.recvLoop, hq, hf, Nat.not_lt.mpr hfit]

/-- Settles O35: each command by the branch of its body. -/
theorem systemCommands : Obligations.SystemCommands := by
  intro q s
  refine ⟨fun h hcheck => ?_, fun h hlen hres hn => ?_, fun h hcheck => ?_, fun h hlaid h1 hal => ?_⟩
  · intro a src
    exact ⟨fun h0 hw => answers_smiem rfl h hcheck (fwUpdate_writes h0 hw) ⟨rfl, rfl⟩,
      fun h0 hw => answers_smiem rfl h hcheck (fwUpdate_unread h0 hw) ⟨rfl, rfl⟩,
      fun h2 hv => answers_smiem rfl h hcheck (fwUpdate_unverified h2 hv) ⟨rfl, rfl⟩⟩
  · intro a n
    have hcheck := resetDomainCheck_passes hlen hres hn
    refine ⟨fun hk => begins_smiem rfl h hcheck (resetDomain_asks hk) ⟨rfl, rfl, fun hbusy => ?_⟩,
      fun hk => answers_smiem rfl h hcheck (resetDomain_wrong hk) ⟨rfl, rfl⟩⟩
    rw [Mach.onDev_dev, Dev.domainAsk_waits _ _ hbusy]
    exact ⟨rfl, by simp [n, Req.u]⟩
  · intro a src
    exact ⟨fun hw => answers_smiem rfl h hcheck (frameSend_unread hw) ⟨rfl, rfl⟩,
      fun hw fid d hask => answers_smiem rfl h hcheck (frameSend_sent hw hask) ⟨rfl, rfl⟩⟩
  · intro a
    have hcheck : badParam 20 [(0, 2), (8, 12)] [(0, q.u 0 1 = 0 || 64 < q.u 0 1)] q.params = none :=
      badParam_none hlaid.1 hlaid.2 (by simp [Req.u, h1])
    exact ⟨fun hnone => answers_smiemDev rfl h hcheck (frameRecv_none _ h1 hnone) ⟨rfl, rfl⟩,
      fun n c f hq hf hfit => answers_smiemDev rfl h hcheck (frameRecv_one _ h1 hq hf hfit) ⟨rfl, rfl⟩⟩

end Sys2Proof.Machine
end

section
/-! Proofs: replies (R422, R424, R427, R447). -/

namespace Sys2Proof.Machine
open Sys2Proof

theorem Reply.body_eq (r : Reply) : r.body = toLE r.tag 2 ++ (toLE r.rep.status 1 ++ (toLE (r.phase % 2 + 2 * b2n r.hw) 1 ++
    (toLE r.opcode 2 ++ (toLE r.sq 1 ++ (toLE 0 1 ++ (toLE r.rep.detail 4 ++ (toLE r.tsNs 4 ++ (toLE r.rep.result 8 ++
      (toLE r.sqHead 2 ++ toLE 0 2))))))))) := by
  simp only [Reply.body, List.append_assoc]

theorem Reply.body_length (r : Reply) : r.body.length = 28 := by simp [Reply.body_eq]

/-- A reply's bytes: its body, field after field, and the body's CRC. -/
theorem Reply.bytes_layout (r : Reply) : r.bytes.length = 32 ∧ leAt r.bytes 0 2 = r.tag % 2 ^ 16 ∧ leAt r.bytes 2 1 = r.rep.status % 2 ^ 8 ∧
    leAt r.bytes 3 1 = r.phase % 2 + 2 * b2n r.hw ∧ leAt r.bytes 4 2 = r.opcode % 2 ^ 16 ∧ leAt r.bytes 6 1 = r.sq % 2 ^ 8 ∧
    leAt r.bytes 7 1 = 0 ∧ leAt r.bytes 8 4 = r.rep.detail % 2 ^ 32 ∧ leAt r.bytes 12 4 = r.tsNs % 2 ^ 32 ∧
    leAt r.bytes 16 8 = r.rep.result % 2 ^ 64 ∧ leAt r.bytes 24 2 = r.sqHead % 2 ^ 16 ∧ leAt r.bytes 26 2 = 0 ∧
    leAt r.bytes 28 4 = crc32c (r.bytes.take 28) % 2 ^ 32 := by
  have hbody : r.bytes.take 28 = r.body := by rw [Reply.bytes, ← r.body_length, List.take_left]
  have hcrc : leAt r.bytes 28 4 = crc32c r.body % 256 ^ 4 := by
    rw [Reply.bytes, leAt_append_right _ _ (by rw [r.body_length]), r.body_length, Nat.sub_self, leAt_toLE]
  have hphase : r.phase % 2 + 2 * b2n r.hw < 256 := by
    have hbit : b2n r.hw ≤ 1 := by cases r.hw <;> decide
    omega
  have hfield : ∀ o w, o + w ≤ 28 → leAt r.bytes o w = leAt r.body o w := fun o w h => by
    rw [Reply.bytes, leAt_append_left _ (by rwa [r.body_length])]
  refine ⟨by simp [Reply.bytes, r.body_length], ?_⟩
  rw [hbody, hcrc]
  simp only [hfield, Nat.reduceAdd, Nat.reduceLeDiff, r.body_eq]
  simp [leAt_toLE_skip, leAt_toLE_head, leAt_toLE, Nat.mod_eq_of_lt hphase]

/-! Writing a reply. -/

theorem still_cq : ∀ c : Fin 16, (F.CQ_TAIL c).still = true ∧ (F.CQ_PHASE c).still = true := by decide

theorem Dev.out_coalesce (d : Dev) (c : Nat) (quiet : Bool) : d.out <+: (d.coalesce c quiet).out := by
  unfold Dev.coalesce
  dsimp only
  split
  · exact Dev.out_sendMsix { d with smi := { d.smi with coal := tput d.smi.coal c ⟨0, false⟩ ⟨0, false⟩ } } _
  · exact List.prefix_rfl

/-- Coalescing is a report, but for the ring's count of replies that no message covers. -/
theorem Dev.coalesce_alike (d : Dev) (c : Nat) (quiet : Bool) :
    ∃ coal, Dev.alike { d with smi := { d.smi with coal := coal } } (d.coalesce c quiet) := by
  unfold Dev.coalesce
  dsimp only
  split
  · exact ⟨_, Dev.alike_sendMsix _ _⟩
  · exact ⟨_, Dev.alike_refl _⟩

/-- The device with a reply at its ring's tail, before its message (R422). -/
def Dev.replyWritten (d : Dev) (k : Clock) (op : Nat) (q : Req) (c : Fin 16) (hw : Bool) (rep : Rep) : Dev :=
  let tail := d.get (F.CQ_TAIL c)
  let wrap := d.cqSize c ≤ tail + 1
  let x := d.setAll ((F.CQ_TAIL c, if wrap then 0 else tail + 1) :: if wrap then [(F.CQ_PHASE c, d.get (F.CQ_PHASE c) + 1)] else [])
  { x with
    smi := { d.smi with written := tput d.smi.written c 0 (d.unconsumed c + 1) }
    out := d.out ++ [.reply (d.cqAddr c tail) ⟨q.tag, rep, d.get (F.CQ_PHASE c), hw, op, q.ring, k.ts32, d.get (F.SQ_HEAD q.ring)⟩] }

section
variable (d : Dev) (k : Clock) (op : Nat) (q : Req) (c : Fin 16) (hw : Bool) (rep : Rep)

theorem Dev.replyWritten_smi : (d.replyWritten k op q c hw rep).smi =
    { d.smi with written := tput d.smi.written c 0 (d.unconsumed c + 1) } := rfl

theorem Dev.replyWritten_out : (d.replyWritten k op q c hw rep).out = d.out ++ [.reply (d.cqAddr c (d.get (F.CQ_TAIL c)))
    ⟨q.tag, rep, d.get (F.CQ_PHASE c), hw, op, q.ring, k.ts32, d.get (F.SQ_HEAD q.ring)⟩] := rfl

theorem Dev.replyWritten_get (f : Fld) : (d.replyWritten k op q c hw rep).get f =
    (d.setAll ((F.CQ_TAIL c, if d.cqSize c ≤ d.get (F.CQ_TAIL c) + 1 then 0 else d.get (F.CQ_TAIL c) + 1) ::
      if d.cqSize c ≤ d.get (F.CQ_TAIL c) + 1 then [(F.CQ_PHASE c, d.get (F.CQ_PHASE c) + 1)] else [])).get f :=
  Dev.get_congr rfl f

end

theorem Dev.reply_eq (d : Dev) (k : Clock) (op : Nat) (q : Req) (c : Fin 16) (hw : Bool) (rep : Rep) :
    d.reply k op q c hw rep = ((d.replyWritten k op q c hw rep).coalesce c q.quiet).perf 36 (if hw then 1 else 2) := by
  unfold Dev.reply Dev.replyWritten
  dsimp only
  split <;> rfl

/-- A ring's tail stays inside the ring, and the phase changes as the tail wraps. -/
theorem Dev.replyWritten_ring (d : Dev) (k : Clock) (op : Nat) (q : Req) (c : Fin 16) (hw : Bool) (rep : Rep) :
    let x := d.replyWritten k op q c hw rep
    let tail := d.get (F.CQ_TAIL c)
    (tail + 1 < d.cqSize c → x.get (F.CQ_TAIL c) = tail + 1 ∧ x.get (F.CQ_PHASE c) = d.get (F.CQ_PHASE c)) ∧
      (d.cqSize c ≤ tail + 1 → x.get (F.CQ_TAIL c) = 0 ∧ x.get (F.CQ_PHASE c) = (d.get (F.CQ_PHASE c) + 1) % 2) := by
  intro x tail
  have hne : (F.CQ_TAIL c).key ≠ (F.CQ_PHASE c).key := by simp [Fld.key, F.CQ_TAIL, F.CQ_PHASE]
  have hsize : d.cqSize c ≤ 2 ^ 16 := Nat.pow_le_pow_right (by decide) (Nat.min_le_left _ _)
  refine ⟨fun hlt => ?_, fun hge => ?_⟩
  · rw [Dev.replyWritten_get, Dev.replyWritten_get, if_neg (Nat.not_le.mpr hlt), if_neg (Nat.not_le.mpr hlt)]
    exact ⟨(d.get_set_self _ _).trans (Nat.mod_eq_of_lt (Nat.lt_of_lt_of_le hlt hsize)), d.get_set_of_ne _ hne.symm⟩
  · rw [Dev.replyWritten_get, Dev.replyWritten_get, if_pos hge, if_pos hge]
    exact ⟨((d.set (F.CQ_TAIL c) 0).get_set_of_ne _ hne).trans (d.get_set_self _ _), (d.set (F.CQ_TAIL c) 0).get_set_self _ _⟩

/-- A message and a count report what is written: what was emitted stays, and so do the still fields. -/
theorem Dev.coalesce_reports (x : Dev) (c : Nat) (quiet : Bool) (n : Nat) :
    let b := (x.coalesce c quiet).perf 36 n
    x.out <+: b.out ∧ (∃ coal, b.smi = { x.smi with coal := coal }) ∧ ∀ f : Fld, f.still = true → b.get f = x.get f := by
  intro b
  obtain ⟨coal, hco⟩ := x.coalesce_alike c quiet
  have hperf := Dev.alike_perf (x.coalesce c quiet) 36 n
  refine ⟨?_, ⟨coal, hperf.smi_eq.trans hco.smi_eq⟩, fun f hf => (hperf.get_eq f hf).trans (hco.get_eq f hf)⟩
  rw [Dev.out_perf]
  exact x.out_coalesce c quiet

theorem Dev.complete_dropped (d : Dev) (k : Clock) (op : Nat) (q : Req) (c : Fin 16) (rep : Rep) :
    let b := d.complete k op q c true rep
    b.out = d.out ∧ b.smi = d.smi ∧ b.get (F.CQ_TAIL c) = d.get (F.CQ_TAIL c) :=
  ⟨Dev.out_perf _ _ _, (Dev.alike_perf _ _ _).smi_eq, (Dev.alike_perf _ _ _).get_eq _ (still_cq c).1⟩

theorem Dev.complete_written (d : Dev) (k : Clock) (op : Nat) (q : Req) (c : Fin 16) (rep : Rep) :
    let b := d.complete k op q c false rep
    let tail := d.get (F.CQ_TAIL c)
    (∃ msgs, b.out = d.out ++ .reply (d.get (F.CQ_BASE_LO c) * 2 ^ 12 + d.get (F.CQ_BASE_HI c) * 2 ^ 32 + 32 * tail)
        ⟨q.tag, rep, d.get (F.CQ_PHASE c), isHw op q.params, op, q.ring, k.ts32, d.get (F.SQ_HEAD q.ring)⟩ :: msgs) ∧
      (tail + 1 < d.cqSize c → b.get (F.CQ_TAIL c) = tail + 1 ∧ b.get (F.CQ_PHASE c) = d.get (F.CQ_PHASE c)) ∧
      (d.cqSize c ≤ tail + 1 → b.get (F.CQ_TAIL c) = 0 ∧ b.get (F.CQ_PHASE c) = (d.get (F.CQ_PHASE c) + 1) % 2) ∧
      b.unconsumed c = d.unconsumed c + 1 ∧ b.smi.waits = d.smi.waits ∧ b.smi.fetched = d.smi.fetched := by
  intro b tail
  have hb : b = d.reply k op q c (isHw op q.params) rep := if_neg Bool.false_ne_true
  obtain ⟨⟨msgs, hout⟩, ⟨coal, hsmi⟩, hget⟩ :=
    (d.replyWritten k op q c (isHw op q.params) rep).coalesce_reports c q.quiet (if isHw op q.params then 1 else 2)
  rw [← Dev.reply_eq, ← hb] at hout hsmi
  simp only [← Dev.reply_eq, ← hb] at hget
  obtain ⟨hgo, hwrap⟩ := d.replyWritten_ring k op q c (isHw op q.params) rep
  rw [← hget _ (still_cq c).1, ← hget _ (still_cq c).2] at hgo hwrap
  rw [Dev.replyWritten_smi] at hsmi
  rw [Dev.replyWritten_out, List.append_assoc] at hout
  have hcount : b.unconsumed c = d.unconsumed c + 1 := by
    rw [Dev.unconsumed, hsmi]
    exact tgetD_tput_self d.smi.written c 0 (d.unconsumed c + 1)
  have hwaits : b.smi.waits = d.smi.waits := by rw [hsmi]
  have hfetched : b.smi.fetched = d.smi.fetched := by rw [hsmi]
  exact ⟨⟨msgs, hout.symm⟩, hgo, hwrap, hcount, hwaits, hfetched⟩

/-- Settles O10: a reply's bytes by their layout, and what writing it does by the ring, the counts and the reports after it. -/
theorem replies : Obligations.Replies := by
  refine ⟨Reply.bytes_layout, fun m m' op q rep => ?_⟩
  intro e d d' tail
  have hd' : d' = d.complete m'.clk op q e.cq e.noReply rep := rfl
  refine ⟨rfl, rfl, fun f hf => m.answer_get op q m' rep hf, fun hdrop => ?_, fun hwrite => ?_⟩
  · rw [hd', hdrop]
    exact d.complete_dropped m'.clk op q e.cq rep
  · rw [hd', hwrite]
    exact d.complete_written m'.clk op q e.cq rep

end Sys2Proof.Machine
end

section
/-! Proofs: the bits of CXL_STICKY, which the messages of events may set and never clear (R412). -/

namespace Sys2Proof.Machine
open Sys2Proof

/-- Bit n of CXL_STICKY, once 1, stays 1. -/
def Dev.cxlBitStays (n : Nat) (a b : Dev) : Prop := bit (a.get F.CXL_STICKY) n = true → bit (b.get F.CXL_STICKY) n = true

section
variable {n : Nat}

theorem Dev.cxlBitStays_of_get {a b : Dev} (h : b.get F.CXL_STICKY = a.get F.CXL_STICKY) : a.cxlBitStays n b := fun hb => h ▸ hb

theorem Dev.cxlBitStays.trans {a b c : Dev} (h : a.cxlBitStays n b) (g : b.cxlBitStays n c) : a.cxlBitStays n c := fun hb => g (h hb)

theorem Dev.cxlBitStays_set (d : Dev) {f : Fld} (v : Nat) (h : F.CXL_STICKY.key ≠ f.key) : d.cxlBitStays n (d.set f v) :=
  Dev.cxlBitStays_of_get (d.get_set_of_ne v h)

theorem Dev.cxlBitStays_setBit (d : Dev) (i : Nat) : d.cxlBitStays n (d.setBit F.CXL_STICKY i) := by
  intro hb
  have hn : n < 7 := by
    by_contra hge
    rw [bit_eq_testBit, Nat.testBit_lt_two_pow (Nat.lt_of_lt_of_le (d.get_lt F.CXL_STICKY)
      (Nat.pow_le_pow_right (by decide) (Nat.not_lt.mp hge)))] at hb
    exact Bool.false_ne_true hb
  rw [Dev.setBit_eq, Dev.get_set_self, bit_eq_testBit, Nat.testBit_mod_two_pow, Nat.testBit_or, ← bit_eq_testBit, hb]
  simp only [Bool.true_or, Bool.and_true]
  exact decide_eq_true hn

theorem Dev.cxlBitStays_ite {a b c : Dev} {p : Prop} [Decidable p] (hb : a.cxlBitStays n b) (hc : a.cxlBitStays n c) :
    a.cxlBitStays n (if p then b else c) := by
  split
  · exact hb
  · exact hc

theorem Dev.cxlBitStays_sendMsix (d : Dev) (v : Nat) : d.cxlBitStays n (d.sendMsix v) := by
  unfold Dev.sendMsix
  split
  · exact Dev.cxlBitStays_ite (fun h => h) (fun h => h)
  · exact Dev.cxlBitStays_ite (d.cxlBitStays_setBit 5) (fun h => h)

theorem Dev.cxlBitStays_pend (d : Dev) {s : Nat} (hs : s < 1024) : d.cxlBitStays n (d.pend s) := by
  have hset : d.cxlBitStays n (d.setBit (F.LB_EVT_PENDING (s / 32)) (s % 32)) :=
    d.cxlBitStays_set _ (by simp only [Fld.key, F.CXL_STICKY, F.LB_EVT_PENDING]; omega)
  exact Dev.cxlBitStays_ite (fun h => h) (Dev.cxlBitStays_ite (hset.trans (Dev.cxlBitStays_sendMsix _ _)) hset)

theorem Dev.cxlBitStays_lampWrite (d : Dev) {r : LampRec} (hr : r.source < 1024) : d.cxlBitStays n (d.lampWrite r) := by
  have hpair : ∀ (e : Dev) {lo hi : Fld} (v : Nat), F.CXL_STICKY.key ≠ lo.key ∧ F.CXL_STICKY.key ≠ hi.key →
      e.cxlBitStays n (e.set64 lo hi v) := fun e lo hi v h => (e.cxlBitStays_set v h.1).trans (Dev.cxlBitStays_set _ (f := hi) _ h.2)
  have hseq : ∀ ring v w, d.cxlBitStays n ((({ d with lamp := { d.lamp with ring := ring } }).set64 F.LB_NEXT_SEQ_LO F.LB_NEXT_SEQ_HI v).set64
      F.LB_OLDEST_SEQ_LO F.LB_OLDEST_SEQ_HI w) := fun ring v w =>
    (hpair { d with lamp := { d.lamp with ring := ring } } v (by decide)).trans (hpair _ w (by decide))
  refine Dev.cxlBitStays.trans ?_ (Dev.cxlBitStays_pend _ hr)
  exact Dev.cxlBitStays_ite ((hseq _ _ _).trans (Dev.cxlBitStays_set _ (f := F.LB_STORE_WRAPPED) 1 (by decide))) (hseq _ _ _)

/-- An event sets no bit of CXL_STICKY to 0. -/
theorem Dev.cxlBitStays_event (d : Dev) (k : Clock) {s : Nat} (code : Nat) (hs : s < 1024) : d.cxlBitStays n (d.event k s code) := by
  have hlamp : ∀ x, d.cxlBitStays n { d with lamp := x } := fun _ h => h
  unfold Dev.event Dev.eventData
  dsimp only
  refine Dev.cxlBitStays_ite (fun h => h) (Dev.cxlBitStays_ite (Dev.cxlBitStays_ite (fun h => h) (Dev.cxlBitStays_ite (hlamp _) ?_)) ?_)
  · exact (hlamp _).trans (Dev.cxlBitStays_lampWrite _ hs)
  · split
    · exact Dev.cxlBitStays_ite ((hlamp _).trans (Dev.cxlBitStays_pend _ hs)) (d.cxlBitStays_lampWrite hs)
    · exact d.cxlBitStays_lampWrite hs

/-- A bit set in CXL_STICKY reads 1 after the event that reports it. -/
theorem Dev.cxlBit_event (d : Dev) (k : Clock) {i s : Nat} (code : Nat) (hi : i < 7) (hs : s < 1024) :
    bit (((d.setBit F.CXL_STICKY i).event k s code).get F.CXL_STICKY) i = true :=
  Dev.cxlBitStays_event _ k code hs (d.bit_setBit (f := F.CXL_STICKY) hi)

end

/-- Setting a bit of CXL_STICKY is a change that a report makes too. -/
theorem Dev.alike_cxlBit (d : Dev) (i : Nat) : d.alike (d.setBit F.CXL_STICKY i) := d.alike_set _ _ (by decide) (by decide)

/-- A change of fields, and then a report. -/
theorem Dev.sets_alike {a b c : Dev} {l : List (Fld × Nat)} {fs : List Fld} (h : a.sets l b) (hr : b.alike c)
    (hl : l.map Prod.fst = fs) : a.alikeBut fs c := by
  subst hl
  obtain ⟨heq, -, hkeep⟩ := h
  obtain ⟨hreport, hfields⟩ := hr
  refine ⟨by rw [hreport, heq], fun f hf hne => (hfields f hf).trans (hkeep f fun p hp => hne p.1 (List.mem_map_of_mem hp))⟩

end Sys2Proof.Machine
end

section
/-! Proofs: doorbells, coalescing, ring registers and fetching (R410, R420 to R425, R446, R450). -/

namespace Sys2Proof.Machine
open Sys2Proof

section
variable {d : Dev} (k : Clock) (r : Fin 16) (v : Nat)

theorem Dev.doorbell_refused {act : Dev → Dev} (hf : d.flag F.BT_FAILED = false) (h : d.ideRefuses F.CXL_IDE_IO_SECURE = true) :
    d.doorbell act = d.set F.CXL_IDE_REFUSED (min (d.get F.CXL_IDE_REFUSED + 1) (2 ^ F.CXL_IDE_REFUSED.w - 1)) := by
  rw [Dev.doorbell, if_neg (by simp [hf]), if_pos h, Dev.satInc_eq_min, Nat.min_comm]

theorem Dev.doorbell_acts {act : Dev → Dev} (hf : d.flag F.BT_FAILED = false) (h : d.ideRefuses F.CXL_IDE_IO_SECURE = false) :
    d.doorbell act = act d := by
  rw [Dev.doorbell, if_neg (by simp [hf]), if_neg (by simp [h])]

variable (hf : d.flag F.BT_FAILED = false) (hide : d.ideRefuses F.CXL_IDE_IO_SECURE = false)
include hf hide

theorem sqTail_taken (h : v % 2 ^ 16 < d.sqSize r) : d.sets [(F.SQ_TAIL r, v % 2 ^ 16)] (sqTail r v k d) := by
  rw [sqTail, Dev.doorbell_acts hf hide, if_neg (Nat.not_le.mpr h), ← d.set_mod (F.SQ_TAIL r) v]
  exact d.sets_one _ _

theorem sqTail_refused (h : d.sqSize r ≤ v % 2 ^ 16) : (d.set (F.SQ_DB_ERR r) 1).raises k 588 (sqTail r v k d) := by
  rw [sqTail, Dev.doorbell_acts hf hide, if_pos h]
  exact ⟨_, rfl⟩

theorem cqHead_taken (h : v % 2 ^ 16 < d.cqSize r) (hfree : d.cqFrees r (v % 2 ^ 16) ≤ d.unconsumed r) :
    let b := cqHead r v k d
    b.unconsumed r = d.unconsumed r - d.cqFrees r (v % 2 ^ 16) ∧ (∀ c, c ≠ r.val → b.unconsumed c = d.unconsumed c) ∧
      d.sets [(F.CQ_HEAD_SEEN r, v % 2 ^ 16)] { b with smi := d.smi } ∧ b.smi = { d.smi with written := b.smi.written } := by
  intro b
  have hb : b = ({ d with smi := { d.smi with
      written := tput d.smi.written r 0 (d.unconsumed r - d.cqFrees r (v % 2 ^ 16)) } }).set (F.CQ_HEAD_SEEN r) v := by
    have hno : (decide (d.cqSize r ≤ v % 2 ^ 16) || decide (d.unconsumed r < d.cqFrees r (v % 2 ^ 16))) = false := by
      simpa using ⟨h, hfree⟩
    show cqHead r v k d = _
    rw [cqHead, Dev.doorbell_acts hf hide, hno, if_neg Bool.false_ne_true]
  have hmod : ∀ x : Dev, x.set (F.CQ_HEAD_SEEN r) v = x.set (F.CQ_HEAD_SEEN r) (v % 2 ^ 16) := fun x =>
    (x.set_mod (F.CQ_HEAD_SEEN r) v).symm
  rw [hb, hmod]
  exact ⟨tgetD_tput_self d.smi.written r 0 _, fun c hc => tgetD_tput_of_ne d.smi.written 0 _ 0 hc, d.sets_one _ _, rfl⟩

theorem cqHead_refused (h : d.cqSize r ≤ v % 2 ^ 16 ∨ d.unconsumed r < d.cqFrees r (v % 2 ^ 16)) :
    (d.set (F.CQ_DB_ERR r) 1).raises k 588 (cqHead r v k d) := by
  rw [cqHead, Dev.doorbell_acts hf hide, if_pos (by simpa using h)]
  exact ⟨_, rfl⟩

end

/-! COAL_TIME. -/

theorem coalExpiry_sends {d : Dev} (k : Clock) {r : Nat} (h : (tgetD d.smi.coal r ⟨0, false⟩).timer = true) :
    let b := coalExpiry r k d
    b = (({ d with smi := { d.smi with coal := b.smi.coal } }).sendMsix (d.get (F.CQ_VECTOR r))) ∧
      tgetD b.smi.coal r ⟨0, false⟩ = ⟨0, false⟩ := by
  intro b
  have hb : b = d.cqMessage r := if_pos h
  have hsmi : b.smi = { d.smi with coal := tput d.smi.coal r ⟨0, false⟩ ⟨0, false⟩ } := by
    rw [hb, Dev.cqMessage]
    exact (Dev.alike_sendMsix _ _).smi_eq
  rw [hsmi]
  exact ⟨hb, tgetD_tput_self d.smi.coal r ⟨0, false⟩ ⟨0, false⟩⟩

theorem coalExpiry_idle {d : Dev} (k : Clock) {r : Nat} (h : (tgetD d.smi.coal r ⟨0, false⟩).timer = false) : coalExpiry r k d = d :=
  if_neg (by simp [h])

/-! The rings' configuration. -/

/-- What a write of SQ_CFG sets. -/
def sqCfg (r w : Nat) : List (Fld × Nat) := [(F.SQ_EN r, bits w 0 1), (F.SQ_SIZE_LOG2 r, bits w 1 5), (F.SQ_CQ r, bits w 8 4)]

/-- What a write of CQ_CFG sets. -/
def cqCfg (r w : Nat) : List (Fld × Nat) := [(F.CQ_EN r, bits w 0 1), (F.CQ_SIZE_LOG2 r, bits w 1 5), (F.CQ_VECTOR r, bits w 8 6),
  (F.CQ_COAL_COUNT r, bits w 16 8), (F.CQ_COAL_TIME r, bits w 24 8)]

theorem Dev.sets_sqCfgWrite (d : Dev) (r : Fin 16) (w : Nat) :
    d.sets (if bit w 0 && !d.flag (F.SQ_EN r) then sqCfg r w ++ [(F.SQ_STOPPED r, 0), (F.SQ_ERR r, 0)] else sqCfg r w)
      (d.sqCfgWrite r w) := by
  unfold Dev.sqCfgWrite
  dsimp only
  split
  · exact Dev.sets_setAll (sqCfg r w ++ [(F.SQ_STOPPED r, 0), (F.SQ_ERR r, 0)]) d
      (by simp [sqCfg, Fld.key, F.SQ_EN, F.SQ_SIZE_LOG2, F.SQ_CQ, F.SQ_STOPPED, F.SQ_ERR]; omega)
  · exact Dev.sets_setAll (sqCfg r w) d (by simp [sqCfg, Fld.key, F.SQ_EN, F.SQ_SIZE_LOG2, F.SQ_CQ])

theorem Dev.sets_cqCfgWrite_same {d : Dev} (r : Fin 16) {w : Nat} (h : bit w 0 = false ∨ d.flag (F.CQ_EN r) = true) :
    d.sets (cqCfg r w) (d.cqCfgWrite r w) := by
  have hno : (bit w 0 && !d.flag (F.CQ_EN r)) = false := by rcases h with h | h <;> simp [h]
  simp only [Dev.cqCfgWrite, hno, Bool.false_eq_true, if_false]
  exact Dev.sets_setAll (cqCfg r w) d
    (by simp [cqCfg, Fld.key, F.CQ_EN, F.CQ_SIZE_LOG2, F.CQ_VECTOR, F.CQ_COAL_COUNT, F.CQ_COAL_TIME])

theorem Dev.cqCfgWrite_enables {d : Dev} (r : Fin 16) {w : Nat} (h : bit w 0 = true) (hen : d.flag (F.CQ_EN r) = false) :
    let b := d.cqCfgWrite r w
    d.sets (cqCfg r w ++ [(F.CQ_PHASE r, 1), (F.CQ_TAIL r, 0), (F.CQ_HEAD_SEEN r, 0)]) { b with smi := d.smi } ∧
      b.smi = { d.smi with written := b.smi.written, coal := b.smi.coal } ∧ b.unconsumed r = 0 ∧
      tgetD b.smi.coal r ⟨0, false⟩ = ⟨0, false⟩ := by
  intro b
  have hb : b = { d.setAll (cqCfg r w ++ [(F.CQ_PHASE r, 1), (F.CQ_TAIL r, 0), (F.CQ_HEAD_SEEN r, 0)]) with
      smi := { d.smi with written := tdel d.smi.written r, coal := tdel d.smi.coal r } } := by
    show d.cqCfgWrite r w = _
    simp only [Dev.cqCfgWrite, h, hen, Bool.not_false, Bool.and_self, if_true]
    rfl
  rw [hb]
  refine ⟨Dev.sets_setAll (cqCfg r w ++ [(F.CQ_PHASE r, 1), (F.CQ_TAIL r, 0), (F.CQ_HEAD_SEEN r, 0)]) d ?_, rfl, ?_, ?_⟩
  · simp [cqCfg, Fld.key, F.CQ_EN, F.CQ_SIZE_LOG2, F.CQ_VECTOR, F.CQ_COAL_COUNT, F.CQ_COAL_TIME, F.CQ_PHASE, F.CQ_TAIL, F.CQ_HEAD_SEEN]
    omega
  · show tgetD (tdel d.smi.written r) r 0 = 0
    rw [tgetD, tget?_tdel_self]
    rfl
  · show tgetD (tdel d.smi.coal r) r ⟨0, false⟩ = ⟨0, false⟩
    rw [tgetD, tget?_tdel_self]
    rfl

/-! PACKET_FETCH. -/

theorem sqSize_le (d : Dev) (r : Nat) : d.sqSize r ≤ 2 ^ 16 := Nat.pow_le_pow_right (by decide) (Nat.min_le_left _ _)

theorem sqSize_pos (d : Dev) (r : Nat) : 0 < d.sqSize r := Nat.two_pow_pos _

theorem still_sqHead : ∀ r : Fin 16, (F.SQ_HEAD r).still = true := by decide

/-- A stopped ring: STOPPED and ERR, and event 588. -/
theorem Dev.ringStop_raises (d : Dev) (k : Clock) (r err : Nat) :
    ((d.set (F.SQ_STOPPED r) 1).set (F.SQ_ERR r) err).raises k 588 (d.ringStop k r err) := ⟨_, rfl⟩

/-- The device whose ring's head has passed a packet's slots. -/
def Dev.fetchPast (d : Dev) (r : Fin 16) (p : Bytes) : Dev :=
  (({ d with smi := { d.smi with rotate := (r.val + 1) % 16 } }).set (F.SQ_HEAD r)
    ((d.get (F.SQ_HEAD r) + ceilDiv (32 + packetLen p) 64) % d.sqSize r)).perf 36 0

section
variable (d : Dev) (r : Fin 16) (p : Bytes)

theorem Dev.fetchPast_head : (d.fetchPast r p).get (F.SQ_HEAD r) =
    (d.get (F.SQ_HEAD r) + ceilDiv (32 + packetLen p) 64) % d.sqSize r := by
  rw [Dev.fetchPast, (Dev.alike_perf _ 36 0).get_eq _ (still_sqHead r), Dev.get_set_self]
  exact Nat.mod_eq_of_lt (Nat.lt_of_lt_of_le (Nat.mod_lt _ (sqSize_pos d r)) (sqSize_le d r))

theorem Dev.fetchPast_out : (d.fetchPast r p).out = d.out := Dev.out_perf _ 36 0

theorem Dev.fetchPast_smi : (d.fetchPast r p).smi = { d.smi with rotate := (r.val + 1) % 16 } := Dev.perf_smi _ 36 0

end

section
variable {d : Dev} (k : Clock) {r : Fin 16} {data : HostRead} (ht : d.fetchTurn r = true)
include ht

theorem fetchPacket_unread (h : data.ended ≠ .whole) : fetchPacket r data k d = d.ringStop k r 2 := by
  simp [fetchPacket, ht, h]

variable (hw : data.ended = .whole)
include hw

theorem fetchPacket_broken (h : 4064 < packetLen data.bytes ∨ packetCrc data.bytes ≠ leAt data.bytes 28 4) :
    fetchPacket r data k d =
      (d.ringStop k r 1).reply k 0 (packetReq r data.bytes) (d.sqRing r) false ⟨stIntegrity, 0, 0⟩ := by
  simp [fetchPacket, ht, hw, h]

/-- A whole packet whose checks 1 to 4 pass (R425): held for its command, or answered BAD_OPCODE. -/
theorem fetchPacket_passes (hlen : packetLen data.bytes ≤ 4064) (hcrc : packetCrc data.bytes = leAt data.bytes 28 4)
    (hroom : isHw (leAt data.bytes 0 2) (packetReq r data.bytes).params = true ∨ d.smi.fwInFlight < 64)
    (hsq : leAt data.bytes 3 1 = r) (hflags : leAt data.bytes 2 1 < 8) (hzero : ∀ i < 16, byteAt data.bytes (12 + i) = 0) :
    fetchPacket r data k d =
      if !opcodes.contains (leAt data.bytes 0 2) then
        (d.fetchPast r data.bytes).reply k (leAt data.bytes 0 2) (packetReq r data.bytes) (d.sqRing r) false ⟨stBadOpcode, 0, 0⟩
      else { d.fetchPast r data.bytes with smi := { (d.fetchPast r data.bytes).smi with
        fetched := (d.fetchPast r data.bytes).smi.fetched ++
          [⟨leAt data.bytes 0 2, packetReq r data.bytes, d.sqRing r, false, false⟩] } } := by
  have hreserved : sliceZ data.bytes 12 16 = List.replicate 16 0 := by
    rw [sliceZ_eq_map]
    exact List.map_eq_replicate_iff.mpr fun i hi => hzero i (List.mem_range.mp hi)
  have hlow : bits (leAt data.bytes 2 1) 3 5 = 0 := by rw [bits]; omega
  have hno : (!isHw (leAt data.bytes 0 2) (packetReq r data.bytes).params && decide (64 ≤ d.smi.fwInFlight)) = false := by
    rcases hroom with h | h <;> simp [h]
  simp [fetchPacket, ht, hw, Nat.not_lt.mpr hlen, hcrc, hno, hsq, hlow, hreserved, Dev.fetchPast, beNat]

end

/-- Settles O36: each write and fetch by the branch its ring selects. -/
theorem ringsAndPackets : Obligations.RingsAndPackets := by
  unfold Obligations.RingsAndPackets
  refine ⟨?_, ?_⟩
  · intro r v s hp hf d n ahead freed
    have hdev : ∀ {c : Instr} {f : Clock → Dev → Dev} {post : Dev → Prop}, exec c s = onDev f s → post (f s.m.clk s.m.dev) →
        ends c s post := fun he hpost => ends_onDev he hp hpost
    refine ⟨?_, ?_, ?_, ?_, ?_, ?_⟩
    · rintro hide c (rfl | rfl)
      · refine hdev rfl ?_
        rw [sqTail, Dev.doorbell_refused hf hide]
        exact Dev.sets_one _ _ _
      · refine hdev rfl ?_
        rw [cqHead, Dev.doorbell_refused hf hide]
        exact Dev.sets_one _ _ _
    · intro hide
      exact ⟨fun h => hdev rfl (sqTail_taken _ r _ hf hide h), fun h => hdev rfl (sqTail_refused _ r _ hf hide h),
        fun h hfree => hdev rfl (cqHead_taken _ r _ hf hide h hfree), fun h => hdev rfl (cqHead_refused _ r _ hf hide h)⟩
    · exact fun h => hdev rfl (coalExpiry_sends _ h)
    · exact fun h => hdev rfl (coalExpiry_idle _ h)
    · intro cfg
      have hcfg : ∀ {post : Dev → Prop}, post (d.sqCfgWrite r v.toNat) → ends (.submissionRingEn r v) s post := by
        intro post hpost
        refine hdev rfl ?_
        rwa [if_neg (by simp [hf])]
      exact hcfg (d.sets_sqCfgWrite r v.toNat)
    · intro cfg
      have hcfg : ∀ {post : Dev → Prop}, post (d.cqCfgWrite r v.toNat) → ends (.completionRingEn r v) s post := by
        intro post hpost
        refine hdev rfl ?_
        rwa [if_neg (by simp [hf])]
      exact ⟨fun h hen => hcfg (Dev.cqCfgWrite_enables r h hen), fun h => hcfg (Dev.sets_cqCfgWrite_same r h)⟩
  · intro r data s hp ht d k p op q c head stopped
    refine ⟨?_, ?_, ?_, ?_⟩
    · exact ends_onMach (b := d.ringStop k r 2) rfl hp (if_pos ht) (d.ringStop_raises k r 2)
    · intro h
      refine ends_onDev rfl hp ?_
      rw [fetchPacket_unread _ ht h]
      exact d.ringStop_raises k r 2
    · intro hw h
      refine ends_onDev rfl hp ⟨d.ringStop k r 1, d.ringStop_raises k r 1, fetchPacket_broken _ ht hw h⟩
    · intro hw hlen hcrc hroom hsq hflags hzero
      have hpass := fetchPacket_passes k ht hw hlen hcrc hroom hsq hflags hzero
      refine ⟨fun hop => ends_onDev rfl hp ?_, fun hop => ends_onDev rfl hp ⟨d.fetchPast r p, d.fetchPast_head r p, ?_, ?_⟩⟩
      · rw [hpass, if_neg (by simpa using hop)]
        refine ⟨d.fetchPast_head r p, d.fetchPast_out r p, ?_⟩
        rw [d.fetchPast_smi r p]
      · rw [d.fetchPast_smi r p]
      · rw [hpass, if_pos (by simpa using hop)]

end Sys2Proof.Machine
end

section
/-! Proofs: training, resets and Recovery of the CXL link (R399, R401, R413 to R415, R447). -/

namespace Sys2Proof.Machine
open Sys2Proof

/-! Training. -/

theorem Dev.bestMode_cxl {d : Dev} {host n : Nat} (hn : n < 4) (hb : bit host n = true)
    (hm : bit (d.get F.CXL_MODE_MASK) n = false)
    (hj : ∀ j < n, bit host j = false ∨ bit (d.get F.CXL_MODE_MASK) j = true) : d.bestMode host = n + 1 := by
  have hfind : (List.range 4).find? (fun n => bit host n && !bit (d.get F.CXL_MODE_MASK) n) = some n :=
    List.find?_range_eq_some.mpr ⟨by simp [hb, hm], List.mem_range.mpr hn, fun j hlt => by
      rcases hj j hlt with h | h <;> simp [h]⟩
  simp only [Dev.bestMode, hfind]

theorem Dev.bestMode_pcie {d : Dev} {host : Nat}
    (h : ∀ n < 4, bit host n = false ∨ bit (d.get F.CXL_MODE_MASK) n = true) : d.bestMode host = 5 := by
  have hfind : (List.range 4).find? (fun n => bit host n && !bit (d.get F.CXL_MODE_MASK) n) = none :=
    List.find?_range_eq_none.mpr fun n hn => by rcases h n hn with h | h <;> simp [h]
  simp only [Dev.bestMode, hfind]

/-- What training shows of the link. -/
def trainedLink (mode gen width rate : Nat) : List (Fld × Nat) :=
  [(F.CXL_MODE, mode), (F.CXL_PCIE_GEN, if mode = 5 then gen else 0), (F.CXL_WIDTH, width), (F.CXL_RATE, rate)]

section
variable {d : Dev} (k : Clock) {host gen width rate mode : Nat} (hperst : d.boot.perstN = true) (hdown : d.get F.CXL_MODE = 0)
  (hheld : d.isHeld 39 = false) (hwidth : width ∈ [1, 2, 4, 8, 16]) (hmode : d.bestMode host = mode)
  (hlow : 3 ≤ rate) (hhigh : rate ≤ modeRate mode gen) (htop : modeRate mode gen ≤ 6)
include hperst hdown hheld hwidth hmode hlow hhigh htop

theorem linkTrained_trains : linkTrained host gen width rate k d =
    let up := (d.setAll (trainedLink mode gen width rate)).event k 624 (flcCxl 1)
    if width < 16 || rate < modeRate mode gen then (up.setBit F.CXL_STICKY 1).event k 625 (flcCxl 0) else up := by
  have hno : (!d.boot.perstN || d.get F.CXL_MODE != 0 || d.isHeld 39 || !([1, 2, 4, 8, 16].contains width) ||
      decide (rate < 3) || decide (modeRate mode gen < rate) || decide (6 < modeRate mode gen)) = false := by
    rw [List.contains_iff_mem.mpr hwidth]
    simp [hperst, hdown, hheld, hlow, hhigh, htop]
  simp only [linkTrained, hmode, hno, Bool.false_eq_true, if_false, trainedLink]

theorem linkTrained_shows :
    let b := linkTrained host gen width rate k d
    d.alikeBut [F.CXL_MODE, F.CXL_PCIE_GEN, F.CXL_WIDTH, F.CXL_RATE] b ∧
      (∀ p ∈ trainedLink mode gen width rate, b.get p.1 = p.2 % 2 ^ p.1.w) ∧
      (width < 16 ∨ rate < modeRate mode gen → bit (b.get F.CXL_STICKY) 1 = true) := by
  intro b
  have hsets := Dev.sets_setAll (trainedLink mode gen width rate) d (by simp only [trainedLink, List.map_cons]; decide)
  have hreport : (d.setAll (trainedLink mode gen width rate)).alike b := by
    show Dev.alike _ (linkTrained host gen width rate k d)
    rw [linkTrained_trains k hperst hdown hheld hwidth hmode hlow hhigh htop]
    dsimp only
    split
    · exact (Dev.alike_event _ _ _ _ (by decide)).trans ((Dev.alike_cxlBit _ 1).trans (Dev.alike_event _ _ _ _ (by decide)))
    · exact Dev.alike_event _ _ _ _ (by decide)
  refine ⟨Dev.sets_alike hsets hreport rfl, fun p hp => ?_, fun h => ?_⟩
  · have hstill : ∀ p ∈ trainedLink mode gen width rate, p.1.still = true := by
      simp only [trainedLink, List.forall_mem_cons]
      decide
    rw [hreport.get_eq p.1 (hstill p hp), hsets.2.1 p hp]
  · show bit ((linkTrained host gen width rate k d).get F.CXL_STICKY) 1 = true
    rw [linkTrained_trains k hperst hdown hheld hwidth hmode hlow hhigh htop]
    dsimp only
    rw [if_pos (by simpa using h)]
    exact Dev.cxlBit_event _ _ _ (by decide) (by decide)

end

/-! Resets of the link. -/

theorem Dev.get_resetFields (d : Dev) (lo hi : Nat) {f : Fld} (hl : f.lo < 32) :
    (d.resetFields lo hi).get f = if lo ≤ f.off ∧ f.off < hi then f.reset % 2 ^ f.w else d.get f := by
  have hkey : (lo * 32 ≤ f.key ∧ f.key < hi * 32) ↔ (lo ≤ f.off ∧ f.off < hi) := by simp only [Fld.key]; omega
  simp only [Dev.get, Dev.resetFields, tgetD_tclear, hkey]
  split <;> rfl

/-- What a reset of R413 writes of the rings. -/
def ringsOff : List (Fld × Nat) := (List.range 16).flatMap fun r => [(F.SQ_EN r, 0), (F.CQ_EN r, 0)]

theorem Dev.ringsReset_eq (d : Dev) : d.ringsReset = { d.setAll ringsOff with smi := { d.smi with
    fetched := d.smi.fetched.map (fun e => { e with noReply := true })
    waits := d.smi.waits.map (fun w => { w with noReply := true }) } } := by
  have hfold : (List.range 16).foldl (fun d r => (d.setB (F.SQ_EN r) false).setB (F.CQ_EN r) false) d = d.setAll ringsOff := by
    rw [Dev.setAll, ringsOff, List.foldl_flatMap]
    rfl
  have hsmi : (d.setAll ringsOff).smi = d.smi := by rw [Dev.setAll_eq]
  simp only [Dev.ringsReset, hfold, hsmi]

theorem ringsOff_nodup : (ringsOff.map fun p => p.1.key).Nodup := by decide

/-- The settings of a ring that a reset of R413 keeps. -/
def ringKept (r : Nat) : List Fld :=
  [F.SQ_SIZE_LOG2 r, F.SQ_CQ r, F.SQ_HEAD r, F.SQ_TAIL r, F.CQ_SIZE_LOG2 r, F.CQ_TAIL r]

theorem ringKept_other : ∀ r : Fin 16, ∀ f ∈ ringKept r, ∀ p ∈ ringsOff, f.key ≠ p.1.key := by decide

theorem Dev.get_ringsReset (d : Dev) (f : Fld) : d.ringsReset.get f = (d.setAll ringsOff).get f := by
  have hsmi : ∀ (e : Dev) (x : Smi), ({ e with smi := x }).get f = e.get f := fun _ _ => rfl
  rw [d.ringsReset_eq, hsmi]

theorem ringsOff_mem : ∀ r : Fin 16, (F.SQ_EN r, 0) ∈ ringsOff ∧ (F.CQ_EN r, 0) ∈ ringsOff := by decide

theorem Dev.ringsReset_en (d : Dev) (r : Fin 16) : d.ringsReset.get (F.SQ_EN r) = 0 ∧ d.ringsReset.get (F.CQ_EN r) = 0 := by
  obtain ⟨-, hget, -⟩ := Dev.sets_setAll ringsOff d ringsOff_nodup
  rw [d.get_ringsReset, d.get_ringsReset, hget _ (ringsOff_mem r).1, hget _ (ringsOff_mem r).2]
  exact ⟨Nat.zero_mod _, Nat.zero_mod _⟩

theorem Dev.get_ringsReset_of_ne (d : Dev) {f : Fld} (h : ∀ p ∈ ringsOff, f.key ≠ p.1.key) : d.ringsReset.get f = d.get f :=
  (d.get_ringsReset f).trans (d.get_setAll_of_ne h)

/-- What a reset of R413 leaves of a device (R413, R447). -/
structure Dev.LinkGone (d b : Dev) : Prop where
  off : ∀ r : Fin 16, b.get (F.SQ_EN r) = 0 ∧ b.get (F.CQ_EN r) = 0
  kept : ∀ r : Fin 16, ∀ f ∈ ringKept r, b.get f = d.get f
  smi : b.smi = { d.smi with fetched := d.smi.fetched.map (fun e => { e with noReply := true })
                             waits := d.smi.waits.map (fun w => { w with noReply := true }) }
  shut : ∀ f ∈ [F.CXL_HDM_COMMITTED, F.CXL_IDE_IO_SECURE, F.CXL_IDE_MEM_SECURE], b.get f = 0
  msix : b.msix = []
  poison : b.cxl.poison = d.cxl.poison
  ctrs : b.ctrs = d.ctrs
  index : b.index = d.index
  frames : b.frames = d.frames

/-- The fields that show the link, kept by a function-level reset. -/
def linkShown : List Fld := [F.CXL_MODE, F.CXL_PCIE_GEN, F.CXL_WIDTH, F.CXL_RATE]

/-- A link reset before its report. -/
def Dev.linkShut (d : Dev) (keep : Bool) : Dev :=
  if keep then d.cxlClear.ringsReset.setAll (linkShown.map fun f => (f, d.get f)) else d.cxlClear.ringsReset

theorem Dev.linkShut_true (d : Dev) : d.linkShut true = d.cxlClear.ringsReset.setAll (linkShown.map fun f => (f, d.get f)) := if_pos rfl

theorem Dev.linkShut_false (d : Dev) : d.linkShut false = d.cxlClear.ringsReset := if_neg Bool.false_ne_true

theorem Dev.cxlReset_alike (d : Dev) (k : Clock) (keep : Bool) : (d.linkShut keep).alike (d.cxlReset k keep) :=
  (Dev.alike_cxlBit _ 0).trans (Dev.alike_event _ k 624 (flcCxl 1) (by decide))

section
variable (d : Dev) (keep : Bool)

/-- Writing what shows the link changes no other field. -/
theorem Dev.get_linkShut_rings {f : Fld} (h : ∀ g ∈ linkShown, f.key ≠ g.key) :
    (d.linkShut keep).get f = d.cxlClear.ringsReset.get f := by
  cases keep
  · rw [d.linkShut_false]
  · rw [d.linkShut_true]
    refine Dev.get_setAll_of_ne _ fun p hp => ?_
    obtain ⟨g, hg, rfl⟩ := List.mem_map.mp hp
    exact h g hg

theorem Dev.linkShut_eq : d.linkShut keep = { d.cxlClear.ringsReset with fld := (d.linkShut keep).fld } := by
  cases keep
  · rw [d.linkShut_false]
  · rw [d.linkShut_true]
    exact Dev.setAll_eq _ _

theorem Dev.get_linkShut {f : Fld} (h : ∀ g ∈ linkShown, f.key ≠ g.key) (hring : ∀ p ∈ ringsOff, f.key ≠ p.1.key) (hl : f.lo < 32) :
    (d.linkShut keep).get f = if 0x3000000 ≤ f.off ∧ f.off < 0x3400000 then f.reset % 2 ^ f.w else d.get f := by
  rw [← d.get_resetFields _ _ hl, d.get_linkShut_rings keep h, d.cxlClear.get_ringsReset_of_ne hring]
  rfl

theorem Dev.linkShut_en (r : Fin 16) : (d.linkShut keep).get (F.SQ_EN r) = 0 ∧ (d.linkShut keep).get (F.CQ_EN r) = 0 := by
  have hne : ∀ r : Fin 16, ∀ g ∈ linkShown, (F.SQ_EN r).key ≠ g.key ∧ (F.CQ_EN r).key ≠ g.key := by decide
  rw [d.get_linkShut_rings keep fun g hg => (hne r g hg).1, d.get_linkShut_rings keep fun g hg => (hne r g hg).2]
  exact d.cxlClear.ringsReset_en r

/-- A function-level reset keeps what shows the link. -/
theorem Dev.linkShut_keeps {f : Fld} (hf : f ∈ linkShown) : (d.linkShut true).get f = d.get f := by
  have hnodup : (linkShown.map Fld.key).Nodup := by decide
  obtain ⟨-, hget, -⟩ := Dev.sets_setAll (linkShown.map fun f => (f, d.get f)) d.cxlClear.ringsReset (by rwa [List.map_map])
  rw [d.linkShut_true]
  exact (hget (f, d.get f) (List.mem_map_of_mem hf)).trans (Nat.mod_eq_of_lt (d.get_lt f))

theorem Dev.linkShut_down : (d.linkShut false).get F.CXL_MODE = 0 := by
  rw [d.linkShut_false, d.cxlClear.get_ringsReset_of_ne (by decide)]
  exact d.get_resetFields 0x3000000 0x3400000 (by decide)

theorem Dev.cxlReset_gone (k : Clock) : d.LinkGone (d.cxlReset k keep) := by
  have h := d.cxlReset_alike k keep
  have hkept : ∀ r : Fin 16, ∀ f ∈ ringKept r, f.still = true ∧ f.lo < 32 ∧ ¬ (0x3000000 ≤ f.off ∧ f.off < 0x3400000) ∧
      ∀ g ∈ linkShown, f.key ≠ g.key := by decide
  have hshut : ∀ f ∈ [F.CXL_HDM_COMMITTED, F.CXL_IDE_IO_SECURE, F.CXL_IDE_MEM_SECURE], f.still = true ∧ f.lo < 32 ∧
      (0x3000000 ≤ f.off ∧ f.off < 0x3400000) ∧ (∀ g ∈ linkShown, f.key ≠ g.key) ∧ (∀ p ∈ ringsOff, f.key ≠ p.1.key) ∧
      f.reset % 2 ^ f.w = 0 := by decide
  have hen : ∀ r : Fin 16, (F.SQ_EN r).still = true ∧ (F.CQ_EN r).still = true := by decide
  have hcells := d.linkShut_eq keep
  have hrings := d.cxlClear.ringsReset_eq
  have hsame := d.cxlClear.setAll_eq ringsOff
  constructor
  case off =>
    intro r
    rw [h.get_eq _ (hen r).1, h.get_eq _ (hen r).2]
    exact d.linkShut_en keep r
  case kept =>
    intro r f hf
    obtain ⟨hstill, hl, hout, hne⟩ := hkept r f hf
    rw [h.get_eq f hstill, d.get_linkShut keep hne (ringKept_other r f hf) hl, if_neg hout]
  case shut =>
    intro f hf
    obtain ⟨hstill, hl, hin, hne, hring, hzero⟩ := hshut f hf
    rw [h.get_eq f hstill, d.get_linkShut keep hne hring hl, if_pos hin, hzero]
  case smi => rw [h.smi_eq, hcells, hrings]; rfl
  case msix => rw [h.msix_eq, hcells, hrings, hsame]; rfl
  case poison => rw [h.cxl_eq, hcells, hrings, hsame]; rfl
  case ctrs => rw [h.ctrs_eq, hcells, hrings, hsame]; rfl
  case index => rw [h.index_eq, hcells, hrings, hsame]; rfl
  case frames => rw [h.frames_eq, hcells, hrings, hsame]; rfl

theorem Dev.cxlReset_boot (k : Clock) : (d.cxlReset k keep).boot = d.boot := by
  rw [(d.cxlReset_alike k keep).boot_eq, d.linkShut_eq keep, d.cxlClear.ringsReset_eq, d.cxlClear.setAll_eq ringsOff]
  rfl

theorem Dev.cxlReset_down (k : Clock) : (d.cxlReset k false).get F.CXL_MODE = 0 :=
  ((d.cxlReset_alike k false).get_eq F.CXL_MODE (by decide)).trans d.linkShut_down

theorem Dev.cxlReset_keeps (k : Clock) : ∀ f ∈ linkShown, (d.cxlReset k true).get f = d.get f := by
  have hstill : ∀ f ∈ linkShown, f.still = true := by decide
  intro f hf
  rw [(d.cxlReset_alike k true).get_eq f (hstill f hf), d.linkShut_keeps hf]

end

/-! Recovery. -/

/-- The count of Recovery, and the event of an uncorrectable error. -/
def Dev.recovering (d : Dev) (k : Clock) (u : Bool) : Dev :=
  if u then (d.satInc F.CXL_LINK_RECOVERIES).event k 628 (flcCxl 1) else d.satInc F.CXL_LINK_RECOVERIES

section
variable (d : Dev) (k : Clock) (u : Bool)

theorem Dev.recovering_alike : (d.satInc F.CXL_LINK_RECOVERIES).alike (d.recovering k u) := by
  cases u
  · exact Dev.alike_refl _
  · exact Dev.alike_event _ _ _ _ (by decide)

theorem Dev.recovering_counts : (d.recovering k u).get F.CXL_LINK_RECOVERIES =
    min (d.get F.CXL_LINK_RECOVERIES + 1) (2 ^ F.CXL_LINK_RECOVERIES.w - 1) := by
  have hw : min (2 ^ F.CXL_LINK_RECOVERIES.w - 1) (d.get F.CXL_LINK_RECOVERIES + 1) < 2 ^ F.CXL_LINK_RECOVERIES.w :=
    Nat.lt_of_le_of_lt (Nat.min_le_left _ _) (by decide)
  rw [(d.recovering_alike k u).get_eq _ (by decide), Dev.satInc_eq_min, Dev.get_set_self, Nat.mod_eq_of_lt hw, Nat.min_comm]

theorem Dev.recovering_alikeBut : d.alikeBut [F.CXL_LINK_RECOVERIES] (d.recovering k u) := by
  have h := d.recovering_alike k u
  rw [Dev.satInc_eq_min] at h
  exact Dev.sets_alike (d.sets_one _ _) h rfl

/-- What a reset leaves does not depend on the count of Recovery. -/
theorem Dev.LinkGone.of_recovering {d b : Dev} {k : Clock} {u : Bool} (h : (d.recovering k u).LinkGone b) : d.LinkGone b := by
  have he := d.recovering_alike k u
  have hkept : ∀ r : Fin 16, ∀ f ∈ ringKept r, f.still = true ∧ f.key ≠ F.CXL_LINK_RECOVERIES.key := by decide
  constructor
  case off => exact h.off
  case kept =>
    intro r f hf
    obtain ⟨hstill, hne⟩ := hkept r f hf
    rw [h.kept r f hf, he.get_eq f hstill]
    exact d.get_set_of_ne _ hne
  case smi => rw [h.smi, he.smi_eq]; rfl
  case shut => exact h.shut
  case msix => exact h.msix
  case poison => rw [h.poison, he.cxl_eq]; rfl
  case ctrs => rw [h.ctrs, he.ctrs_eq]; rfl
  case index => rw [h.index, he.index_eq]; rfl
  case frames => rw [h.frames, he.frames_eq]; rfl

theorem linkRecovery_runs (h : d.get F.CXL_MODE ≠ 0) (failed : Bool) :
    linkRecovery u failed k d = if failed then (d.recovering k u).cxlReset k false else d.recovering k u := if_neg h

end

/-- Settles O37: training by the mode it chooses, and each reset as the link being gone. -/
theorem linkStates : Obligations.LinkStates := by
  unfold Obligations.LinkStates
  refine ⟨?_, ?_⟩
  · intro host gen width rate s d hp hperst hdown hheld hwidth mode hmode top hlow hhigh htop
    obtain ⟨hbest, hle⟩ : d.bestMode host = mode ∧ mode ≤ 5 := by
      rcases hmode with ⟨rfl, h⟩ | ⟨n, hn, rfl, hb, hm, hj⟩
      · exact ⟨Dev.bestMode_pcie h, le_refl 5⟩
      · exact ⟨Dev.bestMode_cxl hn hb hm hj, by omega⟩
    have hgen : (if mode = 5 then gen else 0) ≤ 6 := by
      split
      · rename_i h5
        exact (show gen = top by simp [top, h5]) ▸ htop
      · omega
    have hw : width ≤ 16 := by
      simp only [List.mem_cons, List.not_mem_nil, or_false] at hwidth
      omega
    refine ends_onDev rfl hp ?_
    obtain ⟨halike, hfields, hflag⟩ := linkTrained_shows s.m.clk hperst hdown hheld hwidth hbest hlow hhigh htop
    simp only [trainedLink, List.forall_mem_cons] at hfields
    obtain ⟨hm, hg, hwid, hrate, -⟩ := hfields
    exact ⟨hm.trans (Nat.mod_eq_of_lt (Nat.lt_of_le_of_lt hle (by decide))),
      hg.trans (Nat.mod_eq_of_lt (Nat.lt_of_le_of_lt hgen (by decide))),
      hwid.trans (Nat.mod_eq_of_lt (Nat.lt_of_le_of_lt hw (by decide))),
      hrate.trans (Nat.mod_eq_of_lt (Nat.lt_of_le_of_lt (Nat.le_trans hhigh htop) (by decide))), halike, hflag⟩
  · intro s u d gone hp
    have hgone : ∀ {b : Dev}, d.LinkGone b → gone b := by
      intro b h
      refine ⟨fun r => ?_, h.smi, ?_⟩
      · have hkept := h.kept r
        simp only [ringKept, List.forall_mem_cons] at hkept
        obtain ⟨h1, h2, h3, h4, h5, h6, -⟩ := hkept
        exact ⟨(h.off r).1, (h.off r).2, h1, h2, h3, h4, h5, h6⟩
      · have hshut := h.shut
        simp only [List.forall_mem_cons] at hshut
        obtain ⟨h1, h2, h3, -⟩ := hshut
        exact ⟨h1, h2, h3, h.msix, h.poison, h.ctrs, h.index, h.frames⟩
    refine ⟨?_, fun hup => ⟨?_, ?_, ?_⟩, ends_onDev rfl hp rfl⟩
    · refine ends_onDev rfl hp ⟨hgone ?_, Dev.cxlReset_down _ _, ?_⟩
      · obtain ⟨h1, h2, h3, h4, h5, h6, h7, h8, h9⟩ :=
          Dev.cxlReset_gone { d with boot := { d.boot with perstN := false, pushGo := false } } false s.m.clk
        exact ⟨h1, h2, h3, h4, h5, h6, h7, h8, h9⟩
      · rw [perstN, Dev.cxlReset_boot]
    · refine ends_onDev rfl hp ?_
      rw [if_neg hup]
      exact ⟨hgone (d.cxlReset_gone true _), d.cxlReset_keeps _ _ (by decide), d.cxlReset_keeps _ _ (by decide),
        d.cxlReset_boot true _⟩
    · refine ends_onDev rfl hp ?_
      rw [linkRecovery_runs d _ u hup, if_pos rfl]
      refine ⟨hgone (Dev.cxlReset_gone _ false _).of_recovering, Dev.cxlReset_down _ _, ?_⟩
      rw [Dev.cxlReset_boot, (d.recovering_alike s.m.clk u).boot_eq]
      rfl
    · refine ends_onDev rfl hp ?_
      rw [linkRecovery_runs d _ u hup, if_neg Bool.false_ne_true]
      exact ⟨d.recovering_alikeBut _ u, d.recovering_counts _ u⟩

end Sys2Proof.Machine
end

section
/-! Proofs: the window, IDE and MSI-X (R404 to R412). -/

namespace Sys2Proof.Machine
open Sys2Proof

/-! Requests on the window. -/

/-- The poisoned lines after a whole line is written. -/
def poisonLine (ls : List Nat) (line : Nat) (p : Bool) : List Nat :=
  if p then ls.filter (fun l => l != line) ++ [line] else ls.filter (fun l => l != line)

theorem mem_poisonLine {ls : List Nat} {line l : Nat} {p : Bool} :
    l ∈ poisonLine ls line p ↔ if l = line then p = true else l ∈ ls := by
  cases p <;> by_cases h : l = line <;> simp [poisonLine, h]

section
variable {m : Mach} {addr a : Nat} (data : Bytes) (p : Bool) (hcxl : m.dev.inCxl = true) (hheld : m.dev.isHeld 39 = false)
  (hide : m.dev.ideRefuses F.CXL_IDE_MEM_SECURE = false) (ha : m.dev.decode addr = some a)
include hcxl hheld hide ha

theorem memRequest_active (write : Bool) (e : ReadErr) (hact : m.dev.memoryActive = true) :
    memRequest write addr data p e m = windowAccess write addr a data p e m := by
  simp [memRequest, hcxl, hheld, hide, ha, hact]

theorem memRequest_inactive (e : ReadErr) (hact : m.dev.memoryActive = false) : memRequest false addr data p e m =
    m.setDev (((m.dev.setBit F.CXL_STICKY 4).draw 512).2.emit (.memRead addr (toLE ((m.dev.setBit F.CXL_STICKY 4).draw 512).1 64) true)) := by
  simp [memRequest, hcxl, hheld, hide, ha, hact]

end

section
variable (m : Mach) (addr a : Nat) (data : Bytes) (p : Bool)

theorem windowAccess_read : windowAccess false addr a data p .clean m = m.setDev (m.dev.emit (.memRead addr
    (mread m.dram (regionBase regWindow + 64 * (a / 64)) 64) (m.dev.cxl.poison.contains (a / 64)))) := by
  simp only [windowAccess, Bool.false_and, Bool.false_eq_true, if_false, Bool.not_false, if_true]
  split <;> rfl

/-- A write of a whole line. -/
theorem windowAccess_line (ha : a % 64 = 0) (hlen : data.length = 64) : windowAccess true addr a data p .clean m =
    { m with dram := mwrite m.dram (regionBase regWindow + a) data
             dev := m.dev.onCxl fun c => { c with poison := poisonLine m.dev.cxl.poison (a / 64) p } } := by
  have htake : data.take (64 - a % 64) = data := by rw [ha, ← hlen, Nat.sub_zero, List.take_length]
  have hat : regionBase regWindow + 64 * (a / 64) + a % 64 = regionBase regWindow + a := by omega
  simp only [windowAccess, htake, hlen, hat]
  simp [poisonLine]

end

/-- A whole line written, byte by byte. -/
theorem mget_mwrite_line (m : Memory) (at_ : Nat) {bs : Bytes} (h : bs.length = 64) (i : Nat) :
    mget (mwrite m at_ bs) i = if at_ ≤ i ∧ i < at_ + 64 then byteAt bs (i - at_) else mget m i := by
  split
  · rename_i hin
    obtain ⟨j, rfl⟩ := Nat.exists_eq_add_of_le hin.1
    rw [mget_mwrite_inside bs m at_ j (by omega), Nat.add_sub_cancel_left]
    rfl
  · exact mget_mwrite_outside bs m at_ i (by omega)

/-! The decoder. -/

/-- A decoder refused, before the report. -/
def Dev.hdmRefused (d : Dev) (base size : Nat) (lock : Bool) : Dev :=
  (d.onCxl fun _ => { d.cxl with base := base - base % 2 ^ 28, size := size, lock := lock, refused := true }).set F.CXL_HDM_COMMITTED 0

section
variable {d : Dev} (k : Clock) (base size : Nat) (lock : Bool) (hcxl : d.inCxl = true) (hheld : d.isHeld 39 = false)
  (hopen : d.flag F.CXL_HDM_COMMITTED = false ∨ d.cxl.lock = false)
include hcxl hheld hopen

theorem hdmCommit_runs : hdmCommit base size true lock true k d =
    let d1 := d.onCxl (fun c => { c with base := base - base % 2 ^ 28, size := size, lock := lock, refused := false })
    if d.flag F.HBM_ALLOC_DONE && size = d.windowSize then d1.setB F.CXL_HDM_COMMITTED true
    else (((d1.onCxl (fun c => { c with refused := true })).setB F.CXL_HDM_COMMITTED false).setBit F.CXL_STICKY 3).event k 627 (flcCxl 3) := by
  have hno : (!d.inCxl || (d.flag F.CXL_HDM_COMMITTED && d.cxl.lock) || d.isHeld 39) = false := by
    rcases hopen with h | h <;> simp [hcxl, hheld, h]
  simp only [hdmCommit, hno, Bool.false_eq_true, if_false, Bool.not_true, Bool.and_true]

theorem hdmCommit_commits (hdone : d.flag F.HBM_ALLOC_DONE = true) (hsize : size = d.windowSize) :
    let b := hdmCommit base size true lock true k d
    b.cxl = { d.cxl with base := base - base % 2 ^ 28, size := size, lock := lock, refused := false } ∧
      d.sets [(F.CXL_HDM_COMMITTED, 1)] { b with cxl := d.cxl } := by
  intro b
  have hb : b = (d.onCxl (fun c => { c with base := base - base % 2 ^ 28, size := size, lock := lock, refused := false })).setB
      F.CXL_HDM_COMMITTED true :=
    (hdmCommit_runs k base size lock hcxl hheld hopen).trans (if_pos (by simp [hdone, hsize]))
  rw [hb]
  exact ⟨rfl, d.sets_one F.CXL_HDM_COMMITTED 1⟩

theorem hdmCommit_refuses (h : d.flag F.HBM_ALLOC_DONE = false ∨ size ≠ d.windowSize) :
    let b := hdmCommit base size true lock true k d
    b.get F.CXL_HDM_COMMITTED = 0 ∧ b.cxl.refused = true ∧ bit (b.get F.CXL_STICKY) 3 = true ∧
      d.alikeBut [F.CXL_HDM_COMMITTED] { b with cxl := d.cxl } := by
  intro b
  have hno : (d.flag F.HBM_ALLOC_DONE && decide (size = d.windowSize)) = false := by rcases h with h | h <;> simp [h]
  have hb : b = ((d.hdmRefused base size lock).setBit F.CXL_STICKY 3).event k 627 (flcCxl 3) :=
    (hdmCommit_runs k base size lock hcxl hheld hopen).trans (if_neg (by simp [hno]))
  have hreport : (d.hdmRefused base size lock).alike b := by
    rw [hb]
    exact (Dev.alike_cxlBit _ 3).trans (Dev.alike_event _ k 627 (flcCxl 3) (by decide))
  refine ⟨?_, ?_, ?_, congrArg (fun e : Dev => { e with cxl := d.cxl }) hreport.1, fun f hf hne => ?_⟩
  · rw [hreport.get_eq _ (by decide), Dev.hdmRefused, Dev.get_set_self, Nat.zero_mod]
  · rw [hreport.cxl_eq]
    rfl
  · rw [hb]
    exact Dev.cxlBit_event _ _ _ (by decide) (by decide)
  · exact (hreport.get_eq f hf).trans (Dev.get_set_of_ne _ _ (hne _ (by simp)))

end

/-! IDE. -/

theorem ideStream_still (mem : Bool) : (ideStream mem).still = true := by cases mem <;> rfl

theorem ideKey_secures {d : Dev} (mem : Bool) (k : Clock) (hlow : 1 ≤ d.get F.CXL_MODE) (hhigh : d.get F.CXL_MODE ≤ 3)
    (hheld : d.isHeld 39 = false) : ideKey mem k d = d.set (ideStream mem) 1 := if_pos (by simp [hlow, hhigh, hheld])

theorem ideFail_ends {d : Dev} (mem : Bool) (k : Clock) (h : d.flag (ideStream mem) = true) :
    let b := ideFail mem k d
    b.get (ideStream mem) = 0 ∧ bit (b.get F.CXL_STICKY) 2 = true ∧ d.alikeBut [ideStream mem] b := by
  intro b
  have hb : b = ((d.set (ideStream mem) 0).setBit F.CXL_STICKY 2).event k 626 (flcCxl 4) := if_pos h
  have hreport : (d.set (ideStream mem) 0).alike b := by
    rw [hb]
    exact (Dev.alike_cxlBit _ 2).trans (Dev.alike_event _ k 626 (flcCxl 4) (by decide))
  refine ⟨?_, ?_, Dev.sets_alike (d.sets_one _ 0) hreport rfl⟩
  · rw [hreport.get_eq _ (ideStream_still mem), Dev.get_set_self, Nat.zero_mod]
  · rw [hb]
    exact Dev.cxlBit_event _ _ _ (by decide) (by decide)

/-! MSI-X. -/

theorem msixUnmask_sends {d : Dev} {v addr : Nat} (data : Nat) (k : Clock) (hv : v ∈ d.msixPend) (ha : addr ≠ 0) :
    msixUnmask v addr data k d = { d with
      msix := tset d.msix v ⟨addr, data⟩, msixPend := d.msixPend.filter (· != v), out := d.out ++ [.msix addr data] } := by
  simp [msixUnmask, hv, Dev.sendMsix, ha, Dev.emit]

theorem msixUnmask_takes {d : Dev} {v : Nat} (addr data : Nat) (k : Clock) (hv : v ∉ d.msixPend) :
    msixUnmask v addr data k d = { d with msix := tset d.msix v ⟨addr, data⟩ } := if_neg (by simpa using hv)

/-- Settles O38: each request by the branch its address, mode and vector select. -/
theorem windowAndInterrupts : Obligations.WindowAndInterrupts := by
  unfold Obligations.WindowAndInterrupts
  refine ⟨?_, ?_⟩
  · intro addr a data p lock size base s d hp hcxl
    refine ⟨fun hheld hide ha hact => ⟨?_, fun hmod hlen => ?_⟩, fun hheld hide ha hact => ?_, fun hheld hopen => ⟨fun hdone hsize => ?_,
      fun h => ?_⟩, ?_⟩
    · refine ends_onMach (f := memRequest false addr data p .clean) rfl hp ?_ rfl
      rw [memRequest_active data p hcxl hheld hide ha false .clean hact, windowAccess_read]
      rfl
    · refine ⟨_, onMach_run _ hp, ?_⟩
      rw [memRequest_active data p hcxl hheld hide ha true .clean hact, windowAccess_line s.m addr a data p hmod hlen]
      exact ⟨rfl, rfl, fun l => mem_poisonLine, mget_mwrite_line _ _ hlen⟩
    · refine ends_onMach (f := memRequest false addr data p .clean) rfl hp
        (memRequest_inactive data p hcxl hheld hide ha .clean hact) ⟨rfl, ?_⟩
      exact d.bit_setBit (f := F.CXL_STICKY) (by decide)
    · exact ends_onDev rfl hp (hdmCommit_commits _ base size lock hcxl hheld hopen hdone hsize)
    · exact ends_onDev rfl hp (hdmCommit_refuses _ base size lock hcxl hheld hopen h)
    · refine ends_onDev rfl hp ?_
      rw [if_pos hcxl]
      rfl
  · intro mem v addr data s d stream hp
    refine ⟨fun hlow hhigh hheld => ends_onDev rfl hp ?_, fun h => ends_onDev rfl hp (ideFail_ends mem _ h),
      fun hv ha => ends_onDev rfl hp (msixUnmask_sends _ _ hv ha), fun hv => ends_onDev rfl hp (msixUnmask_takes _ _ _ hv)⟩
    rw [ideKey_secures mem _ hlow hhigh hheld]
    exact d.sets_one _ 1

end Sys2Proof.Machine
end

section
/-! Proofs: the steps of bring-up, the fatal failure, and the image that boots (R540 to R544). -/

namespace Sys2Proof.Machine
open Sys2Proof

/-! A step completed, and the fatal failure. -/

theorem Dev.setStep_shows (d : Dev) {n : Nat} (hn : n < 16) : (d.setStep n).boot.step = n ∧ (d.setStep n).get F.BT_STEP = n :=
  ⟨rfl, (Dev.get_set_self _ _ _).trans (Nat.mod_eq_of_lt hn)⟩

theorem Dev.get_setStep_of_ne (d : Dev) (n : Nat) {f : Fld} (h : f.key ≠ F.BT_STEP.key) : (d.setStep n).get f = d.get f :=
  Dev.get_set_of_ne _ _ h

theorem Dev.fatal_shows (d : Dev) {code : Nat} (hc : code < 256) :
    (d.fatal code).get F.BT_FAILED = 1 ∧ (d.fatal code).get F.BT_FAIL_CODE = code ∧ (d.fatal code).boot.faultN = false ∧
      (d.fatal code).boot.porN = d.boot.porN := by
  obtain ⟨heq, hget, -⟩ := Dev.sets_setAll [(F.BT_FAILED, 1), (F.BT_FAIL_CODE, code)] d (by simp only [List.map_cons]; decide)
  simp only [List.forall_mem_cons] at hget
  obtain ⟨hfailed, hcode, -⟩ := hget
  refine ⟨hfailed, hcode.trans (Nat.mod_eq_of_lt hc), rfl, ?_⟩
  show (d.setAll [(F.BT_FAILED, 1), (F.BT_FAIL_CODE, code)]).boot.porN = d.boot.porN
  rw [heq]

/-! The flash areas. -/

theorem byteAt_mread (m : Memory) (a : Nat) {n i : Nat} (h : i < n) : byteAt (mread m a n) i = mget m (a + i) := by
  induction n generalizing a i with
  | zero => omega
  | succ n ih =>
    cases i with
    | zero => rfl
    | succ i =>
      show byteAt (mread m (a + 1) n) i = mget m (a + (i + 1))
      rw [ih (a + 1) (by omega), Nat.add_right_comm, Nat.add_assoc]

/-- A field of a memory read, read from the memory itself. -/
theorem leAt_mread (m : Memory) (a : Nat) {n o w : Nat} (h : o + w ≤ n) : leAt (mread m a n) o w = leNat (mread m (a + o) w) := by
  have hslice : sliceZ (mread m a n) o w = sliceZ (mread m (a + o) w) 0 w := by
    rw [sliceZ_eq_map, sliceZ_eq_map]
    refine List.map_congr_left fun i hi => ?_
    have hlt := List.mem_range.mp hi
    rw [byteAt_mread m a (by omega), byteAt_mread m (a + o) (by omega), Nat.zero_add, Nat.add_assoc]
  have hwhole : sliceZ (mread m (a + o) w) 0 w = mread m (a + o) w := by
    have := sliceZ_append_left (b := mread m (a + o) w) (c := []) (Tests.length_mread m (a + o) w)
    rwa [List.append_nil] at this
  rw [leAt, hslice, hwhole]

/-- An image area as it is read. -/
@[irreducible] def Dev.area (d : Dev) (b : Bool) : Bytes := mread d.boot.flash (areaBase b) areaSize

theorem Dev.areaSerial_eq (d : Dev) (b : Bool) : d.areaSerial b = leAt (d.area b) 4 4 := by
  rw [Dev.areaSerial, Dev.area, leAt_mread d.boot.flash (areaBase b) (by unfold areaSize; omega)]

/-- The area tried first: the higher SERIAL, A at a tie (R543). -/
def Dev.areaFirst (d : Dev) : Bool := decide (leAt (d.area false) 4 4 < leAt (d.area true) 4 4)

theorem Dev.area_setStep (d : Dev) (n : Nat) (b : Bool) : (d.setStep n).area b = d.area b := by
  rw [Dev.area, Dev.area]
  rfl

theorem Dev.areaFirst_setStep (d : Dev) (n : Nat) : (d.setStep n).areaFirst = d.areaFirst := by
  rw [Dev.areaFirst, d.area_setStep, d.area_setStep]
  rfl

theorem Dev.areaOrder_eq (d : Dev) : d.areaOrder = [d.areaFirst, !d.areaFirst] := by
  rw [Dev.areaOrder, d.areaSerial_eq, d.areaSerial_eq, Dev.areaFirst]
  by_cases h : leAt (d.area false) 4 4 < leAt (d.area true) 4 4
  · rw [if_neg (Nat.not_le.mpr h), decide_eq_true h]
    rfl
  · rw [if_pos (Nat.not_lt.mp h), decide_eq_false h]
    rfl

/-! The image that boots. -/

theorem Dev.boots_shows (d : Dev) {i : Image} (hs : i.source < 4) :
    (d.boots i).boot.step = 4 ∧ (d.boots i).get F.BT_STEP = 4 ∧ (d.boots i).boot.image = some i ∧
      (d.boots i).get F.BT_SOURCE = i.source := by
  obtain ⟨hstep, hshown⟩ :=
    ({ d with boot := { d.boot with image := some i, pushWait := false, pushGo := false } }.set F.BT_SOURCE i.source).setStep_shows
      (n := 4) (by decide)
  refine ⟨hstep, hshown, rfl, ?_⟩
  rw [Dev.boots, Dev.get_setStep_of_ne _ _ (by decide), Dev.get_set_self]
  exact Nat.mod_eq_of_lt hs

section
variable {d : Dev} (k : Clock)

/-- With every area read and signed, an area passes by its image alone. -/
theorem Dev.bootFlash_found {x : Bool} (h : d.areaOrder.find? (fun b => imageGood (d.area b)) = some x) :
    d.bootFlash k [] [] = d.boots (imageOf ((if x then 1 else 0) + 1) (d.areaOrder.head? != some x) (d.area x)) := by
  simp only [Dev.area] at h ⊢
  simp only [Dev.bootFlash, List.contains_nil, Bool.not_false, Bool.true_and, h, List.filter_false, List.foldl_nil]

theorem Dev.bootFlash_lost (h : d.areaOrder.find? (fun b => imageGood (d.area b)) = none) (hsel : d.get F.BT_BOOT_SEL ≠ 2) :
    d.bootFlash k [] [] = d.fatal 4 := by
  simp only [Dev.area] at h
  simp only [Dev.bootFlash, List.contains_nil, Bool.not_false, Bool.true_and, h, List.filter_false, List.foldl_nil, hsel, if_false]

theorem Dev.bootFlash_first (h : imageGood (d.area d.areaFirst) = true) :
    d.bootFlash k [] [] = d.boots (imageOf (if d.areaFirst then 2 else 1) false (d.area d.areaFirst)) := by
  rw [Dev.bootFlash_found k (x := d.areaFirst) (by rw [d.areaOrder_eq, List.find?_cons, h]), d.areaOrder_eq, List.head?_cons,
    bne_self_eq_false]
  cases d.areaFirst <;> rfl

theorem Dev.bootFlash_none (ha : imageGood (d.area false) = false) (hb : imageGood (d.area true) = false)
    (hsel : d.get F.BT_BOOT_SEL ≠ 2) : d.bootFlash k [] [] = d.fatal 4 := by
  have hbad : ∀ b, imageGood (d.area b) = false := fun b => by cases b <;> assumption
  exact Dev.bootFlash_lost k (List.find?_eq_none.mpr fun b _ => by simp [hbad b]) hsel

variable {push : HostRead}

theorem Dev.bootPush_boots (hw : push.ended = .whole) (h : imageGood (sliceZ push.bytes 0 (d.get F.BT_PUSH_LEN)) = true) :
    d.bootPush push [] = d.boots (imageOf 3 false (sliceZ push.bytes 0 (d.get F.BT_PUSH_LEN))) := if_pos (by simp [hw, h])

theorem Dev.bootPush_refused (h : push.ended ≠ .whole ∨ imageGood (sliceZ push.bytes 0 (d.get F.BT_PUSH_LEN)) = false) :
    d.bootPush push [] = ({ d with boot := { d.boot with pushGo := false } }).set F.BT_PUSH_FAIL 1 :=
  if_neg (by rcases h with h | h <;> simp [h])

variable (hf : d.flag F.BT_FAILED = false) (hs : d.boot.step = 2 ∨ d.boot.step = 3)
include hf hs

theorem bootCheck_flash (h : d.boot.pushWait = false) : bootCheck push [] [] k d = (d.setStep 3).bootFlash k [] [] := by
  have hgo : (d.flag F.BT_FAILED || !([2, 3].contains d.boot.step)) = false := by rcases hs with hs | hs <;> simp [hf, hs]
  simp only [bootCheck, hgo, Bool.false_eq_true, if_false, Dev.setStep, Dev.set_boot, h, Bool.not_false, if_true]

theorem bootCheck_push (h : d.boot.pushWait = true) (hp : d.boot.pushGo = true) :
    bootCheck push [] [] k d = (d.setStep 3).bootPush push [] := by
  have hgo : (d.flag F.BT_FAILED || !([2, 3].contains d.boot.step)) = false := by rcases hs with hs | hs <;> simp [hf, hs]
  simp only [bootCheck, hgo, Bool.false_eq_true, if_false, Dev.setStep, Dev.set_boot, h, hp, Bool.not_true, if_true]

end

/-- Settles O40: by the area tried first, whose serial is the higher. -/
theorem imageBoots : Obligations.ImageBoots := by
  unfold Obligations.ImageBoots
  intro push s d hp hf hs a b
  have ha : a = d.area false := by rw [Dev.area]; rfl
  have hb : b = d.area true := by rw [Dev.area]; rfl
  clear_value a b
  subst ha hb
  intro second first img boots
  have hlen : (d.setStep 3).get F.BT_PUSH_LEN = d.get F.BT_PUSH_LEN := d.get_setStep_of_ne 3 (by decide)
  have hfirst : (d.setStep 3).area (d.setStep 3).areaFirst = first := by
    rw [d.area_setStep, d.areaFirst_setStep]
    show d.area second = if second then d.area true else d.area false
    cases second <;> rfl
  have hdev : ∀ {post : Dev → Prop}, post (bootCheck push [] [] s.m.clk d) → ends (.bootImageCheck push [] []) s post :=
    fun hpost => ends_onDev rfl hp hpost
  refine ⟨fun hwait => ⟨fun hgood => hdev ?_, fun ha hb hsel => hdev ?_⟩,
    fun hwait hgo => ⟨fun hw hgood => hdev ?_, fun hbad => hdev ?_⟩⟩
  · rw [bootCheck_flash _ hf hs hwait, Dev.bootFlash_first _ (by rwa [hfirst]), hfirst, d.areaFirst_setStep]
    refine Dev.boots_shows _ ?_
    show (if second then 2 else 1) < 4
    split <;> decide
  · rw [bootCheck_flash _ hf hs hwait, Dev.bootFlash_none _ (by rwa [d.area_setStep]) (by rwa [d.area_setStep])
      (by rwa [d.get_setStep_of_ne 3 (by decide)])]
    obtain ⟨h1, h2, h3, -⟩ := (d.setStep 3).fatal_shows (code := 4) (by decide)
    exact ⟨h1, h2, h3⟩
  · rw [bootCheck_push _ hf hs hwait hgo, Dev.bootPush_boots hw (by rwa [hlen]), hlen]
    exact Dev.boots_shows _ (show (3 : Nat) < 4 by decide)
  · rw [bootCheck_push _ hf hs hwait hgo, Dev.bootPush_refused (by rwa [hlen])]
    exact ⟨Dev.get_set_self _ _ _, rfl, rfl⟩

end Sys2Proof.Machine
end

section
/-! Proofs: POR_N and the repair of step 2 (R511, R539 to R541). -/

namespace Sys2Proof.Machine
open Sys2Proof

/-! POR_N asserted. -/

/-- The device that POR_N leaves, but for the fuses. -/
def Dev.cleared (d : Dev) : Dev := { Dev.reset with
  boot := { Dev.reset.boot with flash := d.boot.flash, perstN := d.boot.perstN }
  free := d.free
  out := d.out }

/-- The fuses that the OEM has burnt. -/
def Dev.oemFuses (d : Dev) : List (Fld × Nat) :=
  [(F.BT_OEM_FUSE_LO, d.get F.BT_OEM_FUSE_LO), (F.BT_OEM_FUSE_HI, d.get F.BT_OEM_FUSE_HI)]

theorem porAssert_eq (m : Mach) : porAssert m = ⟨Clock.reset, m.dev.cleared.setAll m.dev.oemFuses, []⟩ := rfl

theorem Dev.cleared_shows (d : Dev) :
    let b := d.cleared.setAll d.oemFuses
    b.boot.porN = false ∧ b.boot.flash = d.boot.flash ∧ b.get F.BT_OEM_FUSE_LO = d.get F.BT_OEM_FUSE_LO ∧
      b.get F.BT_OEM_FUSE_HI = d.get F.BT_OEM_FUSE_HI ∧
      ∀ f : Fld, f.key ≠ F.BT_OEM_FUSE_LO.key → f.key ≠ F.BT_OEM_FUSE_HI.key → b.get f = Dev.reset.get f := by
  intro b
  obtain ⟨heq, hget, hkeep⟩ := Dev.sets_setAll d.oemFuses d.cleared (by simp only [Dev.oemFuses, List.map_cons]; decide)
  simp only [Dev.oemFuses, List.forall_mem_cons] at hget
  obtain ⟨hlo, hhi, -⟩ := hget
  have hboot : b.boot = d.cleared.boot := (congrArg Dev.boot heq).trans rfl
  refine ⟨?_, ?_, hlo.trans (Nat.mod_eq_of_lt (d.get_lt _)), hhi.trans (Nat.mod_eq_of_lt (d.get_lt _)),
    fun f h h' => hkeep f (by simpa [Dev.oemFuses] using ⟨h, h'⟩)⟩
  · rw [hboot]
    rfl
  · rw [hboot]
    rfl

/-! Banks that cannot be repaired. -/

/-- The fields of a scratchpad bank that a failed repair writes. -/
def bankFields (b : Nat) : List Fld := [F.SC_FAILED b, F.SC_POWERED b, F.SC_OWNER b]

theorem Dev.bankDead_sets (d : Dev) (b : Nat) :
    d.sets [(F.SC_FAILED b, 1), (F.SC_POWERED b, 0), (F.SC_OWNER b, ownerNone)] (d.bankDead b) :=
  Dev.sets_setAll _ d (by simp [Fld.key, F.SC_FAILED, F.SC_POWERED, F.SC_OWNER])

theorem bankFields_key_ne {x b : Nat} (h : x ≠ b) : ∀ f ∈ bankFields x, ∀ g ∈ bankFields b, f.key ≠ g.key := by
  simp only [bankFields, List.forall_mem_cons, Fld.key, F.SC_FAILED, F.SC_POWERED, F.SC_OWNER]
  simp
  omega

/-- The banks that failed lose their power and their owner; the fields of the others stay. -/
theorem Dev.get_banksDead {x : Nat} {f : Fld} {v : Nat} (hf : f ∈ bankFields x) (hv : ∀ d : Dev, (d.bankDead x).get f = v)
    (banks : List Nat) (d : Dev) : (banks.foldl Dev.bankDead d).get f = if x ∈ banks then v else d.get f := by
  induction banks generalizing d with
  | nil => simp
  | cons b banks ih =>
    rw [List.foldl_cons, ih]
    by_cases hb : x = b
    · subst hb
      simp [hv d]
    · have hkeep : (d.bankDead b).get f = d.get f := (d.bankDead_sets b).2.2 f fun p hp =>
        bankFields_key_ne hb f hf p.1 (by simpa [bankFields] using List.mem_map_of_mem (f := Prod.fst) hp)
      simp [hb, hkeep]

theorem Dev.get_banksDead_of_ne {f : Fld} (hf : ∀ b, ∀ g ∈ bankFields b, f.key ≠ g.key) (banks : List Nat) (d : Dev) :
    (banks.foldl Dev.bankDead d).get f = d.get f :=
  List.foldlRecOn (motive := fun e : Dev => e.get f = d.get f) banks Dev.bankDead rfl fun e he b _ =>
    ((e.bankDead_sets b).2.2 f fun p hp => hf b p.1 (by simpa [bankFields] using List.mem_map_of_mem (f := Prod.fst) hp)).trans he

theorem bankFields_of_boot {f : Fld} (h : f.key < 0x400000 * 32) (b : Nat) : ∀ g ∈ bankFields b, f.key ≠ g.key := by
  simp only [bankFields, List.forall_mem_cons]
  simp only [Fld.key, F.SC_FAILED, F.SC_POWERED, F.SC_OWNER] at h ⊢
  simp
  omega

theorem Dev.banksDead_boot (banks : List Nat) (d : Dev) : (banks.foldl Dev.bankDead d).boot = d.boot :=
  List.foldlRecOn (motive := fun e : Dev => e.boot = d.boot) banks Dev.bankDead rfl fun e he b _ => by
    rw [(e.bankDead_sets b).1]
    exact he

/-! Step 2. -/

/-- The banks as the repair finds them, before it closes step 2. -/
def Dev.repaired (d : Dev) (spares : Nat × Nat) (failed : List Nat) : Dev :=
  failed.foldl Dev.bankDead ((d.setAll [(F.BT_SPARES_EAST, spares.1), (F.BT_SPARES_WEST, spares.2)]).setAll
    ((List.range 64).map fun b => (F.SC_FAILED b, 0)))

theorem Dev.repair_eq (d : Dev) (spares : Nat × Nat) (failed : List Nat) : d.repair spares failed =
    if 17 < spares.1 || 17 < spares.2 then (d.repaired spares failed).fatal 2
    else if failed.any (· < 4) then (d.repaired spares failed).fatal 3
    else (if failed.isEmpty then d.repaired spares failed else (d.repaired spares failed).setB F.BT_DEGRADED true).setStep 2 := rfl

section
variable (d : Dev) (spares : Nat × Nat) (failed : List Nat)

theorem Dev.repaired_boot : (d.repaired spares failed).boot = d.boot := by
  rw [Dev.repaired, Dev.banksDead_boot, Dev.setAll_eq, Dev.setAll_eq d]

/-- A register of bring-up as the repair leaves it. -/
theorem Dev.get_repaired {f : Fld} (hf : f.key < 0x400000 * 32) :
    (d.repaired spares failed).get f = (d.setAll [(F.BT_SPARES_EAST, spares.1), (F.BT_SPARES_WEST, spares.2)]).get f := by
  rw [Dev.repaired, Dev.get_banksDead_of_ne (bankFields_of_boot hf)]
  refine Dev.get_setAll_of_ne _ fun p hp => ?_
  obtain ⟨b, -, rfl⟩ := List.mem_map.mp hp
  exact bankFields_of_boot hf b _ (by simp [bankFields])

theorem Dev.repaired_spares (he : spares.1 ≤ 17) (hw : spares.2 ≤ 17) :
    (d.repaired spares failed).get F.BT_SPARES_EAST = spares.1 ∧ (d.repaired spares failed).get F.BT_SPARES_WEST = spares.2 := by
  obtain ⟨-, hget, -⟩ := Dev.sets_setAll [(F.BT_SPARES_EAST, spares.1), (F.BT_SPARES_WEST, spares.2)] d
    (by simp only [List.map_cons]; decide)
  simp only [List.forall_mem_cons] at hget
  obtain ⟨heast, hwest, -⟩ := hget
  rw [d.get_repaired _ _ (by decide), d.get_repaired _ _ (by decide), heast, hwest]
  exact ⟨Nat.mod_eq_of_lt (Nat.lt_of_le_of_lt he (by decide)), Nat.mod_eq_of_lt (Nat.lt_of_le_of_lt hw (by decide))⟩

theorem Dev.get_repaired_kept {f : Fld} (hf : f.key < 0x400000 * 32) (he : f.key ≠ F.BT_SPARES_EAST.key)
    (hw : f.key ≠ F.BT_SPARES_WEST.key) : (d.repaired spares failed).get f = d.get f :=
  (d.get_repaired _ _ hf).trans (Dev.get_setAll_of_ne d (by simpa using ⟨he, hw⟩))

theorem Dev.repaired_bank (x : Fin 64) : (d.repaired spares failed).get (F.SC_FAILED x) = (if x.val ∈ failed then 1 else 0) ∧
    (x.val ∈ failed → (d.repaired spares failed).get (F.SC_OWNER x) = 0 ∧ (d.repaired spares failed).get (F.SC_POWERED x) = 0) := by
  have hdead : ∀ e : Dev, (e.bankDead x).get (F.SC_FAILED x) = 1 ∧ (e.bankDead x).get (F.SC_POWERED x) = 0 ∧
      (e.bankDead x).get (F.SC_OWNER x) = 0 := by
    intro e
    have hget := (e.bankDead_sets x).2.1
    simp only [List.forall_mem_cons] at hget
    obtain ⟨h1, h2, h3, -⟩ := hget
    exact ⟨h1, h2, h3⟩
  have hnodup : (((List.range 64).map fun b => (F.SC_FAILED b, 0)).map fun p => p.1.key).Nodup := by decide
  have hclear : ∀ e : Dev, (e.setAll ((List.range 64).map fun b => (F.SC_FAILED b, 0))).get (F.SC_FAILED x) = 0 := fun e =>
    (Dev.sets_setAll _ e hnodup).2.1 (F.SC_FAILED x, 0) (List.mem_map_of_mem (f := fun b => (F.SC_FAILED b, 0)) (List.mem_range.mpr x.isLt))
  refine ⟨?_, fun hx => ⟨?_, ?_⟩⟩
  · rw [Dev.repaired, Dev.get_banksDead (by simp [bankFields]) fun e => (hdead e).1, hclear]
  · rw [Dev.repaired, Dev.get_banksDead (by simp [bankFields]) fun e => (hdead e).2.2, if_pos hx]
  · rw [Dev.repaired, Dev.get_banksDead (by simp [bankFields]) fun e => (hdead e).2.1, if_pos hx]

end

/-! POR_N released. -/

/-- The device at t0, with BOOT_SEL sampled. -/
def Dev.released (d : Dev) (sel : Nat) : Dev :=
  ({ d with boot := { d.boot with porN := true, pushWait := sel == 1 } }).set F.BT_BOOT_SEL sel

/-- A device that has failed fatally at its release. -/
def Dev.deadAt (code : Nat) (b : Dev) : Prop :=
  b.get F.BT_FAILED = 1 ∧ b.get F.BT_FAIL_CODE = code ∧ b.boot.faultN = false ∧ b.boot.porN = true

theorem Dev.fatal_dead {d : Dev} {code : Nat} (hc : code < 256) (hp : d.boot.porN = true) : Dev.deadAt code (d.fatal code) := by
  obtain ⟨h1, h2, h3, h4⟩ := d.fatal_shows hc
  exact ⟨h1, h2, h3, h4.trans hp⟩

/-- What step 2 leaves when nothing fails that is fatal. -/
structure Dev.StepTwo (sel : Nat) (spares : Nat × Nat) (failed : List Nat) (b : Dev) : Prop where
  released : b.boot.porN = true
  step : b.boot.step = 2 ∧ b.get F.BT_STEP = 2
  sampled : b.get F.BT_BOOT_SEL = sel
  spares : b.get F.BT_SPARES_EAST = spares.1 ∧ b.get F.BT_SPARES_WEST = spares.2
  degraded : failed ≠ [] → b.get F.BT_DEGRADED = 1
  banks : ∀ x : Fin 64, b.get (F.SC_FAILED x) = (if x.val ∈ failed then 1 else 0) ∧
    (x.val ∈ failed → b.get (F.SC_OWNER x) = 0 ∧ b.get (F.SC_POWERED x) = 0)

theorem Dev.repair_done {d : Dev} {spares : Nat × Nat} {failed : List Nat} (hp : d.boot.porN = true) (he : spares.1 ≤ 17)
    (hw : spares.2 ≤ 17) (hb : ∀ b ∈ failed, 4 ≤ b) : Dev.StepTwo (d.get F.BT_BOOT_SEL) spares failed (d.repair spares failed) := by
  let e := d.repaired spares failed
  let e' := if failed.isEmpty then e else e.setB F.BT_DEGRADED true
  have hrepair : d.repair spares failed = e'.setStep 2 := by
    have hany : failed.any (· < 4) = false := List.any_eq_false.mpr fun b hmem => by simpa using hb b hmem
    rw [Dev.repair_eq, if_neg (by simp; omega), if_neg (by simp [hany])]
  have hget : ∀ {f : Fld}, f.key ≠ F.BT_DEGRADED.key → f.key ≠ F.BT_STEP.key → (d.repair spares failed).get f = e.get f := by
    intro f hdeg hstep
    rw [hrepair, Dev.get_setStep_of_ne _ _ hstep]
    show (if failed.isEmpty then e else e.setB F.BT_DEGRADED true).get f = e.get f
    split
    · rfl
    · exact e.get_set_of_ne _ hdeg
  have hboot : e'.boot = d.boot := by
    show (if failed.isEmpty then e else e.setB F.BT_DEGRADED true).boot = d.boot
    split <;> exact d.repaired_boot spares failed
  have hbank : ∀ x : Fin 64, ∀ f ∈ bankFields x, f.key ≠ F.BT_DEGRADED.key ∧ f.key ≠ F.BT_STEP.key := fun x f hf =>
    ⟨(bankFields_of_boot (by decide) x f hf).symm, (bankFields_of_boot (by decide) x f hf).symm⟩
  constructor
  case released =>
    rw [hrepair]
    exact (congrArg Boot.porN hboot).trans hp
  case step =>
    rw [hrepair]
    exact e'.setStep_shows (by decide)
  case sampled =>
    rw [hget (by decide) (by decide)]
    exact d.get_repaired_kept spares failed (by decide) (by decide) (by decide)
  case spares =>
    rw [hget (by decide) (by decide), hget (by decide) (by decide)]
    exact d.repaired_spares spares failed he hw
  case degraded =>
    intro hne
    rw [hrepair, Dev.get_setStep_of_ne _ _ (by decide)]
    show (if failed.isEmpty then e else e.setB F.BT_DEGRADED true).get F.BT_DEGRADED = 1
    rw [if_neg (by simpa using hne), Dev.setB_eq, Dev.get_set_self]
    rfl
  case banks =>
    intro x
    obtain ⟨h1, h1'⟩ := hbank x (F.SC_FAILED x) (by simp [bankFields])
    obtain ⟨h2, h2'⟩ := hbank x (F.SC_OWNER x) (by simp [bankFields])
    obtain ⟨h3, h3'⟩ := hbank x (F.SC_POWERED x) (by simp [bankFields])
    rw [hget h1 h1', hget h2 h2', hget h3 h3']
    exact d.repaired_bank spares failed x

section
variable {m : Mach} {sel : Nat} {spares : Nat × Nat} {failed : List Nat} (hp : m.dev.boot.porN = false)
include hp

theorem porRelease_unfused :
    porRelease sel false spares failed m = m.setDev ((m.dev.released sel).fatal 1) := by simp [porRelease, hp, Dev.released]

theorem porRelease_fused :
    porRelease sel true spares failed m = m.setDev (((m.dev.released sel).setStep 1).repair spares failed) := by
  simp [porRelease, hp, Dev.released]

theorem porRelease_spares (h : 17 < spares.1 ∨ 17 < spares.2) :
    ∃ b, porRelease sel true spares failed m = m.setDev b ∧ Dev.deadAt 2 b := by
  refine ⟨_, porRelease_fused hp, ?_⟩
  rw [Dev.repair_eq, if_pos (by simpa using h)]
  exact Dev.fatal_dead (by decide) ((congrArg Boot.porN (Dev.repaired_boot _ _ _)).trans rfl)

theorem porRelease_bank (he : spares.1 ≤ 17) (hw : spares.2 ≤ 17) (h : ∃ b ∈ failed, b < 4) :
    ∃ b, porRelease sel true spares failed m = m.setDev b ∧ Dev.deadAt 3 b := by
  refine ⟨_, porRelease_fused hp, ?_⟩
  rw [Dev.repair_eq, if_neg (by simp; omega), if_pos (by simpa using h)]
  exact Dev.fatal_dead (by decide) ((congrArg Boot.porN (Dev.repaired_boot _ _ _)).trans rfl)

theorem porRelease_done (hsel : sel < 4) (he : spares.1 ≤ 17) (hw : spares.2 ≤ 17) (hb : ∀ b ∈ failed, 4 ≤ b) :
    ∃ b, porRelease sel true spares failed m = m.setDev b ∧ Dev.StepTwo sel spares failed b := by
  refine ⟨_, porRelease_fused hp, ?_⟩
  have hsampled : ((m.dev.released sel).setStep 1).get F.BT_BOOT_SEL = sel := by
    rw [Dev.get_setStep_of_ne _ _ (by decide), Dev.released, Dev.get_set_self]
    exact Nat.mod_eq_of_lt hsel
  have h := Dev.repair_done (d := (m.dev.released sel).setStep 1) (spares := spares) (failed := failed) rfl he hw hb
  rwa [hsampled] at h

end

end Sys2Proof.Machine
end

section
/-! Proofs: steps 5 and 6 of bring-up: firmware, training of the stacks, calibration of the SerDes (R394, R540). -/

namespace Sys2Proof.Machine
open Sys2Proof

/-! Lampblack records on. -/

section
variable (d : Dev)

theorem Dev.sendMsix_recording (v : Nat) : (d.sendMsix v).lamp.recording = d.lamp.recording := by
  unfold Dev.sendMsix
  split
  · split <;> rfl
  · split <;> rfl

theorem Dev.pend_recording (s : Nat) : (d.pend s).lamp.recording = d.lamp.recording := by
  unfold Dev.pend
  dsimp only
  split
  · rfl
  · split
    · exact (Dev.sendMsix_recording _ _).trans rfl
    · rfl

theorem Dev.lampWrite_recording (r : LampRec) : (d.lampWrite r).lamp.recording = d.lamp.recording := by
  unfold Dev.lampWrite
  dsimp only
  rw [Dev.pend_recording]
  split <;> rfl

/-- An event stops no recording. -/
theorem Dev.event_recording (k : Clock) (s code : Nat) : (d.event k s code).lamp.recording = d.lamp.recording := by
  unfold Dev.event Dev.eventData
  dsimp only
  split
  · rfl
  · split
    · split
      · rfl
      · split
        · rfl
        · exact (Dev.lampWrite_recording _ _).trans rfl
    · split
      · split
        · exact (Dev.pend_recording _ _).trans rfl
        · exact d.lampWrite_recording _
      · exact d.lampWrite_recording _

end

/-! FIRMWARE_START. -/

/-- The device whose firmware has started, before its board block. -/
def Dev.started (d : Dev) (k : Clock) (i : Image) : Dev :=
  let run := ((({ d with lamp := { d.lamp with recording := true } }).integrate k).setAll
    [(F.SC_CORE0_RUN, 1), (F.SC_CORE1_RUN, 1)]).setStep 5
  if i.fallback then run.event k 689 flcBoot else run

theorem firmwareStart_boards {d : Dev} (k : Clock) {i : Image} (hs : d.boot.step = 4) (hi : d.boot.image = some i) :
    firmwareStart k d = i.board.foldl (fun d p => d.boardWrite k p) (d.started k i) := by
  simp only [firmwareStart, hs, hi, Dev.started]

theorem Dev.integrate_lamp (d : Dev) (k : Clock) : (d.integrate k).lamp = d.lamp := by
  unfold Dev.integrate
  split <;> rfl

theorem Dev.started_shows (d : Dev) (k : Clock) (i : Image) : (d.started k i).lamp.recording = true ∧
    (d.started k i).boot.step = 5 ∧ (d.started k i).get F.SC_CORE0_RUN = 1 ∧ (d.started k i).get F.SC_CORE1_RUN = 1 := by
  let on := ({ d with lamp := { d.lamp with recording := true } }).integrate k
  let run := (on.setAll [(F.SC_CORE0_RUN, 1), (F.SC_CORE1_RUN, 1)]).setStep 5
  have hrec : run.lamp.recording = true := by
    show (on.setAll [(F.SC_CORE0_RUN, 1), (F.SC_CORE1_RUN, 1)]).lamp.recording = true
    rw [Dev.setAll_eq]
    exact congrArg Lamp.recording (Dev.integrate_lamp _ k)
  have hcores : run.get F.SC_CORE0_RUN = 1 ∧ run.get F.SC_CORE1_RUN = 1 := by
    have hget := (Dev.sets_setAll [(F.SC_CORE0_RUN, 1), (F.SC_CORE1_RUN, 1)] on (by decide)).2.1
    simp only [List.forall_mem_cons] at hget
    rw [Dev.get_setStep_of_ne _ _ (by decide), Dev.get_setStep_of_ne _ _ (by decide)]
    exact ⟨hget.1, hget.2.1⟩
  show (if i.fallback then run.event k 689 flcBoot else run).lamp.recording = true ∧
    (if i.fallback then run.event k 689 flcBoot else run).boot.step = 5 ∧
    (if i.fallback then run.event k 689 flcBoot else run).get F.SC_CORE0_RUN = 1 ∧
    (if i.fallback then run.event k 689 flcBoot else run).get F.SC_CORE1_RUN = 1
  split
  · have hreport := run.alike_event k 689 flcBoot (by decide)
    rw [run.event_recording, hreport.boot_eq, hreport.get_eq _ (by decide), hreport.get_eq _ (by decide)]
    exact ⟨hrec, rfl, hcores⟩
  · exact ⟨hrec, rfl, hcores⟩

/-! What the end of a step of bring-up changes. -/

/-- The fields that show a step of bring-up and the calibration it begins. -/
def stepFields : List Fld := [F.BT_STEP, F.SM_FW_READY, F.BT_CAL_CODE, F.CHANDLER_STATUS_CALIBRATED]

/-- b is a after steps of bring-up, as far as its other fields and its part of the device show. -/
structure Dev.stepKept (a b : Dev) : Prop where
  boot : b.boot = { a.boot with step := b.boot.step }
  get  : ∀ f : Fld, f.still = true → (∀ g ∈ stepFields, f.key ≠ g.key) → b.get f = a.get f

section
variable (d : Dev)

theorem Dev.stepKept_refl : d.stepKept d := ⟨rfl, fun _ _ _ => rfl⟩

theorem Dev.stepKept.trans {a b c : Dev} (h : a.stepKept b) (g : b.stepKept c) : a.stepKept c := by
  refine ⟨?_, fun f hf hne => (g.get f hf hne).trans (h.get f hf hne)⟩
  have hc := g.boot
  rw [h.boot] at hc
  exact hc

theorem Dev.alike.stepKept {a b : Dev} (h : a.alike b) : a.stepKept b :=
  ⟨by rw [h.boot_eq], fun f hf _ => h.get_eq f hf⟩

theorem Dev.stepKept_ite {a b c : Dev} {p : Prop} [Decidable p] (hb : a.stepKept b) (hc : a.stepKept c) :
    a.stepKept (if p then b else c) := by
  split
  · exact hb
  · exact hc

theorem Dev.stepKept_set {g : Fld} (v : Nat) (hg : g ∈ stepFields) : d.stepKept (d.set g v) :=
  ⟨rfl, fun _ _ hne => d.get_set_of_ne v (hne g hg)⟩

theorem Dev.stepKept_onChan (g : Chan → Chan) : d.stepKept (d.onChan g) := ⟨rfl, fun _ _ _ => rfl⟩

theorem Dev.stepKept_setStep (n : Nat) : d.stepKept (d.setStep n) :=
  ⟨rfl, fun f _ hne => d.get_setStep_of_ne n (hne F.BT_STEP (by simp [stepFields]))⟩

theorem Dev.stepKept_bootDone (k : Clock) : d.stepKept (d.bootDone k) := by
  have hready : d.stepKept ((d.setStep 9).fwReady k) :=
    (d.stepKept_setStep 9).trans ((Dev.stepKept_set _ 1 (by simp [stepFields])).trans (Dev.alike_eventOf _ k 36 5 0 (by decide)).stepKept)
  exact Dev.stepKept_ite (hready.trans (Dev.alike_event _ k 688 _ (by decide)).stepKept) hready

theorem Dev.stepKept_stepSeven (k : Clock) : d.stepKept (d.stepSeven k) :=
  Dev.stepKept_ite ((d.stepKept_setStep 7).trans (Dev.stepKept_bootDone _ k)) (d.stepKept_setStep 7)

theorem Dev.stepKept_calEnd (k : Clock) (code : Nat) : d.stepKept (d.calEnd k code) := by
  have hshown : d.stepKept (d.calShown code) :=
    ((d.stepKept_set code (g := F.BT_CAL_CODE) (by simp [stepFields])).trans
      (Dev.stepKept_set _ _ (g := F.CHANDLER_STATUS_CALIBRATED) (by simp [stepFields]))).trans (Dev.stepKept_onChan _ _)
  have hevent := Dev.stepKept_ite (p := 2 ≤ code)
    (hshown.trans (Dev.alike_eventOf (d.calShown code) k 43 2 (if code = 2 ∨ code = 4 then 1 else 2) (by decide)).stepKept) hshown
  exact Dev.stepKept_ite (hevent.trans (Dev.stepKept_stepSeven _ k)) hevent

theorem Dev.stepKept_calBegin (k : Clock) : d.stepKept (d.calBegin k) :=
  Dev.stepKept_ite ((d.stepKept_set 0 (g := F.CHANDLER_STATUS_CALIBRATED) (by simp [stepFields])).trans (Dev.stepKept_onChan _ _))
    (d.stepKept_calEnd k 1)

theorem Dev.stepKept_stepSix (k : Clock) : d.stepKept (d.stepSix k) :=
  Dev.stepKept_ite ((d.stepKept_setStep 6).trans (Dev.stepKept_calBegin _ k)) d.stepKept_refl

end

/-! DRAM_TRAINING. -/

/-- What the training of a stack shows. -/
def trainedStack (s : Nat) (up : Bool) (at_ lanes : Nat) : List (Fld × Nat) :=
  [(F.HBM_STEP s, if up then 5 else min 4 at_), (F.HBM_FAILED s, b2n !up), (F.HBM_LANES_REPAIRED s, lanes)]

/-- The fields a stack's end changes, but for those of its training. -/
def stackFields : List Fld := [F.HBM_STACK_UP, F.HBM_STACK_DOWN, F.HBM_SEG_RESTING, F.HBM_STICKY]

theorem Dev.get_stackDown (d : Dev) (k : Clock) (s at_ : Nat) {f : Fld} (hf : f.still = true) (hne : ∀ g ∈ stackFields, f.key ≠ g.key) :
    (d.stackDown k s at_).get f = d.get f := by
  have hup := hne F.HBM_STACK_UP (by simp [stackFields])
  have hdown := hne F.HBM_STACK_DOWN (by simp [stackFields])
  have hrest := hne F.HBM_SEG_RESTING (by simp [stackFields])
  have hsticky := hne F.HBM_STICKY (by simp [stackFields])
  have hclr : (d.clrBit F.HBM_STACK_UP s).get f = d.get f := by
    unfold Dev.clrBit
    split
    · exact d.get_set_of_ne _ hup
    · rfl
  refine ((Dev.alike_event _ k 568 at_ (by decide)).get_eq f hf).trans ?_
  exact (Dev.get_set_of_ne _ _ hsticky).trans ((Dev.get_set_of_ne _ _ hrest).trans ((Dev.get_set_of_ne _ _ hdown).trans hclr))

section
variable {d : Dev} (k : Clock) (st : Fin 4) (up : Bool) (at_ : Nat) {lanes : Nat}

/-- The device whose stack has ended its training. -/
def Dev.stackTrained (d : Dev) (k : Clock) (s : Nat) (up : Bool) (at_ lanes : Nat) : Dev :=
  let d1 := d.setAll (trainedStack s up at_ lanes)
  if up then d1.setBit F.HBM_STACK_UP s else (if d.boot.step = 5 then d1.setB F.BT_DEGRADED true else d1).stackDown k s flcScrub

theorem dramTraining_trains (hidle : bit (d.get F.HBM_STACK_UP ||| d.get F.HBM_STACK_DOWN) st = false) (hheld : d.isHeld 35 = false)
    (hstep : 5 ≤ d.boot.step) : dramTraining st up at_ lanes k d = (d.stackTrained k st up at_ lanes).stepSix k := by
  have hno : (bit (d.get F.HBM_STACK_UP ||| d.get F.HBM_STACK_DOWN) st || d.isHeld 35 || decide (d.boot.step < 5)) = false := by
    simp [hidle, hheld, hstep]
  simp only [dramTraining, hno, Bool.false_eq_true, if_false]
  rfl

theorem trainedStack_fields : ∀ st : Fin 4, ∀ f ∈ [F.HBM_STEP st, F.HBM_FAILED st, F.HBM_LANES_REPAIRED st], f.still = true ∧
    f.key ≠ F.BT_DEGRADED.key ∧ (∀ g ∈ stackFields, f.key ≠ g.key) ∧ ∀ g ∈ stepFields, f.key ≠ g.key := by decide

/-- The training's outcome is shown as it is written. -/
theorem Dev.stackTrained_get {f : Fld} (hf : f ∈ [F.HBM_STEP st, F.HBM_FAILED st, F.HBM_LANES_REPAIRED st]) :
    (d.stackTrained k st up at_ lanes).get f = (d.setAll (trainedStack st up at_ lanes)).get f := by
  obtain ⟨hstill, hdeg, hstack, -⟩ := trainedStack_fields st f hf
  unfold Dev.stackTrained
  dsimp only
  split
  · exact Dev.get_set_of_ne _ _ (hstack _ (by simp [stackFields]))
  · rw [Dev.get_stackDown _ k st _ hstill hstack]
    split
    · exact Dev.get_set_of_ne _ _ hdeg
    · rfl

theorem dramTraining_shows (hidle : bit (d.get F.HBM_STACK_UP ||| d.get F.HBM_STACK_DOWN) st = false) (hheld : d.isHeld 35 = false)
    (hstep : 5 ≤ d.boot.step) (hlanes : lanes < 64) :
    let b := dramTraining st up at_ lanes k d
    b.get (F.HBM_STEP st) = (if up then 5 else min 4 at_) ∧ b.get (F.HBM_FAILED st) = b2n !up ∧
      b.get (F.HBM_LANES_REPAIRED st) = lanes ∧ (up = true → bit (b.get F.HBM_STACK_UP) st = true) ∧
      (up = false → d.boot.step = 5 → b.get F.BT_DEGRADED = 1) := by
  intro b
  have hkept : (d.stackTrained k st up at_ lanes).stepKept b := by
    show Dev.stepKept _ (dramTraining st up at_ lanes k d)
    rw [dramTraining_trains k st up at_ hidle hheld hstep]
    exact Dev.stepKept_stepSix _ k
  have hget : ∀ f ∈ [F.HBM_STEP st, F.HBM_FAILED st, F.HBM_LANES_REPAIRED st],
      b.get f = (d.setAll (trainedStack st up at_ lanes)).get f := by
    intro f hf
    obtain ⟨hstill, -, -, hstep⟩ := trainedStack_fields st f hf
    rw [hkept.get f hstill hstep, Dev.stackTrained_get k st up at_ hf]
  have hwrites := (Dev.sets_setAll (trainedStack st up at_ lanes) d
    (by simp [trainedStack, Fld.key, F.HBM_STEP, F.HBM_FAILED, F.HBM_LANES_REPAIRED])).2.1
  simp only [trainedStack, List.forall_mem_cons] at hwrites
  obtain ⟨h1, h2, h3, -⟩ := hwrites
  refine ⟨?_, ?_, ?_, ?_, ?_⟩
  · rw [hget _ (by simp), trainedStack, h1]
    refine Nat.mod_eq_of_lt (show (if up then 5 else min 4 at_) < 8 from ?_)
    split <;> omega
  · rw [hget _ (by simp), trainedStack, h2]
    cases up <;> rfl
  · rw [hget _ (by simp), trainedStack, h3]
    exact Nat.mod_eq_of_lt hlanes
  · rintro rfl
    rw [hkept.get _ (by decide) (by decide)]
    exact Dev.bit_setBit _ (f := F.HBM_STACK_UP) st.isLt
  · rintro rfl h5
    rw [hkept.get _ (by decide) (by decide)]
    show ((if d.boot.step = 5 then (d.setAll (trainedStack st false at_ lanes)).setB F.BT_DEGRADED true
      else d.setAll (trainedStack st false at_ lanes)).stackDown k st flcScrub).get F.BT_DEGRADED = 1
    rw [Dev.get_stackDown _ k st _ (by decide) (by decide), if_pos h5, Dev.setB_eq, Dev.get_set_self]
    rfl

end

/-! SERDES_CALIBRATION. -/

/-- The lanes that failed their calibration are marked. -/
def Dev.markLanes (d : Dev) (bad : List Nat) : Dev := bad.foldl (fun d n => d.setBit (F.BT_LANE_FAILED (n / 32)) (n % 32)) d

theorem Dev.bit_markLanes (bad : List Nat) (d : Dev) (n : Nat) : bit ((d.markLanes bad).get (F.BT_LANE_FAILED (n / 32))) (n % 32) =
    (decide (n ∈ bad) || bit (d.get (F.BT_LANE_FAILED (n / 32))) (n % 32)) := by
  unfold Dev.markLanes
  induction bad generalizing d with
  | nil => simp
  | cons m bad ih =>
    rw [List.foldl_cons, ih]
    have hbit : bit ((d.setBit (F.BT_LANE_FAILED (m / 32)) (m % 32)).get (F.BT_LANE_FAILED (n / 32))) (n % 32) =
        (decide (n = m) || bit (d.get (F.BT_LANE_FAILED (n / 32))) (n % 32)) := by
      by_cases hreg : n / 32 = m / 32
      · rw [hreg, Dev.setBit_eq, Dev.get_set_self, bit_eq_testBit, Nat.testBit_mod_two_pow, Nat.testBit_or, Nat.testBit_two_pow,
          bit_eq_testBit, show (F.BT_LANE_FAILED (m / 32)).w = 32 from rfl, decide_eq_true (Nat.mod_lt n (by decide)), Bool.true_and,
          Bool.or_comm]
        congr 1
        exact decide_eq_decide.mpr (by omega)
      · have hkey : (F.BT_LANE_FAILED (n / 32)).key ≠ (F.BT_LANE_FAILED (m / 32)).key := by
          simp only [Fld.key, F.BT_LANE_FAILED]
          omega
        rw [Dev.setBit_eq, Dev.get_set_of_ne _ _ hkey, decide_eq_false (show n ≠ m from fun e => hreg (e ▸ rfl)), Bool.false_or]
    rw [hbit, ← Bool.or_assoc]
    congr 1
    rw [← Bool.decide_or]
    exact decide_eq_decide.mpr (by rw [List.mem_cons]; tauto)

/-- The device whose SerDes are calibrated. -/
def Dev.serdesDone (d : Dev) (bad : List Nat) : Dev :=
  let marked := if bad.isEmpty then d.markLanes bad else (d.markLanes bad).setB F.BT_DEGRADED true
  { marked with boot := { marked.boot with serdes := true } }

theorem serdesCal_done {d : Dev} (k : Clock) (bad : List Nat) (hs : d.boot.step = 5) (hd : d.boot.serdes = false) :
    serdesCal bad k d = (d.serdesDone bad).stepSix k := by
  simp [serdesCal, hs, hd, Dev.serdesDone, Dev.markLanes]

theorem laneFailed_fields : ∀ n : Fin 17, (F.BT_LANE_FAILED n).still = true ∧ (F.BT_LANE_FAILED n).key ≠ F.BT_DEGRADED.key ∧
    ∀ g ∈ stepFields, (F.BT_LANE_FAILED n).key ≠ g.key := by decide

theorem serdesCal_shows {d : Dev} (k : Clock) (bad : List Nat) (hs : d.boot.step = 5) (hd : d.boot.serdes = false) :
    let b := serdesCal bad k d
    b.boot.serdes = true ∧ (bad ≠ [] → b.get F.BT_DEGRADED = 1) ∧
      ∀ n < 520, bit (b.get (F.BT_LANE_FAILED (n / 32))) (n % 32) =
        (decide (n ∈ bad) || bit (d.get (F.BT_LANE_FAILED (n / 32))) (n % 32)) := by
  intro b
  have hkept : (d.serdesDone bad).stepKept b := by
    show Dev.stepKept _ (serdesCal bad k d)
    rw [serdesCal_done k bad hs hd]
    exact Dev.stepKept_stepSix _ k
  refine ⟨?_, fun hne => ?_, fun n hn => ?_⟩
  · rw [hkept.boot]
    rfl
  · rw [hkept.get _ (by decide) (by decide)]
    show (if bad.isEmpty then d.markLanes bad else (d.markLanes bad).setB F.BT_DEGRADED true).get F.BT_DEGRADED = 1
    rw [if_neg (by simpa using hne), Dev.setB_eq, Dev.get_set_self]
    rfl
  · obtain ⟨hstill, hdeg, hstep⟩ := laneFailed_fields ⟨n / 32, by omega⟩
    rw [hkept.get _ hstill hstep, ← d.bit_markLanes]
    congr 1
    show (if bad.isEmpty then d.markLanes bad else (d.markLanes bad).setB F.BT_DEGRADED true).get _ = _
    split
    · rfl
    · exact Dev.get_set_of_ne _ _ hdeg

end Sys2Proof.Machine
end

section
/-! Proofs: step 8 of bring-up, the forwarding section (R173 to R177, R546). -/

namespace Sys2Proof.Machine
open Sys2Proof

/-! What a generation's residence rests on. -/

/-- b holds no header, frame or copy that a does not, and the rules and the waiting commands of a. -/
structure Dev.holdsNoMore (a b : Dev) : Prop where
  rules    : b.rules = a.rules
  smi      : b.smi = a.smi
  frames   : b.frames = a.frames
  lanterns : b.lanterns = a.lanterns
  copies   : ∀ x ∈ b.copies, x ∈ a.copies

section
variable (d : Dev)

theorem Dev.holdsNoMore_refl : d.holdsNoMore d := ⟨rfl, rfl, rfl, rfl, fun _ h => h⟩

theorem Dev.holdsNoMore.trans {a b c : Dev} (h : a.holdsNoMore b) (g : b.holdsNoMore c) : a.holdsNoMore c :=
  ⟨g.rules.trans h.rules, g.smi.trans h.smi, g.frames.trans h.frames, g.lanterns.trans h.lanterns, fun x hx => h.copies x (g.copies x hx)⟩

theorem Dev.copies_congr {a b : Dev} (hq : b.bm.queues = a.bm.queues) (hp : b.ports = a.ports) : b.copies = a.copies := by
  rw [Dev.copies, hq, hp]
  rfl

theorem Dev.alike.holdsNoMore {a b : Dev} (h : a.alike b) : a.holdsNoMore b :=
  ⟨h.rules_eq, h.smi_eq, h.frames_eq, h.lanterns_eq, fun x hx => by rwa [Dev.copies_congr (congrArg Bm.queues h.bm_eq) h.ports_eq] at hx⟩

theorem Dev.holdsNoMore_ite {a b c : Dev} {p : Prop} [Decidable p] (hb : a.holdsNoMore b) (hc : a.holdsNoMore c) :
    a.holdsNoMore (if p then b else c) := by
  split
  · exact hb
  · exact hc

theorem Dev.holdsNoMore_foldl {β : Type} {g : Dev → β → Dev} (h : ∀ d x, Dev.holdsNoMore d (g d x)) (l : List β) :
    d.holdsNoMore (l.foldl g d) :=
  List.foldlRecOn (motive := fun b => d.holdsNoMore b) l g d.holdsNoMore_refl fun b hb x _ => hb.trans (h b x)

theorem Dev.holdsNoMore_set (f : Fld) (v : Nat) : d.holdsNoMore (d.set f v) := ⟨rfl, rfl, rfl, rfl, fun _ h => h⟩

theorem Dev.holdsNoMore_fld (x : Tab Nat) : d.holdsNoMore { d with fld := x } := ⟨rfl, rfl, rfl, rfl, fun _ h => h⟩

theorem Dev.holdsNoMore_setAll (l : List (Fld × Nat)) : d.holdsNoMore (d.setAll l) := by
  rw [Dev.setAll_eq]
  exact d.holdsNoMore_fld _

theorem Dev.holdsNoMore_bumpGen : d.holdsNoMore d.bumpGen :=
  Dev.holdsNoMore_ite ((d.holdsNoMore_set _ _).trans (Dev.holdsNoMore_set _ F.GL_FP_ABANDONED _)) (d.holdsNoMore_set _ _)

/-- Whatever is resident with less held was resident before. -/
theorem Dev.holdsNoMore.resident {a b : Dev} (h : a.holdsNoMore b) {g : Nat} (ha : a.resident g = false) : b.resident g = false := by
  have hframe : ∀ f, b.frame? f = a.frame? f := fun f => Dev.frame?_congr h.frames f
  simp only [Dev.resident, Bool.or_eq_false_iff] at ha ⊢
  simp only [hframe, h.lanterns]
  refine ⟨ha.1, List.any_eq_false.mpr fun x hx => List.any_eq_false.mp ha.2 x (h.copies x hx)⟩

theorem Dev.holdsNoMore.standbyFree {a b : Dev} (h : a.holdsNoMore b) (ha : a.standbyBusy = false) : b.standbyBusy = false := by
  simp only [Dev.standbyBusy, Dev.oldResident, Bool.or_eq_false_iff, h.rules] at ha ⊢
  exact ⟨h.resident ha.1, ha.2⟩

/-! The loads. -/

theorem Dev.holdsNoMore_setRec (t i : Nat) (b : Bytes) : d.holdsNoMore (d.setRec t i b) := ⟨rfl, rfl, rfl, rfl, fun _ h => h⟩

theorem Dev.holdsNoMore_loadStore (fwd : Bytes) (st : Nat) : d.holdsNoMore (d.loadStore fwd st) := by
  unfold Dev.loadStore
  dsimp only
  split
  · exact (Dev.holdsNoMore_foldl d (fun e _ => e.holdsNoMore_setRec _ _ _) (List.range 512)).trans (Dev.holdsNoMore_bumpGen _)
  · exact d.holdsNoMore_refl

theorem Dev.holdsNoMore_loadDispatch (fwd : Bytes) (st : Nat) : d.holdsNoMore (d.loadDispatch fwd st) := by
  unfold Dev.loadDispatch
  dsimp only
  exact (Dev.holdsNoMore_foldl d (fun e _ => e.holdsNoMore_setRec _ _ _) (List.range 254)).trans (Dev.holdsNoMore_bumpGen _)

/-! The commit's effects on the rest of the device. -/

/-- A port whose transmission is the one it had holds no copy more. -/
theorem Dev.holdsNoMore_setPort (p : Nat) (x : Port) (hx : x.tx = (d.port p).tx) : d.holdsNoMore (d.setPort p x) := by
  refine ⟨rfl, rfl, rfl, rfl, fun c hc => ?_⟩
  simp only [Dev.copies, List.mem_append, List.mem_filterMap, Dev.setPort] at hc ⊢
  refine hc.imp_right ?_
  rintro ⟨e, he, htx⟩
  have hmem : e = (p, x) ∨ e ∈ d.ports := by
    rw [tput] at he
    split at he
    · exact .inr (List.mem_filter.mp he).1
    · exact tset_mem he
  rcases hmem with rfl | he
  · rw [hx] at htx
    cases hport : tget? d.ports p with
    | none =>
      rw [Dev.port, tgetD, hport] at htx
      cases htx
    | some y =>
      rw [Dev.port, tgetD, hport] at htx
      exact ⟨(p, y), mem_of_tget? hport, htx⟩
  · exact ⟨e, he, htx⟩

theorem Dev.holdsNoMore_sendControl (p : Nat) (body : Bytes) : d.holdsNoMore (d.sendControl p body) := ⟨rfl, rfl, rfl, rfl, fun _ h => h⟩

theorem Dev.holdsNoMore_signalNow (p : Nat) : d.holdsNoMore (d.signalNow p) := by
  have hport : d.holdsNoMore (d.setPort p { d.port p with signal := d.wantSignal p }) := d.holdsNoMore_setPort p _ rfl
  have hsend : ∀ (e : Dev) (body : Bytes) (c : Bool), d.holdsNoMore e → d.holdsNoMore (if c then e.sendControl p body else e) :=
    fun e body c h => Dev.holdsNoMore_ite (h.trans (e.holdsNoMore_sendControl p body)) h
  refine Dev.holdsNoMore_ite d.holdsNoMore_refl (hsend _ _ _ ?_)
  have hpause := hsend _ (toBE 1 2 ++ toBE 0 2) (bit (d.port p).signal 8 && !bit (d.wantSignal p) 8) hport
  exact Dev.holdsNoMore_ite hpause (hpause.trans (Dev.holdsNoMore_sendControl _ p _))

theorem Dev.holdsNoMore_poolsUpdate (k : Clock) : d.holdsNoMore (d.poolsUpdate k) := by
  obtain ⟨heq, -, -⟩ := d.flagged_poolsUpdate k
  refine ⟨(congrArg Dev.rules heq).trans rfl, (congrArg Dev.smi heq).trans rfl, (congrArg Dev.frames heq).trans rfl,
    (congrArg Dev.lanterns heq).trans rfl, fun x hx => ?_⟩
  rwa [Dev.copies_congr (a := d) ((congrArg (fun e : Dev => e.bm.queues) heq).trans rfl) ((congrArg Dev.ports heq).trans rfl)] at hx

theorem Dev.holdsNoMore_applyStaged (e : Nat × Nat) : d.holdsNoMore (d.applyStaged e) := by
  unfold Dev.applyStaged
  split
  · exact d.holdsNoMore_set _ _
  · exact d.holdsNoMore_refl

theorem Dev.holdsNoMore_bm (x : Bm) (h : x.queues = d.bm.queues) : d.holdsNoMore { d with bm := x } :=
  ⟨rfl, rfl, rfl, rfl, fun _ hc => Dev.copies_congr (a := d) (b := { d with bm := x }) h rfl ▸ hc⟩

theorem Dev.holdsNoMore_mirror (s : Nat) : d.holdsNoMore { d with bm := { d.bm with mirror := tdel d.bm.mirror s } } :=
  d.holdsNoMore_bm _ rfl

theorem Dev.holdsNoMore_loadLfsr : d.holdsNoMore d.loadLfsr := d.holdsNoMore_bm _ rfl

theorem Dev.holdsNoMore_onTap (g : Taper → Taper) : d.holdsNoMore (d.onTap g) := ⟨rfl, rfl, rfl, rfl, fun _ h => h⟩

theorem Dev.holdsNoMore_commitEffects (k : Clock) (before : Dev) (es : Tab Nat) : d.holdsNoMore (d.commitEffects k before es) := by
  have hpools : ∀ (e : Dev) (c : Bool), d.holdsNoMore e → d.holdsNoMore (if c then e.poolsUpdate k else e) := fun e c h =>
    Dev.holdsNoMore_ite (h.trans (e.holdsNoMore_poolsUpdate k)) h
  have htap : ∀ (e : Dev) (c : Bool) (g : Taper → Taper), d.holdsNoMore e → d.holdsNoMore (if c then e.onTap g else e) := fun e c g h =>
    Dev.holdsNoMore_ite (h.trans (e.holdsNoMore_onTap g)) h
  have hset : ∀ (e : Dev) (c : Bool) (f : Fld) (v : Nat), d.holdsNoMore e → d.holdsNoMore (if c then e.set f v else e) := fun e c f v h =>
    Dev.holdsNoMore_ite (h.trans (e.holdsNoMore_set f v)) h
  unfold Dev.commitEffects
  refine hpools _ _ (htap _ _ _ (hset _ _ F.BUSHEL_STICKY_SPAN_OVER 1 ?_))
  refine Dev.holdsNoMore.trans ?_ (Dev.holdsNoMore_foldl _ (fun e p => Dev.holdsNoMore_ite
    ((e.holdsNoMore_set _ _).trans (Dev.holdsNoMore_signalNow _ p)) e.holdsNoMore_refl) _)
  refine Dev.holdsNoMore.trans ?_ (Dev.holdsNoMore_foldl _ (fun e p => Dev.holdsNoMore_ite (e.holdsNoMore_setAll _) e.holdsNoMore_refl) _)
  refine Dev.holdsNoMore.trans ?_ (Dev.holdsNoMore_foldl _ (fun e p => Dev.holdsNoMore_ite (e.holdsNoMore_mirror p) e.holdsNoMore_refl) _)
  exact Dev.holdsNoMore_ite d.holdsNoMore_loadLfsr d.holdsNoMore_refl

theorem Dev.holdsNoMore_applyGroups (k : Clock) (mask : Nat) : d.holdsNoMore (d.applyGroups k mask).2 := by
  have hstaged : d.holdsNoMore { d with staged := d.staged.filter (fun e => !bit mask (d.groupOfKey e.1)) } :=
    ⟨rfl, rfl, rfl, rfl, fun _ h => h⟩
  have hrefused : ∀ (e : Dev) (c : Bool), d.holdsNoMore e → d.holdsNoMore (if c then (e.setBit F.BM_STICKY 5).event k 536 (flc 33 6 1) else e) :=
    fun e c h => Dev.holdsNoMore_ite ((h.trans (e.holdsNoMore_set _ _)).trans (Dev.alike_event _ k 536 _ (by decide)).holdsNoMore) h
  exact ((hrefused _ _ hstaged).trans (Dev.holdsNoMore_foldl _ (fun e x => e.holdsNoMore_applyStaged x) _)).trans
    (Dev.holdsNoMore_commitEffects _ k _ _)

end

/-! FORWARDING_LOAD. -/

/-- The device with the image's 40 loads made. -/
def Dev.loaded (d : Dev) (fwd : Bytes) : Dev := (List.range 20).foldl (fun d s => (d.loadStore fwd s).loadDispatch fwd s) d

theorem Dev.holdsNoMore_loaded (d : Dev) (fwd : Bytes) : d.holdsNoMore (d.loaded fwd) :=
  d.holdsNoMore_foldl (fun e s => (e.holdsNoMore_loadStore fwd s).trans (Dev.holdsNoMore_loadDispatch _ fwd s)) _

theorem forwardingLoad_loads {d : Dev} (k : Clock) {i : Image} (hs : d.boot.step = 7) (hi : d.boot.image = some i) (hf : i.fwd ≠ [])
    (hg : d.rules.gen = 0) : forwardingLoad k d =
      ((d.loaded i.fwd).onRules (fun r => { r with held := some ⟨0, false, false⟩ })).commitNow k 1 false := by
  simp [forwardingLoad, hs, hi, hf, hg, Dev.loaded]

/-- A held swap whose group is committed is applied, when its bank is free and no command waits for it. -/
theorem Dev.swapCommit_applied {d : Dev} (k : Clock) {h : SwapHeld} {mask : Nat} (hh : d.rules.held = some h) (hb : bit mask h.group = true)
    (hfree : d.standbyBusy = false) (hw : ∀ w ∈ d.smi.waits, isSwap w.kind = false) :
    (d.swapCommit k mask).2.rules = ⟨(d.rules.gen + 1) % 65536, none, h.copy⟩ := by
  have hswap : d.swapCommit k mask = d.applySwap k h := by simp [Dev.swapCommit, hh, hb, hfree]
  rw [hswap]
  exact (Dev.applySwap_fresh k h fun w hmem hk => absurd hk (by simp [hw w hmem])).2

/-- What a strobe leaves of the rules, and the groups it shows. -/
theorem Dev.commitNow_rules (d : Dev) (k : Clock) {mask : Nat} (hm : mask < 65536) :
    (d.commitNow k mask false).rules = ((d.applyGroups k mask).2.swapCommit k mask).2.rules ∧
      (d.commitNow k mask false).get F.GL_LAST_COMMIT_GROUPS = mask := by
  let e := ((d.applyGroups k mask).2.swapCommit k mask).2
  let last : List (Fld × Nat) := [(F.GL_LAST_COMMIT_LO, k.ns), (F.GL_LAST_COMMIT_HI, k.sec), (F.GL_LAST_COMMIT_GROUPS, mask), (F.GL_LAST_LATE, b2n false)]
  let e' := if (d.applyGroups k mask).1 || ((d.applyGroups k mask).2.swapCommit k mask).1 then e.bumpGen else e
  have heq : d.commitNow k mask false = e'.setAll last := rfl
  have hrules : e'.rules = e.rules := by
    show (if (d.applyGroups k mask).1 || ((d.applyGroups k mask).2.swapCommit k mask).1 then e.bumpGen else e).rules = e.rules
    split
    · exact e.holdsNoMore_bumpGen.rules
    · rfl
  have hget := (Dev.sets_setAll last e' (by simp only [last, List.map_cons]; decide)).2.1
  rw [heq]
  exact ⟨(e'.holdsNoMore_setAll last).rules.trans hrules, (hget (F.GL_LAST_COMMIT_GROUPS, mask) (by simp [last])).trans (Nat.mod_eq_of_lt hm)⟩

/-- A swap that is held makes no bank busy, and no command wait. -/
theorem Dev.swapHeld_shows (d : Dev) (h : SwapHeld) :
    let b := d.onRules fun r => { r with held := some h }
    b.rules = { d.rules with held := some h } ∧ b.smi = d.smi ∧ b.standbyBusy = d.standbyBusy := ⟨rfl, rfl, rfl⟩

theorem forwardingLoad_shows {d : Dev} (k : Clock) {i : Image} (hs : d.boot.step = 7) (hi : d.boot.image = some i) (hf : i.fwd ≠ [])
    (hg : d.rules.gen = 0) (hfree : d.standbyBusy = false) (hw : ∀ w ∈ d.smi.waits, isSwap w.kind = false) :
    let b := forwardingLoad k d
    b.rules.gen = 1 ∧ b.rules.held = none ∧ b.get F.GL_LAST_COMMIT_GROUPS = 1 := by
  intro b
  have hb : b = ((d.loaded i.fwd).onRules fun r => { r with held := some ⟨0, false, false⟩ }).commitNow k 1 false :=
    forwardingLoad_loads k hs hi hf hg
  have hload := d.holdsNoMore_loaded i.fwd
  obtain ⟨hrules, hsmi, hstandby⟩ := (d.loaded i.fwd).swapHeld_shows ⟨0, false, false⟩
  rw [hb]
  generalize (d.loaded i.fwd).onRules (fun r => { r with held := some ⟨0, false, false⟩ }) = held at hrules hsmi hstandby ⊢
  have happly := held.holdsNoMore_applyGroups k 1
  rw [hload.rules] at hrules
  rw [hload.smi] at hsmi
  have hswap := Dev.swapCommit_applied (d := (held.applyGroups k 1).2) k (h := ⟨0, false, false⟩) (mask := 1)
    (by rw [happly.rules, hrules]) (by decide) (happly.standbyFree (hstandby.trans (hload.standbyFree hfree)))
    (by rwa [happly.smi, hsmi])
  obtain ⟨hafter, hgroups⟩ := held.commitNow_rules k (mask := 1) (by decide)
  rw [happly.rules, hrules] at hswap
  rw [hafter, hswap, hgroups]
  exact ⟨by simp [hg], rfl, rfl⟩

end Sys2Proof.Machine
end

section
/-! Proofs: first lighting, and bring-up together (R547). -/

namespace Sys2Proof.Machine
open Sys2Proof

/-! The field of a wick's state. -/

def wickField (l : Nat) : Wick → Fld
  | .a => F.WICK_ROLE_STATE_A l
  | .b => F.WICK_ROLE_STATE_B l

theorem Dev.wick_eq (d : Dev) (l : Nat) (w : Wick) : d.wick l w = d.get (wickField l w) := by cases w <;> rfl

theorem Dev.setWick_eq (d : Dev) (l : Nat) (w : Wick) (st : Nat) : d.setWick l w st = (d.set (wickField l w) st).showRoles l := by
  cases w <;> rfl

theorem wickField_place (l : Nat) (w : Wick) : (wickField l w).place ≠ 0x86 ∧ (wickField l w).place ≠ 0x87 ∧ (wickField l w).place ≠ 0x89 := by
  cases w <;> simp [wickField]

theorem wickField_key_ne {l l' : Nat} (h : l' ≠ l) (w w' : Wick) : (wickField l' w').key ≠ (wickField l w).key := by
  cases w <;> cases w' <;> simp only [wickField, Fld.key, F.WICK_ROLE_STATE_A, F.WICK_ROLE_STATE_B] <;> omega

/-- A wick's state stands in its own lantern's register. -/
theorem Dev.wick_setWick_far (d : Dev) {l l' : Nat} (h : l' ≠ l) (w w' : Wick) (st : Nat) :
    (d.setWick l w st).wick l' w' = d.wick l' w' := by
  obtain ⟨hact, hhalt, -⟩ := wickField_place l' w'
  rw [Dev.wick_eq, Dev.wick_eq, Dev.setWick_eq, Dev.get_showRoles _ hact hhalt]
  exact d.get_set_of_ne st (wickField_key_ne h w w')

/-! One wick lit for the first time. -/

/-- No lantern is in an overlap window, and no FORCE waits. -/
def Dev.unforced (d : Dev) : Prop := ∀ l < 32, (d.lantern l).overlap = none ∧ (d.lantern l).force = none

theorem Dev.unforced_setTask {d : Dev} (h : d.unforced) (l : Nat) (t : WickTask) : (d.setTask l t).unforced := by
  intro l' hl'
  by_cases he : l' = l
  · subst he
    rw [Dev.lantern_setTask]
    exact h l' hl'
  · have hkeep : (d.setTask l t).lantern l' = d.lantern l' := tgetD_tput_of_ne d.lanterns Lantern.idle _ Lantern.idle he
    rw [hkeep]
    exact h l' hl'

theorem Dev.unforced_congr {a b : Dev} (h : b.lanterns = a.lanterns) (ha : a.unforced) : b.unforced := fun l hl => by
  rw [Dev.lantern_congr h]
  exact ha l hl

/-- What a wick is lit as: READY beside an ACTIVE one, else ACTIVE. -/
def Dev.litAs (d : Dev) (l : Nat) : Nat := if d.wick l .a = wkActive ∨ d.wick l .b = wkActive then wkReady else wkActive

section
variable {d : Dev} (k : Clock) (w : Wick) {l : Nat}

theorem Dev.litAs_eq (hover : (d.lantern l).overlap = none) : (if (d.activeWick l).isNone then wkActive else wkReady) = d.litAs l := by
  simp only [Dev.activeWick, hover, Dev.litAs]
  by_cases ha : d.wick l .a = wkActive
  · simp [ha]
  · by_cases hb : d.wick l .b = wkActive
    · simp [ha, hb]
    · simp [ha, hb]

theorem Dev.lightFirst_lights (hl : l < 32) (h : d.unforced) : let b := d.lightFirst k [] w l
    b.unforced ∧ b.wick l w = d.litAs l ∧ b.wick l w.other = d.wick l w.other ∧ ∀ l' < 32, l' ≠ l → ∀ w', b.wick l' w' = d.wick l' w' := by
  intro b
  have hb : b = (d.setWick l w (d.litAs l)).relit k l w := by
    rw [← d.litAs_eq (h l hl).1]
    rfl
  have hlantern : ∀ l', (d.setWick l w (d.litAs l)).lantern l' = d.lantern l' := Dev.lantern_congr (d.setWick_lanterns l w _)
  have hforce : ((d.setWick l w (d.litAs l)).lantern l).force = none := hlantern l ▸ (h l hl).2
  have hkept := Dev.relit_kept (d := d.setWick l w (d.litAs l)) k w hl hforce
  have hwick : ∀ l' < 32, ∀ w', b.wick l' w' = (d.setWick l w (d.litAs l)).wick l' w' := by
    intro l' hl' w'
    rw [hb, hkept.wick hl', Dev.wick_eq, Dev.wick_eq, Dev.get_setTask _ _ _ (wickField_place l' w').2.2]
  have hlit : d.litAs l % 8 = d.litAs l := by
    unfold Dev.litAs
    split <;> rfl
  refine ⟨?_, ?_, ?_, fun l' hl' hne w' => ?_⟩
  · rw [hb]
    exact Dev.unforced_congr hkept.lanterns (Dev.unforced_setTask (Dev.unforced_congr (d.setWick_lanterns l w _) h) l .none)
  · rw [hwick l hl, Dev.wick_setWick_self, hlit]
  · have hother := d.wick_setWick_other l w.other (d.litAs l)
    rwa [show w.other.other = w by cases w <;> rfl, ← hwick l hl] at hother
  · rw [hwick l' hl', Dev.wick_setWick_far d hne]

end

/-! A row of wicks. -/

/-- The first n lanterns' wicks w lit, in order. -/
def Dev.litRow (d : Dev) (k : Clock) (w : Wick) (n : Nat) : Dev := (List.range n).foldl (Dev.lightFirst · k [] w) d

theorem Dev.litRow_succ (d : Dev) (k : Clock) (w : Wick) (n : Nat) : d.litRow k w (n + 1) = (d.litRow k w n).lightFirst k [] w n := by
  simp [Dev.litRow, List.range_succ]

theorem Dev.litRow_lights {d : Dev} (k : Clock) (w : Wick) (h : d.unforced) {n : Nat} (hn : n ≤ 32) :
    let b := d.litRow k w n
    b.unforced ∧ ∀ l < 32, b.wick l w.other = d.wick l w.other ∧ b.wick l w = if l < n then d.litAs l else d.wick l w := by
  induction n with
  | zero => exact ⟨h, fun l _ => ⟨rfl, rfl⟩⟩
  | succ n ih =>
    obtain ⟨hfree, hwicks⟩ := ih (by omega)
    obtain ⟨hfree', hself, hother, hfar⟩ := Dev.lightFirst_lights k w (show n < 32 by omega) hfree
    have hlit : (d.litRow k w n).litAs n = d.litAs n := by
      obtain ⟨ho, hs⟩ := hwicks n (by omega)
      rw [if_neg (Nat.lt_irrefl n)] at hs
      have hsame : ∀ w', (d.litRow k w n).wick n w' = d.wick n w' := by
        cases w
        · rintro (_ | _)
          · exact hs
          · exact ho
        · rintro (_ | _)
          · exact ho
          · exact hs
      rw [Dev.litAs, Dev.litAs, hsame, hsame]
    rw [d.litRow_succ]
    refine ⟨hfree', fun l hl => ?_⟩
    obtain ⟨ho, hs⟩ := hwicks l hl
    by_cases he : l = n
    · subst he
      rw [hother, hself, hlit, if_pos (Nat.lt_succ_self l)]
      exact ⟨ho, rfl⟩
    · rw [hfar l hl he, hfar l hl he, ho, hs]
      have hlt : (l < n + 1) = (l < n) := propext (by omega)
      simp only [hlt, and_self]

/-! FIRST_LIGHTING. -/

theorem firstLighting_lights {d : Dev} (k : Clock) (hs : d.boot.step = 7) (hg : d.rules.gen ≠ 0) :
    firstLighting [] k d = ((d.litRow k .a 32).litRow k .b 32).bootDone k := by
  have hno : (d.boot.step != 7 || decide (d.rules.gen = 0)) = false := by simp [hs, hg]
  simp only [firstLighting, hno, Bool.false_eq_true, if_false, Dev.litRow]

theorem Dev.bootDone_shows (d : Dev) (k : Clock) : (d.bootDone k).get F.SM_FW_READY = 1 ∧ (d.bootDone k).boot.step = 9 := by
  have hready : ((d.setStep 9).fwReady k).get F.SM_FW_READY = 1 ∧ ((d.setStep 9).fwReady k).boot.step = 9 := by
    have h := Dev.alike_eventOf ((d.setStep 9).setB F.SM_FW_READY true) k 36 5 0 (by decide)
    refine ⟨(h.get_eq _ (by decide)).trans (Dev.get_set_self _ _ _), ?_⟩
    exact (congrArg Boot.step h.boot_eq).trans rfl
  unfold Dev.bootDone
  dsimp only
  split
  · have h := Dev.alike_event ((d.setStep 9).fwReady k) k 688 (flc 43 5 0) (by decide)
    rw [h.get_eq _ (by decide), h.boot_eq]
    exact hready
  · exact hready

theorem wickField_kept : ∀ l : Fin 32, ∀ w : Wick, (wickField l w).still = true ∧ ∀ g ∈ stepFields, (wickField l w).key ≠ g.key := by
  intro l w
  revert l
  cases w <;> decide

theorem firstLighting_shows {d : Dev} (k : Clock) (hs : d.boot.step = 7) (hg : d.rules.gen ≠ 0) (hfree : d.unforced)
    (hoff : ∀ l < 32, d.wick l .a = wkOff ∧ d.wick l .b = wkOff) :
    let b := firstLighting [] k d
    (∀ l : Fin 32, b.wick l .a = wkActive ∧ b.wick l .b = wkReady) ∧ b.get F.SM_FW_READY = 1 ∧ b.boot.step = 9 := by
  intro b
  have hb : b = ((d.litRow k .a 32).litRow k .b 32).bootDone k := firstLighting_lights k hs hg
  obtain ⟨hfreeA, hwicksA⟩ := Dev.litRow_lights k .a hfree (le_refl 32)
  obtain ⟨-, hwicksB⟩ := Dev.litRow_lights k .b hfreeA (le_refl 32)
  have hkept := Dev.stepKept_bootDone ((d.litRow k .a 32).litRow k .b 32) k
  refine ⟨fun l => ?_, hb ▸ Dev.bootDone_shows _ k⟩
  have hsame : ∀ w, b.wick l w = ((d.litRow k .a 32).litRow k .b 32).wick l w := by
    intro w
    obtain ⟨hstill, hne⟩ := wickField_kept l w
    rw [hb, Dev.wick_eq, Dev.wick_eq, hkept.get _ hstill hne]
  obtain ⟨hoffA, hoffB⟩ := hoff l l.isLt
  obtain ⟨hotherA, hlitA⟩ := hwicksA l l.isLt
  obtain ⟨hotherB, hlitB⟩ := hwicksB l l.isLt
  have hactive : (d.litRow k .a 32).wick l .a = wkActive := by
    rw [hlitA, if_pos l.isLt, Dev.litAs, hoffA, hoffB]
    rfl
  refine ⟨?_, ?_⟩
  · rw [hsame]
    exact hotherB.trans hactive
  · rw [hsame, hlitB, if_pos l.isLt, Dev.litAs, if_pos (.inl hactive)]

/-- Settles O39: each step of bring-up by what it completes, and the power-on reset by what it keeps. -/
theorem powerAndBringUp : Obligations.PowerAndBringUp := by
  unfold Obligations.PowerAndBringUp
  refine ⟨?_, ?_⟩
  · intro s sel ok east west banks d dead
    refine ⟨⟨_, rfl, rfl, rfl, d.cleared_shows⟩, fun hp => ?_⟩
    have hrun : ∀ {post : Dev → Prop}, (∃ b, porRelease sel ok (east, west) (banks.map Fin.val) s.m = s.m.setDev b ∧ post b) →
        ends (.porNRelease sel ok (east, west) banks) s post := by
      rintro post ⟨b, hb, hpost⟩
      exact ⟨b, congrArg (fun m : Mach => (Host.Outcome.next { s with m := m } : Host.Outcome State Fault Refusal)) hb, hpost⟩
    refine ⟨?_, ?_, ?_, ?_⟩
    · rintro rfl
      exact hrun ⟨_, porRelease_unfused hp, Dev.fatal_dead (by decide) rfl⟩
    · rintro rfl h
      exact hrun (porRelease_spares hp h)
    · rintro rfl he hw ⟨b, hmem, hlow⟩
      exact hrun (porRelease_bank hp he hw ⟨b, List.mem_map_of_mem hmem, hlow⟩)
    · rintro rfl he hw hb
      obtain ⟨b, hrel, h⟩ := porRelease_done (spares := (east, west)) (failed := banks.map Fin.val) hp sel.isLt he hw fun n hn => by
        obtain ⟨x, hx, rfl⟩ := List.mem_map.mp hn
        exact hb x hx
      have hmem : ∀ x : Fin 64, x.val ∈ banks.map Fin.val ↔ x ∈ banks := fun x =>
        List.mem_map_of_injective Fin.val_injective
      have hbanks := h.banks
      simp only [hmem] at hbanks
      exact hrun ⟨b, hrel, h.released, h.step.1, h.step.2, h.sampled, h.spares.1, h.spares.2, fun hne => h.degraded (by simpa using hne),
        hbanks⟩
  · intro s st up at_ lanes bad d k hp
    refine ⟨fun i hs hi => ends_onDev rfl hp ⟨d.started k i, firmwareStart_boards k hs hi, d.started_shows k i⟩,
      fun hidle hheld hstep hlanes => ends_onDev rfl hp (dramTraining_shows k st up at_ hidle hheld hstep hlanes),
      fun hs hd => ends_onDev rfl hp ?_, fun i hs hi hf hg hfree hw => ends_onDev rfl hp (forwardingLoad_shows k hs hi hf hg hfree hw),
      fun hs hg hl => ends_onDev rfl hp ?_⟩
    · obtain ⟨h1, h2, h3⟩ := serdesCal_shows k (bad.map Fin.val) hs hd
      refine ⟨h1, fun hne => h2 (by simpa using hne), fun n => (h3 n n.isLt).trans ?_⟩
      congr 1
      exact decide_eq_decide.mpr (List.mem_map_of_injective Fin.val_injective)
    · exact firstLighting_shows k hs hg (fun l hlt => ⟨(hl ⟨l, hlt⟩).2.2.1, (hl ⟨l, hlt⟩).2.2.2⟩)
        fun l hlt => ⟨(hl ⟨l, hlt⟩).1, (hl ⟨l, hlt⟩).2.1⟩

end Sys2Proof.Machine
end

section
/-! Proofs: training of the Taper link (R462, R471 to R473). -/

namespace Sys2Proof.Machine
open Sys2Proof

/-! What the link sends. -/

theorem Dev.tapSend_bare {d : Dev} (unit : Bytes) (h : d.taper.eth = false) : d.tapSend unit = d.emit (.taper unit) := by
  simp [Dev.tapSend, h]

/-- Words that are sent one after another, each made of the link's state, which sending leaves. -/
theorem Dev.foldl_tapSend (f : Taper → Nat → Bytes) (is : List Nat) {d : Dev} (h : d.taper.eth = false) :
    is.foldl (fun d i => d.tapSend (f d.taper i)) d = { d with out := d.out ++ is.map fun i => .taper (f d.taper i) } := by
  induction is generalizing d with
  | nil => simp
  | cons i is ih =>
    rw [List.foldl_cons, Dev.tapSend_bare _ h, ih (d := d.emit (.taper (f d.taper i))) h]
    simp [Dev.emit]

theorem Dev.sendLaneId_eq {d : Dev} (h : d.taper.eth = false) : d.sendLaneId = { d with
    out := d.out ++ (List.range 8).map (fun i => Out.taper (trainWord i 2 (widthOk d.taper.usable) d.taper.expected d.taper.firstUp)) } := by
  rw [Dev.sendLaneId, if_neg (by simp [h])]
  exact Dev.foldl_tapSend (fun t i => trainWord i 2 (widthOk t.usable) t.expected t.firstUp) _ h

/-! STATE. -/

theorem Dev.get_tapState_set (d : Dev) {n : Nat} (hn : n < 8) : (d.set F.TAP_STATE n).get F.TAP_STATE = n :=
  (d.get_set_self _ _).trans (Nat.mod_eq_of_lt hn)

section
variable {d : Dev} (k : Clock)

theorem Dev.tapFail_shows (d : Dev) : (d.tapFail k).get F.TAP_STATE = 1 ∧ bit ((d.tapFail k).get F.TAP_STICKY) 0 = true ∧
    (d.tapFail k).taper = d.taper := by
  have h := Dev.alike_event ((d.setBit F.TAP_STICKY 0).set F.TAP_STATE tapAdapt) k 642 (flcTap 1 0) (by decide)
  have hsticky : ((d.setBit F.TAP_STICKY 0).set F.TAP_STATE tapAdapt).get F.TAP_STICKY = (d.setBit F.TAP_STICKY 0).get F.TAP_STICKY :=
    Dev.get_set_of_ne _ _ (by decide)
  refine ⟨?_, ?_, ?_⟩
  · exact (h.get_eq _ (by decide)).trans (Dev.get_tapState_set _ (by decide))
  · rw [Dev.tapFail, h.get_eq _ (by decide), hsticky]
    exact d.bit_setBit (f := F.TAP_STICKY) (by decide)
  · rw [Dev.tapFail, h.taper_eq]
    rfl

/-! Training starts. -/

/-- A table made of the values that are not 0 reads each value. -/
theorem tgetD_filterMap (c : Nat → Nat) (vs : List Nat) {v : Nat} (hv : v ∈ vs) :
    tgetD (vs.filterMap fun v => if c v = 0 then none else some (v, c v)) v 0 = c v := by
  induction vs with
  | nil => simp at hv
  | cons w vs ih =>
    by_cases hw : v = w
    · subst hw
      by_cases hc : c v = 0
      · by_cases hin : v ∈ vs
        · simpa [List.filterMap_cons, hc] using ih hin
        · have hnone : tget? (vs.filterMap fun v => if c v = 0 then none else some (v, c v)) v = none := by
            cases hx : tget? (vs.filterMap fun v => if c v = 0 then none else some (v, c v)) v with
            | none => rfl
            | some x =>
              obtain ⟨u, hu, he⟩ := List.mem_filterMap.mp (mem_of_tget? hx)
              split at he
              · cases he
              · cases he
                exact absurd hu hin
          simp [hc, tgetD, hnone]
      · simp [hc, tgetD, tget?_cons]
    · have hin : v ∈ vs := (List.mem_cons.mp hv).resolve_left hw
      by_cases hc : c w = 0
      · simpa [List.filterMap_cons, hc] using ih hin
      · have hskip := ih hin
        rw [tgetD] at hskip
        simp [hc, tgetD, tget?_cons, Ne.symm hw, hskip]

theorem Dev.tapStart_starts (h : ((List.range 16).map fun v => d.get (F.TAP_CREDIT_INIT v)).foldl (· + ·) 0 ≤ 8192) :
    let b := d.tapStart k
    b.get F.TAP_STATE = 1 ∧ b.taper.seq = 0 ∧ b.taper.expected = 0 ∧ b.taper.unacked = [] ∧ b.taper.firstUp = true ∧
      ∀ v < 16, b.grantOf v = d.get (F.TAP_CREDIT_INIT v) := by
  intro b
  have hb : b = d.tapFresh.set F.TAP_STATE tapAdapt := if_neg (Nat.not_lt.mpr h)
  rw [hb]
  exact ⟨Dev.get_tapState_set _ (by decide), rfl, rfl, rfl, rfl, fun v hv =>
    tgetD_filterMap (fun v => d.get (F.TAP_CREDIT_INIT v)) (List.range 16) (List.mem_range.mpr hv)⟩

theorem Dev.tapStart_refused (h : 8192 < ((List.range 16).map fun v => d.get (F.TAP_CREDIT_INIT v)).foldl (· + ·) 0)
    (hs : d.get F.TAP_STATE = 0) : let b := d.tapStart k
    b.get F.TAP_STATE = 0 ∧ bit (b.get F.TAP_STICKY) 2 = true ∧ b.taper = d.taper := by
  intro b
  have hb : b = (d.setBit F.TAP_STICKY 2).event k 642 (flcTap 3 0) := if_pos h
  have hreport := Dev.alike_event (d.setBit F.TAP_STICKY 2) k 642 (flcTap 3 0) (by decide)
  refine ⟨?_, ?_, ?_⟩
  · rw [hb, hreport.get_eq _ (by decide)]
    exact (Dev.get_set_of_ne _ _ (by decide)).trans hs
  · rw [hb]
    exact d.bit_setBit_event k _ (by decide) (by decide) (by decide)
  · rw [hb, hreport.taper_eq]
    rfl

/-! LANE_ID, LOCK and CONFIG end. -/

/-- A width chosen is at most the eight lanes. -/
theorem Dev.tapChoose_le {usable wd o : Nat} (h : d.tapChoose usable = some (wd, o)) : wd ≤ 8 := by
  unfold Dev.tapChoose at h
  split at h
  · cases h
  · obtain ⟨w, hw, hpick⟩ := List.exists_of_findSome?_eq_some h
    split at hpick
    · obtain ⟨o', -, heq⟩ := Option.map_eq_some_iff.mp hpick
      cases heq
      have hle : w ≤ 3 := by
        simp only [List.mem_cons, List.not_mem_nil, or_false] at hw
        omega
      exact Nat.pow_le_pow_right (by decide) hle
    · cases hpick

/-- What the end of LANE_ID writes. -/
def widthedFields (wd : Nat) (reversed : Bool) (polarity : Nat) : List (Fld × Nat) :=
  [(F.TAP_STATE, tapLock), (F.TAP_WIDTH, wd), (F.TAP_REVERSED, b2n reversed), (F.TAP_POL_INV, polarity)]

theorem Dev.tapWidthed_chosen {usable wd o polarity : Nat} (reversed : Bool) (heth : d.taper.eth = false)
    (hpick : d.tapChoose usable = some (wd, o)) (hpol : polarity < 256) :
    let b := d.tapWidthed k usable reversed polarity
    b.get F.TAP_STATE = 3 ∧ b.get F.TAP_WIDTH = wd ∧ b.get F.TAP_REVERSED = b2n reversed ∧ b.get F.TAP_POL_INV = polarity ∧
      b.taper.lane0 = o := by
  intro b
  let set := (d.onTap fun t => { t with usable := usable, lane0 := o }).setAll (widthedFields wd reversed polarity)
  have hb : b = if wd < 8 then (set.setBit F.TAP_STICKY 1).event k 641 (flcTap 0 255) else set := by
    show d.tapWidthed k usable reversed polarity = _
    simp only [Dev.tapWidthed, heth, Bool.false_eq_true, if_false, hpick]
    rfl
  have hkeep : ∀ f : Fld, f.still = true → f.key ≠ F.TAP_STICKY.key → b.get f = set.get f := by
    intro f hf hne
    rw [hb]
    split
    · exact ((Dev.alike_event _ k 641 _ (by decide)).get_eq f hf).trans (Dev.get_set_of_ne _ _ hne)
    · rfl
  have htap : b.taper = set.taper := by
    rw [hb]
    split
    · exact (Dev.alike_event _ k 641 _ (by decide)).taper_eq.trans rfl
    · rfl
  obtain ⟨heq, hget, -⟩ := Dev.sets_setAll (widthedFields wd reversed polarity) (d.onTap fun t => { t with usable := usable, lane0 := o })
    (by simp only [widthedFields, List.map_cons]; decide)
  simp only [widthedFields, List.forall_mem_cons] at hget
  obtain ⟨hstate, hwidth, hrev, hinv, -⟩ := hget
  refine ⟨(hkeep _ (by decide) (by decide)).trans hstate, ?_, ?_, ?_, ?_⟩
  · rw [hkeep _ (by decide) (by decide)]
    exact hwidth.trans (Nat.mod_eq_of_lt (Nat.lt_of_le_of_lt (Dev.tapChoose_le hpick) (by decide)))
  · rw [hkeep _ (by decide) (by decide)]
    exact hrev.trans (by cases reversed <;> rfl)
  · rw [hkeep _ (by decide) (by decide)]
    exact hinv.trans (Nat.mod_eq_of_lt hpol)
  · rw [htap]
    exact congrArg (fun e : Dev => e.taper.lane0) heq

theorem Dev.tapWidthed_none {usable polarity : Nat} (reversed : Bool) (heth : d.taper.eth = false) (hpick : d.tapChoose usable = none) :
    d.tapWidthed k usable reversed polarity = d.tapFail k := by
  simp only [Dev.tapWidthed, heth, Bool.false_eq_true, if_false, hpick]

theorem Dev.tapGoesUp_shows {n : Nat} (h : d.taper.peerNext = some n) : let b := d.tapGoesUp k
    b.get F.TAP_STATE = 5 ∧ b.get F.TAP_RETRAINING = 0 ∧ b.taper.again = b.taper.unacked.map TapBlock.seq ∧
      b.taper.unacked = if d.taper.unacked.any (fun y => y.seq == n) then d.taper.unacked.dropWhile (fun y => y.seq != n) else [] := by
  intro b
  let left := if d.taper.unacked.any (fun y => y.seq == n) then d.taper.unacked.dropWhile (fun y => y.seq != n) else []
  let kept := d.onTap fun t => { t with unacked := left, again := left.map TapBlock.seq, replays := 0, replayOf := none, firstUp := false }
  let up : List (Fld × Nat) := [(F.TAP_STATE, tapUp), (F.TAP_RETRAINING, 0)]
  have hb : b = (kept.setAll up).event k 640 (flcTap 1 0) := by
    show d.tapGoesUp k = _
    simp only [Dev.tapGoesUp, h]
    rfl
  obtain ⟨hget, hrest⟩ := kept.setAll_event_shows k (l := up) (fs := [F.TAP_STATE, F.TAP_RETRAINING]) (n := 640) (flcTap 1 0) rfl
    (by decide) (by decide) (by decide)
  have htap : b.taper = kept.taper := by
    rw [hb]
    exact (congrArg Dev.taper hrest.1).trans rfl
  rw [← hb] at hget
  simp only [up, List.forall_mem_cons] at hget
  obtain ⟨hstate, hretrain, -⟩ := hget
  refine ⟨hstate, hretrain, ?_, ?_⟩
  · rw [htap]
    rfl
  · rw [htap]
    rfl

end

/-! TAPER_TRAIN_STEP. -/

section
variable {d : Dev} (k : Clock) (ok : Bool) (us : Nat) (rev : Bool) (pol : Nat) (hen : d.flag F.TAP_EN = true) (hheld : d.isHeld 40 = false)
include hen hheld

theorem tapStep_down (hs : d.get F.TAP_STATE = 0) : tapStep ok us rev pol k d = d.tapStart k := by
  simp [tapStep, hen, hheld, Dev.tapState, hs, tapUp, tapDown]

theorem tapStep_fails (hlow : 1 ≤ d.get F.TAP_STATE) (hhigh : d.get F.TAP_STATE ≤ 4) : tapStep false us rev pol k d = d.tapFail k := by
  have hup : d.get F.TAP_STATE ≠ 5 := by omega
  have hdown : d.get F.TAP_STATE ≠ 0 := by omega
  simp [tapStep, hen, hheld, Dev.tapState, hup, hdown, tapUp, tapDown]

theorem tapStep_adapted (hs : d.get F.TAP_STATE = 1) : tapStep true us rev pol k d =
    ((d.onTap fun t => { t with usable := d.tapLanes us, peerWidth := none }).set F.TAP_STATE tapLaneId).sendLaneId := by
  simp [tapStep, hen, hheld, Dev.tapState, hs, tapUp, tapDown, tapAdapt]

theorem tapStep_laned (hs : d.get F.TAP_STATE = 2) : tapStep true us rev pol k d = d.tapWidthed k (d.tapLanes us) rev pol := by
  simp [tapStep, hen, hheld, Dev.tapState, hs, tapUp, tapDown, tapAdapt, tapLaneId]

theorem tapStep_locked (hs : d.get F.TAP_STATE = 3) : tapStep true us rev pol k d =
    ((d.onTap fun t => { t with peerNext := none }).set F.TAP_STATE tapConfig).sendConfig := by
  simp [tapStep, hen, hheld, Dev.tapState, hs, tapUp, tapDown, tapAdapt, tapLaneId, tapLock]

theorem tapStep_configured (hs : d.get F.TAP_STATE = 4) : tapStep true us rev pol k d = d.tapGoesUp k := by
  simp [tapStep, hen, hheld, Dev.tapState, hs, tapUp, tapDown, tapAdapt, tapLaneId, tapLock]

end

theorem tapTimeout_fails {d : Dev} (k : Clock) (hheld : d.isHeld 40 = false) (hlow : 1 ≤ d.get F.TAP_STATE) (hhigh : d.get F.TAP_STATE ≤ 4) :
    tapTimeout k d = d.tapFail k := by
  have hup : d.get F.TAP_STATE ≠ 5 := by omega
  have hdown : d.get F.TAP_STATE ≠ 0 := by omega
  simp [tapTimeout, hheld, Dev.tapState, hup, hdown, tapUp, tapDown]

/-! Retraining. -/

/-- What a retrain writes. -/
def retrainFields (n : Nat) : List (Fld × Nat) := [(F.TAP_STATE, tapLaneId), (F.TAP_RETRAINING, 1), (F.TAP_RETRAINS, min 65535 (n + 1))]

theorem Dev.tapRetrain_shows {d : Dev} (k : Clock) (hs : d.get F.TAP_STATE = 5) (heth : d.taper.eth = false) : let b := d.tapRetrain k
    b.get F.TAP_STATE = 2 ∧ b.get F.TAP_RETRAINING = 1 ∧ b.get F.TAP_RETRAINS = min 65535 (d.get F.TAP_RETRAINS + 1) ∧
      b.taper.unacked = d.taper.unacked ∧ b.get F.TAP_STICKY = d.get F.TAP_STICKY := by
  intro b
  let begun := (d.setAll (retrainFields (d.get F.TAP_RETRAINS))).onTap fun t => { t with peerWidth := none, peerNext := none, firstUp := false }
  have hcount : (d.setAll [(F.TAP_STATE, tapLaneId), (F.TAP_RETRAINING, 1)]).get F.TAP_RETRAINS = d.get F.TAP_RETRAINS :=
    Dev.get_setAll_of_ne d (by simp only [List.forall_mem_cons]; decide)
  have hbegun : ((d.setAll [(F.TAP_STATE, tapLaneId), (F.TAP_RETRAINING, 1)]).satInc F.TAP_RETRAINS).onTap
      (fun t => { t with peerWidth := none, peerNext := none, firstUp := false }) = begun := by
    rw [Dev.satInc_eq_min, hcount]
    rfl
  have hb : b = (begun.event k 643 (flcTap 1 0)).sendLaneId := by
    show d.tapRetrain k = _
    rw [Dev.tapRetrain, if_neg (by simp [Dev.tapState, hs, tapUp])]
    exact congrArg (fun e : Dev => (e.event k 643 (flcTap 1 0)).sendLaneId) hbegun
  have hreport := begun.alike_event k 643 (flcTap 1 0) (by decide)
  obtain ⟨heq, hget, hkeep⟩ := Dev.sets_setAll (retrainFields (d.get F.TAP_RETRAINS)) d
    (by simp only [retrainFields, List.map_cons]; decide)
  have htap : begun.taper = { d.taper with peerWidth := none, peerNext := none, firstUp := false } :=
    congrArg (fun e : Dev => { e.taper with peerWidth := none, peerNext := none, firstUp := false }) heq
  have hsend := Dev.sendLaneId_eq (d := begun.event k 643 (flcTap 1 0)) (by rw [hreport.taper_eq, htap]; exact heth)
  rw [← hb] at hsend
  have hshow : ∀ f : Fld, f.still = true → b.get f = (d.setAll (retrainFields (d.get F.TAP_RETRAINS))).get f := by
    intro f hf
    have hsame : b.get f = (begun.event k 643 (flcTap 1 0)).get f := Dev.get_congr (congrArg Dev.fld hsend) f
    exact hsame.trans (hreport.get_eq f hf)
  simp only [retrainFields, List.forall_mem_cons] at hget
  obtain ⟨hstate, hretraining, hretrains, -⟩ := hget
  refine ⟨(hshow _ (by decide)).trans hstate, (hshow _ (by decide)).trans hretraining, ?_, ?_, ?_⟩
  · exact (hshow _ (by decide)).trans (hretrains.trans (Nat.mod_eq_of_lt (Nat.lt_of_le_of_lt (Nat.min_le_left _ _) (by decide))))
  · have hsame : b.taper = begun.taper := (congrArg Dev.taper hsend).trans hreport.taper_eq
    rw [hsame, htap]
  · exact (hshow _ (by decide)).trans (hkeep _ (by simp only [retrainFields, List.forall_mem_cons]; decide))

section
variable {d : Dev} (k : Clock) (heth : d.taper.eth = false)
include heth

theorem lockLoss_retrains {lane : Nat} (hlo : d.taper.lane0 ≤ lane) (hhi : lane < d.taper.lane0 + d.get F.TAP_WIDTH) :
    lockLoss lane k d = d.tapRetrain k := if_neg (by simp [heth, hlo, hhi])

omit heth in
theorem lockLoss_unused {lane : Nat} (h : lane < d.taper.lane0 ∨ d.taper.lane0 + d.get F.TAP_WIDTH ≤ lane) : lockLoss lane k d = d :=
  if_pos (by rcases h with h | h <;> simp [h])

variable {x : TapBlock} {rest : List TapBlock} (hheld : d.isHeld 40 = false) (hs : d.get F.TAP_STATE = 5)
  (hun : d.taper.unacked = x :: rest) (hx : x.seq ∉ d.taper.again)
include hheld hs hun hx

omit heth in
theorem replayTimeout_runs : replayTimeout k d =
    if max 1 (d.get F.TAP_REPLAY_NUM) ≤ (if d.taper.replayOf = some x.seq then d.taper.replays else 0) then
      ((d.setBit F.TAP_STICKY 3).event k 644 (flcTap 2 0)).tapRetrain k
    else { d with taper := { d.taper with
      again := d.taper.unacked.map TapBlock.seq
      replays := (if d.taper.replayOf = some x.seq then d.taper.replays else 0) + 1
      replayOf := some x.seq } } := by
  simp [replayTimeout, hun, Dev.tapState, hs, hheld, hx, tapUp, Dev.onTap]

theorem replayTimeout_retrains (hn : max 1 (d.get F.TAP_REPLAY_NUM) ≤ (if d.taper.replayOf = some x.seq then d.taper.replays else 0)) :
    (replayTimeout k d).get F.TAP_STATE = 2 ∧ bit ((replayTimeout k d).get F.TAP_STICKY) 3 = true := by
  have hreport := Dev.alike_event (d.setBit F.TAP_STICKY 3) k 644 (flcTap 2 0) (by decide)
  have hstate : ((d.setBit F.TAP_STICKY 3).event k 644 (flcTap 2 0)).get F.TAP_STATE = 5 :=
    (hreport.get_eq _ (by decide)).trans ((Dev.get_set_of_ne _ _ (by decide)).trans hs)
  obtain ⟨h2, -, -, -, hsticky⟩ := Dev.tapRetrain_shows k hstate (by rw [hreport.taper_eq]; exact heth)
  rw [replayTimeout_runs k hheld hs hun hx, if_pos hn, hsticky]
  exact ⟨h2, d.bit_setBit_event k _ (by decide) (by decide) (by decide)⟩

end

end Sys2Proof.Machine
end

section
/-! Proofs: the words of the Taper link (R455, R459 to R461, R471). -/

namespace Sys2Proof.Machine
open Sys2Proof

section
variable {d : Dev} (k : Clock) {w : Bytes}

/-- A word of its row's KIND reaches the link. -/
theorem wordOfKind_hears {kind : Nat} (hh : d.tapHears = true) (hk : (byteAt w 0).toNat = kind) : wordOfKind kind w k d = d.gotWord k w := by
  simp [wordOfKind, hh, hk]

theorem wordOfKind_bad (kind : Nat) (hw : wordGood w = false) : wordOfKind kind w k d = d := by
  have hgot : d.gotWord k w = d := if_pos (by simp [hw])
  rw [wordOfKind, hgot, ite_self]

theorem Dev.gotAck_frees {n : Nat} (h : d.taper.unacked.any (fun y => y.seq == n) = true) :
    (d.gotAck n).taper.unacked = (d.taper.unacked.dropWhile fun y => y.seq != n).drop 1 ∧ (d.gotAck n).taper.lastAck = some n ∧
      (d.gotAck n).taper.replays = 0 := by
  simp only [Dev.gotAck, h, if_true, Dev.onTap]
  exact ⟨trivial, trivial, trivial⟩

theorem Dev.gotNak_again {n : Nat} (h : d.taper.unacked.any (fun y => y.seq == n) = true) :
    (d.gotNak n).taper.unacked = d.taper.unacked.dropWhile (fun y => y.seq != n) ∧
      (d.gotNak n).taper.again = (d.gotNak n).taper.unacked.map TapBlock.seq := by
  simp only [Dev.gotNak, h, Bool.true_or, if_true, Dev.onTap]
  exact ⟨trivial, trivial⟩

/-- The counts of a CREDIT word, each taken for its VC. -/
theorem Dev.gotCredit_counts (d : Dev) (base : Nat) (w : Bytes) :
    ∀ i < 8, tgetD (d.gotCredit base w).taper.granted (base + i) 0 = leAt w (4 + 2 * i) 2 := by
  have hstep : ∀ n, ∀ i < n, tgetD ((List.range n).foldl (fun d i => d.onTap fun t => { t with
      granted := tput t.granted (base + i) 0 (leAt w (4 + 2 * i) 2) }) d).taper.granted (base + i) 0 = leAt w (4 + 2 * i) 2 := by
    intro n
    induction n with
    | zero => intro i hi; omega
    | succ n ih =>
      intro i hi
      rw [List.range_succ, List.foldl_append, List.foldl_cons, List.foldl_nil]
      by_cases he : i = n
      · subst he
        exact tgetD_tput_self _ _ _ _
      · refine Eq.trans (tgetD_tput_of_ne _ _ _ _ (by omega)) (ih i (by omega))
  exact hstep 8

variable (hw : wordGood w = true)
include hw

theorem Dev.gotWord_ack (hk : byteAt w 0 = 3) (hs : d.get F.TAP_STATE = 5) : d.gotWord k w = d.gotAck (leAt w 4 2 % 4096) := by
  simp [Dev.gotWord, hw, hk, Dev.tapState, hs, tapUp]

theorem Dev.gotWord_nak (hk : byteAt w 0 = 4) (hs : d.get F.TAP_STATE = 5) : d.gotWord k w = d.gotNak (leAt w 4 2 % 4096) := by
  simp [Dev.gotWord, hw, hk, Dev.tapState, hs, tapUp]

theorem Dev.gotWord_creditLo (hk : byteAt w 0 = 5) (hs : 4 ≤ d.get F.TAP_STATE) : d.gotWord k w = d.gotCredit 0 w := by
  simp [Dev.gotWord, hw, hk, Dev.tapState, hs, tapConfig]

theorem Dev.gotWord_creditHi (hk : byteAt w 0 = 6) (hs : 4 ≤ d.get F.TAP_STATE) : d.gotWord k w = d.gotCredit 8 w := by
  simp [Dev.gotWord, hw, hk, Dev.tapState, hs, tapConfig]

variable (hfirst : bit (leAt w 10 1) 0 = false)
include hfirst

theorem Dev.gotWord_trainWidths (hk : byteAt w 0 = 7) (heth : d.taper.eth = false) (hs : d.get F.TAP_STATE = 2) :
    d.gotWord k w = { d with taper := { d.taper with peerWidth := some (leAt w 6 1) } } := by
  simp [Dev.gotWord, hw, hk, Dev.gotTrain, hfirst, heth, Dev.tapState, hs, tapLaneId, Dev.onTap]

theorem Dev.gotWord_trainNext (hk : byteAt w 0 = 7) (hs : d.get F.TAP_STATE = 4) :
    d.gotWord k w = { d with taper := { d.taper with peerNext := some (leAt w 8 2 % 4096) } } := by
  simp [Dev.gotWord, hw, hk, Dev.gotTrain, hfirst, Dev.tapState, hs, tapLaneId, tapConfig, Dev.onTap]

end

/-- Settles O58: training by its state, words by their KIND, replays by their number. -/
theorem taperLink : Obligations.TaperLink := by
  unfold Obligations.TaperLink
  intro s ok rev us pol lane w x rest n wd o d t st step seq back hp hheld heth
  refine ⟨fun hen => ⟨fun hs hsum => ends_onDev rfl hp ?_, fun hs hsum => ends_onDev rfl hp ?_, fun hlo hhi => ends_onDev rfl hp ?_,
    fun hs => ends_onDev rfl hp ?_, fun hs hpick => ends_onDev rfl hp ?_, fun hs hpick => ends_onDev rfl hp ?_,
    fun hs => ends_onDev rfl hp ?_, fun hs hnext => ends_onDev rfl hp ?_⟩, fun hlo hhi => ends_onDev rfl hp ?_,
    fun hs hlo hhi => ends_onDev rfl hp ?_, fun h => ends_onDev rfl hp (lockLoss_unused _ h), fun hs hun hx => ?_, fun hh hw => ?_,
    fun hw => ?_⟩
  · rw [tapStep_down _ _ _ _ _ hen hheld hs]
    exact Dev.tapStart_starts _ hsum
  · rw [tapStep_down _ _ _ _ _ hen hheld hs]
    exact Dev.tapStart_refused _ hsum hs
  · rw [tapStep_fails _ _ _ _ hen hheld hlo hhi]
    exact Dev.tapFail_shows _ d
  · rw [tapStep_adapted _ _ _ _ hen hheld hs, Dev.sendLaneId_eq (by exact heth)]
    exact ⟨Dev.get_tapState_set (d.onTap fun t => { t with usable := d.tapLanes us, peerWidth := none }) (n := tapLaneId) (by decide), rfl, rfl⟩
  · rw [tapStep_laned _ _ _ _ hen hheld hs]
    exact Dev.tapWidthed_chosen _ rev heth hpick pol.isLt
  · rw [tapStep_laned _ _ _ _ hen hheld hs, Dev.tapWidthed_none _ rev heth hpick]
    exact Dev.tapFail_shows _ d
  · rw [tapStep_locked _ _ _ _ hen hheld hs]
    exact ⟨Dev.get_tapState_set (d.onTap fun t => { t with peerNext := none }) (n := tapConfig) (by decide), rfl⟩
  · rw [tapStep_configured _ _ _ _ hen hheld hs]
    exact Dev.tapGoesUp_shows _ hnext
  · rw [tapTimeout_fails _ hheld hlo hhi]
    exact Dev.tapFail_shows _ d
  · rw [lockLoss_retrains _ heth hlo hhi]
    obtain ⟨h1, h2, h3, h4, -⟩ := Dev.tapRetrain_shows s.m.clk hs heth
    exact ⟨h1, h2, h3, h4⟩
  · intro sent
    refine ⟨fun hlt => ends_onDev rfl hp ?_, fun hle => ends_onDev rfl hp (replayTimeout_retrains _ heth hheld hs hun hx hle)⟩
    rw [replayTimeout_runs _ hheld hs hun hx, if_neg (Nat.not_le.mpr hlt)]
  · have hhear : ∀ kind : Nat, (byteAt w 0).toNat = kind → wordOfKind kind w s.m.clk s.m.dev = s.m.dev.gotWord s.m.clk w :=
      fun _ => wordOfKind_hears _ hh
    refine ⟨fun hk hs hany => ends_onDev rfl hp ?_, fun hk hs hany => ends_onDev rfl hp ?_, fun hk hs => ends_onDev rfl hp ?_,
      fun hk hs => ends_onDev rfl hp ?_, fun hk hfirst => ⟨fun hs => ends_onDev rfl hp ?_, fun hs => ends_onDev rfl hp ?_⟩⟩
    · rw [hhear 3 (by rw [hk]; rfl), Dev.gotWord_ack _ hw hk hs]
      exact Dev.gotAck_frees hany
    · rw [hhear 4 (by rw [hk]; rfl), Dev.gotWord_nak _ hw hk hs]
      exact Dev.gotNak_again hany
    · rw [hhear 5 (by rw [hk]; rfl), Dev.gotWord_creditLo _ hw hk hs]
      intro i hi
      have hcount := d.gotCredit_counts 0 w i hi
      rwa [Nat.zero_add] at hcount
    · rw [hhear 6 (by rw [hk]; rfl), Dev.gotWord_creditHi _ hw hk hs]
      exact d.gotCredit_counts 8 w
    · exact (hhear 7 (by rw [hk]; rfl)).trans (Dev.gotWord_trainWidths _ hw hfirst hk heth hs)
    · exact (hhear 7 (by rw [hk]; rfl)).trans (Dev.gotWord_trainNext _ hw hfirst hk hs)
  · exact ⟨ends_onDev rfl hp (wordOfKind_bad _ 3 hw), ends_onDev rfl hp (wordOfKind_bad _ 4 hw), ends_onDev rfl hp (wordOfKind_bad _ 5 hw),
      ends_onDev rfl hp (wordOfKind_bad _ 6 hw), ends_onDev rfl hp (wordOfKind_bad _ 7 hw)⟩

end Sys2Proof.Machine
end

section
/-! Proofs: the CRCs of 32 bits, and the layout of Taper's words and blocks (R455, R456). -/

namespace Sys2Proof.Machine
open Sys2Proof

/-! A CRC of 32 bits has 32 bits. -/

theorem crcBitR_lt {poly c : Nat} (hp : poly < 2 ^ 32) (hc : c < 2 ^ 32) : crcBitR poly c < 2 ^ 32 := by
  unfold crcBitR
  split
  · exact Nat.xor_lt_two_pow (by omega) hp
  · omega

theorem crcByteR_lt {poly c : Nat} (b : Byte) (hp : poly < 2 ^ 32) (hc : c < 2 ^ 32) : crcByteR poly c b < 2 ^ 32 := by
  have hin : c ^^^ b.toNat < 2 ^ 32 := Nat.xor_lt_two_pow hc (Nat.lt_of_lt_of_le b.isLt (by decide))
  have hbit : ∀ {c}, c < 2 ^ 32 → crcBitR poly c < 2 ^ 32 := crcBitR_lt hp
  exact hbit (hbit (hbit (hbit (hbit (hbit (hbit (hbit hin)))))))

theorem crcR_lt {poly : Nat} (hp : poly < 2 ^ 32) (bs : Bytes) : bs.foldl (crcByteR poly) 0xFFFFFFFF ^^^ 0xFFFFFFFF < 2 ^ 32 := by
  refine Nat.xor_lt_two_pow ?_ (by decide)
  exact List.foldlRecOn (motive := fun c : Nat => c < 2 ^ 32) bs _ (by decide) fun c hc b _ => crcByteR_lt b hp hc

theorem crc32c_lt (bs : Bytes) : crc32c bs < 2 ^ 32 := crcR_lt (by decide) bs

theorem fcs32_lt (bs : Bytes) : fcs32 bs < 2 ^ 32 := crcR_lt (by decide) bs

/-! A string and its CRC after it. -/

theorem padTo_length {b : Bytes} {n : Nat} (h : b.length ≤ n) : (padTo b n).length = n := by simp [padTo, h]

theorem take_append_self {a b : Bytes} {n : Nat} (h : a.length = n) : (a ++ b).take n = a := by
  rw [← h, List.take_left]

theorem leAt_append_toLE {a : Bytes} {n o w : Nat} (h : a.length = o) (hn : n < 256 ^ w) : leAt (a ++ toLE n w) o w = n := by
  rw [leAt_append_right _ _ (le_of_eq h), h, Nat.sub_self, leAt_toLE, Nat.mod_eq_of_lt hn]

/-! Control words. -/

section
variable (kind : Nat) {rest : Bytes} (h : rest.length ≤ 27)
include h

theorem ctrlWord_eq : ctrlWord kind rest = padTo (byte kind :: rest) 28 ++ toLE (crc32c (padTo (byte kind :: rest) 28)) 4 := by
  have htake : (byte kind :: rest).take 28 = byte kind :: rest := List.take_of_length_le (by simp; omega)
  simp only [ctrlWord, htake]

theorem ctrlWord_head_length : (padTo (byte kind :: rest) 28).length = 28 := padTo_length (by simp; omega)

theorem ctrlWord_length : (ctrlWord kind rest).length = 32 := by
  rw [ctrlWord_eq kind h, List.length_append, ctrlWord_head_length kind h, toLE_length]

theorem ctrlWord_take : (ctrlWord kind rest).take 28 = padTo (byte kind :: rest) 28 := by
  rw [ctrlWord_eq kind h, take_append_self (ctrlWord_head_length kind h)]

theorem ctrlWord_good : wordGood (ctrlWord kind rest) = true := by
  have hcrc : leAt (ctrlWord kind rest) 28 4 = crc32c (padTo (byte kind :: rest) 28) := by
    rw [ctrlWord_eq kind h]
    exact leAt_append_toLE (ctrlWord_head_length kind h) (crc32c_lt _)
  simp [wordGood, ctrlWord_length kind h, ctrlWord_take kind h, hcrc]

theorem ctrlWord_kind : byteAt (ctrlWord kind rest) 0 = byte kind := by
  rw [ctrlWord_eq kind h, byteAt_append_left _ (by rw [ctrlWord_head_length kind h]; decide), byteAt_padTo]
  rfl

/-- A field of a control word is one of what stands after its KIND. -/
theorem ctrlWord_field {o w : Nat} (ho : 1 ≤ o) (hw : o + w ≤ 28) : leAt (ctrlWord kind rest) o w = leAt rest (o - 1) w := by
  rw [ctrlWord_eq kind h, leAt_append_left _ (by rw [ctrlWord_head_length kind h]; exact hw), leAt_padTo,
    show byte kind :: rest = [byte kind] ++ rest from rfl, leAt_append_right _ _ ho]
  rfl

end

theorem ackWord_good (n : Nat) : wordGood (ackWord n) = true := ctrlWord_good 3 (by simp)

theorem ackWord_length (n : Nat) : (ackWord n).length = 32 := ctrlWord_length 3 (by simp)

theorem ackWord_kind (n : Nat) : byteAt (ackWord n) 0 = 3 := ctrlWord_kind 3 (by simp)

theorem ackWord_seq {n : Nat} (h : n < 4096) : leAt (ackWord n) 4 2 % 4096 = n := by
  have hfield : leAt (ackWord n) 4 2 = n := by
    rw [ackWord, ctrlWord_field 3 (by simp) (by decide) (by decide), leAt_append_toLE (by simp) (by omega)]
  rw [hfield, Nat.mod_eq_of_lt h]

/-! Blocks. -/

/-- Flags of a block's start word: its VC, and whether it is the first and the last of its message. -/
def TapBlock.flags (b : TapBlock) : Nat := b.vc % 16 + 16 * b2n b.first + 32 * b2n b.last

theorem TapBlock.flags_lt (b : TapBlock) : b.flags < 64 := by
  have hbit : ∀ x : Bool, b2n x ≤ 1 := by decide
  have hfirst := hbit b.first
  have hlast := hbit b.last
  unfold TapBlock.flags
  omega

/-- What the start word holds after its KIND. -/
def TapBlock.head (b : TapBlock) : Bytes :=
  toLE b.type 1 ++ toLE b.flags 1 ++ toLE 0 1 ++ toLE (b.seq % 4096) 2 ++ toLE b.body.length 2

theorem TapBlock.start_eq (b : TapBlock) : b.start = ctrlWord 1 b.head := rfl

theorem TapBlock.head_le (b : TapBlock) : b.head.length ≤ 27 := by simp [TapBlock.head]

section
variable (b : TapBlock)

theorem TapBlock.start_length : b.start.length = 32 := ctrlWord_length 1 b.head_le

theorem TapBlock.start_good : wordGood b.start = true := ctrlWord_good 1 b.head_le

theorem TapBlock.start_kind : byteAt b.start 0 = 1 := ctrlWord_kind 1 b.head_le

theorem TapBlock.start_field {o w : Nat} (ho : 1 ≤ o) (hw : o + w ≤ 28) : leAt b.start o w = leAt b.head (o - 1) w :=
  ctrlWord_field 1 b.head_le ho hw

theorem TapBlock.start_type (h : b.type < 256) : leAt b.start 1 1 = b.type := by
  rw [b.start_field (by decide) (by decide), TapBlock.head, List.append_assoc, List.append_assoc, List.append_assoc, leAt_toLE_head,
    Nat.pow_one, Nat.mod_eq_of_lt h]

theorem TapBlock.start_flags : leAt b.start 2 1 = b.flags := by
  rw [b.start_field (by decide) (by decide), TapBlock.head, List.append_assoc, List.append_assoc, List.append_assoc,
    leAt_toLE_skip _ _ _ (by decide), leAt_toLE_head, Nat.pow_one, Nat.mod_eq_of_lt (Nat.lt_trans b.flags_lt (by decide))]

theorem TapBlock.start_seq (h : b.seq < 4096) : leAt b.start 4 2 % 4096 = b.seq := by
  have hfield : leAt b.start 4 2 = b.seq := by
    rw [b.start_field (by decide) (by decide), TapBlock.head, leAt_append_left _ (by simp), Nat.mod_eq_of_lt h,
      leAt_append_toLE (by simp) (by omega)]
  rw [hfield, Nat.mod_eq_of_lt h]

theorem TapBlock.start_len (h : b.body.length < 65536) : leAt b.start 6 2 = b.body.length := by
  rw [b.start_field (by decide) (by decide), TapBlock.head, leAt_append_toLE (by simp) h]

/-- The words after the start word, but for the CRC at their end. -/
def TapBlock.padded (b : TapBlock) : Bytes := padTo b.body (32 * (blockWords b.body.length - 1) - 4)

theorem TapBlock.bytes_eq : b.bytes = b.start ++ (b.padded ++ toLE (crc32c (b.start.take 28 ++ b.body)) 4) := List.append_assoc _ _ _

theorem TapBlock.padded_length : b.padded.length = 32 * (blockWords b.body.length - 1) - 4 := by
  refine padTo_length ?_
  simp only [blockWords, ceilDiv]
  omega

theorem TapBlock.bytes_length : b.bytes.length = 32 * blockWords b.body.length := by
  rw [b.bytes_eq, List.length_append, List.length_append, b.start_length, b.padded_length, toLE_length]
  simp only [blockWords, ceilDiv]
  omega

theorem TapBlock.bytes_start : b.bytes.take 32 = b.start := by rw [b.bytes_eq, take_append_self b.start_length]

theorem TapBlock.bytes_body : sliceZ b.bytes 32 b.body.length = b.body := by
  have hbyte : ∀ i < b.body.length, byteAt b.bytes (32 + i) = byteAt b.body i := by
    intro i hi
    have hlt : i < b.padded.length := Nat.lt_of_lt_of_le hi (by simp [TapBlock.padded, padTo])
    rw [b.bytes_eq, byteAt_append_right _ (by rw [b.start_length]; omega), b.start_length, Nat.add_sub_cancel_left,
      byteAt_append_left _ hlt, TapBlock.padded, byteAt_padTo]
  have hself : sliceZ b.body 0 b.body.length = b.body := by
    have := sliceZ_append_left (b := b.body) (c := []) rfl
    rwa [List.append_nil] at this
  conv_rhs => rw [← hself]
  rw [sliceZ_eq_map, sliceZ_eq_map]
  refine List.map_congr_left fun i hi => ?_
  rw [hbyte i (List.mem_range.mp hi), Nat.zero_add]

theorem TapBlock.bytes_crc : leAt b.bytes (b.bytes.length - 4) 4 = crc32c (b.start.take 28 ++ b.body) := by
  have hlen : (b.start ++ b.padded).length = b.bytes.length - 4 := by
    rw [b.bytes_eq, ← List.append_assoc, List.length_append (bs := toLE _ 4), toLE_length, Nat.add_sub_cancel]
  rw [← hlen]
  conv_lhs => rw [b.bytes_eq, ← List.append_assoc]
  exact leAt_append_toLE rfl (crc32c_lt _)

end

end Sys2Proof.Machine
end

section
/-! Proofs: what a host frame's way to its queue leaves of the Taper link (R235, R245, R467). -/

namespace Sys2Proof.Machine
open Sys2Proof

/-- The link is spared. -/
theorem Dev.spared_taper (t : Taper) : Dev.Spared fun d => d.taper = t where
  tables := fun _ _ _ _ h => h
  report := fun _ _ hab h => hab.taper_eq.trans h
  pool := fun _ _ _ h => h
  stomp := fun _ _ h => h

theorem Dev.taper_foldl {β : Type} {g : Dev → β → Dev} (h : ∀ d x, (g d x).taper = d.taper) (l : List β) (d : Dev) :
    (l.foldl g d).taper = d.taper :=
  List.foldlRecOn (motive := fun e : Dev => e.taper = d.taper) l g rfl fun e he x _ => (h e x).trans he

/-! Refusal, WRED and acceptance. -/

section
variable (d : Dev) (k : Clock)

@[simp] theorem Dev.refuse_taper (q off : Nat) (c : Copy) : (d.refuse q off c).2.taper = d.taper :=
  (Dev.alike_perf _ 33 3).taper_eq.trans (d.bookkept_countQueue q off _).taper

@[simp] theorem Dev.enqueue_taper (q : Nat) (c : Copy) : (d.enqueue q c).2.taper = d.taper :=
  (Dev.alike_perf _ 33 2).taper_eq.trans rfl

@[simp] theorem Dev.wred_taper (q w : Nat) : (d.wred q w).2.taper = d.taper := by
  unfold Dev.wred
  dsimp only
  split
  · rfl
  · split <;> rfl

@[simp] theorem Dev.admitWred_taper (q : Nat) (c : Copy) : (d.admitWred q c).2.taper = d.taper := by
  unfold Dev.admitWred
  dsimp only
  split
  · simp
  · split
    · simp
    · split <;> simp
  · split
    · split <;> simp
    · simp

/-! Push-out and spill. -/

@[simp] theorem Dev.countQueue_taper (q i n : Nat) : (d.countQueue q i n).taper = d.taper := (d.bookkept_countQueue q i n).taper

@[simp] theorem Dev.tsLost_taper (q : Nat) (c : Copy) : (d.tsLost k q c).taper = d.taper := (d.bookkept_tsLost k q c).taper

@[simp] theorem Dev.dropCopy_taper (q : Nat) (c : Copy) : (d.dropCopy q c).taper = d.taper := (d.bookkept_dropCopy q c).taper

@[simp] theorem Dev.admitPool_taper (q n : Nat) (c : Copy) : (d.admitPool k q n c).2.taper = d.taper := by
  unfold Dev.admitPool
  dsimp only
  generalize (if d.classHeld c.cls then _ else _ : Nat) = limit
  split
  · simp
  · split
    · split
      · simp
      · rw [Dev.admitWred_taper]
        exact Dev.taper_foldl (fun d v => by simp) _ d
    · simp

theorem Dev.nextChunk_taper {d e : Dev} {c : Nat} (h : d.nextChunk = some (c, e)) : e.taper = d.taper := by
  unfold Dev.nextChunk at h
  dsimp only at h
  split at h
  · obtain ⟨x, -, hx⟩ := Option.map_eq_some_iff.mp h
    rw [← (Prod.mk.inj hx).2]
  · obtain ⟨x, -, hx⟩ := Option.map_eq_some_iff.mp h
    rw [← (Prod.mk.inj hx).2]

@[simp] theorem Dev.takeChunks_taper (n : Nat) : (d.takeChunks n).2.taper = d.taper := by
  induction n generalizing d with
  | zero => rfl
  | succ n ih =>
    unfold Dev.takeChunks
    split
    · rfl
    · rename_i hnext
      exact (ih _).trans (Dev.nextChunk_taper hnext)

@[simp] theorem Dev.admitCopy_taper (q n : Nat) (only : Bool) (c : Copy) : (d.admitCopy k q n only c).2.taper = d.taper := by
  have hover : ∀ b : Bool,
      (if b = true then ((d.count (cGlobal 33) 0).setBit F.BM_STICKY 6).eventOf k 33 6 7 else d).taper = d.taper := by
    intro b
    split
    · exact (Dev.alike_eventOf _ k 33 6 7 (by decide)).taper_eq.trans rfl
    · rfl
  unfold Dev.admitCopy
  dsimp only
  split
  · simp
  split
  · rw [Dev.refuse_taper]
    exact (Dev.alike_eventOf _ k 33 5 6 (by decide)).taper_eq.trans rfl
  split
  · simp
  split
  · rw [Dev.enqueue_taper, (Dev.bookkept_countQueue _ _ _ _).taper, Dev.takeChunks_taper]
  split
  · rw [Dev.refuse_taper, hover]
  · rw [Dev.admitPool_taper, hover]

/-! A port that wakes for a frame (R136). -/

@[simp] theorem Dev.wakeRest_taper (p : Nat) : (d.wakeRest p).taper = d.taper := by
  have hplan : ∀ (e : Dev) (mv : Nat), (e.planAtLeast mv).taper = e.taper := fun e mv =>
    Dev.taper_foldl (fun _ _ => by split <;> rfl) _ e
  have hraise : ∀ (e : Dev) (mv : Nat), (e.raiseTo mv).taper = e.taper := fun e mv => by
    unfold Dev.raiseTo
    split <;> rfl
  have hvolt : ∀ e : Dev, (e.lightVolt p false).taper = e.taper := fun e => by
    unfold Dev.lightVolt
    split
    · rfl
    · dsimp only
      split
      · exact (hraise _ _).trans (hplan e _)
      · rw [hraise, hplan]
  unfold Dev.wakeRest
  split
  · exact (hvolt _).trans rfl
  · rfl

/-! A host frame asks, and is offered. -/

@[simp] theorem Dev.admitAll_taper (fid : Nat) (cs : List (Nat × Copy)) : (d.admitAll k fid cs).2.2.taper = d.taper := by
  unfold Dev.admitAll
  split
  · rfl
  · refine List.foldlRecOn (motive := fun acc : Nat × Admit × Dev => acc.2.2.taper = d.taper) cs _ rfl fun acc hacc e _ => ?_
    dsimp only
    split <;> simp [hacc]

@[simp] theorem Dev.offer_taper (q fid : Nat) (c : Copy) : (d.offer k q fid c).2.taper = d.taper := by
  have hall := d.admitAll_taper k fid [(q, c)]
  unfold Dev.offer
  dsimp only
  refine (Dev.spared_taper d.taper).settle ?_ k fid _ 0
  split
  · exact (Dev.bookkept_tsLost _ k q c).taper.trans hall
  · exact hall

@[simp] theorem Dev.park_taper (fid : Nat) (u : CellUse) : (d.park fid u).taper = d.taper := by
  unfold Dev.park
  split <;> rfl

theorem Dev.press_taper (p : Nat) : (d.press k p).taper = d.taper := (d.flagged_press k p).bookkept.taper

theorem Dev.poolUpdate_taper (p : Nat) : (d.poolUpdate k p).taper = d.taper := (d.flagged_poolUpdate k p).bookkept.taper

theorem Dev.poolsUpdate_taper : (d.poolsUpdate k).taper = d.taper := (d.flagged_poolsUpdate k).bookkept.taper

@[simp] theorem Dev.askWhole_taper (fid : Nat) : (d.askWhole k fid).2.taper = d.taper := by
  unfold Dev.askWhole
  split
  · rfl
  · dsimp only
    split
    · rfl
    split
    · refine (Dev.alike_event _ k (16 * 33 + 2) _ (by decide)).taper_eq.trans ?_
      show (if _ then d.setBit F.BM_STICKY 4 else d).taper = d.taper
      split <;> rfl
    split
    · split
      · exact d.press_taper k _
      · exact d.press_taper k _
    · rename_i d1 hgot
      have hgrants : d1.taper = d.taper := by
        refine List.foldlRecOn (motive := fun a : Option Dev => ∀ x, a = some x → x.taper = d.taper) _ _ ?_ (fun a ha _ _ x hx => ?_) d1 hgot
        · rintro x ⟨⟩
          rfl
        · split at hx
          · cases hx
          · split at hx
            · exact (Dev.grant_spec hx).1.taper.trans (ha _ rfl)
            · cases hx
      refine (Dev.poolUpdate_taper _ k _).trans ((Dev.alike_perf _ 33 0).taper_eq.trans ?_)
      exact (Dev.fillCells_spec _ fid).1.taper.trans hgrants

theorem Dev.injectAsk_taper (via : Nat) (seg : Bool) (m data : Bytes) : (d.injectAsk k via seg m data).2.2.2.taper = d.taper := by
  have hask := (d.setFrame d.newFrame (d.injectFrame k via seg m data).1).askWhole_taper k d.newFrame
  unfold Dev.injectAsk
  dsimp only
  split
  · rename_i h
    rw [h] at hask
    exact (Dev.offer_taper _ k _ _ _).trans hask
  · rename_i h
    rw [h] at hask
    exact (Dev.park_taper _ _ _).trans hask
  · rename_i h
    rw [h] at hask
    exact (Dev.bookkept_tsLost _ k _ _).taper.trans hask

end

end Sys2Proof.Machine
end

section
/-! Proofs: blocks received and sent (R456, R458, R459, R463). -/

namespace Sys2Proof.Machine
open Sys2Proof

/-! Blocks received. -/

theorem TapBlock.flags_read (b : TapBlock) (h : b.vc < 16) : b.flags % 16 = b.vc ∧ bit b.flags 4 = b.first ∧ bit b.flags 5 = b.last := by
  have hfirst : b.first = decide (b2n b.first = 1) := by cases b.first <;> rfl
  have hlast : b.last = decide (b2n b.last = 1) := by cases b.last <;> rfl
  have hbit : ∀ x : Bool, b2n x ≤ 1 := by decide
  have h1 := hbit b.first
  have h2 := hbit b.last
  refine ⟨?_, ?_, ?_⟩
  · unfold TapBlock.flags
    omega
  · conv_rhs => rw [hfirst]
    refine decide_eq_decide.mpr ?_
    unfold TapBlock.flags
    omega
  · conv_rhs => rw [hlast]
    refine decide_eq_decide.mpr ?_
    unfold TapBlock.flags
    omega

/-- A block as it travels is well formed (R455, R456). -/
structure TapBlock.sound (x : TapBlock) : Prop where
  some_ : x.body ≠ []
  size  : x.body.length ≤ 2048
  vc    : x.vc < 16
  type  : x.type < 256
  seq   : x.seq < 4096

section
variable {d : Dev} (k : Clock) {x : TapBlock} (hx : x.sound) (hs : d.get F.TAP_STATE = 5)
include hx hs

theorem Dev.gotBlock_sound : d.gotBlock k x.bytes false =
    if (x.seq + 4096 - d.taper.expected) % 4096 = 0 then
      ((d.onTap fun t => { t with expected := (t.expected + 1) % 4096, nakAt := none }).blockBody k x).tapSend (ackWord x.seq)
    else if (x.seq + 4096 - d.taper.expected) % 4096 < 2048 then d.tapNak k
    else d.tapSend (ackWord ((d.taper.expected + 4095) % 4096)) := by
  obtain ⟨hvc, hfirst, hlast⟩ := x.flags_read hx.vc
  have hlen := x.start_len (Nat.lt_of_le_of_lt hx.size (by decide))
  have hpos : 1 ≤ x.body.length := List.length_pos_of_ne_nil hx.some_
  have hcrc := x.bytes_crc
  rw [x.bytes_length] at hcrc
  simp only [Dev.gotBlock, Dev.tapState, hs, x.bytes_start, x.start_good, x.start_kind, hlen, x.bytes_body, x.bytes_length, hcrc,
    x.start_seq hx.seq, x.start_type hx.type, x.start_flags, hvc, hfirst, hlast]
  simp [tapUp, hpos, hx.size]

omit hx hs in
theorem blockStart_sound (hh : d.tapHears = true) : blockStart x.bytes false 0 0 k d = d.gotBlock k x.bytes false := by
  simp [blockStart, hh]

omit hx hs in
theorem Dev.tapHears_bare (hh : d.tapHears = true) : d.taper.eth = false := by
  simp only [Dev.tapHears, Bool.and_eq_true, Bool.not_eq_true'] at hh
  exact hh.1.2

theorem blockStart_next (hh : d.tapHears = true) (he : x.seq = d.taper.expected) (hfirst : x.first = true) (hlast : x.last = true)
    (hopen : tget? d.taper.open_ x.vc = none)
    (hgood : d.messageBad ⟨x.type, x.vc, x.body, blockCredits x.body.length, false⟩ true = false) :
    let b := blockStart x.bytes false 0 0 k d
    b.taper.expected = (x.seq + 1) % 4096 ∧
      b.taper.whole = d.taper.whole ++ [⟨x.type, x.vc, x.body, blockCredits x.body.length, false⟩] ∧
      b.out = d.out ++ [.taper (ackWord x.seq)] := by
  intro b
  let d1 := d.onTap fun t => { t with expected := (t.expected + 1) % 4096, nakAt := none }
  have hbody : d1.blockBody k x = (d1.setOpen x.vc none).onTap fun t => { t with
      whole := t.whole ++ [⟨x.type, x.vc, x.body, blockCredits x.body.length, false⟩] } := by
    have hopen1 : tget? d1.taper.open_ x.vc = none := hopen
    have hgood1 : d1.messageBad ⟨x.type, x.vc, x.body, blockCredits x.body.length, false⟩ true = false := hgood
    simp only [Dev.blockBody, hfirst, if_true, hopen1, Dev.extend, hlast, hgood1, Bool.false_eq_true, if_false]
  have hb : b = (d1.blockBody k x).tapSend (ackWord x.seq) := by
    have hzero : (x.seq + 4096 - d.taper.expected) % 4096 = 0 := by omega
    show blockStart x.bytes false 0 0 k d = _
    rw [blockStart_sound k hh, Dev.gotBlock_sound k hx hs, if_pos hzero]
  rw [hbody, Dev.tapSend_bare _ (by exact d.tapHears_bare hh)] at hb
  rw [hb]
  exact ⟨by rw [he]; rfl, rfl, rfl⟩

theorem blockStart_ahead (hh : d.tapHears = true) (hlo : 1 ≤ (x.seq + 4096 - d.taper.expected) % 4096)
    (hhi : (x.seq + 4096 - d.taper.expected) % 4096 < 2048) (hnak : d.taper.nakAt = none) :
    blockStart x.bytes false 0 0 k d = { d with
      out := d.out ++ [.taper (nakWord d.taper.expected)], taper := { d.taper with nakAt := some k.tick } } := by
  rw [blockStart_sound k hh, Dev.gotBlock_sound k hx hs, if_neg (by omega), if_pos hhi]
  simp only [Dev.tapNak, hnak, Bool.false_eq_true, if_false, Dev.tapSend_bare _ (d.tapHears_bare hh)]
  rfl

theorem blockStart_before (hh : d.tapHears = true) (h : 2048 ≤ (x.seq + 4096 - d.taper.expected) % 4096) :
    blockStart x.bytes false 0 0 k d = { d with out := d.out ++ [.taper (ackWord ((d.taper.expected + 4095) % 4096))] } := by
  rw [blockStart_sound k hh, Dev.gotBlock_sound k hx hs, if_neg (by omega), if_neg (Nat.not_lt.mpr h),
    Dev.tapSend_bare _ (d.tapHears_bare hh)]
  rfl

end

/-! Blocks sent. -/

/-- The next block of a message. -/
def TapMsg.next (m : TapMsg) (seq v : Nat) : TapBlock := ⟨seq, m.type, v, !m.begun, (m.bytes.drop 2048).isEmpty, m.bytes.take 2048⟩

section
variable {m : Mach} {v : Nat} (hs : m.dev.get F.TAP_STATE = 5) (hheld : m.dev.isHeld 40 = false)
  (hevents : m.dev.flag F.TAP_ESTREAM_EN = false) (hagain : m.dev.taper.again = []) (hroom : m.dev.taper.unacked.length < 2047)
  (hturn : m.dev.vcTurn = some v)
include hs hheld hevents hagain hroom hturn

theorem blockSend_turn : blockSend m = m.setDev (m.dev.sendBlock v) := by
  have hstream : eventMessage m = m := if_pos (by simp [hevents])
  have hgo : (m.dev.tapState != tapUp || m.dev.isHeld 40) = false := by simp [Dev.tapState, hs, hheld, tapUp]
  simp only [blockSend, hgo, Bool.false_eq_true, if_false, hstream, hagain, Nat.not_le.mpr hroom, hturn]

end

theorem Dev.sendBlock_shows {d : Dev} {v : Nat} {x : TapMsg} {rest : List TapMsg} (heth : d.taper.eth = false)
    (hmsgs : tgetD d.taper.msgs v [] = x :: rest) :
    let b := d.sendBlock v
    let y := x.next d.taper.seq v
    b.out = d.out ++ [.taper y.bytes] ∧ b.taper.unacked = d.taper.unacked ++ [y] ∧ b.taper.seq = (d.taper.seq + 1) % 4096 ∧
      tgetD b.taper.msgs v [] = if x.bytes.length ≤ 2048 then rest else { x with bytes := x.bytes.drop 2048, begun := true } :: rest := by
  intro b y
  let left := if (x.bytes.drop 2048).isEmpty then rest else { x with bytes := x.bytes.drop 2048, begun := true } :: rest
  let d1 := d.onTap fun t => { t with
    seq := (t.seq + 1) % 4096
    unacked := t.unacked ++ [y]
    consumed := tput t.consumed v 0 ((tgetD t.consumed v 0 + blockCredits (x.bytes.take 2048).length) % 65536)
    msgs := tput t.msgs v [] left
    turn := v }
  have hb : b = d1.tapSend y.bytes := by
    show d.sendBlock v = _
    simp only [Dev.sendBlock, hmsgs]
    rfl
  rw [Dev.tapSend_bare _ (by exact heth)] at hb
  rw [hb]
  refine ⟨rfl, rfl, rfl, ?_⟩
  have hleft : left = if x.bytes.length ≤ 2048 then rest else { x with bytes := x.bytes.drop 2048, begun := true } :: rest := by
    simp only [left, List.isEmpty_iff, List.drop_eq_nil_iff]
  rw [← hleft]
  exact tgetD_tput_self d.taper.msgs v [] left

end Sys2Proof.Machine
end

section
/-! Proofs: injects, table images, credits, the counter stream and Ethernet carriage (R461, R462, R467, R468, R470, R474). -/

namespace Sys2Proof.Machine
open Sys2Proof

/-! A byte string written reads back whole. -/

theorem mread_of_mget {m : Memory} {bs : Bytes} {a : Nat} (h : ∀ j < bs.length, mget m (a + j) = bs.getD j 0) :
    mread m a bs.length = bs := by
  induction bs generalizing a with
  | nil => rfl
  | cons b bs ih =>
    have hhead : mget m a = b := h 0 (Nat.succ_pos _)
    have hrest : mread m (a + 1) bs.length = bs := ih fun j hj => by
      have := h (j + 1) (Nat.succ_lt_succ hj)
      rwa [← Nat.add_assoc, Nat.add_right_comm] at this
    rw [List.length_cons, mread, hhead, hrest]

theorem mread_mwrite_self (m : Memory) (a : Nat) (bs : Bytes) : mread (mwrite m a bs) a bs.length = bs :=
  mread_of_mget fun j hj => mget_mwrite_inside bs m a j hj

/-! Credits. -/

section
variable {d : Dev}

theorem Dev.settleParked_nil (h : d.taper.parked = []) : d.settleParked = d := by
  have hset : d.onTap (fun t => { t with parked := [] }) = d := by
    show { d with taper := { d.taper with parked := [] } } = d
    rw [← h]
  simpa [Dev.settleParked, h, Dev.onTap] using hset

theorem Dev.sendCredits_bare (h : d.taper.eth = false) : d.sendCredits = { d with out := d.out ++
    [.taper (creditWord false ((List.range 8).map d.grantOf)), .taper (creditWord true ((List.range 8).map fun i => d.grantOf (8 + i)))] } := by
  rw [Dev.sendCredits, Dev.tapSend_bare _ h, Dev.tapSend_bare _ (by exact h)]
  simp [Dev.emit]

theorem creditSend_shows (k : Clock) (hs : d.get F.TAP_STATE = 5) (heth : d.taper.eth = false) (hp : d.taper.parked = []) :
    creditSend k d = { d with out := d.out ++ [.taper (creditWord false ((List.range 8).map d.grantOf)),
      .taper (creditWord true ((List.range 8).map fun i => d.grantOf (8 + i)))] } := by
  have hgo : creditSend k d = d.settleParked.sendCredits := if_pos hs
  rw [hgo, Dev.settleParked_nil hp, Dev.sendCredits_bare heth]

theorem Dev.giveBack_grantOf (d : Dev) (v n : Nat) : (d.giveBack v n).grantOf v = (d.grantOf v + n) % 65536 :=
  tgetD_tput_self d.taper.grants v 0 _

/-! Injects. -/

/-- What becomes of an inject whose turn it is: it waits for its cells, withholding its credits, or returns them. -/
theorem tapInject_next {type : Nat} {k : Clock} {o : TapOpen} (hp : d.taper.parked = []) (hn : d.nextWhole type = some o)
    (h33 : d.isHeld 33 = false) (h40 : d.isHeld 40 = false) :
    let a := (d.onTap fun t => { t with whole := t.whole.erase o }).injectAsk k 512 (type == 9) (o.bytes.take 32) (o.bytes.drop 32)
    let b := tapInject type k d
    b.taper.whole = d.taper.whole.erase o ∧ (a.1 ≠ .waits → b.grantOf o.vc = (d.grantOf o.vc + o.credits) % 65536) ∧
      (a.1 = .waits → b.taper.parked = [(a.2.2.1, o.vc, o.credits)]) := by
  intro a b
  have htaper : a.2.2.2.taper = { d.taper with whole := d.taper.whole.erase o } := Dev.injectAsk_taper _ k 512 _ _ _
  have hb : b = if a.1 = .waits then a.2.2.2.onTap (fun t => { t with parked := t.parked ++ [(a.2.2.1, o.vc, o.credits)] })
      else (a.2.2.2.giveBack o.vc o.credits).poolsUpdate k := by
    show tapInject type k d = _
    simp only [tapInject, Dev.settleParked_nil hp, hn, h33, h40, Bool.or_self, Bool.false_eq_true, if_false]
    split
    · rename_i hwait
      rw [if_pos hwait]
    · rename_i hgot
      rw [if_neg hgot]
  by_cases hw : a.1 = .waits
  · rw [hb, if_pos hw]
    refine ⟨congrArg Taper.whole htaper, fun h => absurd hw h, fun _ => ?_⟩
    simp [Dev.onTap, htaper, hp]
  · rw [hb, if_neg hw]
    have hpools := Dev.poolsUpdate_taper (a.2.2.2.giveBack o.vc o.credits) k
    refine ⟨?_, fun _ => ?_, fun h => absurd h hw⟩
    · rw [hpools]
      exact congrArg Taper.whole htaper
    · have hgrants : a.2.2.2.grantOf o.vc = d.grantOf o.vc := by rw [Dev.grantOf, htaper]; rfl
      rw [Dev.grantOf, hpools, ← hgrants]
      exact Dev.giveBack_grantOf _ _ _

/-! Table images. -/

theorem tableImage_next {m : Mach} {o : TapOpen} (h : m.dev.nextWhole 0x20 = some o) : tableImage false m = { m with
    dram := mwrite m.dram (regionBase regStaging + leAt o.bytes 0 8) (o.bytes.drop 16)
    dev := (m.dev.onTap fun t => { t with whole := t.whole.erase o }).giveBack o.vc o.credits } := by
  simp only [tableImage, h, Bool.false_eq_true, if_false]

/-! The counter stream. -/

theorem counterPass_message {k : Clock} {p : CPass} (hs : d.get F.TAP_STATE = 5) (hheld : d.isHeld 40 = false)
    (hpass : d.taper.pass = some p) (hint : d.get F.TAP_CSTREAM_INTERVAL = 0) :
    let b := counterPass k d
    let n := min 127 (p.stop - p.next)
    tgetD b.taper.msgs 8 [] = tgetD d.taper.msgs 8 [] ++ [⟨0x10, toLE p.next 4 ++ toLE n 2 ++ toLE (d.taper.passNo - 1) 2 ++
      toLE k.sec 4 ++ toLE k.ns 4 ++ ((List.range n).map fun i => (tgetD d.ctrs (p.next + i) Ctr.zero).bytes16).flatten, false⟩] ∧
    b.taper.pass = if p.next + n < p.stop then some ⟨p.next + n, p.stop⟩ else none := by
  intro b n
  have hbegin : d.passBegins k = d := if_pos (by simp [hint])
  have hb : b = d.passMessage k := by
    show counterPass k d = _
    rw [counterPass, if_neg (by simp [hheld, Dev.tapState, hs, tapUp]), hbegin]
  simp only [hb, Dev.passMessage, hpass]
  exact ⟨tgetD_tset_self _ _ _ _, rfl⟩

/-! Ethernet carriage. -/

/-- What stands before the units in a frame that the peer sends. -/
def Dev.peerHead (d : Dev) : Bytes :=
  d.tapMac F.TAP_ETH_LOCAL_MAC_HI F.TAP_ETH_LOCAL_MAC_LO ++ d.tapMac F.TAP_ETH_PEER_MAC_HI F.TAP_ETH_PEER_MAC_LO ++ toBE 0x88B5 2 ++ toBE 1 2

theorem Dev.tapMac_length (hi lo : Fld) : (d.tapMac hi lo).length = 6 := by simp [Dev.tapMac, addr6, toBE]

theorem Dev.peerHead_length : d.peerHead.length = 16 := by simp [Dev.peerHead, Dev.tapMac_length, toBE]

theorem beAt_append_toBE {a : Bytes} {o w : Nat} (n : Nat) (c : Bytes) (h : a.length = o) :
    beAt (a ++ (toBE n w ++ c)) o w = beNat (toBE n w) := by
  have hdrop : (a ++ (toBE n w ++ c)).drop o = toBE n w ++ c := by rw [← h, List.drop_left]
  have hslice : sliceZ (a ++ (toBE n w ++ c)) o w = sliceZ (toBE n w ++ c) 0 w := by rw [sliceZ, hdrop]; rfl
  rw [beAt, hslice, sliceZ_append_left (by simp [toBE])]

section
variable (k : Clock) {u : Bytes} (hu : u.length = 32)
include hu

/-- A whole frame of the peer's with one word is read as that word and its padding. -/
theorem ethFrame_word (heth : d.taper.eth = true) (hs : d.get F.TAP_STATE = 5) (hheld : d.isHeld 40 = false) :
    ethFrame (withFcs (padTo (d.peerHead ++ u) 60) false) k d = d.gotUnits k 64 (u ++ List.replicate 12 0) := by
  let pad : Bytes := List.replicate 12 0
  have hpad : padTo (d.peerHead ++ u) 60 = d.peerHead ++ (u ++ pad) := by
    simp [padTo, pad, hu, d.peerHead_length]
  have hplen : (d.peerHead ++ (u ++ pad)).length = 60 := by simp [pad, hu, d.peerHead_length]
  let f := withFcs (padTo (d.peerHead ++ u) 60) false
  have hf : f = d.peerHead ++ (u ++ pad) ++ toLE (fcs32 (d.peerHead ++ (u ++ pad))) 4 := by
    show withFcs (padTo (d.peerHead ++ u) 60) false = _
    rw [hpad]
    rfl
  have hlen : f.length = 64 := by rw [hf, List.length_append, hplen, toLE_length]
  have htake : f.take 60 = d.peerHead ++ (u ++ pad) := by rw [hf, take_append_self hplen]
  have hfcs : leAt f 60 4 = fcs32 (d.peerHead ++ (u ++ pad)) := by rw [hf, leAt_append_toLE hplen (fcs32_lt _)]
  have hto : f.take 6 = d.tapMac F.TAP_ETH_LOCAL_MAC_HI F.TAP_ETH_LOCAL_MAC_LO := by
    simp only [hf, Dev.peerHead, List.append_assoc]
    exact take_append_self (d.tapMac_length _ _)
  have htype : beAt f 12 2 = 0x88B5 := by
    simp only [hf, Dev.peerHead, List.append_assoc]
    rw [← List.append_assoc, beAt_append_toBE _ _ (by simp [Dev.tapMac_length])]
    decide
  have hversion : beAt f 14 2 = 1 := by
    simp only [hf, Dev.peerHead, List.append_assoc]
    rw [← List.append_assoc, ← List.append_assoc, beAt_append_toBE _ _ (by simp [Dev.tapMac_length, toBE])]
    decide
  have hunits : (d.peerHead ++ (u ++ pad)).drop 16 = u ++ pad := by rw [← d.peerHead_length, List.drop_left]
  show ethFrame f k d = d.gotUnits k 64 (u ++ pad)
  simp [ethFrame, heth, Dev.tapState, hs, tapConfig, hheld, hlen, htake, hfcs, hto, htype, hversion, hunits]

/-- A control word and less than a word after it: the word alone is received. -/
theorem Dev.gotUnits_word {n : Nat} {pad : Bytes} (hkind : byteAt u 0 ≠ 1) (hpad : pad.length < 32) :
    d.gotUnits k (n + 2) (u ++ pad) = d.gotWord k u := by
  have hpos : ¬ (u ++ pad).length < 32 := by simp [hu]
  have hfirst : byteAt (u ++ pad) 0 ≠ 1 := by rwa [byteAt_append_left _ (by omega)]
  have hrest : (u ++ pad).drop 32 = pad := by rw [← hu, List.drop_left]
  rw [Dev.gotUnits, if_neg hpos, if_neg hfirst, take_append_self hu, hrest, Dev.gotUnits, if_pos hpad]

end

theorem ethFrame_short {f : Bytes} (k : Clock) (heth : d.taper.eth = true) (hs : d.get F.TAP_STATE = 5) (hheld : d.isHeld 40 = false)
    (hf : f.length < 64) : ethFrame f k d = (d.count (cGlobal 73) f.length).setBit F.TAP_STICKY 7 := by
  simp [ethFrame, heth, Dev.tapState, hs, tapConfig, hheld, Nat.not_le.mpr hf]

end

/-- Settles O59: a block or a word as it travels reads back as what was sent, and its fields say which way it takes. -/
theorem taperTraffic : Obligations.TaperTraffic := by
  unfold Obligations.TaperTraffic
  intro s x m rest v o p seq f d k t whole gives hp h40 h33 hst
  refine ⟨fun hh hne hlen hvc htype hseq _ => ?_, fun heth hev hagain hroom hturn hmsgs => ?_, fun heth hparked => ?_,
    fun seg hparked hnext => ?_, fun hnext => ?_, fun hpass hint => ?_, fun heth => ⟨fun hseq hany => ?_, fun hshort => ?_⟩⟩
  · have hx : x.sound := ⟨hne, hlen, hvc, htype, hseq⟩
    exact ⟨fun he hfirst hlast hopen hgood => ends_onDev rfl hp (blockStart_next k hx hst hh he hfirst hlast hopen hgood),
      fun hlo hhi hnak => ends_onDev rfl hp (blockStart_ahead k hx hst hh hlo hhi hnak),
      fun hbefore => ends_onDev rfl hp (blockStart_before k hx hst hh hbefore)⟩
  · exact ends_onMach rfl hp (blockSend_turn hst h40 hev hagain hroom hturn) (Dev.sendBlock_shows heth hmsgs)
  · exact ends_onDev rfl hp (creditSend_shows k hst heth hparked)
  · cases seg with
    | false => exact ends_onDev (f := tapInject 8) rfl hp (tapInject_next hparked hnext h33 h40)
    | true => exact ends_onDev (f := tapInject 9) rfl hp (tapInject_next hparked hnext h33 h40)
  · refine ⟨_, onMach_run _ hp, ?_⟩
    rw [tableImage_next hnext]
    refine ⟨?_, rfl, Dev.giveBack_grantOf _ _ _⟩
    rw [← List.length_drop]
    exact mread_mwrite_self _ _ _
  · exact ends_onDev rfl hp (counterPass_message hst h40 hpass hint)
  · refine ends_onDev (f := ethFrame _) rfl hp ?_
    have hword := ethFrame_word k (ackWord_length seq) heth hst h40
    have hgot := Dev.gotWord_ack k (ackWord_good seq) (ackWord_kind seq) hst
    rw [Dev.gotUnits_word k (ackWord_length seq) (by rw [ackWord_kind]; decide) (by simp), hgot, ackWord_seq hseq] at hword
    exact (congrArg (fun b : Dev => b.taper.unacked) hword).trans (Dev.gotAck_frees hany).1
  · refine ends_onDev (f := ethFrame f) rfl hp ?_
    rw [ethFrame_short k heth hst h40 hshort]
    exact ⟨Dev.bit_setBit _ (by decide), rfl⟩

end Sys2Proof.Machine
end

section
/-! Proofs: fingerprint passes and the restart of the firmware (R496 to R498, R505). -/

namespace Sys2Proof.Machine
open Sys2Proof

/-! Fingerprint passes. -/

section
variable (d : Dev) (k : Clock)

/-- The judgement of a pass writes GEN_AHEAD, MATCH and the sticky bit of a change, and no other field. -/
theorem Dev.get_fpJudge {f : Fld} (hf : f.still = true) (hahead : f.key ≠ F.GL_GEN_AHEAD.key) (hmatch : f.key ≠ F.GL_MATCH.key)
    (hsticky : f.key ≠ F.GL_GLOBAL_STICKY.key) : (d.fpJudge k).get f = d.get f := by
  have hreport : ∀ (e : Dev) (c : Nat), ((e.setBit F.GL_GLOBAL_STICKY 1).event k 672 c).get f = e.get f := fun e c =>
    ((e.setBit F.GL_GLOBAL_STICKY 1).alike_event k 672 c (by decide)).get_eq f hf |>.trans (Dev.get_set_of_ne _ _ hsticky)
  unfold Dev.fpJudge
  dsimp only
  split
  · rfl
  · split
    · exact Dev.get_set_of_ne _ _ hahead
    · split
      · rw [hreport]
        exact (Dev.get_set_of_ne _ _ hmatch).trans (Dev.get_set_of_ne _ _ hahead)
      · exact (Dev.get_set_of_ne _ _ hmatch).trans (Dev.get_set_of_ne _ _ hahead)

variable {d} (hvalid : d.flag F.GL_REF_VALID = true)
include hvalid

theorem Dev.fpJudge_same (h : d.get F.GL_CONFIG_GEN = d.get F.GL_FP_REF_GEN) : (d.fpJudge k).get F.GL_GEN_AHEAD = 0 ∧
    (d.fpJudge k).get F.GL_MATCH =
      b2n (d.get64 F.GL_FP_RUNNING_LO F.GL_FP_RUNNING_HI == d.get64 F.GL_FP_REFERENCE_LO F.GL_FP_REFERENCE_HI) := by
  generalize hsame : (d.get64 F.GL_FP_RUNNING_LO F.GL_FP_RUNNING_HI == d.get64 F.GL_FP_REFERENCE_LO F.GL_FP_REFERENCE_HI) = same
  let d1 := (d.setB F.GL_GEN_AHEAD false).setB F.GL_MATCH same
  have hahead : d1.get F.GL_GEN_AHEAD = 0 := (Dev.get_set_of_ne _ _ (by decide)).trans (Dev.get_setB_false _ _)
  have hmatch : d1.get F.GL_MATCH = b2n same := (Dev.get_set_self _ _ _).trans (by cases same <;> rfl)
  have hreport : ∀ (e : Dev) (c : Nat) (f : Fld), f.still = true → f.key ≠ F.GL_GLOBAL_STICKY.key →
      ((e.setBit F.GL_GLOBAL_STICKY 1).event k 672 c).get f = e.get f := fun e c f hf hne =>
    ((e.setBit F.GL_GLOBAL_STICKY 1).alike_event k 672 c (by decide)).get_eq f hf |>.trans (Dev.get_set_of_ne _ _ hne)
  simp only [Dev.fpJudge, hvalid, h, hsame, Bool.not_true, Bool.false_eq_true, if_false, bne_self_eq_false]
  split
  · exact ⟨(hreport _ _ _ (by decide) (by decide)).trans hahead, (hreport _ _ _ (by decide) (by decide)).trans hmatch⟩
  · exact ⟨hahead, hmatch⟩

theorem Dev.fpJudge_ahead (h : d.get F.GL_CONFIG_GEN ≠ d.get F.GL_FP_REF_GEN) : (d.fpJudge k).get F.GL_GEN_AHEAD = 1 ∧
    (d.fpJudge k).get F.GL_MATCH = d.get F.GL_MATCH := by
  have hb : d.fpJudge k = d.setB F.GL_GEN_AHEAD true := by
    simp only [Dev.fpJudge, hvalid, Bool.not_true, Bool.false_eq_true, if_false, bne_iff_ne, ne_eq, h, not_false_eq_true, if_true]
  rw [hb]
  exact ⟨Dev.get_set_self _ _ _, Dev.get_set_of_ne _ _ (by decide)⟩

end

/-- What a pass writes before it is judged. -/
def Dev.fpWrites (d : Dev) (crc : Nat) : List (Fld × Nat) :=
  [(F.GL_FP_RUNNING_LO, crc), (F.GL_FP_RUNNING_HI, crc / 2 ^ 32), (F.GL_FP_COPY, d.get F.GL_FP_PASSES),
    (F.GL_FP_PASSES, d.get F.GL_FP_PASSES + 1), (F.GL_STALE, 0)]

theorem fpPass_off {d : Dev} (read : Option Bytes) (k : Clock) (h : d.flag F.GL_FP_EN = false) : fpPass read k d = d := if_pos (by simp [h])

theorem fpPass_eq {d : Dev} (read : Option Bytes) (k : Clock) (hen : d.flag F.GL_FP_EN = true) (hheld : d.isHeld 42 = false) :
    fpPass read k d = (d.setAll (d.fpWrites (crc64 (d.fpStream read)))).fpJudge k := by
  have hpasses : ∀ v w x : Nat, (((d.set F.GL_FP_RUNNING_LO v).set F.GL_FP_RUNNING_HI w).set F.GL_FP_COPY x).get F.GL_FP_PASSES =
      d.get F.GL_FP_PASSES := fun v w x =>
    (Dev.get_set_of_ne _ _ (by decide)).trans ((Dev.get_set_of_ne _ _ (by decide)).trans (Dev.get_set_of_ne _ _ (by decide)))
  rw [fpPass, if_neg (by simp [hen, hheld])]
  simp only [Dev.inc, Dev.set64, hpasses]
  rfl

/-- A pass that publishes a value. -/
theorem Dev.fpPublished_shows (d : Dev) (k : Clock) (n : Nat) :
    let b := (d.setAll (d.fpWrites n)).fpJudge k
    let crc := n % 2 ^ 64
    b.get64 F.GL_FP_RUNNING_LO F.GL_FP_RUNNING_HI = crc ∧ b.get F.GL_FP_PASSES = (d.get F.GL_FP_PASSES + 1) % 2 ^ 32 ∧
      b.get F.GL_STALE = 0 ∧ b.get F.GL_FP_COPY = d.get F.GL_FP_PASSES % 256 ∧
      (d.flag F.GL_REF_VALID = true → d.get F.GL_CONFIG_GEN = d.get F.GL_FP_REF_GEN → b.get F.GL_GEN_AHEAD = 0 ∧
        b.get F.GL_MATCH = b2n (crc == d.get64 F.GL_FP_REFERENCE_LO F.GL_FP_REFERENCE_HI)) ∧
      (d.flag F.GL_REF_VALID = true → d.get F.GL_CONFIG_GEN ≠ d.get F.GL_FP_REF_GEN → b.get F.GL_GEN_AHEAD = 1 ∧
        b.get F.GL_MATCH = d.get F.GL_MATCH) := by
  intro b crc
  let e := d.setAll (d.fpWrites n)
  obtain ⟨-, hget, hkeep⟩ := Dev.sets_setAll (d.fpWrites n) d (by simp only [Dev.fpWrites, List.map]; decide)
  have hb : b = e.fpJudge k := rfl
  have hstays : ∀ f : Fld, (∀ g ∈ [F.GL_FP_RUNNING_LO, F.GL_FP_RUNNING_HI, F.GL_FP_COPY, F.GL_FP_PASSES, F.GL_STALE], f.key ≠ g.key) →
      e.get f = d.get f := fun f hf => hkeep f fun p hp => hf p.1 (List.mem_map_of_mem (f := Prod.fst) hp)
  have hrunning : e.get64 F.GL_FP_RUNNING_LO F.GL_FP_RUNNING_HI = crc := by
    have hlo := hget (F.GL_FP_RUNNING_LO, n) (by simp [Dev.fpWrites])
    have hhi := hget (F.GL_FP_RUNNING_HI, n / 2 ^ 32) (by simp [Dev.fpWrites])
    rw [Dev.get64, hlo, hhi]
    show n % 2 ^ 32 + 2 ^ 32 * (n / 2 ^ 32 % 2 ^ 32) = n % 2 ^ 64
    omega
  have hreference : e.get64 F.GL_FP_REFERENCE_LO F.GL_FP_REFERENCE_HI = d.get64 F.GL_FP_REFERENCE_LO F.GL_FP_REFERENCE_HI := by
    rw [Dev.get64, hstays _ (by decide), hstays _ (by decide)]
    rfl
  have hjudged : ∀ f : Fld, f.still = true → f.key ≠ F.GL_GEN_AHEAD.key → f.key ≠ F.GL_MATCH.key → f.key ≠ F.GL_GLOBAL_STICKY.key →
      b.get f = e.get f := fun f hf h1 h2 h3 => by rw [hb, e.get_fpJudge k hf h1 h2 h3]
  have hvalid : d.flag F.GL_REF_VALID = true → e.flag F.GL_REF_VALID = true := fun h => by
    rw [Dev.flag, hstays _ (by decide)]
    exact h
  have hgen : e.get F.GL_CONFIG_GEN = d.get F.GL_CONFIG_GEN := hstays _ (by decide)
  have href : e.get F.GL_FP_REF_GEN = d.get F.GL_FP_REF_GEN := hstays _ (by decide)
  refine ⟨?_, ?_, ?_, ?_, fun h hsame => ?_, fun h hdiff => ?_⟩
  · rw [Dev.get64, hjudged _ (by decide) (by decide) (by decide) (by decide), hjudged _ (by decide) (by decide) (by decide) (by decide)]
    exact hrunning
  · rw [hjudged _ (by decide) (by decide) (by decide) (by decide)]
    exact hget (F.GL_FP_PASSES, d.get F.GL_FP_PASSES + 1) (by simp [Dev.fpWrites])
  · rw [hjudged _ (by decide) (by decide) (by decide) (by decide)]
    exact hget (F.GL_STALE, 0) (by simp [Dev.fpWrites])
  · rw [hjudged _ (by decide) (by decide) (by decide) (by decide)]
    exact hget (F.GL_FP_COPY, d.get F.GL_FP_PASSES) (by simp [Dev.fpWrites])
  · rw [hb, ← hrunning, ← hreference]
    exact Dev.fpJudge_same k (hvalid h) (by rw [hgen, href, hsame])
  · rw [hb, ← hstays F.GL_MATCH (by decide)]
    exact Dev.fpJudge_ahead k (hvalid h) (by rwa [hgen, href])

theorem fpStale_shows (d : Dev) (k : Clock) (c : Nat) : let b := ((d.setB F.GL_STALE true).setBit F.GL_GLOBAL_STICKY 3).event k 675 c
    b.get F.GL_STALE = 1 ∧ bit (b.get F.GL_GLOBAL_STICKY) 3 = true ∧ d.alikeBut [F.GL_STALE, F.GL_GLOBAL_STICKY] b := by
  intro b
  obtain ⟨hget, hrest⟩ := d.setAll_event_shows k (fs := [F.GL_STALE, F.GL_GLOBAL_STICKY])
    (l := [(F.GL_STALE, 1), (F.GL_GLOBAL_STICKY, (d.setB F.GL_STALE true).get F.GL_GLOBAL_STICKY ||| 2 ^ 3)]) (n := 675) c rfl
    (by decide) (by decide) (by decide)
  exact ⟨hget (F.GL_STALE, 1) (List.mem_cons_self ..), Dev.bit_setBit_event _ k c (by decide) (by decide) (by decide), hrest⟩

theorem fpPass_shows {d : Dev} (read : Option Bytes) (k : Clock) (hen : d.flag F.GL_FP_EN = true) (hheld : d.isHeld 42 = false) :
    let b := fpPass read k d
    let crc := crc64 (d.fpStream read) % 2 ^ 64
    b.get64 F.GL_FP_RUNNING_LO F.GL_FP_RUNNING_HI = crc ∧ b.get F.GL_FP_PASSES = (d.get F.GL_FP_PASSES + 1) % 2 ^ 32 ∧
      b.get F.GL_STALE = 0 ∧ b.get F.GL_FP_COPY = d.get F.GL_FP_PASSES % 256 ∧
      (d.flag F.GL_REF_VALID = true → d.get F.GL_CONFIG_GEN = d.get F.GL_FP_REF_GEN → b.get F.GL_GEN_AHEAD = 0 ∧
        b.get F.GL_MATCH = b2n (crc == d.get64 F.GL_FP_REFERENCE_LO F.GL_FP_REFERENCE_HI)) ∧
      (d.flag F.GL_REF_VALID = true → d.get F.GL_CONFIG_GEN ≠ d.get F.GL_FP_REF_GEN → b.get F.GL_GEN_AHEAD = 1 ∧
        b.get F.GL_MATCH = d.get F.GL_MATCH) := by
  rw [fpPass_eq read k hen hheld]
  exact d.fpPublished_shows k _

/-! The firmware restarts. -/

/-- A begun command of the firmware's is answered, and its effect goes on. -/
def Dev.answerBegun (d : Dev) (k : Clock) (w : Wait) : Dev :=
  { d with smi := { d.smi with waits := d.smi.waits.map fun x : Wait => if x == w then { x with answered := true } else x } }.complete
    k w.op w.req w.cq w.noReply ⟨stIntegrity, 0, 0⟩

theorem Dev.repliesTo_answerBegun (d : Dev) (k : Clock) (w : Wait) : d.repliesTo (d.answerBegun k w) :=
  (d.repliesTo_smi _).trans (Dev.repliesTo_complete _ _ _ _ _ _ _)

theorem Dev.answerBegun_waits (d : Dev) (k : Clock) (w : Wait) :
    (d.answerBegun k w).smi.waits = d.smi.waits.map fun x : Wait => if x == w then { x with answered := true } else x :=
  Dev.complete_waits _ _ _ _ _ _ _

theorem Dev.repliesTo_answerAll (d : Dev) (k : Clock) (ws : List Wait) : d.repliesTo (ws.foldl (fun d w => d.answerBegun k w) d) :=
  List.foldlRecOn (motive := fun b => d.repliesTo b) _ _ d.repliesTo_refl fun _ hb w _ => hb.trans (Dev.repliesTo_answerBegun _ k w)

/-- Once each begun command has been answered, none is left. -/
theorem Dev.answerAll_answered {d : Dev} (k : Clock) {ws : List Wait}
    (h : ∀ w ∈ d.smi.waits, w.hw = false → w.answered = true ∨ w ∈ ws) :
    ∀ w ∈ (ws.foldl (fun d w => d.answerBegun k w) d).smi.waits, w.hw = false → w.answered = true := by
  induction ws generalizing d with
  | nil => exact fun w hw hfw => (h w hw hfw).resolve_right List.not_mem_nil
  | cons v ws ih =>
    refine ih fun w hw hfw => ?_
    rw [Dev.answerBegun_waits] at hw
    obtain ⟨x, hx, rfl⟩ := List.mem_map.mp hw
    by_cases he : x = v
    · simp [he]
    · simp only [beq_iff_eq, he, if_false] at hfw ⊢
      exact (h x hx hfw).imp id fun hmem => (List.mem_cons.mp hmem).resolve_left he

theorem fwRestart_off {d : Dev} (error : Option (Fin 2 × Fin 32768)) (k : Clock) (h : d.flag F.SM_FW_READY = false) :
    fwRestart error k d = d := if_pos (by simp [h])

theorem fwRestart_shows {d : Dev} (k : Clock) (h : d.flag F.SM_FW_READY = true) : let b := fwRestart none k d
    b.flag F.SM_FW_READY = false ∧ b.sconce.restarting = true ∧ ∀ w ∈ b.smi.waits, w.hw = false → w.answered = true := by
  intro b
  let d1 : Dev := { d.setB F.SM_FW_READY false with
    sconce := { d.sconce with restarting := true }
    smi := { d.smi with fetched := d.smi.fetched.map fun e : Fetched => if e.hw then e else { e with kept := true } } }
  have hb : b = (d1.smi.waits.filter fun w => !w.hw && !w.answered).foldl (fun d w => d.answerBegun k w) d1 := if_neg (by simp [h])
  obtain ⟨heq, hget⟩ := d1.repliesTo_answerAll k (d1.smi.waits.filter fun w => !w.hw && !w.answered)
  rw [← hb] at heq hget
  have hready : b.get F.SM_FW_READY = 0 := (hget _ (by decide)).trans (Dev.get_setB_false d F.SM_FW_READY)
  refine ⟨by simp [Dev.flag, hready], (congrArg (fun e : Dev => e.sconce.restarting) heq).trans rfl, ?_⟩
  rw [hb]
  refine Dev.answerAll_answered k fun w hw hfw => ?_
  cases ha : w.answered with
  | true => exact .inl rfl
  | false => exact .inr (List.mem_filter.mpr ⟨hw, by simp [hfw, ha]⟩)

theorem fwReadyAgain_off {d : Dev} (k : Clock) (h : d.sconce.restarting = false) : fwReadyAgain k d = d := if_pos (by simp [h])

theorem Dev.fwReady_shows (d : Dev) (k : Clock) : (d.fwReady k).flag F.SM_FW_READY = true ∧
    d.alikeBut [F.SM_FW_READY] (d.fwReady k) := by
  obtain ⟨hget, hrest⟩ := d.setAll_event_shows k (fs := [F.SM_FW_READY]) (l := [(F.SM_FW_READY, 1)]) (n := 581) (flc 36 0 0) rfl
    (by decide) (by decide) (by decide)
  have hready : (d.fwReady k).get F.SM_FW_READY = 1 := hget (F.SM_FW_READY, 1) (List.mem_cons_self ..)
  exact ⟨by simp [Dev.flag, hready], hrest⟩

theorem fwReadyAgain_shows {d : Dev} (k : Clock) (h : d.sconce.restarting = true) : let b := fwReadyAgain k d
    b.flag F.SM_FW_READY = true ∧ b.sconce.restarting = false ∧
      b.get F.SC_FW_RESTARTS = satInc (2 ^ (F.SC_FW_RESTARTS).w - 1) (d.get F.SC_FW_RESTARTS) ∧
      bit (b.get F.SC_SCONCE_STICKY) 4 = true := by
  intro b
  let d1 : Dev := { d with sconce := { d.sconce with restarting := false } }
  let d2 := (d1.satInc F.SC_FW_RESTARTS).setBit F.SC_SCONCE_STICKY 4
  have hb : b = (d2.eventOf k 36 4 0).fwReady k := if_neg (by simp [h])
  have hreport : d2.alike (d2.eventOf k 36 4 0) := Dev.alike_eventOf _ _ _ _ _ (by decide)
  obtain ⟨hready, heq, hkeep⟩ := (d2.eventOf k 36 4 0).fwReady_shows k
  rw [← hb] at hready heq hkeep
  refine ⟨hready, ?_, ?_, ?_⟩
  · exact (congrArg (fun e : Dev => e.sconce.restarting) heq).trans (congrArg Sconce.restarting hreport.sconce_eq)
  · rw [hkeep _ (by decide) (by decide), hreport.get_eq _ (by decide)]
    refine (Dev.get_set_of_ne _ _ (by decide)).trans ((Dev.get_set_self _ _ _).trans (Nat.mod_eq_of_lt ?_))
    have hlt := d1.get_lt F.SC_FW_RESTARTS
    unfold satInc
    split
    · exact Nat.add_lt_of_lt_sub ‹_›
    · exact hlt
  · rw [hkeep _ (by decide) (by decide), hreport.get_eq _ (by decide)]
    exact Dev.bit_setBit _ (by decide)

end Sys2Proof.Machine
end

section
/-! Proofs: scratchpad banks, the event store and the package's ports (R508, R512, R513, R518, R551, R564). -/

namespace Sys2Proof.Machine
open Sys2Proof

/-! A bank is cleared. -/

theorem Dev.finishAll_waits_foldl (d : Dev) (k : Clock) (rep : Rep) (ws : List Wait) :
    (ws.foldl (fun d w => d.finish k w rep) d).smi.waits = d.smi.waits.diff ws := by
  induction ws generalizing d with
  | nil => rfl
  | cons w ws ih => rw [List.foldl_cons, ih, Dev.finish_waits, List.diff_cons]

/-- No command whose kind satisfies the test waits on. -/
theorem Dev.finishAll_none (d : Dev) (k : Clock) (sel : WaitKind → Bool) (rep : Rep) :
    ∀ w ∈ (d.finishAll k sel rep).smi.waits, sel w.kind = false := by
  intro w hw
  rw [Dev.finishAll, Dev.finishAll_waits_foldl] at hw
  by_contra hsel
  have hcount : (d.smi.waits.filter fun w => sel w.kind).count w = d.smi.waits.count w :=
    List.count_filter (by simpa using hsel)
  have hzero : (d.smi.waits.diff (d.smi.waits.filter fun w => sel w.kind)).count w = 0 := by
    rw [List.count_diff, hcount, Nat.sub_self]
  exact List.count_eq_zero.mp hzero hw

theorem quiet_owner {b : Nat} (h : b < 64) : (F.SC_OWNER b).quiet = true := by
  have hall : ∀ i : Fin 64, (F.SC_OWNER i).quiet = true := by decide
  exact hall ⟨b, h⟩

theorem bankCleared_off {d : Dev} {b : Nat} (k : Clock) (h : d.smi.waits.any (fun w => w.kind == .bankClear b) = false) :
    bankCleared b k d = d := if_neg (by simp [h])

theorem bankCleared_shows {d : Dev} {b : Nat} (k : Clock) (h : d.smi.waits.any (fun w => w.kind == .bankClear b) = true) (hb : b < 64) :
    let e := bankCleared b k d
    e.get (F.SC_OWNER b) = 2 ∧ (∀ w ∈ e.smi.waits, w.kind ≠ .bankClear b) ∧
      ∀ i, b * 32768 ≤ i → i < (b + 1) * 32768 → tget? e.sconce.scratch i = none := by
  intro e
  let d1 := (d.bankContents b).set (F.SC_OWNER b) ownerDma
  have he : e = d1.finishAll k (· == .bankClear b) Rep.ok := if_pos h
  obtain ⟨heq, hget⟩ := d1.repliesTo_finishAll k (· == .bankClear b) Rep.ok
  rw [← he] at heq hget
  refine ⟨(hget _ (quiet_owner hb)).trans (Dev.get_set_self _ _ _), fun w hw => ?_, fun i hlo hhi => ?_⟩
  · rw [he] at hw
    simpa using Dev.finishAll_none _ _ _ _ w hw
  · have hscratch : e.sconce.scratch = tclear d.sconce.scratch (b * 32768) ((b + 1) * 32768) :=
      (congrArg (fun e : Dev => e.sconce.scratch) heq).trans rfl
    rw [hscratch, tget?_tclear, if_pos ⟨hlo, hhi⟩]

/-! The test walks a bank. -/

section
variable {d : Dev} (bad : Option (Fin 72)) (k : Clock) {t : TestPass}

theorem testWord_none (h : d.sconce.test = none) : testWord bad k d = d := by simp only [testWord, h]

/-- The test's next word. -/
def TestPass.next (t : TestPass) (bad : Option (Fin 72)) : TestPass := { t with word := t.word + 1, faulty := t.faulty + b2n bad.isSome }

/-- A failing bit is reported; then the walk goes on, or ends. -/
theorem testWord_step (h : d.sconce.test = some t) : ∃ e, d.alikeBut [F.SC_SCONCE_STICKY] e ∧
    (bad.isSome = true → bit (e.get F.SC_SCONCE_STICKY) 3 = true) ∧
    testWord bad k d = if t.word + 1 = 32768 then e.testEnd k (t.next bad) else { e with sconce := { e.sconce with test := some (t.next bad) } } := by
  cases bad with
  | none => exact ⟨d, ⟨rfl, fun _ _ _ => rfl⟩, fun h => (nomatch h), by simp only [testWord, h]; rfl⟩
  | some b =>
    refine ⟨(d.setBit F.SC_SCONCE_STICKY 3).event k 579 (flcScratch t.bank t.word b), ?_, fun _ => ?_, by simp only [testWord, h]; rfl⟩
    · exact (d.setAll_event_shows k (fs := [F.SC_SCONCE_STICKY]) (l := [(F.SC_SCONCE_STICKY, d.get F.SC_SCONCE_STICKY ||| 2 ^ 3)]) _ rfl
        (by decide) (by decide) (by decide)).2
    · exact Dev.bit_setBit_event _ k _ (by decide) (by decide) (by decide)

theorem testWord_walks (h : d.sconce.test = some t) (hword : t.word ≠ 32767) : let b := testWord bad k d
    b.sconce.test = some (t.next bad) ∧ (bad.isSome = true → bit (b.get F.SC_SCONCE_STICKY) 3 = true) := by
  intro b
  obtain ⟨e, -, hbit, hstep⟩ := testWord_step bad k h
  have hb : b = { e with sconce := { e.sconce with test := some (t.next bad) } } := hstep.trans (if_neg (by omega))
  rw [hb]
  exact ⟨rfl, hbit⟩

theorem Dev.testEnd_shows (t : TestPass) (ht : t.bank < 64) (hwait : d.sconce.waiting = false) : let b := d.testEnd k t
    b.sconce.test = none ∧ b.get (F.SC_OWNER t.bank) = d.get (F.SC_LENT_FROM t.bank) ∧ b.get (F.SC_LENT_FROM t.bank) = 0 := by
  intro b
  let d1 := (d.set (F.SC_OWNER t.bank) (d.get (F.SC_LENT_FROM t.bank))).set (F.SC_LENT_FROM t.bank) 0
  let d2 := { d1 with sconce := { d1.sconce with test := none } }
  let d3 := if t.byCmd then d2.finishAll k (· == .bankTest t.bank) ⟨stOk, t.faulty, 0⟩ else d2
  have hreply : d2.repliesTo d3 := by
    simp only [d3]
    split
    · exact d2.repliesTo_finishAll k _ _
    · exact d2.repliesTo_refl
  obtain ⟨heq, hget⟩ := hreply
  have hsconce : d3.sconce = { d.sconce with test := none } := (congrArg Dev.sconce heq).trans rfl
  have hb : b = d3 := if_neg (by
    show ¬ d3.sconce.waiting = true
    simp [hsconce, hwait])
  have hlent : (F.SC_LENT_FROM t.bank).quiet = true := quiet_owner ht
  obtain ⟨-, hset, -⟩ := Dev.sets_setAll [(F.SC_OWNER t.bank, d.get (F.SC_LENT_FROM t.bank)), (F.SC_LENT_FROM t.bank, 0)] d
    (by simp [Fld.key, F.SC_OWNER, F.SC_LENT_FROM])
  have howner : d2.get (F.SC_OWNER t.bank) = d.get (F.SC_LENT_FROM t.bank) % 2 ^ (F.SC_LENT_FROM t.bank).w :=
    hset (F.SC_OWNER t.bank, d.get (F.SC_LENT_FROM t.bank)) (by simp)
  have hzero : d2.get (F.SC_LENT_FROM t.bank) = 0 := hset (F.SC_LENT_FROM t.bank, 0) (by simp)
  rw [hb]
  exact ⟨by rw [hsconce], (hget _ (quiet_owner ht)).trans (howner.trans (Nat.mod_eq_of_lt (d.get_lt _))), (hget _ hlent).trans hzero⟩

theorem testWord_ends (h : d.sconce.test = some t) (hword : t.word = 32767) (ht : t.bank < 64) (hwait : d.sconce.waiting = false) :
    let b := testWord bad k d
    b.sconce.test = none ∧ b.get (F.SC_OWNER t.bank) = d.get (F.SC_LENT_FROM t.bank) ∧ b.get (F.SC_LENT_FROM t.bank) = 0 := by
  intro b
  obtain ⟨e, ⟨heq, hkeep⟩, -, hstep⟩ := testWord_step bad k h
  have hb : b = e.testEnd k (t.next bad) := hstep.trans (if_pos (by rw [hword]))
  have hlent : e.get (F.SC_LENT_FROM t.bank) = d.get (F.SC_LENT_FROM t.bank) := by
    refine hkeep _ ?_ ?_
    · have hquiet : (F.SC_LENT_FROM t.bank).quiet = true := quiet_owner ht
      exact (Bool.and_eq_true_iff.mp hquiet).1
    · simp [Fld.key, F.SC_LENT_FROM, F.SC_SCONCE_STICKY]
      omega
  have hends := Dev.testEnd_shows (d := e) k (t.next bad) ht (by rw [heq]; exact hwait)
  rw [hb, ← hlent]
  exact hends

end

/-! The event store. -/

section
variable {m : Mach}

theorem eventStoreCopy_none (h : m.dev.nextSeq ≤ m.dev.lamp.copied) : eventStoreCopy m = m := if_pos (by simp [h])

theorem eventStoreCopy_takes {r : LampRec} (hgo : m.dev.flag F.HBM_ALLOC_DONE = true) (hn : m.dev.lamp.copied < m.dev.nextSeq)
    (hr : tget? m.dev.lamp.ring m.dev.lamp.copied = some r) : eventStoreCopy m = { m with
      dev := { m.dev with lamp := { m.dev.lamp with copied := m.dev.lamp.copied + 1 } }
      dram := mwrite m.dram (regionBase regEvents + m.dev.lamp.copied % 33554432 * 32) r.bytes } := by
  have hskip : (!m.dev.flag F.HBM_ALLOC_DONE || decide (m.dev.nextSeq ≤ m.dev.lamp.copied)) = false := by simp [hgo, hn]
  simp only [eventStoreCopy, hskip, Bool.false_eq_true, if_false, hr]

end

/-! The package's ports. -/

section
variable {d : Dev} (k : Clock) (hheld : d.isHeld 43 = false)

theorem smbus_badPec (wr : Bool) (off v : Nat) : smbus wr off v false k d = d := rfl

include hheld

theorem smbus_write (off v : Nat) : smbus true off v true k d = d.barWrite k off v := by simp [smbus, hheld]

theorem smbus_read (off v : Nat) : smbus false off v true k d = readBar .smbus off k d := by simp [smbus, hheld]

theorem jtagInstruction_shows (op : JtagOp) (scanIn : Nat) : let b := jtagInstruction op scanIn k d
    b.boot.jtag.inst = op ∧ (∃ x, b.out = d.out ++ [.scan x]) ∧
      b = { d with boot := { d.boot with jtag := b.boot.jtag }, out := b.out, free := b.free } ∧
      b.boot.jtag.cells = if op = .preload ∨ op = .extest then scanIn % 2 ^ 29 else d.boot.jtag.cells := by
  cases op <;> simp only [jtagInstruction, hheld, Bool.false_eq_true, if_false] <;> exact ⟨rfl, ⟨_, rfl⟩, rfl, rfl⟩

theorem jtagInstruction_idcode (scanIn : Nat) : (jtagInstruction .idcode scanIn k d).out = d.out ++ [.scan 0x1910274B] := by
  simp only [jtagInstruction, hheld, Bool.false_eq_true, if_false]
  rfl

end

/-- Settles O60: each unit by the branch its state selects. -/
theorem sconceAndPackage : Obligations.SconceAndPackage := by
  refine ⟨fun s bank bad t r i => ?_, fun s off scanIn v wr => ?_⟩
  · intro d crc t1 hp
    refine ⟨fun hen hheld => ends_onDev rfl hp (fpPass_shows none _ hen hheld), fun hen => ends_onDev rfl hp (fpPass_off none _ hen),
      ends_onDev rfl hp (fpStale_shows d _ _), fun h => ends_onDev rfl hp (fwRestart_shows _ h),
      fun h => ends_onDev rfl hp (fwRestart_off none _ h), fun h => ends_onDev rfl hp (fwReadyAgain_shows _ h),
      fun h => ends_onDev rfl hp (fwReadyAgain_off _ h), fun h => ?_, fun h => ends_onDev rfl hp (bankCleared_off _ h),
      fun h hword => ends_onDev rfl hp (testWord_walks bad _ h hword),
      fun h hword hbank hwait => ends_onDev rfl hp (testWord_ends bad _ h hword hbank hwait),
      fun h => ends_onDev rfl hp (testWord_none bad _ h), fun hgo hn hr => ?_, fun h => ?_⟩
    · obtain ⟨howner, hwaits, hscratch⟩ := bankCleared_shows s.m.clk h bank.isLt
      exact ends_onDev rfl hp ⟨howner, hwaits, hscratch i⟩
    · refine ⟨_, onMach_run _ hp, ?_⟩
      rw [eventStoreCopy_takes hgo hn hr]
      exact ⟨rfl, mread_mwrite_self _ _ _⟩
    · exact ⟨_, onMach_run _ hp, eventStoreCopy_none h⟩
  · intro d hp hheld
    have hnext : ∀ {b c : Dev}, b = c → Host.Outcome.next { s with m := s.m.setDev b } = (.next { s with m := s.m.setDev c } :
        Host.Outcome State Fault Refusal) := fun h => by rw [h]
    exact ⟨⟨_, (onDev_run _ hp).trans (hnext (smbus_write _ hheld off v.toNat)), onDev_run _ hp⟩,
      ⟨_, (onDev_run _ hp).trans (hnext (smbus_read _ hheld off v.toNat)), onDev_run _ hp⟩, ends_onDev rfl hp (smbus_badPec _ wr off v.toNat),
      fun op => ends_onDev rfl hp (jtagInstruction_shows _ hheld op scanIn), ends_onDev rfl hp (jtagInstruction_idcode _ hheld scanIn)⟩

end Sys2Proof.Machine
end
